-- ==== Sys2Proof/Word.lean ====
section
/-!
DEFINITION. The word types of the block: a register word of 32 bits (R7) and a byte.
-/
namespace Sys2Proof

/-- One register word (R7). -/
abbrev Word := BitVec 32
/-- One byte of memory or of a frame. -/
abbrev Byte := BitVec 8

end Sys2Proof
end

