-- ==== Sys2Proof/Syntax.lean ====
section
/-!
DEFINITION. The commands the block takes: one constructor per row of spec/opcode_table.json, in the table's order, with
the operands the rule of the row gives it. An operand is what the outside world hands over with the command: a value
written, a frame received, an edge's measured instant.
-/
namespace Sys2Proof

/-- The three write paths of R27. -/
inductive Path where
  | mgt | twv | spi
  deriving DecidableEq, Repr

/-- What one keeper gives at a vote (R49, R50): the TCLK cycles it ran up to its marker, and the arrival of that marker
at the comparator in units of 2^-12 ns against the comparator's epoch; none where no marker came. -/
structure Marker where
  cycles : Nat
  arrival : Option Int
  deriving DecidableEq, Repr

/-- Consecutive reference cycles of a loop as its phase detector saw them (R162, R163): their number, the largest and the
smallest magnitude of the error over them, and the last error, in ps. -/
structure PhaseRun where
  cycles : Nat
  most : Nat
  least : Nat
  last : Int
  deriving DecidableEq, Repr

/-- A completed packet-reference exchange (R101, R267): the instance's four stamps and two corrections in units of
2^-16 ns, the identities, the upstream EB8 and TRACE_SEQ where its TLV matches, and the STEP counts of its two local stamps, t2
and t3 (R231). -/
structure Exchange where
  t1 : Int
  t2 : Int
  t3 : Int
  t4 : Int
  corrSync : Int
  corrDelay : Int
  grandmaster : Nat
  sourcePort : Nat
  eb8 : Option (Fin 256)
  traceSeq : Nat
  at_ : Nat
  step2 : Fin 16
  step3 : Fin 16
  deriving DecidableEq, Repr

/-- What the physical layer hands over with a received frame: the instant its grid unit passed the SerDes boundary (2^-16
ns, R227), the start block's position in the unit (R225), the physical lane that carries FEC lane 0, the realign steps applied
since its SFD (R231), and the codewords corrected, the codewords not correctable with the lane of the first, and the errored
blocks since the last frame. -/
structure RxMeta where
  serdes : Nat
  pos : Nat
  lane : Fin 4
  steps : Nat
  fecCorr : Nat
  fecUncorr : Nat
  fecLane : Fin 4
  pcsErr : Nat
  deriving DecidableEq, Repr

/-- What the phase detector measures of a sent frame (R225, R227): the instant its grid unit passed the SerDes boundary (2^-16
ns), the correction for the residual skew of the lanes (2^-12 ns), the start block's position in the unit. -/
structure TxMeta where
  serdes : Nat
  residual : Int
  pos : Nat
  deriving DecidableEq, Repr

/-- A measured transmit grid phase (R227, R228): the instant a reference grid unit passed the SerDes boundary in 2^-16 ns, the
correction for the residual skew of the lanes (2^-12 ns), and that unit's place in the alignment-marker cycle (R226). -/
structure GridPhase where
  at_ : Nat
  residual : Int
  am : Nat
  deriving DecidableEq, Repr

/-- A launch reservation (R232): the one the ledger holds for an entry, or one another source makes with its fields. -/
inductive Launch where
  | entry (index : Fin 65536)
  | direct (port : Fin 20) (cls : Fin 8) (e len : Nat) (reserved : Bool) (tag : Fin 65536)
  deriving DecidableEq, Repr

/-- Where a KEY command comes from (R325). -/
inductive KeySrc where
  | mgt | twivon | spi | attic
  deriving DecidableEq, Repr

/-- A KEY command's operands (R326): its source, and the ARG words it carries itself; none where they stand in
KEY_ARG0 to 7. -/
structure KeyArgs where
  src : KeySrc
  words : Option (List Word)
  deriving DecidableEq, Repr

/-- One channel's measurement at an epoch (R366, R367), carried back to the epoch instant. -/
structure GnssMeas where
  ch : Fin 240
  codeValid : Bool
  carrValid : Bool
  halfOk : Bool
  dataSync : Bool
  cn0 : Fin 256
  txTow : Nat
  carrier : Int
  doppler : Int
  deriving DecidableEq, Repr

/-- What the baseband knows of a satellite at an epoch: system 0 GPS, 1 Galileo, 2 BeiDou, 3 QZSS; its elevation in
degrees, the instants of its ephemeris (while valid) and almanac in 2^-16 ns. -/
structure GnssSat where
  sys : Fin 4
  sv : Fin 64
  elev : Int
  eph : Option Nat
  alm : Option Nat
  deriving DecidableEq, Repr

/-- The solution computed from the epoch at a whole second (R360, R371 to R373): voted time minus system time for GPS and
QZSS together, Galileo and BeiDou, in 2^-12 ns, the formal clock standard deviation and the rms of the sample-edge predictions in ps, the unit-weight residual, the 3D position uncertainty
in cm and the position in 0.1 mm, and the satellites whose residual fails the test, in the order they would be excluded;
`raimOk` says that the solution without them passes. -/
structure GnssSol where
  clocks : List Int
  sigma : Rat
  weight : Rat
  predRms : Rat
  posU : Nat
  pos : List Int
  exclude : List (Fin 16 × Fin 64)
  raimOk : Bool
  deriving DecidableEq, Repr

/-- One epoch (R366): its instant, LEVEL of both bands, each band's sample-clock frequency offset, the measurements, the
satellites, the solution's figures, and the broadcast UTC parameters: TAI minus UTC and an announced leap (M, deletion). -/
structure Epoch where
  at_ : Nat
  levels : List Nat
  fs : List Int
  meas : List GnssMeas
  sats : List GnssSat
  sol : GnssSol
  utc : Option (Fin 65536 × Option (Nat × Bool))
  deriving DecidableEq, Repr

/-- The contents of a HELLO (R402): serial number, PREF, ROLE, ACTIVE_SINCE in 2^-16 ns, last committed generation. -/
structure PairHello where
  serial : Nat
  pref : Fin 4
  role : Fin 4
  since : Nat
  gen : Nat
  deriving DecidableEq, Repr

/-- A trigger entry of a vintage (R239, R405). -/
structure PairTrg where
  k : Fin 16
  first : Nat
  width : Nat
  period : Nat
  count : Nat
  next : Nat
  deriving DecidableEq, Repr

/-- The state sections of a vintage (R405): the closing boundary in 2^-16 ns, the voted core bound, the OFFSET term, epoch,
TRACE_SEQ, TAI minus UTC, a pending leap (M, deletion), the DSC state, the selected slot with its QL and UP_SEQ, GEN of each
cookie family, the trigger entries. -/
structure VintState where
  closing : Nat
  core : Nat
  offset : Nat
  epoch : Nat
  traceSeq : Nat
  taiUtc : Int
  leap : Option (Nat × Bool)
  dsc : Nat
  sel : Option Nat
  ql : Nat
  upSeq : Nat
  gens : List Nat
  trg : List PairTrg
  deriving DecidableEq, Repr

/-- The contents of a SEAL (R406): frame count, byte count, CRC-32, and the HMAC where AUTH_EN is set. -/
structure PairSeal where
  frames : Nat
  bytes : Nat
  crc : Nat
  mac : List Byte
  deriving DecidableEq, Repr

/-- Who reads a memory word (R431): the scrubber or a reader whose own command carries the error, a vintage sender reading a
Larder record, an engine fetching from IMEM or DMEM, the ledger reading an entry, a TIC channel reading the n-th Pip of its
queue, the event ring reading the n-th record. -/
inductive MemUser where
  | scrubber
  | vintage (record : Fin 8388608)
  | engine (n : Fin 32)
  | ledger (index : Fin 65536)
  | pip (ch : Fin 32) (n : Nat)
  | event (n : Nat)
  deriving DecidableEq, Repr

/-- What the hardware measures at a tick boundary: the time source's frequency against WCLK in 10^-15 (R116), the
recovered-lane accumulators in 2^-12 ns by port index (R388, R505), the junction temperature in 1/256 degree (R473), the
ports' transmit grid phases (R228), the levels of PAIR_RESIGN_IN and ARB_IN (R414, R415). -/
structure TickIn where
  wit : Option Int
  lanes : List (Nat × Int)
  tj : Int
  grid : List (Fin 20 × GridPhase)
  resignIn : Bool
  arb : Bool
  deriving DecidableEq, Repr

/-- One command of the table; the rule of each row stands before it. -/
inductive Instr where
  /-- R22. A management tick boundary falls; the slow-plane decisions of that tick are taken. -/
  | tickBoundary (m : TickIn)
  /-- R26. A write to a register that has no row of its own is applied, staged or ignored by its access code and range. -/
  | registerWrite (path : Path) (addr size : Nat) (val : Word)
  /-- R15. A write of word +0x8 of a KT96 register judges the held value and takes it whole or refuses it. -/
  | kt96ValueComplete (path : Path) (addr : Nat) (val : Word)
  /-- R13. A read of the lowest word of a wide value latches the whole value for the reads of its higher words. -/
  | wideValueLatch (path : Path) (addr : Nat)
  /-- R458. The event router accepts a record into the ring and assigns its SEQ. -/
  | eventAccept
  /-- R459. The router moves a record from the ring head to the DRAM event log while the ring holds SPILL or more. -/
  | logSpill
  /-- R459. A read of EVT_POP returns the head record and removes it from the ring. -/
  | evtPop
  /-- R459. A write of EVT_LOG_RD frees log space at once. -/
  | evtLogRdWrite (val : Word)
  /-- R50. Every 1 µs the comparator pairs the keepers' markers, forms offsets and judges agreement. -/
  | vote (a b c : Marker) (grid : List (Fin 20 × GridPhase))
  /-- R60. After a TCLK loop settles the keepers start in INIT, seeded from the Cellar seconds count. -/
  | keepersStart (kclkSeconds : Nat)
  /-- R63. An OUT keeper loads its seed at the next marker of the time-source keeper and enters SEEDING. -/
  | keeperSeed (x : Fin 3) (refOffset : Option Int)
  /-- R66. A REMOVE command removes a keeper if two agreeing keepers remain, or is refused. -/
  | keeperRemove (x : Fin 3) (grid : List (Fin 20 × GridPhase))
  /-- R66. A REJOIN command starts a rejoin of an OUT keeper and resets its failure count. -/
  | keeperRejoinCmd (x : Fin 3)
  /-- R71. A write of KPR_SNAP_CMD.TAKE requests a coherent keeper snapshot. -/
  | snapshotTake
  /-- R71. The snapshot is latched at the next marker of the time-source keeper and posted under one SEQ. -/
  | snapshotComplete
  /-- R68. LEAP_CMD.ARM arms a leap at midnight M or is refused. -/
  | leapArm (direct : Option (Nat × Bool)) (withCancel : Bool)
  /-- R68. LEAP_CMD.CANCEL clears a pending leap. -/
  | leapCancel
  /-- R69. At the leap's TAI second the TAI-UTC offset changes by one. -/
  | leapApply
  /-- R70. LEAP_DAY or LEAP_HALF sets when the UTC count reaches its window start. -/
  | leapWindowOpen
  /-- R150. A realign command in slot or explicit form, by register GO or Twivon, is accepted or refused. -/
  | realignCommand (path : Path) (val : Word) (direct : Option (Nat × Nat × Nat))
  /-- R62. All running keepers add the same signed step at their first marker at or after the named instant. -/
  | realignApply (grid : List (Fin 20 × GridPhase))
  /-- R49. A voted second marker falls. -/
  | votedSecondMarker (second : Nat) (clkErr : List Int) (wclk : Nat)
  /-- R84. BND answers a request for the bound at named instants for a port with BND48, EB8, flags and epoch. -/
  | boundRequest (port : Fin 20) (t3 : Nat) (received : Option Nat)
  /-- R98. A GO write runs a bound query on BND_QUERY_T0-2 and PORT and posts the result. -/
  | bndQueryGo (port : Nat)
  /-- R81. A write of BND_PORTk_ASYM is taken if not lower, else refused with BND_ASYM_REFUSED. -/
  | asymWrite (path : Path) (k : Fin 20) (high : Bool) (val : Word)
  /-- R82. A keeper's bound goes to COAST after BND_SAMPLE_TIMEOUT ticks without a phase-valid sample. -/
  | sampleTimeout (x : Fin 3)
  /-- R94. A read of BND_TRACE_POP removes the head traceability record from the on-chip queue. -/
  | bndTracePop
  /-- R105. A ToD frame is received, judged and applied to the next PPS edge of its slot. -/
  | todFrame (line : Fin 4) (frame : List Byte) (endAt : Nat)
  /-- R105. The slot fails with cause TOD when its last valid ToD frame is more than 4 s old. -/
  | todStale (n : Fin 16)
  /-- R113. A PPS slot fails when 1.1 s pass since its last edge. -/
  | ppsEdgeTimeout (n : Fin 16)
  /-- R102. A completed packet-reference exchange is delivered to REF. -/
  | packetExchange (inst : Fin 4) (e : Exchange)
  /-- R113. A packet slot fails when no Announce arrives for ANN_TIMEOUT intervals. -/
  | announceTimeout (n : Fin 16)
  /-- R113. A packet slot fails when no exchange arrives for LOS ticks. -/
  | packetLos (n : Fin 16)
  /-- R111. A received ESMC PDU updates the QL of its recovered-frequency slot. -/
  | esmcPdu (dp : Fin 16) (ssm : Fin 16) (extended : Option (Fin 256)) (at_ : Nat)
  /-- R113. A recovered-frequency slot fails after 5 s without an ESMC PDU. -/
  | esmcTimeout (n : Fin 16)
  /-- R114. A slot that meets its criteria for QUAL_TIME qualifies or enters WTR. -/
  | qualificationComplete (n : Fin 16)
  /-- R114. A slot in WTR enters QUALIFIED when its WTR seconds elapse. -/
  | wtrComplete (n : Fin 16)
  /-- R117. A demotion or mutual dispute ends when every pair is clear for the slot's WTR seconds. -/
  | disputeClear (n : Fin 16)
  /-- R119. After 96 ticks the pending switch commits to its target. -/
  | switchCommit
  /-- R123. FORCE makes a qualified slot selected whenever it is a candidate. -/
  | refForce (n : Fin 16)
  /-- R123. LOCKOUT removes a slot from the candidates. -/
  | refLockout (n : Fin 16)
  /-- R123. UNLOCK clears LOCKOUT on a slot. -/
  | refUnlock (n : Fin 16)
  /-- R123. CLEAR_FORCE removes FORCE. -/
  | refClearForce
  /-- R123. FORCE_HOLDOVER makes selection return none. -/
  | refForceHoldover
  /-- R123. CLEAR_HOLDOVER ends FORCE_HOLDOVER. -/
  | refClearHoldover
  /-- R123. A REF_CMD write with OP 7 to 15 is refused with REF_CMD_REFUSED. -/
  | refCmdInvalidOp (op : Fin 16) (n : Fin 16)
  /-- R130. Every 64 ticks DSC writes a steering word to a WORD-mode oscillator over I2C. -/
  | oscWordWrite (o : Fin 3)
  /-- R131. A WORD write is acknowledged or fails; after 4 failures WORD_FAIL is set. -/
  | oscWordResult (o : Fin 3) (ack : Bool)
  /-- R143. Every 64 ticks an oscillator sensor is read over I2C master 0. -/
  | tempSensorRead (o : Fin 3)
  /-- R143. A sensor reading completes and is judged valid or counted toward TEMP_FAIL. -/
  | tempReadResult (o : Fin 3) (reading : Option (BitVec 16))
  /-- R136. Every 64 ticks each keeper's mean trim is moved into W_o. -/
  | trimTransfer
  /-- R144. After FLOCK_TICKS ticks within FLOCK_LIMIT, ACQUIRE ends in TRACK_PHASE or TRACK_FREQ. -/
  | dscFreqLock
  /-- R144. After FLOCK_TICKS ticks within PLOCK_LIMIT, PULLING clears. -/
  | dscPhaseLock
  /-- R140. DSC_OSCx_M_CMD.COMMIT commits a holdover model or is refused. -/
  | modelCommit (o : Fin 3)
  /-- R148. DSC_WIT_CMD.COMMIT commits the witness model. -/
  | witnessCommit
  /-- R149. STALE sets when no witness commit is accepted for STALE hours. -/
  | witnessStale
  /-- R162. A loop declares lock and starts its SETTLE timer. -/
  | loopLock (l : Fin 34) (us : Nat) (run : PhaseRun)
  /-- R164. A loop that has not locked in 5 ms restarts acquisition. -/
  | loopAcquireTimeout (l : Fin 34) (us : Nat) (perr : Int)
  /-- R164. A loop holds lock for SETTLE and enters LOCKED with its gate opened. -/
  | loopSettleDone (l : Fin 34) (us darkCycles : Nat)
  /-- R163. A loop declares loss of lock, closes its gate and its consumers act by R166. -/
  | loopLossOfLock (l : Fin 34) (run : PhaseRun) (grid : List (Fin 20 × GridPhase))
  /-- R163. A loop declares loss of reference, closes its gate and its consumers act by R166. -/
  | loopLossOfReference (l : Fin 34) (grid : List (Fin 20 × GridPhase))
  /-- R164. A LOST loop whose reference is present restarts acquisition in the same band. -/
  | loopReferenceReturn (l : Fin 34)
  /-- R175. A write of SYN_PPSk_CFG changes ENABLE and changes WIDTH only while disabled. -/
  | ppsCfgWrite (path : Path) (k : Fin 8) (val : Word)
  /-- R175. A write of SYN_PPSk_OFS is taken only while the output is disabled. -/
  | ppsOfsWrite (path : Path) (k : Fin 8) (val : Word)
  /-- R175. A write of SYN_CLKOUTk_CTL enables or disables the clock output. -/
  | clkoutCtlWrite (path : Path) (k : Fin 8) (val : Word)
  /-- R175. A write of SYN_CLKOUTk_OFS is taken only while the output is disabled. -/
  | clkoutOfsWrite (path : Path) (k : Fin 8) (val : Word)
  /-- R187. An edge monitor declares a domain stopped after its detection time without edges. -/
  | domainStopped (d : Fin 128)
  /-- R187. An edge monitor declares a stopped domain running again. -/
  | domainRunning (d : Fin 128) (us : Nat)
  /-- R183. After 1,024 disagreeing sample pairs the destination keeps its value and raises XDC_SAMPLE_STALL. -/
  | sampleStall (src dst : Fin 128)
  /-- R189. A block entering reset flips its reset request and closes its crossings. -/
  | resetHandshakeRequest (x y : Fin 128)
  /-- R189. The other side sees the request, flushes FLUSH queues, keeps HOLD queues and acknowledges. -/
  | resetHandshakeAck (x y : Fin 128)
  /-- R189. With the acknowledge seen and reset ended the crossing reopens and XDC_FLUSH is raised. -/
  | resetHandshakeOpen (x y : Fin 128)
  /-- R190. With WAKE_COMPAT set, a crossing holding an item for a sleeping domain wakes it. -/
  | compatWakeRequest (src dst : Fin 128)
  /-- R193. XDC_MERGE_CLR.CLEAR clears the selected crossing's merge counter. -/
  | mergeClear
  /-- R193. XDC_MERGE_CLR.CLEAR_ALL clears every merge counter. -/
  | mergeClearAll
  /-- R202. A received frame is counted, checked and admitted or dropped. -/
  | rxFrame (p : Fin 20) (frame : List Byte) (m : RxMeta)
  /-- R209. A received PAUSE frame is counted and scheduled for its action instant. -/
  | pauseFrame (p : Fin 20) (quanta : Fin 65536) (lastBit : Nat)
  /-- R209. A received PFC frame is counted and scheduled for its action instant. -/
  | pfcFrame (p : Fin 20) (enable : Fin 256) (quanta : List (Fin 65536)) (lastBit : Nat)
  /-- R211. At its action instant a PAUSE sets, replaces or ends the port's pause. -/
  | pauseAction (p : Fin 20)
  /-- R212. At its action instant a PFC frame pauses the enabled priorities. -/
  | pfcAction (p : Fin 20)
  /-- R211. A pause reaches its end instant and transmission resumes. -/
  | pauseEnd (p : Fin 20) (prio : Option (Fin 8))
  /-- R213. A pause unbroken for PAUSE_LONG µs raises PRT_PAUSE_LONG. -/
  | pauseLong (p : Fin 20)
  /-- R198. All PCS, marker and FEC locks are reached and the LINK_HOLD timer starts. -/
  | linkBlockLock (p : Fin 20) (skew : List Int)
  /-- R198. Lock held for LINK_HOLD without faults opens the port and raises PRT_LINK_UP. -/
  | linkHoldExpiry (p : Fin 20) (ms : Nat) (phase : GridPhase)
  /-- R198. Lock loss, hi_ber or a fault takes the port out of VERIFY or UP. -/
  | linkFault (p : Fin 20) (cause : Fin 4)
  /-- R197. MP's Clause 37 or SGMII exchange completes or fails with PRT_AN_FAIL. -/
  | autonegResult (word : BitVec 16)
  /-- R200. PRT_x_CMD.RESET resets the port's MAC, PCS and FEC. -/
  | portReset (p : Fin 20)
  /-- R221. PRT_x_CMD.CNT_SNAP latches every counter of the port at one instant. -/
  | portCntSnap (p : Fin 20)
  /-- R215. A frame handed to a port is checked by the transmit guardrails. -/
  | txFrameSubmit (p : Fin 20) (src cls : Fin 8) (frame : List Byte) (stamp : Option (Fin 65536)) (written : Nat)
  /-- R214. At a frame boundary the scheduler starts the ready frame of the best eligible class. -/
  | txFrameStart (p : Fin 20) (at_ : Nat)
  /-- R237. An unpinned frame's last bit leaves with a good FCS. -/
  | txFrameDone (p : Fin 20) (m : TxMeta)
  /-- R217. The buffer runs dry mid-frame; the frame is spoiled and TX_START rises. -/
  | txUnderrun (p : Fin 20)
  /-- R233. The TSU grants the earliest free slot for a reservation or refuses it. -/
  | launchReservation (r : Launch)
  /-- R234. A pinned frame becomes whole in the transmit buffer before DEADLINE. -/
  | pinnedArmed (p : Fin 20) (src : Fin 8) (tag : Fin 65536) (frame : List Byte)
  /-- R234. DEADLINE passes with the pinned frame incomplete and it is squashed MISSED. -/
  | deadlineMissed (p : Fin 20) (src : Fin 8) (tag : Fin 65536)
  /-- R234. The source cancels a pinned frame; it is squashed or refused if launching. -/
  | pinnedCancel (p : Fin 20) (src : Fin 8) (tag : Fin 65536)
  /-- R234. At SLOT the armed frame's start block starts. -/
  | pinnedLaunch (p : Fin 20) (src : Fin 8) (tag : Fin 65536)
  /-- R234. A pinned frame's last bit leaves and COMMITTED is reported. -/
  | pinnedCommit (p : Fin 20) (src : Fin 8) (tag : Fin 65536) (m : TxMeta)
  /-- R240. TRG_k_CMD.PUSH judges and queues a trigger entry. -/
  | trgPush (k : Fin 16)
  /-- R241. TRG_k_CMD.CANCEL_ALL removes every entry of the output. -/
  | trgCancelAll (k : Fin 16)
  /-- R238. A trigger firing falls due and its pulse is placed. -/
  | trgFire (k : Fin 16)
  /-- R248. The classifier admits a request into the ledger or refuses it. -/
  | requestAdmit (p : Fin 20)
  /-- R284. LDR resolves an admitted entry's client record and pins its Pantry line. -/
  | clientLookup (bad : List Nat)
  /-- R269. An engine pops a ready entry and binds it to a free context. -/
  | ledgerPop (n : Fin 32)
  /-- R271. An engine pops a squash, commit or withdrawal note. -/
  | notePop (n : Fin 32)
  /-- R284. REC_PUSH OP 0 fetches the client record from the Pantry. -/
  | recFetch (n : Fin 32) (c : Fin 4) (err : Bool)
  /-- R282. REC_PUSH OP 1 fetches the client record from the Larder. -/
  | recFetchLarder (n : Fin 32) (c : Fin 4) (err : Bool)
  /-- R279. REC_PUSH OP 2 stages the context's record write for commit. -/
  | recStage (n : Fin 32) (c : Fin 4) (data : List Byte)
  /-- R270. An engine pops a record-fetch result. -/
  | recResPop (n : Fin 32)
  /-- R317. KEY opens an NTS cookie, loads the transient keys and writes new cookies. -/
  | cookieOpen (n : Fin 32) (c : Fin 4) (args : List Word)
  /-- R263. KEY verifies a request with AES-SIV under a handle. -/
  | sivVerify (n : Fin 32) (c : Fin 4) (args : List Word)
  /-- R312. KEY verifies a PTP AUTHENTICATION TLV under a handle or a SPACE 3 selection. -/
  | hmacVerify (n : Fin 32) (c : Fin 4) (args : List Word)
  /-- R270. A crypto operation completes and posts its status to the engine. -/
  | cryptoResult (n : Fin 32)
  /-- R270. An engine pops a crypto result. -/
  | cryptoResPop (n : Fin 32)
  /-- R253. An engine requests a launch slot, held by the ledger until the client's earlier entries resolve. -/
  | launchPush (n : Fin 32) (c : Fin 4) (args : List Word)
  /-- R270. An engine pops a launch grant or refusal. -/
  | launchResPop (n : Fin 32)
  /-- R254. An engine hands its response buffer to the insertion unit. -/
  | sealPush (n : Fin 32) (c : Fin 4) (args : List Word) (writes : List (Nat × List Byte))
  /-- R254. The insertion unit writes the inserted fields, seals and authenticates the buffer, or refuses it. -/
  | sealDone (n : Fin 32)
  /-- R270. An engine pops a seal result. -/
  | sealResPop (n : Fin 32)
  /-- R252. An engine submits a sealed response to its port. -/
  | submitPush (n : Fin 32) (c : Fin 4)
  /-- R259. An engine withdraws its entry with a reason. -/
  | withdrawPush (n : Fin 32) (c : Fin 4) (reason : Fin 16)
  /-- R255. The ledger applies an entry's commit effects when the port reports COMMITTED. -/
  | entryCommit (index : Fin 65536)
  /-- R257. The ledger takes a squash report, counts it and sets the restart step. -/
  | entrySquash (index : Fin 65536)
  /-- R251. Voted time reaches an entry's limit instant and it is withdrawn with reason LIMIT. -/
  | useLimitExpiry (index : Fin 65536)
  /-- R272. An engine faults, its contexts are handled by R250 and it is reset. -/
  | engineFault (n : Fin 32) (cause : Fin 16) (pc : Word) (addr : Word)
  /-- R272. A context bound for WD_US with no queue activity faults its engine. -/
  | engineWatchdog (n : Fin 32) (c : Fin 4)
  /-- R272. A reset engine reloads IMEM and runs again. -/
  | engineRestarted (n : Fin 32)
  /-- R277. SVC_SEn_CMD.RESET, or a Twivon ENGINE command, resets an engine. -/
  | engineReset (n : Fin 32)
  /-- R272. ONLINE returns an OFFLINE engine to service. -/
  | engineOnline (n : Fin 32)
  /-- R275. SVC_CMD.CNT_SNAP latches all SVC counters. -/
  | svcCntSnap
  /-- R261. A read of SVC_JNL_POP removes the head journal record. -/
  | svcJnlPop
  /-- R266. A grandmaster instance sends Announce at its interval. -/
  | announceSend (i : Fin 8) (cls : Fin 8) (frame : List Byte)
  /-- R266. A grandmaster instance sends Sync at its interval, pinned or two-step. -/
  | syncSend (i : Fin 8) (cls : Fin 8) (frame : List Byte) (ins : List (Nat × Nat)) (due : Nat) (e : Nat) (tag : Fin 65536)
  /-- R287. The outcome read-modify-write of a Larder record is performed. -/
  | larderWriteThrough (err : Bool)
  /-- R288. The sweeper empties an idle, unpinned record without live grants. -/
  | recordAgeOut (index : Fin 8388608)
  /-- R289. A record's GRANT_END passes and its index leaves the grant list. -/
  | grantExpire (index : Fin 8388608)
  /-- R290. A pinned Pantry line with an error is refilled and its HELD and TAIL rebuilt. -/
  | pantryRebuildDone (line : Fin 262144)
  /-- R293. The Larder VIRGIN fill completes and LDR sets READY. -/
  | ldrReady (ms : Fin 65536)
  /-- R294. LDR_Q_CMD GO with OP FIND looks up a record by key. -/
  | ldrFind
  /-- R294. LDR_Q_CMD GO with OP SET sets a record's RCLASS and DENY at the next tick. -/
  | ldrSet
  /-- R295. LDR_CMD.CNT_SNAP latches all LDR counters. -/
  | ldrCntSnap
  /-- R304. GENERATE stages new random material in a Cellar key's spare slot. -/
  | keyGenerate (a : KeyArgs)
  /-- R306. IMPORT unwraps a blob and stages it in a Cellar key's spare slot. -/
  | keyImport (a : KeyArgs)
  /-- R306. IMPORT_LOCAL stages clear material from the SPI port on an unprovisioned device. -/
  | keyImportLocal (a : KeyArgs)
  /-- R304. ERASE stages an erase of a live Cellar key. -/
  | keyErase (a : KeyArgs)
  /-- R304. COMMIT requests the commit of staged Cellar keys at the next tick. -/
  | keyCommit (a : KeyArgs)
  /-- R304. ABORT zeroes staged spare slots and empties pending descendants. -/
  | keyAbort (a : KeyArgs)
  /-- R307. DERIVE computes a child key into an empty main slot and returns its handle. -/
  | keyDerive (a : KeyArgs)
  /-- R308. INVALIDATE requests invalidation of a slot's subtree at the next tick. -/
  | keyInvalidate (a : KeyArgs)
  /-- R309. SET_SUCC names a successor slot for a key. -/
  | keySetSucc (a : KeyArgs)
  /-- R307. FREE zeroes an INVALID slot. -/
  | keyFree (a : KeyArgs)
  /-- R315. COOKIE_ROLL advances a cookie family's generation at the next tick. -/
  | cookieRoll (a : KeyArgs)
  /-- R322. TAMPER_DISARM from Twivon clears tamper arm bits. -/
  | tamperDisarm (a : KeyArgs)
  /-- R307. A key reaches NOT_AFTER and is invalidated. -/
  | keyExpiry (slot : Fin 4096)
  /-- R299. Every 1,024 ticks KEY checks slot tags and invalidates failures. -/
  | keyTagCheck
  /-- R328. KEY_CTL.CNT_SNAP latches the KEY counters. -/
  | keyCntSnap
  /-- R327. A write of KEY_SLOT_SEL selects a slot for inspection and latches its use count. -/
  | keySlotSelWrite (path : Path) (val : Word)
  /-- R321. An armed tamper source triggers and the Cellar erases every key. -/
  | tamperTrigger (sources : Fin 2048)
  /-- R322. A write of KEY_TAMPER_CFG can only set arm bits. -/
  | tamperCfgWrite (path : Path) (val : Word)
  /-- R323. A noise-source health test fails and RNG_OK clears. -/
  | rngHealthFail (repetition : Bool)
  /-- R323. After 1,024 passing windows RNG_OK sets again. -/
  | rngRecover
  /-- R323. The DRBG reseeds after 2^20 requests. -/
  | drbgReseed
  /-- R331. A TIC channel selects, divides and stamps an input edge or loses it. -/
  | ticEdge (ch : Fin 32) (falling : Bool) (t : Nat)
  /-- R348. A Pip reaches its outcome in the DRAM ring or the export stream. -/
  | pipWrite (ch : Fin 32)
  /-- R343. A stop is judged after its window delay and an INTERVAL Pip written. -/
  | intervalJudge (ch : Fin 32)
  /-- R345. A frequency gate ends and its result is posted. -/
  | freqGateEnd (ch : Fin 32)
  /-- R335. An interpolator's code-density test completes and its table is judged. -/
  | interpCalDone (ch : Fin 32) (monotonic : Bool) (move : Nat)
  /-- R335. A channel's recalibration interval or 1 s retry expires and a test starts. -/
  | recalTimer (ch : Fin 32)
  /-- R335. TIC_CHn_CMD.RECAL recalibrates one channel at once. -/
  | recal (ch : Fin 32)
  /-- R335. TIC_CMD.RECAL_ALL recalibrates every channel at once. -/
  | recalAll
  /-- R349. An export frame is closed at MAC_MAXLEN or EXP_HOLD and sent. -/
  | exportFrameClose
  /-- R350. A FLOW message sets XOFF or XON on the export stream. -/
  | flowMessage
  /-- R350. XOFF ends 100 ms after the latest XOFF. -/
  | xoffTimeout
  /-- R348. A write of TIC_CHn_RING_RD frees ring space at once. -/
  | ringRdWrite (ch : Fin 32) (val : Word)
  /-- R352. A read of TIC_FQ_POP removes the head frequency result. -/
  | ticFqPop
  /-- R366. At each epoch the bands latch every channel's measurements. -/
  | gnssEpoch (e : Epoch)
  /-- R375. GNSS_PPS is driven on the predicted sample edge. -/
  | gnssPpsEdge (sec : Nat) (edge0 : Rat)
  /-- R364. The management cores assign a tracking channel to a signal and satellite. -/
  | channelAssign (c : Fin 240) (sig : Fin 16) (sv : Fin 64) (hot : Bool)
  /-- R361. Acquisition detects a cell and hands it to a channel in PULL_IN. -/
  | cellDetected (c : Fin 240)
  /-- R364. A search window ends without detection and the channel is released. -/
  | searchExhausted (c : Fin 240)
  /-- R364. A channel's lock indicator holds for 200 ms and it enters TRACK. -/
  | pullInLock (c : Fin 240) (mainPeak : Bool)
  /-- R364. A channel without lock in 2 s is released. -/
  | pullInTimeout (c : Fin 240)
  /-- R364. A tracking channel loses the signal and goes to LOST. -/
  | trackLoss (c : Fin 240)
  /-- R364. A LOST channel is reacquired by narrow search within 10 s. -/
  | reacquired (c : Fin 240)
  /-- R364. A LOST channel is released after 10 s. -/
  | lostTimeout (c : Fin 240)
  /-- R365. A GNSS loop processor faults, resets and its channels reacquire. -/
  | loopProcessorFault (k : Fin 4) (cause : Fin 16)
  /-- R379. GNS_CMD.SLEEP puts a band to sleep. -/
  | gnssSleep
  /-- R379. GNS_CMD.WAKE wakes a band and clears FE_FAIL. -/
  | gnssWake (nak : List (Option (Fin 64)))
  /-- R378. GNS_CMD.COLD empties retention and restarts both bands. -/
  | gnssCold (nak : List (Option (Fin 64)))
  /-- R371. GNS_CMD.RESURVEY discards the stored position and starts a survey. -/
  | resurvey
  /-- R379. After ON seconds of validity the duty cycle puts a band to sleep. -/
  | dutySleep
  /-- R379. After OFF seconds the duty cycle wakes a band. -/
  | dutyWake (nak : List (Option (Fin 64)))
  /-- R380. A waking band's clock runs and its channels start from retention. -/
  | bandWakeComplete (b : Fin 2)
  /-- R379. A waking band's clock does not run within 100 ms and FE_FAIL is set. -/
  | bandWakeTimeout (b : Fin 2)
  /-- R386. A DOWN link sends a pinned Sync with its link TLV. -/
  | linkSyncSend (d : Fin 16) (due : Nat) (tag : Fin 65536) (rPhase : Int)
  /-- R396. A forwarded trigger entry carried by 8 Syncs without result is reported TIMEOUT. -/
  | triggerForwardTimeout (d : Fin 16)
  /-- R386. An UP link receives a Sync, verifies it and takes its TLV. -/
  | linkSyncRx (d : Fin 16) (fwdPhase : Int)
  /-- R386. The UP end sends a pinned Delay_Req or Pdelay_Req after a Sync. -/
  | linkDelayReqSend (d : Fin 16) (e : Nat) (tag : Fin 65536) (fPhase : Int)
  /-- R386. The DOWN end receives a Delay_Req and answers with Delay_Resp. -/
  | linkDelayReqRx (d : Fin 16)
  /-- R386. The DOWN end receives a Pdelay_Req and answers with a pinned Pdelay_Resp. -/
  | linkPdelayReqRx (d : Fin 16) (e : Nat) (tag : Fin 65536)
  /-- R389. The UP end receives Delay_Resp or Pdelay_Resp, completing an exchange. -/
  | linkDelayRespRx (d : Fin 16)
  /-- R389. Every 64 ticks DST reads the transceiver module temperature. -/
  | linkTempRead (d : Fin 16) (reading : Option (BitVec 16))
  /-- R392. 16 Sync intervals without a complete exchange unlock the link. -/
  | linkSilence (d : Fin 16)
  /-- R396. DST_TFWD_CMD.SEND judges and forwards a trigger entry on named DOWN links. -/
  | triggerForwardSend
  /-- R402. A discovering unit sends HELLO every 10 ms. -/
  | helloSend
  /-- R402. A HELLO is received and the pair role settled. -/
  | helloRx (h : PairHello)
  /-- R402. PP not UP within DISCOVER_WAIT; the role is taken from ARB_IN or PEER_PPS. -/
  | discoverTimeout (arb : Bool)
  /-- R404. Every 64 ticks a vintage boundary falls and the exchange runs. -/
  | vintageBoundary (e : Nat) (tag : Fin 65536)
  /-- R404. The standby computes theta from the EXCH frames. -/
  | pairExchRx (t1 t2 t3 t4 : Int) (boundary : Nat)
  /-- R408. The closed bitmap is drained and STATE and SEAL are sent. -/
  | vintageDrained
  /-- R409. The standby stages received vintage records. -/
  | vintageRecordsRx
  /-- R409. The standby checks SEAL and commits or discards the vintage. -/
  | vintageSealRx (x : PairSeal) (st : VintState)
  /-- R411. The active unit receives ACK for a vintage. -/
  | vintageAckRx
  /-- R411. No ACK arrives within 8 ticks of SEAL and the vintage is discarded. -/
  | vintageAckTimeout
  /-- R409. The standby finishes inserting a committed vintage's records. -/
  | recordInsertDone
  /-- R412. 16 boundaries without a commit set COPY to STALE. -/
  | copyStale
  /-- R413. A rising edge on PEER_PPS_IN is taken and its width judged. -/
  | peerPpsEdge (t : Nat) (widthUs : Nat)
  /-- R413. No PEER_PPS edge for PPS_TIMEOUT declares it lost. -/
  | peerPpsLost
  /-- R414. A RESIGN command makes an ACTIVE unit resign. -/
  | pairResign (path : Path)
  /-- R414. PAIR_RESIGN_OUT is released 1 s after resignation. -/
  | resignRelease
  /-- R415. A verified RESIGN frame is received by the standby. -/
  | resignFrameRx
  /-- R415. A TAKEOVER command asks a STANDBY unit to take over. -/
  | pairTakeoverCmd (path : Path)
  /-- R411. RESYNC makes an ACTIVE unit send a full copy. -/
  | pairResync (path : Path)
  /-- R415. ARB_IN held for ARB_HOLD causes takeover or resignation. -/
  | arbHoldExpiry (level : Bool)
  /-- R427. A scrubber or demand read decodes a word and writes back corrections. -/
  | scrubRead (sram : Bool) (loc rank : Nat) (errs : List (Nat × Nat)) (virgin : Bool) (user : MemUser) (lost : Fin 16)
  /-- R426. The background VIRGIN fill of all DRAM completes. -/
  | dramFillDone (ms : Fin 65536)
  /-- R432. A rank's retrain starts on its period or a 10 °C move. -/
  | dramRetrain (rank : Fin 2) (tempMoved : Bool)
  /-- R432. A rank's retrain completes and waiting requests are served. -/
  | retrainDone (us : Fin 256)
  /-- R433. MEM_RAW_CMD.READ reads a word with its check bits, uncorrected. -/
  | rawRead (path : Path)
  /-- R433. MEM_RAW_CMD.WRITE stores data and check bits exactly. -/
  | rawWrite (path : Path)
  /-- R467. PWRGOOD or RESET_N release starts a full start. -/
  | fullStart
  /-- R439. The loader reads both headers and orders the candidates. -/
  | headersRead (respondA respondB : Bool)
  /-- R439. A copy read and hashed in full has its signature and checks judged. -/
  | copyVerify (respond : Bool) (ms : Nat) (vout : Option (Fin 256)) (nak : List (Option (Fin 64)))
  /-- R447. A lockstep mismatch or memory error resets the management cores. -/
  | corePairFault (memory : Bool)
  /-- R447. MGT_WDOG not written in WDOG_TICKS is a pair fault. -/
  | watchdogExpiry
  /-- R447. A write of MGT_WDOG.KICK restarts the watchdog. -/
  | watchdogKick
  /-- R450. A Twivon COMMAND is authenticated, journalled and acknowledged. -/
  | twivonMessage (p : Fin 20)
  /-- R451. READ returns up to 64 register words. -/
  | twivonRead (k : Fin 8)
  /-- R451. WRITE writes up to 64 register words through staging. -/
  | twivonWrite (k : Fin 8)
  /-- R131. CLEAR clears WORD_FAIL of an oscillator. -/
  | twivonClear (k : Fin 8)
  /-- R451. FLASH_ERASE erases the copy not in use. -/
  | flashErase (k : Fin 8)
  /-- R451. A flash erase completes and its reply is sent. -/
  | flashEraseDone
  /-- R443. FLASH_WRITE writes bytes into the copy not in use. -/
  | flashWrite (k : Fin 8)
  /-- R451. FLASH_READ returns bytes of a copy. -/
  | flashRead (k : Fin 8)
  /-- R443. ROLLBACK_BURN raises the OTP rollback level to the loaded image's. -/
  | rollbackBurn (k : Fin 8)
  /-- R451. RESTART performs a full-device reset 10 ms after its reply. -/
  | twivonRestart
  /-- R452. An SPI 0x0B transaction reads register words. -/
  | spiRead (addr : Fin (2 ^ 24)) (n : Nat)
  /-- R452. An SPI 0x02 transaction writes register words where permitted. -/
  | spiWrite (addr : Fin (2 ^ 24)) (vals : List Word)
  /-- R452. An SPI 0x05 transaction returns the status byte. -/
  | spiStatus
  /-- R454. A write of MGT_UART_TX queues a console byte. -/
  | uartTxWrite (b : Byte)
  /-- R454. A console byte is received into the receive queue. -/
  | uartRxByte (b : Byte) (frameErr : Bool)
  /-- R454. A read of MGT_UART_RX_POP removes the head console byte. -/
  | uartRxPop
  /-- R469. CLR_CMD.ENTER starts the drain into the Cellar state or is refused. -/
  | cellarEnter (path : Path)
  /-- R469. Every accepted item is resolved and the snapshot is written. -/
  | drainComplete
  /-- R469. DRAIN_MAX elapses and the entry aborts. -/
  | drainTimeout
  /-- R469. The snapshot and its hash are committed and CELLAR_REQ_N driven low. -/
  | snapshotSaved
  /-- R471. WAKE_N held low for 3 KCLK cycles is a wake source. -/
  | wakeNAssert
  /-- R471. The Cellar seconds count reaches CLR_WAKE_AT with TIMER set. -/
  | wakeTimerExpiry
  /-- R469. On PWRGOOD and a matching snapshot the device restores and is AWAKE, or runs a full start. -/
  | wakeComplete (ms : Nat) (intact trained : Bool) (nak : List (Option (Fin 64)))
  /-- R477. CLR_CMD.CNT_SNAP latches the per-kind counts. -/
  | clrCntSnap
  /-- R469. RESET_N low clears the snapshot commit word and resets the device. -/
  | resetNAssert
  /-- R493. PWRGOOD falling while CELLAR_REQ_N is high is a full-device reset. -/
  | pwrgoodFall
  /-- R491. VAUX falls below 2.60 V and the Cellar domain moves to VBAT. -/
  | vauxFall
  /-- R491. VAUX rises to 2.65 V and the Cellar domain moves back to VAUX. -/
  | vauxRise
  /-- R479. VBAT falls below 2.0 V and CLR_SUPPLY is raised. -/
  | vbatLow
  /-- R473. Every 64 ticks the path-delay monitors report slowdown. -/
  | pathDelayMonitor (slow : Fin 65536)
  /-- R474. Every 4,096 ticks equivalent hours advance and LIFE_PERMIL is updated. -/
  | eqHoursUpdate
  /-- R475. Every 65,536 ticks the margin planner moves AVS, TIC, guard and HW margins. -/
  | marginPlan
  /-- R476. The applied VID moves toward its target by at most 4 steps per 64 ticks. -/
  | avsStep (ack : Bool)
  /-- R481. A Twivon INJ arm arms an injection point or is refused. -/
  | injArm (cmd arg0 arg1 : Word) (at_ : Fin 79228162514264337593543950336)
  /-- R482. A Twivon INJ DISARM ends a point at its domain's next cycle. -/
  | injDisarm (point inst : Byte)
  /-- R482. A Twivon INJ DISARM_ALL ends every point. -/
  | injDisarmAll (point inst : Byte)
  /-- R482. An armed point fires at its instant in its detector's domain. -/
  | injFire (point inst : Byte)
  /-- R482. A firing point's count or duration is spent and it disarms itself. -/
  | injEnd (point inst : Byte)
  /-- R113. An Announce from the upstream master of a packet reference is received, giving the slot its clockClass, QL and Announce interval and restarting the ANN_TIMEOUT count. -/
  | packetAnnounceRx (inst : Fin 4) (clockClass : Fin 256) (logInterval : Int) (at_ : Nat)
  /-- R479. VAUX leaves the range 2.7 V to 5.5 V, so VAUX_OK clears and CLR_SUPPLY is raised. -/
  | vauxOutOfRange
  /-- R479. VAUX returns within 2.7 V to 5.5 V, so VAUX_OK sets and CLR_SUPPLY is raised. -/
  | vauxInRange
  /-- R477. VBAT rises back to 2.0 V or above, and CLR_STAT.VBAT_OK sets again. -/
  | vbatRestored
  /-- R454. A queued console byte finishes leaving on UART_TX, freeing a place in the 64-byte transmit queue. -/
  | uartTxByteSent
  deriving DecidableEq, Repr

end Sys2Proof
end

