-- ==== Sys2Proof/Decode.lean ====
section
/-!
DEFINITION. The command a word spells. The rows of spec/opcode_table.json give no bits: the block takes commands, not words.
-/
namespace Sys2Proof

/-- No row has bits, so no word spells a command. -/
def decodeTableWord (_nbits _w : Nat) : Option Instr := none

end Sys2Proof
end

