-- ==== Sys2Proof/Config.lean ====
section
/-!
DEFINITION. What an implementation fixes and the spec leaves open: each is an opaque constant without a body, so no
proof can see a value of it. `freeValue n` is the n-th free value a run consumes (State.free counts them).
-/
namespace Sys2Proof.Config

/-- The n-th value the spec leaves open (assumption log 3). -/
opaque freeValue : Nat → Nat

/-- The map fields of toggle crossing `i` beyond the tick strobes (R193): source domain, destination domain, owning block
and whether the index is assigned. -/
opaque crossing : Nat → Nat × Nat × Nat × Bool

/-- The toggle crossing of a command register's strobe beyond the tick strobes, counted from 0x1A (R182, R193; assumption
log 76). -/
opaque cmdCrossing : Nat → Nat

/-- The keyed hash of LDR (R283): 64 bits from the hash key drawn at the start and a client key; the spec does not name
the function (assumption log 14). -/
opaque clientHash : Nat → List (BitVec 8) → Nat

/-- Random bytes by draw number: the noise source and the DRBG seeded from it (R323; assumption log 15). -/
opaque randomByte : Nat → BitVec 8

/-- The 256-bit device secret in the fuses (R299; assumption log 16). -/
opaque deviceSecret : Nat

/-- The payload layout of a vintage frame of a type, from its contents as numbers (R406 names the contents and gives no
layout; assumption log 19). -/
opaque pairPayload : Nat → List Int → List (BitVec 8)

/-- The destination address of frames to the peer unit, which the spec does not give (assumption log 19). -/
opaque peerAddr : Nat

/-- The check symbols of 16 DRAM data bytes, and the VIRGIN pattern (R422, R425; assumption log 20). -/
opaque dramCheck : Nat → Nat
opaque dramVirgin : Nat

/-- The check bits of 64 SRAM data bits, and the VIRGIN pattern (R424, R425; assumption log 20). -/
opaque sramCheck : Nat → Nat
opaque sramVirgin : Nat

/-- The fused temperature table of R475: the VID at a junction temperature in 1/256 degree (assumption log 21). -/
opaque vidT : Int → Nat

/-- 2^((Tj - 95) / 10) for a junction temperature in 1/256 degree (R474), an irrational number (assumption log 21). -/
opaque ageFactor : Int → Rat

/-- The 256-bit key hash in OTP fuses (R439; assumption log 22). -/
opaque bootKeyHash : Nat

/-- Which oscillator input the image with a digest binds a keeper to, and that input's frequency in Hz; no section or field of
the image is named for either (R159; assumption log 22). -/
opaque oscBind : List (BitVec 8) → Nat → Nat × Nat

/-- What a REGIONS section spells: DRAM size in bytes, rank count, and per region its base, 4 KiB pages and owner; the
spec gives the contents and no layout (R444; assumption log 22). -/
opaque regionsOf : List (BitVec 8) → Nat × Nat × List (Nat × Nat × Nat)

end Sys2Proof.Config
end

