-- ==== Sys2Proof/Machine/Sparse.lean ====
section
/-!
DEFINITION. A sparse map: a list of key and value pairs in one canonical form, keys strictly rising and no entry equal
to what an unlisted key reads as. Registers, DRAM bytes and counters are held this way.
-/
namespace Sys2Proof.Machine

/-- The value at key `a`; an unlisted key reads as `d a`. -/
def spGet {α : Type} (d : Nat → α) : List (Nat × α) → Nat → α
  | [], a => d a
  | (b, v) :: r, a => if a = b then v else if a < b then d a else spGet d r a

/-- Cons a pair unless it equals what the unlisted key reads as. -/
def spCons {α : Type} [DecidableEq α] (d : Nat → α) (a : Nat) (v : α) (r : List (Nat × α)) : List (Nat × α) :=
  if v = d a then r else (a, v) :: r

/-- The map with key `a` holding `v`, canonical form kept. -/
def spSet {α : Type} [DecidableEq α] (d : Nat → α) : List (Nat × α) → Nat → α → List (Nat × α)
  | [], a, v => spCons d a v []
  | (b, w) :: r, a, v =>
    if a = b then spCons d a v r
    else if a < b then spCons d a v ((b, w) :: r)
    else (b, w) :: spSet d r a v

/-- Every key of the list is above `b`. -/
def spAbove {α : Type} (b : Nat) (m : List (Nat × α)) : Bool := m.all (fun p => b < p.1)

/-- The canonical form. -/
def spWf {α : Type} [DecidableEq α] (d : Nat → α) : List (Nat × α) → Bool
  | [] => true
  | (a, v) :: r => v ≠ d a && spAbove a r && spWf d r

end Sys2Proof.Machine
end

