-- ==== Sys2Proof/Machine/Ecc.lean ====
section
/-!
DEFINITION. The check codes of DRAM and SRAM words (17_memory_integrity.md R422, R424, R425). The spec names the codes
and their distances and gives no generator matrix: the check bits of data and the VIRGIN patterns are Config's; what the
decoder does with a stored word is written out here.
-/
namespace Sys2Proof.Machine

open Sys2Proof

/-- How the check code of a word stands: the VIRGIN pattern over data 0, the code of its data, or check bits stored beside
data that need not fit them (R425, R433). -/
inductive Chk where
  | virgin | coded | raw (c : Nat)
  deriving DecidableEq, Repr

/-- What a decoder answers for a word: VIRGIN, or its data, with the position it corrected; or uncorrectable. -/
inductive Decoded where
  | virgin (fix : Option Nat)
  | data (d : Nat) (fix : Option Nat)
  | bad
  deriving DecidableEq, Repr

/-- The error `e` at symbol position `p` of a DRAM codeword (128 data bits, 16 check bits): positions 16, 17, 34 and 35 are
the check symbols, the others hold the data nibbles in ascending order (R422). -/
def dramFlip (w : Nat × Nat) (p e : Nat) : Nat × Nat :=
  if p < 16 then (w.1 ^^^ (e * 16 ^ p), w.2)
  else if p < 18 then (w.1, w.2 ^^^ (e * 16 ^ (p - 16)))
  else if p < 34 then (w.1 ^^^ (e * 16 ^ (p - 2)), w.2)
  else (w.1, w.2 ^^^ (e * 16 ^ (p - 32)))

/-- The error at bit position `p` of an SRAM word: 64 data bits, then 8 check bits (R424). -/
def sramFlip (w : Nat × Nat) (p _e : Nat) : Nat × Nat := if p < 64 then (w.1 ^^^ 2 ^ p, w.2) else (w.1, w.2 ^^^ 2 ^ (p - 64))

/-- One memory's code: the check bits of data, the VIRGIN pattern, its positions, the errors one position can have. -/
structure Code where
  check : Nat → Nat
  virgin : Nat
  positions : Nat
  errors : Nat
  flip : Nat × Nat → Nat → Nat → Nat × Nat

def dramCode : Code := ⟨Config.dramCheck, Config.dramVirgin, 36, 15, dramFlip⟩
def sramCode : Code := ⟨Config.sramCheck, Config.sramVirgin, 72, 1, sramFlip⟩

/-- Every single error: position and error value. -/
def Code.singles (k : Code) : List (Nat × Nat) := (List.range k.positions).flatMap fun p => (List.range k.errors).map fun e => (p, e + 1)

/-- R425: a read is compared with the VIRGIN pattern first, exactly and within one position; then decoded normally: a
codeword, a codeword with one error, or uncorrectable. -/
def Code.decode (k : Code) (d c : Nat) : Decoded :=
  let at_ (x : Nat × Nat) : Nat × Nat := k.flip (d, c) x.1 x.2
  if d = 0 ∧ c = k.virgin then .virgin none
  else match k.singles.find? (fun x => (at_ x).1 == 0 && (at_ x).2 == k.virgin) with
    | some x => .virgin (some x.1)
    | none =>
      if k.check d = c then .data d none
      else match k.singles.find? (fun x => k.check (at_ x).1 == (at_ x).2) with
        | some x => .data (at_ x).1 (some x.1)
        | none => .bad

/-- A word with errors: position and error value of each. -/
def Code.hit (k : Code) (w : Nat × Nat) (l : List (Nat × Nat)) : Nat × Nat := l.foldl (fun w x => k.flip w x.1 x.2) w

/-- Positions in error, each once. -/
def hitPositions (l : List (Nat × Nat)) : List Nat := (l.map Prod.fst).eraseDups

end Sys2Proof.Machine
end

