-- ==== Sys2Proof/Machine/Fields.lean ====
section
/-!
DEFINITION. The names of the register window: the address of every register of the spec's register tables, and every
named field of them, transcribed row by row from the tables of spec/00 to spec/20 (the rule of each group stands above
it). A register that comes as a `_LO`, `_HI` pair has the address of its `_LO` word, under the name without the
suffix. The index letters are the spec's own.
-/
namespace Sys2Proof.Machine

/-- One field of one register: its address and its bits `[hi:lo]` (R9). -/
structure Fld where
  addr : Nat
  hi : Nat
  lo : Nat
  deriving DecidableEq, Repr

namespace A


/-! 00_scope.md, R2. -/
def ID_VENDOR : Nat := 0x0
def ID_PART : Nat := 0x4
def ID_REV : Nat := 0x8

/-! 02_keepers_and_voting.md, R72. -/
def KPR_STAT : Nat := 0x20000
def KPR_VOTE_CFG : Nat := 0x20004
def KPR_REJOIN_CFG : Nat := 0x20008
def KPR_TRIM_CFG : Nat := 0x2000C
def KPR_SNAP_CMD : Nat := 0x20010
def KPR_SNAP_STAT : Nat := 0x20020
def KPR_SNAP_VT (w : Nat) : Nat := 0x20024 + 4 * w
def KPR_SNAP_A (w : Nat) : Nat := 0x20030 + 4 * w
def KPR_SNAP_B (w : Nat) : Nat := 0x2003C + 4 * w
def KPR_SNAP_C (w : Nat) : Nat := 0x20048 + 4 * w
def KPR_SNAP_OFS (w : Nat) : Nat := 0x20054 + 4 * w
def KPR_VT (w : Nat) : Nat := 0x20060 + 4 * w
def KPR_UTC_STAT : Nat := 0x20070
def KPR_LEAP_SEC_LO : Nat := 0x20074
def KPR_LEAP_SEC_HI : Nat := 0x20078
def KPR_LEAP_CMD : Nat := 0x2007C

/-! 02_keepers_and_voting.md, R73. -/
def KPR_x_STAT (x : Nat) : Nat := 0x20100 + 0x100 * x
def KPR_x_OFS (x : Nat) : Nat := 0x20104 + 0x100 * x
def KPR_x_FREQ (x : Nat) : Nat := 0x20108 + 0x100 * x
def KPR_x_TRIM (x : Nat) : Nat := 0x20110 + 0x100 * x
def KPR_x_TIME (x w : Nat) : Nat := 0x20118 + 0x100 * x + 4 * w
def KPR_x_CMD (x : Nat) : Nat := 0x20124 + 0x100 * x

/-! 03_error_bound.md, R95. -/
def BND_STAT : Nat := 0x30000
def BND_CFG : Nat := 0x30004
def BND_NTP_EF_TYPE : Nat := 0x30008
def BND_PTP_ORG : Nat := 0x3000C
def BND_PTP_SUBTYPE : Nat := 0x30010
def BND_SAMPLE_TIMEOUT : Nat := 0x30014
def BND_HOLD_LIMIT : Nat := 0x30018
def BND_SERVICE_LIMIT : Nat := 0x30020
def BND_HW_BASE : Nat := 0x30028
def BND_HW_AGE : Nat := 0x30030
def BND_FW_MARGIN : Nat := 0x30038
def BND_C1_FLOOR : Nat := 0x30040
def BND_C2_FLOOR : Nat := 0x30044
def BND_EPOCH : Nat := 0x30048
def BND_TRACE_BASE : Nat := 0x30060
def BND_TRACE_SIZE : Nat := 0x30068
def BND_TRACE_STAT : Nat := 0x3006C
def BND_TRACE_POP : Nat := 0x30070
def BND_TRACE_PEEK (w : Nat) : Nat := 0x30080 + 4 * w

/-! 03_error_bound.md, R96. -/
def BND_x_REF (x : Nat) : Nat := 0x30100 + 0x40 * x
def BND_x_HOLD (x : Nat) : Nat := 0x30108 + 0x40 * x
def BND_x_HW (x : Nat) : Nat := 0x30110 + 0x40 * x
def BND_x_OFS (x : Nat) : Nat := 0x30118 + 0x40 * x
def BND_x_CORE (x : Nat) : Nat := 0x30120 + 0x40 * x

/-! 03_error_bound.md, R97. -/
def BND_SLOTn_MIN (n : Nat) : Nat := 0x30400 + 8 * n
def BND_PORTk_ASYM (k : Nat) : Nat := 0x30500 + 8 * k

/-! 03_error_bound.md, R98. -/
def BND_QUERY_T (w : Nat) : Nat := 0x30600 + 4 * w
def BND_QUERY_CMD : Nat := 0x3060C
def BND_QRES : Nat := 0x30610
def BND_QRES_B : Nat := 0x30614

/-! 04_reference_selection.md, R125. -/
def REF_STAT : Nat := 0x40000
def REF_CFG : Nat := 0x40004
def REF_CMD : Nat := 0x40008
def REF_WIT_AGREE : Nat := 0x4000C
def REF_QUAL_MASK : Nat := 0x40010
def REF_FLAG_MASK : Nat := 0x40014
def REF_SW_RES : Nat := 0x40018
def REF_SW_OFS : Nat := 0x4001C
def REF_PTPQL (w : Nat) : Nat := 0x40040 + 4 * w
def REF_TOD_CFG (w : Nat) : Nat := 0x400C0 + 4 * w
def REF_TOD_STAT (w : Nat) : Nat := 0x400D0 + 4 * w
def REF_PIN_CFG (w : Nat) : Nat := 0x400E0 + 4 * w

/-! 04_reference_selection.md, R126. -/
def REF_SLOTn_BIND (n : Nat) : Nat := 0x40100 + 0x40 * n
def REF_SLOTn_CFG (n : Nat) : Nat := 0x40104 + 0x40 * n
def REF_SLOTn_TIME (n : Nat) : Nat := 0x40108 + 0x40 * n
def REF_SLOTn_FLIM (n : Nat) : Nat := 0x4010C + 0x40 * n
def REF_SLOTn_FDIS (n : Nat) : Nat := 0x40110 + 0x40 * n
def REF_SLOTn_JUMP (n : Nat) : Nat := 0x40114 + 0x40 * n
def REF_SLOTn_LOS (n : Nat) : Nat := 0x40118 + 0x40 * n
def REF_SLOTn_STAT (n : Nat) : Nat := 0x4011C + 0x40 * n
def REF_SLOTn_HIST (n : Nat) : Nat := 0x40120 + 0x40 * n
def REF_SLOTn_OFS (n : Nat) : Nat := 0x40124 + 0x40 * n
def REF_SLOTn_FREQ (n : Nat) : Nat := 0x4012C + 0x40 * n
def REF_SLOTn_SUSP (n : Nat) : Nat := 0x40130 + 0x40 * n
def REF_SLOTn_CNT (n : Nat) : Nat := 0x40138 + 0x40 * n
def REF_SLOTn_UPSEQ (n : Nat) : Nat := 0x4013C + 0x40 * n

/-! 05_discipline_and_holdover.md, R154. -/
def DSC_STAT : Nat := 0x50000
def DSC_CFG : Nat := 0x50004
def DSC_SLEW_MAX : Nat := 0x50008
def DSC_FMAX : Nat := 0x5000C
def DSC_CAPTURE : Nat := 0x50010
def DSC_FLOCK_LIMIT : Nat := 0x50014
def DSC_LOCK_TIME : Nat := 0x50018
def DSC_ACQ_BW : Nat := 0x5001C
def DSC_MODEL_CFG : Nat := 0x50020
def DSC_MODEL_STEP_MAX : Nat := 0x50024
def DSC_UF_NOMODEL : Nat := 0x50028
def DSC_CLASS : Nat := 0x5002C
def DSC_REALIGN_CMD : Nat := 0x50030
def DSC_RA_OFS (w : Nat) : Nat := 0x50034 + 4 * w
def DSC_RA_AT (w : Nat) : Nat := 0x50040 + 4 * w
def DSC_RA_U : Nat := 0x5004C
def DSC_RA_RES : Nat := 0x50054
def DSC_RA_STEP (w : Nat) : Nat := 0x50058 + 4 * w
def DSC_LOOP_PERR : Nat := 0x50080
def DSC_LOOP_P : Nat := 0x50084
def DSC_SLOTn_BW (n : Nat) : Nat := 0x50100 + 4 * n

/-! 05_discipline_and_holdover.md, R155. -/
def DSC_OSCx_CFG (x : Nat) : Nat := 0x50200 + 0x80 * x
def DSC_OSCx_EFC (x : Nat) : Nat := 0x50204 + 0x80 * x
def DSC_OSCx_EFC_MIN (x : Nat) : Nat := 0x50208 + 0x80 * x
def DSC_OSCx_EFC_MAX (x : Nat) : Nat := 0x5020C + 0x80 * x
def DSC_OSCx_EFC_PARK (x : Nat) : Nat := 0x50210 + 0x80 * x
def DSC_OSCx_STEER (x : Nat) : Nat := 0x50214 + 0x80 * x
def DSC_OSCx_KV (x : Nat) : Nat := 0x50218 + 0x80 * x
def DSC_OSCx_WORD_CFG (x : Nat) : Nat := 0x5021C + 0x80 * x
def DSC_OSCx_WORD (x : Nat) : Nat := 0x50220 + 0x80 * x
def DSC_OSCx_TENV (x : Nat) : Nat := 0x50224 + 0x80 * x
def DSC_OSCx_TEMP (x : Nat) : Nat := 0x50228 + 0x80 * x
def DSC_OSCx_M_F0 (x : Nat) : Nat := 0x50230 + 0x80 * x
def DSC_OSCx_M_A1 (x : Nat) : Nat := 0x50238 + 0x80 * x
def DSC_OSCx_M_KT (x : Nat) : Nat := 0x5023C + 0x80 * x
def DSC_OSCx_M_TREF (x : Nat) : Nat := 0x50240 + 0x80 * x
def DSC_OSCx_M_EPOCH (x : Nat) : Nat := 0x50244 + 0x80 * x
def DSC_OSCx_M_UF (x : Nat) : Nat := 0x50248 + 0x80 * x
def DSC_OSCx_M_UA (x : Nat) : Nat := 0x5024C + 0x80 * x
def DSC_OSCx_M_UK (x : Nat) : Nat := 0x50250 + 0x80 * x
def DSC_OSCx_M_CMD (x : Nat) : Nat := 0x50254 + 0x80 * x
def DSC_OSCx_C1 (x : Nat) : Nat := 0x50258 + 0x80 * x
def DSC_OSCx_C2 (x : Nat) : Nat := 0x50260 + 0x80 * x

/-! 05_discipline_and_holdover.md, R156. -/
def DSC_WIT_STAT : Nat := 0x50400
def DSC_WIT_W0 : Nat := 0x50404
def DSC_WIT_W1 : Nat := 0x50408
def DSC_WIT_EPOCH : Nat := 0x5040C
def DSC_WIT_U : Nat := 0x50410
def DSC_WIT_CFG : Nat := 0x50414
def DSC_WIT_CMD : Nat := 0x50418

/-! 06_clock_synthesis.md, R177. -/
def SYN_LOCK : Nat := 0x60000
def SYN_GATE : Nat := 0x60008
def SYN_CFG : Nat := 0x60010
def SYN_LOOPL_STAT (L : Nat) : Nat := 0x60100 + 0x10 * L
def SYN_LOOPL_CFG (L : Nat) : Nat := 0x60104 + 0x10 * L
def SYN_LOOPL_SETTLE (L : Nat) : Nat := 0x60108 + 0x10 * L
def SYN_LOOPL_PERR (L : Nat) : Nat := 0x6010C + 0x10 * L

/-! 06_clock_synthesis.md, R178. -/
def SYN_BANDk_LO (k : Nat) : Nat := 0x61000 + 8 * k
def SYN_BANDk_HI (k : Nat) : Nat := 0x61004 + 8 * k

/-! 06_clock_synthesis.md, R179. -/
def SYN_CLKOUTk_CFG (k : Nat) : Nat := 0x60400 + 0x20 * k
def SYN_CLKOUTk_CTL (k : Nat) : Nat := 0x60404 + 0x20 * k
def SYN_CLKOUTk_OFS (k : Nat) : Nat := 0x60408 + 0x20 * k
def SYN_CLKOUTk_CAL (k : Nat) : Nat := 0x6040C + 0x20 * k
def SYN_CLKOUTk_DIV (k : Nat) : Nat := 0x60410 + 0x20 * k
def SYN_CLKOUTk_NINT (k : Nat) : Nat := 0x60414 + 0x20 * k
def SYN_CLKOUTk_NFRAC (k : Nat) : Nat := 0x60418 + 0x20 * k
def SYN_PPSk_CFG (k : Nat) : Nat := 0x60600 + 0x10 * k
def SYN_PPSk_OFS (k : Nat) : Nat := 0x60604 + 0x10 * k
def SYN_PPSk_CAL (k : Nat) : Nat := 0x60608 + 0x10 * k

/-! 07_domain_crossings.md, R193. -/
def XDC_CFG : Nat := 0x70000
def XDC_RUN_CORE : Nat := 0x70004
def XDC_RUN_TX : Nat := 0x70008
def XDC_RUN_RX : Nat := 0x7000C
def XDC_STOP_HIST_CORE : Nat := 0x70010
def XDC_STOP_HIST_TX : Nat := 0x70014
def XDC_STOP_HIST_RX : Nat := 0x70018
def XDC_MERGE_SEL : Nat := 0x70020
def XDC_MERGE_VAL : Nat := 0x70024
def XDC_MERGE_CLR : Nat := 0x70028
def XDC_MERGE_NZ (w : Nat) : Nat := 0x70040 + 4 * w
def XDC_FLUSH_CNT : Nat := 0x70060

/-! 08_ports_and_macs.md, R219. -/
def PRT_x_CFG (x : Nat) : Nat := 0x80000 + 0xc00 * x
def PRT_x_MAXLEN (x : Nat) : Nat := 0x80004 + 0xc00 * x
def PRT_x_ADDR (x : Nat) : Nat := 0x80008 + 0xc00 * x
def PRT_x_STAT (x : Nat) : Nat := 0x80010 + 0xc00 * x
def PRT_x_TXSTART (x : Nat) : Nat := 0x80014 + 0xc00 * x
def PRT_x_FILT_CFG (x : Nat) : Nat := 0x80018 + 0xc00 * x
def PRT_x_TIMERS (x : Nat) : Nat := 0x8001C + 0xc00 * x
def PRT_x_CMD (x : Nat) : Nat := 0x80020 + 0xc00 * x
def PRT_x_AN_STAT (x : Nat) : Nat := 0x80024 + 0xc00 * x
def PRT_x_GRPg (x g : Nat) : Nat := 0x80100 + 0xc00 * x + 8 * g
def PRT_x_RXQq_CFG (x q : Nat) : Nat := 0x80300 + 0xc00 * x + 4 * q
def PRT_x_TXCc_CFG (x c : Nat) : Nat := 0x80340 + 0xc00 * x + 8 * c
def PRT_x_TXCc_RATE (x c : Nat) : Nat := 0x80344 + 0xc00 * x + 8 * c

/-! 08_ports_and_macs.md, R220. -/
def PRT_x_RULEr_CTL (x r : Nat) : Nat := 0x80200 + 0xc00 * x + 0x10 * r
def PRT_x_RULEr_VID (x r : Nat) : Nat := 0x80204 + 0xc00 * x + 0x10 * r
def PRT_x_RULEr_GRP (x r : Nat) : Nat := 0x80208 + 0xc00 * x + 0x10 * r
def PRT_x_RULEr_HITS (x r : Nat) : Nat := 0x8020C + 0xc00 * x + 0x10 * r

/-! 08_ports_and_macs.md, R221. -/
def PRT_x_RX_FRAMES (x : Nat) : Nat := 0x80400 + 0xc00 * x
def PRT_x_RX_BYTES (x : Nat) : Nat := 0x80408 + 0xc00 * x
def PRT_x_RX_RUNT (x : Nat) : Nat := 0x80410 + 0xc00 * x
def PRT_x_RX_OVERSIZE (x : Nat) : Nat := 0x80418 + 0xc00 * x
def PRT_x_RX_FCS_ERR (x : Nat) : Nat := 0x80420 + 0xc00 * x
def PRT_x_RX_FILTER_DROP (x : Nat) : Nat := 0x80428 + 0xc00 * x
def PRT_x_RX_QFULL_DROP (x : Nat) : Nat := 0x80430 + 0xc00 * x
def PRT_x_RX_PAUSE (x : Nat) : Nat := 0x80438 + 0xc00 * x
def PRT_x_RX_PFC (x : Nat) : Nat := 0x80440 + 0xc00 * x
def PRT_x_TX_FRAMES (x : Nat) : Nat := 0x80448 + 0xc00 * x
def PRT_x_TX_BYTES (x : Nat) : Nat := 0x80450 + 0xc00 * x
def PRT_x_TX_UNDERRUN (x : Nat) : Nat := 0x80458 + 0xc00 * x
def PRT_x_TX_REFUSED (x : Nat) : Nat := 0x80460 + 0xc00 * x
def PRT_x_TX_PINNED_SQUASH (x : Nat) : Nat := 0x80468 + 0xc00 * x
def PRT_x_FEC_CORR (x : Nat) : Nat := 0x80470 + 0xc00 * x
def PRT_x_FEC_UNCORR (x : Nat) : Nat := 0x80478 + 0xc00 * x
def PRT_x_PCS_ERR (x : Nat) : Nat := 0x80480 + 0xc00 * x
def PRT_x_LINK_DOWN (x : Nat) : Nat := 0x80488 + 0xc00 * x
def PRT_x_PAUSE_NS (x : Nat) : Nat := 0x80490 + 0xc00 * x

/-! 08_ports_and_macs.md, R222. -/
def PRT_LINK_UP : Nat := 0x8F000
def PRT_PAUSED : Nat := 0x8F004
def PRT_GATED : Nat := 0x8F008

/-! 09_timestamping_and_launch.md, R243. -/
def TSU_x_CFG (x : Nat) : Nat := 0x91000 + 0x100 * x
def TSU_x_CAL_TX (x : Nat) : Nat := 0x91004 + 0x100 * x
def TSU_x_CAL_RX (x : Nat) : Nat := 0x91008 + 0x100 * x
def TSU_x_DPATH (x : Nat) : Nat := 0x9100C + 0x100 * x
def TSU_x_GUARD (x : Nat) : Nat := 0x91010 + 0x100 * x
def TSU_x_RSV (x : Nat) : Nat := 0x91014 + 0x100 * x
def TSU_x_PHASE_RES (x : Nat) : Nat := 0x91020 + 0x100 * x
def TSU_x_PHASE (x w : Nat) : Nat := 0x91024 + 0x100 * x + 4 * w
def TSU_x_SKEW (x w : Nat) : Nat := 0x91030 + 0x100 * x + 4 * w
def TSU_x_COMMITTED (x : Nat) : Nat := 0x91040 + 0x100 * x
def TSU_x_SQ_MISSED (x : Nat) : Nat := 0x91044 + 0x100 * x
def TSU_x_SQ_CANCEL (x : Nat) : Nat := 0x91048 + 0x100 * x
def TSU_x_SQ_LINK (x : Nat) : Nat := 0x9104C + 0x100 * x
def TSU_x_SQ_PAUSE (x : Nat) : Nat := 0x91050 + 0x100 * x
def TSU_x_SQ_HANDOVER (x : Nat) : Nat := 0x91054 + 0x100 * x
def TSU_x_SQ_PHASE (x : Nat) : Nat := 0x91058 + 0x100 * x
def TSU_x_SQ_STEP (x : Nat) : Nat := 0x9105C + 0x100 * x
def TSU_x_SQ_GUARDRAIL (x : Nat) : Nat := 0x91060 + 0x100 * x
def TSU_x_MISMATCH (x : Nat) : Nat := 0x91064 + 0x100 * x
def TSU_x_RX_STAMPS (x : Nat) : Nat := 0x91068 + 0x100 * x
def TSU_x_TX_STAMPS (x : Nat) : Nat := 0x9106C + 0x100 * x

/-! 09_timestamping_and_launch.md, R244. -/
def TSU_STAT : Nat := 0x90000

/-! 09_timestamping_and_launch.md, R245. -/
def TRG_k_CFG (k : Nat) : Nat := 0x150100 + 0x40 * k
def TRG_k_CAL (k : Nat) : Nat := 0x150104 + 0x40 * k
def TRG_k_AT (k w : Nat) : Nat := 0x150108 + 0x40 * k + 4 * w
def TRG_k_WIDTH (k : Nat) : Nat := 0x150114 + 0x40 * k
def TRG_k_PERIOD (k : Nat) : Nat := 0x150118 + 0x40 * k
def TRG_k_COUNT (k : Nat) : Nat := 0x150120 + 0x40 * k
def TRG_k_CMD (k : Nat) : Nat := 0x150124 + 0x40 * k
def TRG_k_RES (k : Nat) : Nat := 0x150128 + 0x40 * k
def TRG_k_STAT (k : Nat) : Nat := 0x15012C + 0x40 * k
def TRG_k_FIRED (k : Nat) : Nat := 0x150130 + 0x40 * k
def TRG_k_SKIPPED (k : Nat) : Nat := 0x150134 + 0x40 * k

/-! 10_service_engines.md, R274. -/
def SVC_STAT : Nat := 0xA0000
def SVC_CFG : Nat := 0xA0004
def SVC_LEDGER_HWM : Nat := 0xA0008
def SVC_ENG_RUN : Nat := 0xA000C
def SVC_ENG_OFFLINE : Nat := 0xA0010
def SVC_CMD : Nat := 0xA0014
def SVC_JNL_BASE : Nat := 0xA0020
def SVC_JNL_SIZE : Nat := 0xA0028
def SVC_JNL_STAT : Nat := 0xA002C
def SVC_JNL_POP : Nat := 0xA0030
def SVC_JNL_PEEK (w : Nat) : Nat := 0xA0040 + 4 * w
def SVC_REFIDn (n : Nat) : Nat := 0xA0080 + 4 * n

/-! 10_service_engines.md, R276. -/
def SVC_GMi_CFG (i : Nat) : Nat := 0xA0200 + 0x10 * i
def SVC_GMi_RATE (i : Nat) : Nat := 0xA0204 + 0x10 * i
def SVC_GMi_QUAL (i : Nat) : Nat := 0xA0208 + 0x10 * i
def SVC_GMi_VAR (i : Nat) : Nat := 0xA020C + 0x10 * i

/-! 10_service_engines.md, R277. -/
def SVC_SEn_STAT (n : Nat) : Nat := 0xA1000 + 0x20 * n
def SVC_SEn_FAULT_PC (n : Nat) : Nat := 0xA1004 + 0x20 * n
def SVC_SEn_FAULT_ADDR (n : Nat) : Nat := 0xA1008 + 0x20 * n
def SVC_SEn_CMD (n : Nat) : Nat := 0xA100C + 0x20 * n
def SVC_SEn_DONE (n : Nat) : Nat := 0xA1010 + 0x20 * n

/-! 11_client_state.md, R294. -/
def LDR_STAT : Nat := 0xB0000
def LDR_CFG : Nat := 0xB0004
def LDR_BASE : Nat := 0xB0008
def LDR_AGE : Nat := 0xB0010
def LDR_DEF_CLASS : Nat := 0xB0014
def LDR_LIVE : Nat := 0xB0018
def LDR_PINNED : Nat := 0xB001C
def LDR_GRANTS : Nat := 0xB0020
def LDR_CMD : Nat := 0xB0024
def LDR_RCLASSc (c : Nat) : Nat := 0xB0040 + 4 * c
def LDR_Q_ADDR (w : Nat) : Nat := 0xB0100 + 4 * w
def LDR_Q_CMD : Nat := 0xB0110
def LDR_QRES : Nat := 0xB0114
def LDR_QRES_INDEX : Nat := 0xB0118
def LDR_QREC (w : Nat) : Nat := 0xB0120 + 4 * w

/-! 12_keys_and_authentication.md, R327. -/
def KEY_STAT : Nat := 0xC0000
def KEY_CFG : Nat := 0xC0004
def KEY_CMD : Nat := 0xC0008
def KEY_RES : Nat := 0xC000C
def KEY_RES_HANDLE : Nat := 0xC0010
def KEY_CTL : Nat := 0xC0014
def KEY_ARG (w : Nat) : Nat := 0xC0020 + 4 * w
def KEY_WRAP (w : Nat) : Nat := 0xC0040 + 4 * w
def KEY_SLOT_SEL : Nat := 0xC0080
def KEY_SLOT_INFO (w : Nat) : Nat := 0xC0084 + 4 * w
def KEY_SLOT_INFO7 : Nat := 0xC00A0
def KEY_SLOT_USES : Nat := 0xC00A4
def KEY_TAMPER_CFG : Nat := 0xC00C0
def KEY_TAMPER_STAT : Nat := 0xC00C4
def KEY_TAMPER_SEC : Nat := 0xC00C8
def KEY_CKf_CFG (f : Nat) : Nat := 0xC0100 + 0x10 * f
def KEY_CKf_ID (f : Nat) : Nat := 0xC0104 + 0x10 * f
def KEY_TWVk_CFG (k : Nat) : Nat := 0xC0200 + 0x10 * k
def KEY_TWVk_HIGH (k : Nat) : Nat := 0xC0204 + 0x10 * k

/-! 13_time_interval_measurement.md, R353. -/
def TIC_STAT : Nat := 0xD0000
def TIC_CFG : Nat := 0xD0004
def TIC_EXP_ID : Nat := 0xD0008
def TIC_EXP_DA : Nat := 0xD000C
def TIC_CAL_CFG : Nat := 0xD0014
def TIC_LOOP_SEL : Nat := 0xD0018
def TIC_CMD : Nat := 0xD001C
def TIC_WIT_RES : Nat := 0xD0020
def TIC_WIT_OFS : Nat := 0xD0024
def TIC_FQ_POP : Nat := 0xD0030
def TIC_FQ_PEEK : Nat := 0xD0034
def TIC_FQ_PEEK_Y : Nat := 0xD0038
def TIC_FQ_STAT : Nat := 0xD0040
def TIC_EXP_FRAMES : Nat := 0xD0044
def TIC_EXP_RESENT : Nat := 0xD0048

/-! 13_time_interval_measurement.md, R354. -/
def TIC_CHn_CFG (n : Nat) : Nat := 0xD1000 + 0x80 * n
def TIC_CHn_DIV (n : Nat) : Nat := 0xD1004 + 0x80 * n
def TIC_CHn_CAL (n : Nat) : Nat := 0xD1008 + 0x80 * n
def TIC_CHn_WLO (n : Nat) : Nat := 0xD100C + 0x80 * n
def TIC_CHn_WHI (n : Nat) : Nat := 0xD1010 + 0x80 * n
def TIC_CHn_GATE (n : Nat) : Nat := 0xD1014 + 0x80 * n
def TIC_CHn_FNOM (n : Nat) : Nat := 0xD1018 + 0x80 * n
def TIC_CHn_RING_BASE (n : Nat) : Nat := 0xD101C + 0x80 * n
def TIC_CHn_RING_SIZE (n : Nat) : Nat := 0xD1024 + 0x80 * n
def TIC_CHn_RING_WR (n : Nat) : Nat := 0xD1028 + 0x80 * n
def TIC_CHn_RING_RD (n : Nat) : Nat := 0xD102C + 0x80 * n
def TIC_CHn_STAT (n : Nat) : Nat := 0xD1030 + 0x80 * n
def TIC_CHn_LAST (n : Nat) : Nat := 0xD1034 + 0x80 * n
def TIC_CHn_LAST_T (n w : Nat) : Nat := 0xD1038 + 0x80 * n + 4 * w
def TIC_CHn_FQ_RES (n : Nat) : Nat := 0xD1044 + 0x80 * n
def TIC_CHn_FQ_EDGES (n : Nat) : Nat := 0xD1048 + 0x80 * n
def TIC_CHn_FQ_Y (n : Nat) : Nat := 0xD104C + 0x80 * n
def TIC_CHn_FQ_SPAN (n : Nat) : Nat := 0xD1054 + 0x80 * n
def TIC_CHn_IV_RES (n : Nat) : Nat := 0xD105C + 0x80 * n
def TIC_CHn_IV (n : Nat) : Nat := 0xD1060 + 0x80 * n
def TIC_CHn_ACCEPTED (n : Nat) : Nat := 0xD1068 + 0x80 * n
def TIC_CHn_LOST_DEAD (n : Nat) : Nat := 0xD106C + 0x80 * n
def TIC_CHn_LOST_BURST (n : Nat) : Nat := 0xD1070 + 0x80 * n
def TIC_CHn_LOST_QFULL (n : Nat) : Nat := 0xD1074 + 0x80 * n
def TIC_CHn_LOST_BASE (n : Nat) : Nat := 0xD1078 + 0x80 * n
def TIC_CHn_CMD (n : Nat) : Nat := 0xD107C + 0x80 * n

/-! 14_gnss_baseband.md, R381. -/
def GNS_STAT : Nat := 0xE0000
def GNS_CFG : Nat := 0xE0004
def GNS_FE_L1_CFG : Nat := 0xE0008
def GNS_FE_L5_CFG : Nat := 0xE0010
def GNS_FE_L1_IF : Nat := 0xE000C
def GNS_FE_L5_IF : Nat := 0xE0014
def GNS_FE_DELAY_L1 : Nat := 0xE0018
def GNS_FE_DELAY_L5 : Nat := 0xE001C
def GNS_ANT_DELAY : Nat := 0xE0020
def GNS_UNC : Nat := 0xE0024
def GNS_EPOCH_CFG : Nat := 0xE0028
def GNS_SURVEY_CFG : Nat := 0xE002C
def GNS_POS_X : Nat := 0xE0030
def GNS_POS_Y : Nat := 0xE0038
def GNS_POS_Z : Nat := 0xE0040
def GNS_POS_U : Nat := 0xE0048
def GNS_SLEEP_CFG : Nat := 0xE004C
def GNS_CMD : Nat := 0xE0050
def GNS_QL : Nat := 0xE0054
def GNS_LEVEL : Nat := 0xE0058
def GNS_SOL_RES : Nat := 0xE0060
def GNS_SOL_OFS : Nat := 0xE0064
def GNS_SOL_B : Nat := 0xE006C
def GNS_SAW_RES : Nat := 0xE0074
def GNS_SAW_SEC : Nat := 0xE0078
def GNS_SAW_Q : Nat := 0xE007C
def GNS_EPOCH_RES : Nat := 0xE0080
def GNS_EPOCH_T (w : Nat) : Nat := 0xE0084 + 4 * w
def GNS_UTC : Nat := 0xE0090

/-! 14_gnss_baseband.md, R382. -/
def GNS_CHc_STAT (c : Nat) : Nat := 0xE1000 + 4 * c

/-! 15_distribution_links.md, R399. -/
def DST_STAT : Nat := 0xF0000
def DST_DEPTH : Nat := 0xF0004
def DST_SUBTYPE : Nat := 0xF0008
def DST_TFWD_AT (w : Nat) : Nat := 0xF0010 + 4 * w
def DST_TFWD_WIDTH : Nat := 0xF001C
def DST_TFWD_PERIOD : Nat := 0xF0020
def DST_TFWD_COUNT : Nat := 0xF0028
def DST_TFWD_CTL : Nat := 0xF002C
def DST_TFWD_CMD : Nat := 0xF0030
def DST_TFWD_RES : Nat := 0xF0034
def DST_TFWD_ACK : Nat := 0xF0038
def DST_TFWD_CAUSE : Nat := 0xF003C

/-! 15_distribution_links.md, R400. -/
def DST_LINKd_CFG (d : Nat) : Nat := 0xF0100 + 0x80 * d
def DST_LINKd_KEY (d : Nat) : Nat := 0xF0104 + 0x80 * d
def DST_LINKd_FIX_MS (d : Nat) : Nat := 0xF0108 + 0x80 * d
def DST_LINKd_FIX_SM (d : Nat) : Nat := 0xF010C + 0x80 * d
def DST_LINKd_ALPHA (d : Nat) : Nat := 0xF0110 + 0x80 * d
def DST_LINKd_KT (d : Nat) : Nat := 0xF0114 + 0x80 * d
def DST_LINKd_TCAL (d : Nat) : Nat := 0xF0118 + 0x80 * d
def DST_LINKd_UFIX (d : Nat) : Nat := 0xF011C + 0x80 * d
def DST_LINKd_UALPHA (d : Nat) : Nat := 0xF0120 + 0x80 * d
def DST_LINKd_UK (d : Nat) : Nat := 0xF0124 + 0x80 * d
def DST_LINKd_TRACK (d : Nat) : Nat := 0xF0128 + 0x80 * d
def DST_LINKd_STAT (d : Nat) : Nat := 0xF012C + 0x80 * d
def DST_LINKd_RES (d : Nat) : Nat := 0xF0130 + 0x80 * d
def DST_LINKd_RTT (d : Nat) : Nat := 0xF0134 + 0x80 * d
def DST_LINKd_DMS (d : Nat) : Nat := 0xF013C + 0x80 * d
def DST_LINKd_OFS (d : Nat) : Nat := 0xF0144 + 0x80 * d
def DST_LINKd_BLINK (d : Nat) : Nat := 0xF014C + 0x80 * d
def DST_LINKd_TEMP (d : Nat) : Nat := 0xF0154 + 0x80 * d
def DST_LINKd_EXCH (d : Nat) : Nat := 0xF0158 + 0x80 * d
def DST_LINKd_AUTH_FAIL (d : Nat) : Nat := 0xF015C + 0x80 * d

/-! 16_pair_redundancy.md, R420. -/
def PAR_STAT : Nat := 0x100000
def PAR_CFG : Nat := 0x100004
def PAR_TIMERS : Nat := 0x100008
def PAR_HOLDS : Nat := 0x10000C
def PAR_ETYPE : Nat := 0x100010
def PAR_KEY : Nat := 0x100014
def PAR_FIX_AS : Nat := 0x100018
def PAR_FIX_SA : Nat := 0x10001C
def PAR_SERIAL : Nat := 0x100020
def PAR_PEER_SERIAL : Nat := 0x100028
def PAR_CMD : Nat := 0x100030
def PAR_GEN_SEALED : Nat := 0x100040
def PAR_GEN_COMMIT : Nat := 0x100044
def PAR_VINT_RES : Nat := 0x100048
def PAR_VINT_T (w : Nat) : Nat := 0x10004C + 4 * w
def PAR_OFS : Nat := 0x100058
def PAR_TO_RES : Nat := 0x100060
def PAR_TO_GEN : Nat := 0x100064
def PAR_SENT : Nat := 0x100070
def PAR_DISCARDED : Nat := 0x100074
def PAR_RECORDS : Nat := 0x100078
def PAR_COPY_DROP : Nat := 0x10007C
def PAR_STAGE_BASE : Nat := 0x100080
def PAR_LOG_BASE : Nat := 0x100088

/-! 17_memory_integrity.md, R434. -/
def MEM_STAT : Nat := 0x110000
def MEM_SCRUB : Nat := 0x110004
def MEM_CFG : Nat := 0x110008
def MEM_SPARE : Nat := 0x11000C
def MEM_SPARE_BASE : Nat := 0x110010
def MEM_FILL_WM : Nat := 0x110018
def MEM_LAST_RES : Nat := 0x110020
def MEM_LAST_ADDR : Nat := 0x110024
def MEM_DRAM_CORR : Nat := 0x110040
def MEM_SRAM_CORR : Nat := 0x110044
def MEM_DRAM_UNCORR : Nat := 0x110048
def MEM_SRAM_UNCORR : Nat := 0x11004C
def MEM_STICKY : Nat := 0x110050
def MEM_RETIRED : Nat := 0x110054
def MEM_REMAPPED : Nat := 0x110058
def MEM_TRACK_EVICT : Nat := 0x11005C
def MEM_VIRGIN_READS : Nat := 0x110060
def MEM_RAW_SEL : Nat := 0x110100
def MEM_RAW_ADDR : Nat := 0x110104
def MEM_RAW_DATA (w : Nat) : Nat := 0x110110 + 4 * w
def MEM_RAW_CHECK : Nat := 0x110120
def MEM_RAW_CMD : Nat := 0x110124
def MEM_RAW_RES : Nat := 0x110128
def MEM_DEVp_CORR (p : Nat) : Nat := 0x110200 + 4 * p

/-! 18_management_plane.md, R461. -/
def MGT_BOOT : Nat := 0x100
def MGT_IMAGE_SERIAL : Nat := 0x104
def MGT_ROLLBACK : Nat := 0x108
def MGT_LOAD_MS : Nat := 0x10C
def MGT_CORE_STAT : Nat := 0x110
def MGT_WDOG : Nat := 0x114
def MGT_WDOG_CFG : Nat := 0x118
def MGT_SPI_CFG : Nat := 0x120
def MGT_SPI_STAT : Nat := 0x124
def MGT_TWV_CFG : Nat := 0x130
def MGT_TWV_STAT : Nat := 0x134
def MGT_TWV_BUSY : Nat := 0x138
def MGT_TWVk_OPS (k : Nat) : Nat := 0x140 + 4 * k
def MGT_UART_TX : Nat := 0x160
def MGT_UART_RX_POP : Nat := 0x164
def MGT_UART_RX_PEEK : Nat := 0x168
def MGT_UART_STAT : Nat := 0x16C
def MGT_STAGE_RES : Nat := 0x170
def MGT_STAGE_TICK_MGT : Nat := 0x174
def MGT_STAGE_TICK_TWV : Nat := 0x178
def MGT_STAGE_TICK_SPI : Nat := 0x17C
def MGT_REGIONr_BASE (r : Nat) : Nat := 0x200 + 0x10 * r
def MGT_REGIONr_SIZE (r : Nat) : Nat := 0x208 + 0x10 * r
def MGT_REGIONr_OWNER (r : Nat) : Nat := 0x20C + 0x10 * r

/-! 18_management_plane.md, R462. -/
def EVT_STAT : Nat := 0x10000
def EVT_CFG : Nat := 0x10004
def EVT_LOG_BASE : Nat := 0x10008
def EVT_LOG_SIZE : Nat := 0x10010
def EVT_LOG_WR : Nat := 0x10014
def EVT_LOG_RD : Nat := 0x10018
def EVT_POP : Nat := 0x10020
def EVT_PEEK (w : Nat) : Nat := 0x10030 + 4 * w
def EVT_LOSTb (b : Nat) : Nat := 0x10040 + 4 * b
def EVT_IRQn_MASK (n w : Nat) : Nat := 0x10100 + 0x40 * n + 4 * w
def EVT_IRQn_PEND (n w : Nat) : Nat := 0x10120 + 0x40 * n + 4 * w

/-! 19_start_sleep_ageing.md, R477. -/
def CLR_STAT : Nat := 0x120000
def CLR_CFG : Nat := 0x120004
def CLR_CMD : Nat := 0x120008
def CLR_WAKE_AT : Nat := 0x12000C
def CLR_SEC : Nat := 0x120010
def CLR_SNAP_BASE : Nat := 0x120018
def CLR_LAST_WAKE : Nat := 0x120020
def CLR_RESULT : Nat := 0x120024
def CLR_ACCk (k : Nat) : Nat := 0x120100 + 0x20 * k
def CLR_RESk (k : Nat) : Nat := 0x120108 + 0x20 * k
def CLR_DROPk (k : Nat) : Nat := 0x120110 + 0x20 * k

/-! 19_start_sleep_ageing.md, R478. -/
def AGE_STAT : Nat := 0x130000
def AGE_CFG : Nat := 0x130004
def AGE_REF : Nat := 0x130008
def AGE_TJ : Nat := 0x13000C
def AGE_PDM : Nat := 0x130010
def AGE_TIC_DRIFT : Nat := 0x130014
def AGE_TSU_MOVE : Nat := 0x130018
def AGE_EQ_HOURS : Nat := 0x13001C
def AGE_AVS : Nat := 0x130020
def AGE_PLAN_RES : Nat := 0x130024

/-! 20_fault_injection.md, R485. -/
def INJ_CFG : Nat := 0x140000
def INJ_STAT : Nat := 0x140004
def INJ_CMD : Nat := 0x140010
def INJ_ARG0 : Nat := 0x140014
def INJ_ARG1 : Nat := 0x140018
def INJ_AT (w : Nat) : Nat := 0x14001C + 4 * w
def INJ_RES : Nat := 0x140030
def INJ_FIRE_T (w : Nat) : Nat := 0x140034 + 4 * w
def INJ_FIRED : Nat := 0x140040

/-! 10_service_engines.md, R275. -/
def SVC_CNT (w : Nat) : Nat := 0xA0400 + 4 * w

/-! 11_client_state.md, R295. -/
def LDR_CNT (w : Nat) : Nat := 0xB0400 + 4 * w

/-! 12_keys_and_authentication.md, R328. -/
def KEY_CNT (w : Nat) : Nat := 0xC0400 + 4 * w

/-! 10_service_engines.md, R275. -/
def SVC_CAUSE (w : Nat) : Nat := 0xA0500 + 4 * w
def SVC_REASON (w : Nat) : Nat := 0xA0540 + 4 * w

end A

namespace F


/-! 00_scope.md, R2. -/
def ID_VENDOR_VENDOR : Fld := ⟨A.ID_VENDOR, 31, 0⟩
def ID_PART_PART : Fld := ⟨A.ID_PART, 31, 0⟩
def ID_REV_MAJOR : Fld := ⟨A.ID_REV, 7, 4⟩
def ID_REV_MINOR : Fld := ⟨A.ID_REV, 3, 0⟩

/-! 02_keepers_and_voting.md, R72. -/
def KPR_STAT_MEMBER : Fld := ⟨A.KPR_STAT, 2, 0⟩
def KPR_STAT_LOCKED : Fld := ⟨A.KPR_STAT, 6, 4⟩
def KPR_STAT_VSTATE : Fld := ⟨A.KPR_STAT, 10, 8⟩
def KPR_STAT_OUT_GATED : Fld := ⟨A.KPR_STAT, 12, 12⟩
def KPR_STAT_UNBOUNDED : Fld := ⟨A.KPR_STAT, 13, 13⟩
def KPR_STAT_UNJUDGED : Fld := ⟨A.KPR_STAT, 14, 14⟩
def KPR_STAT_TSRC : Fld := ⟨A.KPR_STAT, 17, 16⟩
def KPR_VOTE_CFG_VOTE_LIMIT : Fld := ⟨A.KPR_VOTE_CFG, 15, 0⟩
def KPR_VOTE_CFG_PERSIST : Fld := ⟨A.KPR_VOTE_CFG, 19, 16⟩
def KPR_REJOIN_CFG_REJOIN_HOLD : Fld := ⟨A.KPR_REJOIN_CFG, 23, 0⟩
def KPR_REJOIN_CFG_AUTO_REJOIN : Fld := ⟨A.KPR_REJOIN_CFG, 26, 24⟩
def KPR_TRIM_CFG_TRIM_BW : Fld := ⟨A.KPR_TRIM_CFG, 2, 0⟩
def KPR_SNAP_CMD_TAKE : Fld := ⟨A.KPR_SNAP_CMD, 0, 0⟩
def KPR_SNAP_STAT_VALID : Fld := ⟨A.KPR_SNAP_STAT, 0, 0⟩
def KPR_SNAP_STAT_SEQ : Fld := ⟨A.KPR_SNAP_STAT, 15, 8⟩
def KPR_SNAP_STAT_MEMBER : Fld := ⟨A.KPR_SNAP_STAT, 18, 16⟩
def KPR_SNAP_STAT_VSTATE : Fld := ⟨A.KPR_SNAP_STAT, 22, 20⟩
def KPR_SNAP_VT_KT96 (w : Nat) : Fld := ⟨A.KPR_SNAP_VT w, 31, 0⟩
def KPR_SNAP_A_KT96 (w : Nat) : Fld := ⟨A.KPR_SNAP_A w, 31, 0⟩
def KPR_SNAP_B_KT96 (w : Nat) : Fld := ⟨A.KPR_SNAP_B w, 31, 0⟩
def KPR_SNAP_C_KT96 (w : Nat) : Fld := ⟨A.KPR_SNAP_C w, 31, 0⟩
def KPR_SNAP_OFS_OFS (w : Nat) : Fld := ⟨A.KPR_SNAP_OFS w, 31, 0⟩
def KPR_VT_KT96 (w : Nat) : Fld := ⟨A.KPR_VT w, 31, 0⟩
def KPR_UTC_STAT_OFFSET : Fld := ⟨A.KPR_UTC_STAT, 15, 0⟩
def KPR_UTC_STAT_PENDING : Fld := ⟨A.KPR_UTC_STAT, 16, 16⟩
def KPR_UTC_STAT_DIR : Fld := ⟨A.KPR_UTC_STAT, 17, 17⟩
def KPR_UTC_STAT_LEAP_DAY : Fld := ⟨A.KPR_UTC_STAT, 18, 18⟩
def KPR_UTC_STAT_LEAP_HALF : Fld := ⟨A.KPR_UTC_STAT, 19, 19⟩
def KPR_LEAP_SEC_LO_M_LO : Fld := ⟨A.KPR_LEAP_SEC_LO, 31, 0⟩
def KPR_LEAP_SEC_HI_M_HI : Fld := ⟨A.KPR_LEAP_SEC_HI, 15, 0⟩
def KPR_LEAP_SEC_HI_DIR : Fld := ⟨A.KPR_LEAP_SEC_HI, 16, 16⟩
def KPR_LEAP_CMD_ARM : Fld := ⟨A.KPR_LEAP_CMD, 0, 0⟩
def KPR_LEAP_CMD_CANCEL : Fld := ⟨A.KPR_LEAP_CMD, 1, 1⟩

/-! 02_keepers_and_voting.md, R73. -/
def KPR_x_STAT_IN_VOTE (x : Nat) : Fld := ⟨A.KPR_x_STAT x, 0, 0⟩
def KPR_x_STAT_LOCKED (x : Nat) : Fld := ⟨A.KPR_x_STAT x, 1, 1⟩
def KPR_x_STAT_MSTATE (x : Nat) : Fld := ⟨A.KPR_x_STAT x, 3, 2⟩
def KPR_x_STAT_CAUSE (x : Nat) : Fld := ⟨A.KPR_x_STAT x, 7, 4⟩
def KPR_x_STAT_LEAVES (x : Nat) : Fld := ⟨A.KPR_x_STAT x, 15, 8⟩
def KPR_x_STAT_FAILS (x : Nat) : Fld := ⟨A.KPR_x_STAT x, 20, 16⟩
def KPR_x_STAT_OSC (x : Nat) : Fld := ⟨A.KPR_x_STAT x, 22, 21⟩
def KPR_x_STAT_TRIM_SAT (x : Nat) : Fld := ⟨A.KPR_x_STAT x, 23, 23⟩
def KPR_x_OFS_OFS (x : Nat) : Fld := ⟨A.KPR_x_OFS x, 31, 0⟩
def KPR_x_TIME_KT96 (x w : Nat) : Fld := ⟨A.KPR_x_TIME x w, 31, 0⟩
def KPR_x_CMD_REMOVE (x : Nat) : Fld := ⟨A.KPR_x_CMD x, 0, 0⟩
def KPR_x_CMD_REJOIN (x : Nat) : Fld := ⟨A.KPR_x_CMD x, 1, 1⟩

/-! 03_error_bound.md, R95. -/
def BND_STAT_STATE_A : Fld := ⟨A.BND_STAT, 1, 0⟩
def BND_STAT_STATE_B : Fld := ⟨A.BND_STAT, 3, 2⟩
def BND_STAT_STATE_C : Fld := ⟨A.BND_STAT, 5, 4⟩
def BND_STAT_BELOW_SERVICE : Fld := ⟨A.BND_STAT, 6, 6⟩
def BND_STAT_ABOVE_HOLD : Fld := ⟨A.BND_STAT, 7, 7⟩
def BND_STAT_EPOCH : Fld := ⟨A.BND_STAT, 15, 8⟩
def BND_CFG_NTP_EF : Fld := ⟨A.BND_CFG, 0, 0⟩
def BND_CFG_NTP_EF_UNAUTH : Fld := ⟨A.BND_CFG, 1, 1⟩
def BND_CFG_PTP_TLV : Fld := ⟨A.BND_CFG, 2, 2⟩
def BND_CFG_ANNOUNCE_ACC : Fld := ⟨A.BND_CFG, 3, 3⟩
def BND_NTP_EF_TYPE_TYPE : Fld := ⟨A.BND_NTP_EF_TYPE, 15, 0⟩
def BND_PTP_ORG_ORG : Fld := ⟨A.BND_PTP_ORG, 23, 0⟩
def BND_PTP_SUBTYPE_SUB : Fld := ⟨A.BND_PTP_SUBTYPE, 23, 0⟩
def BND_SAMPLE_TIMEOUT_TICKS : Fld := ⟨A.BND_SAMPLE_TIMEOUT, 15, 0⟩
def BND_C1_FLOOR_C1 : Fld := ⟨A.BND_C1_FLOOR, 31, 0⟩
def BND_C2_FLOOR_C2 : Fld := ⟨A.BND_C2_FLOOR, 31, 0⟩
def BND_EPOCH_EPOCH : Fld := ⟨A.BND_EPOCH, 31, 0⟩
def BND_TRACE_SIZE_LOG2 : Fld := ⟨A.BND_TRACE_SIZE, 4, 0⟩
def BND_TRACE_STAT_WR : Fld := ⟨A.BND_TRACE_STAT, 19, 0⟩
def BND_TRACE_STAT_OVR : Fld := ⟨A.BND_TRACE_STAT, 27, 20⟩
def BND_TRACE_STAT_DISC : Fld := ⟨A.BND_TRACE_STAT, 31, 28⟩
def BND_TRACE_POP_EMPTY : Fld := ⟨A.BND_TRACE_POP, 0, 0⟩
def BND_TRACE_POP_COUNT : Fld := ⟨A.BND_TRACE_POP, 7, 1⟩
def BND_TRACE_POP_SEQ : Fld := ⟨A.BND_TRACE_POP, 31, 8⟩
def BND_TRACE_PEEK_REC (w : Nat) : Fld := ⟨A.BND_TRACE_PEEK w, 31, 0⟩

/-! 03_error_bound.md, R98. -/
def BND_QUERY_T_KT96 (w : Nat) : Fld := ⟨A.BND_QUERY_T w, 31, 0⟩
def BND_QUERY_CMD_PORT : Fld := ⟨A.BND_QUERY_CMD, 4, 0⟩
def BND_QUERY_CMD_GO : Fld := ⟨A.BND_QUERY_CMD, 8, 8⟩
def BND_QRES_VALID : Fld := ⟨A.BND_QRES, 0, 0⟩
def BND_QRES_SEQ : Fld := ⟨A.BND_QRES, 15, 8⟩
def BND_QRES_EB8 : Fld := ⟨A.BND_QRES, 23, 16⟩
def BND_QRES_FLAGS : Fld := ⟨A.BND_QRES, 29, 24⟩

/-! 04_reference_selection.md, R125. -/
def REF_STAT_SEL : Fld := ⟨A.REF_STAT, 3, 0⟩
def REF_STAT_SEL_VALID : Fld := ⟨A.REF_STAT, 4, 4⟩
def REF_STAT_FREQ_ONLY : Fld := ⟨A.REF_STAT, 5, 5⟩
def REF_STAT_PENDING : Fld := ⟨A.REF_STAT, 6, 6⟩
def REF_STAT_TARGET : Fld := ⟨A.REF_STAT, 11, 8⟩
def REF_STAT_FORCED : Fld := ⟨A.REF_STAT, 12, 12⟩
def REF_STAT_FORCED_SLOT_HI : Fld := ⟨A.REF_STAT, 15, 13⟩
def REF_STAT_FORCED_SLOT : Fld := ⟨A.REF_STAT, 19, 16⟩
def REF_STAT_HOLDOVER_FORCED : Fld := ⟨A.REF_STAT, 20, 20⟩
def REF_STAT_MUTUAL : Fld := ⟨A.REF_STAT, 21, 21⟩
def REF_CFG_QL_FIRST : Fld := ⟨A.REF_CFG, 0, 0⟩
def REF_CMD_OP : Fld := ⟨A.REF_CMD, 3, 0⟩
def REF_CMD_SLOT : Fld := ⟨A.REF_CMD, 11, 8⟩
def REF_WIT_AGREE_LIMIT : Fld := ⟨A.REF_WIT_AGREE, 31, 0⟩
def REF_QUAL_MASK_QUALIFIED : Fld := ⟨A.REF_QUAL_MASK, 15, 0⟩
def REF_QUAL_MASK_PHASE_VALID : Fld := ⟨A.REF_QUAL_MASK, 31, 16⟩
def REF_FLAG_MASK_DISPUTE : Fld := ⟨A.REF_FLAG_MASK, 15, 0⟩
def REF_FLAG_MASK_SUSPECT : Fld := ⟨A.REF_FLAG_MASK, 31, 16⟩
def REF_SW_RES_VALID : Fld := ⟨A.REF_SW_RES, 0, 0⟩
def REF_SW_RES_RESULT : Fld := ⟨A.REF_SW_RES, 3, 1⟩
def REF_SW_RES_FROM : Fld := ⟨A.REF_SW_RES, 7, 4⟩
def REF_SW_RES_SEQ : Fld := ⟨A.REF_SW_RES, 15, 8⟩
def REF_SW_RES_TO : Fld := ⟨A.REF_SW_RES, 19, 16⟩
def REF_SW_RES_FROM_NONE : Fld := ⟨A.REF_SW_RES, 20, 20⟩
def REF_SW_RES_TO_NONE : Fld := ⟨A.REF_SW_RES, 21, 21⟩
def REF_SW_RES_SUSPECT : Fld := ⟨A.REF_SW_RES, 22, 22⟩
def REF_PTPQL_QL (w : Nat) : Fld := ⟨A.REF_PTPQL w, 31, 0⟩
def REF_TOD_CFG_BAUD (w : Nat) : Fld := ⟨A.REF_TOD_CFG w, 2, 0⟩
def REF_TOD_CFG_ENABLE (w : Nat) : Fld := ⟨A.REF_TOD_CFG w, 3, 3⟩
def REF_TOD_STAT_OK (w : Nat) : Fld := ⟨A.REF_TOD_STAT w, 15, 0⟩
def REF_TOD_STAT_CRC (w : Nat) : Fld := ⟨A.REF_TOD_STAT w, 23, 16⟩
def REF_TOD_STAT_LATE (w : Nat) : Fld := ⟨A.REF_TOD_STAT w, 31, 24⟩
def REF_PIN_CFG_KIND (w : Nat) : Fld := ⟨A.REF_PIN_CFG w, 1, 0⟩
def REF_PIN_CFG_EDGE (w : Nat) : Fld := ⟨A.REF_PIN_CFG w, 2, 2⟩
def REF_PIN_CFG_FREQ (w : Nat) : Fld := ⟨A.REF_PIN_CFG w, 31, 4⟩

/-! 04_reference_selection.md, R126. -/
def REF_SLOTn_BIND_TYPE (n : Nat) : Fld := ⟨A.REF_SLOTn_BIND n, 3, 0⟩
def REF_SLOTn_BIND_INDEX (n : Nat) : Fld := ⟨A.REF_SLOTn_BIND n, 7, 4⟩
def REF_SLOTn_BIND_TOD (n : Nat) : Fld := ⟨A.REF_SLOTn_BIND n, 10, 8⟩
def REF_SLOTn_BIND_TOD_EN (n : Nat) : Fld := ⟨A.REF_SLOTn_BIND n, 11, 11⟩
def REF_SLOTn_BIND_COMP_PIN (n : Nat) : Fld := ⟨A.REF_SLOTn_BIND n, 14, 12⟩
def REF_SLOTn_BIND_COMP_EN (n : Nat) : Fld := ⟨A.REF_SLOTn_BIND n, 15, 15⟩
def REF_SLOTn_BIND_DEF_QL (n : Nat) : Fld := ⟨A.REF_SLOTn_BIND n, 19, 16⟩
def REF_SLOTn_CFG_RANK (n : Nat) : Fld := ⟨A.REF_SLOTn_CFG n, 3, 0⟩
def REF_SLOTn_CFG_QL_LIMIT (n : Nat) : Fld := ⟨A.REF_SLOTn_CFG n, 7, 4⟩
def REF_SLOTn_CFG_REVERTIVE (n : Nat) : Fld := ⟨A.REF_SLOTn_CFG n, 8, 8⟩
def REF_SLOTn_CFG_ENABLE (n : Nat) : Fld := ⟨A.REF_SLOTn_CFG n, 9, 9⟩
def REF_SLOTn_TIME_WTR (n : Nat) : Fld := ⟨A.REF_SLOTn_TIME n, 15, 0⟩
def REF_SLOTn_TIME_QUAL_TIME (n : Nat) : Fld := ⟨A.REF_SLOTn_TIME n, 31, 16⟩
def REF_SLOTn_FLIM_FREQ_LIMIT (n : Nat) : Fld := ⟨A.REF_SLOTn_FLIM n, 31, 0⟩
def REF_SLOTn_FDIS_FDIS_LIMIT (n : Nat) : Fld := ⟨A.REF_SLOTn_FDIS n, 31, 0⟩
def REF_SLOTn_JUMP_JUMP_LIMIT (n : Nat) : Fld := ⟨A.REF_SLOTn_JUMP n, 31, 0⟩
def REF_SLOTn_LOS_LOS (n : Nat) : Fld := ⟨A.REF_SLOTn_LOS n, 15, 0⟩
def REF_SLOTn_LOS_ANN_TIMEOUT (n : Nat) : Fld := ⟨A.REF_SLOTn_LOS n, 19, 16⟩
def REF_SLOTn_STAT_STATE (n : Nat) : Fld := ⟨A.REF_SLOTn_STAT n, 2, 0⟩
def REF_SLOTn_STAT_SELECTED (n : Nat) : Fld := ⟨A.REF_SLOTn_STAT n, 3, 3⟩
def REF_SLOTn_STAT_QL (n : Nat) : Fld := ⟨A.REF_SLOTn_STAT n, 7, 4⟩
def REF_SLOTn_STAT_PHASE_VALID (n : Nat) : Fld := ⟨A.REF_SLOTn_STAT n, 8, 8⟩
def REF_SLOTn_STAT_PHASE_SUSPECT (n : Nat) : Fld := ⟨A.REF_SLOTn_STAT n, 9, 9⟩
def REF_SLOTn_STAT_DEMOTED (n : Nat) : Fld := ⟨A.REF_SLOTn_STAT n, 10, 10⟩
def REF_SLOTn_STAT_MUTUAL (n : Nat) : Fld := ⟨A.REF_SLOTn_STAT n, 11, 11⟩
def REF_SLOTn_STAT_LOCKOUT (n : Nat) : Fld := ⟨A.REF_SLOTn_STAT n, 12, 12⟩
def REF_SLOTn_STAT_CAUSE (n : Nat) : Fld := ⟨A.REF_SLOTn_STAT n, 15, 13⟩
def REF_SLOTn_STAT_WTR_LEFT (n : Nat) : Fld := ⟨A.REF_SLOTn_STAT n, 31, 16⟩
def REF_SLOTn_HIST_HIST (n : Nat) : Fld := ⟨A.REF_SLOTn_HIST n, 9, 0⟩
def REF_SLOTn_FREQ_FREQ (n : Nat) : Fld := ⟨A.REF_SLOTn_FREQ n, 31, 0⟩
def REF_SLOTn_CNT_REFUSED (n : Nat) : Fld := ⟨A.REF_SLOTn_CNT n, 15, 0⟩
def REF_SLOTn_CNT_ACCEPTED (n : Nat) : Fld := ⟨A.REF_SLOTn_CNT n, 31, 16⟩
def REF_SLOTn_UPSEQ_UP_SEQ (n : Nat) : Fld := ⟨A.REF_SLOTn_UPSEQ n, 31, 0⟩

/-! 05_discipline_and_holdover.md, R154. -/
def DSC_STAT_STATE : Fld := ⟨A.DSC_STAT, 2, 0⟩
def DSC_STAT_PULLING : Fld := ⟨A.DSC_STAT, 3, 3⟩
def DSC_STAT_BW_CLAMP : Fld := ⟨A.DSC_STAT, 4, 4⟩
def DSC_STAT_RA_PENDING : Fld := ⟨A.DSC_STAT, 5, 5⟩
def DSC_STAT_FOLLOW_VALID : Fld := ⟨A.DSC_STAT, 6, 6⟩
def DSC_STAT_FOLLOW : Fld := ⟨A.DSC_STAT, 11, 8⟩
def DSC_STAT_MODEL_VALID : Fld := ⟨A.DSC_STAT, 14, 12⟩
def DSC_STAT_TEMP_FAIL : Fld := ⟨A.DSC_STAT, 17, 15⟩
def DSC_STAT_WORD_FAIL : Fld := ⟨A.DSC_STAT, 20, 18⟩
def DSC_CFG_REALIGN_FW : Fld := ⟨A.DSC_CFG, 0, 0⟩
def DSC_SLEW_MAX_SLEW : Fld := ⟨A.DSC_SLEW_MAX, 31, 0⟩
def DSC_FMAX_FMAX : Fld := ⟨A.DSC_FMAX, 31, 0⟩
def DSC_CAPTURE_WINDOW : Fld := ⟨A.DSC_CAPTURE, 31, 0⟩
def DSC_FLOCK_LIMIT_LIMIT : Fld := ⟨A.DSC_FLOCK_LIMIT, 31, 0⟩
def DSC_LOCK_TIME_FLOCK_TICKS : Fld := ⟨A.DSC_LOCK_TIME, 15, 0⟩
def DSC_LOCK_TIME_PLOCK_LIMIT : Fld := ⟨A.DSC_LOCK_TIME, 31, 16⟩
def DSC_ACQ_BW_BW : Fld := ⟨A.DSC_ACQ_BW, 16, 0⟩
def DSC_ACQ_BW_ZETA : Fld := ⟨A.DSC_ACQ_BW, 31, 24⟩
def DSC_MODEL_CFG_MODEL_LAG : Fld := ⟨A.DSC_MODEL_CFG, 15, 0⟩
def DSC_MODEL_CFG_FIT_MIN : Fld := ⟨A.DSC_MODEL_CFG, 31, 16⟩
def DSC_MODEL_STEP_MAX_STEP : Fld := ⟨A.DSC_MODEL_STEP_MAX, 31, 0⟩
def DSC_UF_NOMODEL_UF : Fld := ⟨A.DSC_UF_NOMODEL, 31, 0⟩
def DSC_CLASS_LOCKED : Fld := ⟨A.DSC_CLASS, 7, 0⟩
def DSC_CLASS_HOLD : Fld := ⟨A.DSC_CLASS, 15, 8⟩
def DSC_CLASS_FREE : Fld := ⟨A.DSC_CLASS, 23, 16⟩
def DSC_CLASS_OTHER : Fld := ⟨A.DSC_CLASS, 31, 24⟩
def DSC_REALIGN_CMD_SLOT : Fld := ⟨A.DSC_REALIGN_CMD, 3, 0⟩
def DSC_REALIGN_CMD_EXPLICIT : Fld := ⟨A.DSC_REALIGN_CMD, 4, 4⟩
def DSC_REALIGN_CMD_GO : Fld := ⟨A.DSC_REALIGN_CMD, 8, 8⟩
def DSC_RA_OFS_STEP (w : Nat) : Fld := ⟨A.DSC_RA_OFS w, 31, 0⟩
def DSC_RA_AT_KT96 (w : Nat) : Fld := ⟨A.DSC_RA_AT w, 31, 0⟩
def DSC_RA_RES_VALID : Fld := ⟨A.DSC_RA_RES, 0, 0⟩
def DSC_RA_RES_RESULT : Fld := ⟨A.DSC_RA_RES, 2, 1⟩
def DSC_RA_RES_CAUSE : Fld := ⟨A.DSC_RA_RES, 7, 3⟩
def DSC_RA_RES_SEQ : Fld := ⟨A.DSC_RA_RES, 15, 8⟩
def DSC_RA_STEP_STEP (w : Nat) : Fld := ⟨A.DSC_RA_STEP w, 31, 0⟩
def DSC_LOOP_PERR_PERR : Fld := ⟨A.DSC_LOOP_PERR, 31, 0⟩
def DSC_LOOP_P_P : Fld := ⟨A.DSC_LOOP_P, 31, 0⟩
def DSC_SLOTn_BW_BW (n : Nat) : Fld := ⟨A.DSC_SLOTn_BW n, 16, 0⟩
def DSC_SLOTn_BW_ZETA (n : Nat) : Fld := ⟨A.DSC_SLOTn_BW n, 31, 24⟩

/-! 05_discipline_and_holdover.md, R155. -/
def DSC_OSCx_CFG_MODE (x : Nat) : Fld := ⟨A.DSC_OSCx_CFG x, 1, 0⟩
def DSC_OSCx_CFG_NEVER_STEER (x : Nat) : Fld := ⟨A.DSC_OSCx_CFG x, 2, 2⟩
def DSC_OSCx_CFG_TEMP_EN (x : Nat) : Fld := ⟨A.DSC_OSCx_CFG x, 3, 3⟩
def DSC_OSCx_CFG_TADDR (x : Nat) : Fld := ⟨A.DSC_OSCx_CFG x, 10, 4⟩
def DSC_OSCx_CFG_TREG (x : Nat) : Fld := ⟨A.DSC_OSCx_CFG x, 23, 16⟩
def DSC_OSCx_EFC_CODE (x : Nat) : Fld := ⟨A.DSC_OSCx_EFC x, 19, 0⟩
def DSC_OSCx_EFC_MIN_MIN (x : Nat) : Fld := ⟨A.DSC_OSCx_EFC_MIN x, 19, 0⟩
def DSC_OSCx_EFC_MAX_MAX (x : Nat) : Fld := ⟨A.DSC_OSCx_EFC_MAX x, 19, 0⟩
def DSC_OSCx_EFC_PARK_PARK (x : Nat) : Fld := ⟨A.DSC_OSCx_EFC_PARK x, 19, 0⟩
def DSC_OSCx_STEER_STEP_MAX (x : Nat) : Fld := ⟨A.DSC_OSCx_STEER x, 15, 0⟩
def DSC_OSCx_STEER_CENTRE_TAU (x : Nat) : Fld := ⟨A.DSC_OSCx_STEER x, 31, 16⟩
def DSC_OSCx_KV_KV (x : Nat) : Fld := ⟨A.DSC_OSCx_KV x, 31, 0⟩
def DSC_OSCx_WORD_CFG_WADDR (x : Nat) : Fld := ⟨A.DSC_OSCx_WORD_CFG x, 6, 0⟩
def DSC_OSCx_WORD_CFG_WREG (x : Nat) : Fld := ⟨A.DSC_OSCx_WORD_CFG x, 15, 8⟩
def DSC_OSCx_WORD_CFG_WIDTH (x : Nat) : Fld := ⟨A.DSC_OSCx_WORD_CFG x, 20, 16⟩
def DSC_OSCx_WORD_WORD (x : Nat) : Fld := ⟨A.DSC_OSCx_WORD x, 31, 0⟩
def DSC_OSCx_TENV_TRATE_MAX (x : Nat) : Fld := ⟨A.DSC_OSCx_TENV x, 15, 0⟩
def DSC_OSCx_TENV_TSPAN (x : Nat) : Fld := ⟨A.DSC_OSCx_TENV x, 31, 16⟩
def DSC_OSCx_TEMP_T (x : Nat) : Fld := ⟨A.DSC_OSCx_TEMP x, 15, 0⟩
def DSC_OSCx_TEMP_VALID (x : Nat) : Fld := ⟨A.DSC_OSCx_TEMP x, 16, 16⟩
def DSC_OSCx_M_A1_A1 (x : Nat) : Fld := ⟨A.DSC_OSCx_M_A1 x, 31, 0⟩
def DSC_OSCx_M_KT_K_T (x : Nat) : Fld := ⟨A.DSC_OSCx_M_KT x, 31, 0⟩
def DSC_OSCx_M_TREF_T_REF (x : Nat) : Fld := ⟨A.DSC_OSCx_M_TREF x, 15, 0⟩
def DSC_OSCx_M_TREF_M_SPAN (x : Nat) : Fld := ⟨A.DSC_OSCx_M_TREF x, 31, 16⟩
def DSC_OSCx_M_EPOCH_T_M (x : Nat) : Fld := ⟨A.DSC_OSCx_M_EPOCH x, 31, 0⟩
def DSC_OSCx_M_UF_U_F (x : Nat) : Fld := ⟨A.DSC_OSCx_M_UF x, 31, 0⟩
def DSC_OSCx_M_UA_U_A (x : Nat) : Fld := ⟨A.DSC_OSCx_M_UA x, 31, 0⟩
def DSC_OSCx_M_UK_U_K (x : Nat) : Fld := ⟨A.DSC_OSCx_M_UK x, 31, 0⟩
def DSC_OSCx_M_CMD_COMMIT (x : Nat) : Fld := ⟨A.DSC_OSCx_M_CMD x, 0, 0⟩

/-! 05_discipline_and_holdover.md, R156. -/
def DSC_WIT_STAT_VALID : Fld := ⟨A.DSC_WIT_STAT, 0, 0⟩
def DSC_WIT_STAT_STALE : Fld := ⟨A.DSC_WIT_STAT, 1, 1⟩
def DSC_WIT_W0_W0 : Fld := ⟨A.DSC_WIT_W0, 31, 0⟩
def DSC_WIT_W1_W1 : Fld := ⟨A.DSC_WIT_W1, 31, 0⟩
def DSC_WIT_EPOCH_T_W : Fld := ⟨A.DSC_WIT_EPOCH, 31, 0⟩
def DSC_WIT_U_U : Fld := ⟨A.DSC_WIT_U, 31, 0⟩
def DSC_WIT_CFG_STALE : Fld := ⟨A.DSC_WIT_CFG, 15, 0⟩
def DSC_WIT_CFG_FIT_WIN : Fld := ⟨A.DSC_WIT_CFG, 31, 16⟩
def DSC_WIT_CMD_COMMIT : Fld := ⟨A.DSC_WIT_CMD, 0, 0⟩

/-! 06_clock_synthesis.md, R177. -/
def SYN_CFG_DCLK_RATE : Fld := ⟨A.SYN_CFG, 1, 0⟩
def SYN_LOOPL_STAT_STATE (L : Nat) : Fld := ⟨A.SYN_LOOPL_STAT L, 2, 0⟩
def SYN_LOOPL_STAT_GATED (L : Nat) : Fld := ⟨A.SYN_LOOPL_STAT L, 3, 3⟩
def SYN_LOOPL_STAT_LOR (L : Nat) : Fld := ⟨A.SYN_LOOPL_STAT L, 4, 4⟩
def SYN_LOOPL_STAT_BAND (L : Nat) : Fld := ⟨A.SYN_LOOPL_STAT L, 11, 5⟩
def SYN_LOOPL_STAT_LOSSES (L : Nat) : Fld := ⟨A.SYN_LOOPL_STAT L, 23, 16⟩
def SYN_LOOPL_CFG_LOCK_WIN (L : Nat) : Fld := ⟨A.SYN_LOOPL_CFG L, 15, 0⟩
def SYN_LOOPL_CFG_LOCK_N (L : Nat) : Fld := ⟨A.SYN_LOOPL_CFG L, 31, 16⟩
def SYN_LOOPL_SETTLE_SETTLE (L : Nat) : Fld := ⟨A.SYN_LOOPL_SETTLE L, 15, 0⟩
def SYN_LOOPL_PERR_PERR (L : Nat) : Fld := ⟨A.SYN_LOOPL_PERR L, 15, 0⟩

/-! 06_clock_synthesis.md, R178. -/
def SYN_BANDk_LO_LOOP (k : Nat) : Fld := ⟨A.SYN_BANDk_LO k, 5, 0⟩
def SYN_BANDk_LO_CAP (k : Nat) : Fld := ⟨A.SYN_BANDk_LO k, 15, 8⟩
def SYN_BANDk_LO_F_LO (k : Nat) : Fld := ⟨A.SYN_BANDk_LO k, 31, 16⟩
def SYN_BANDk_HI_F_HI (k : Nat) : Fld := ⟨A.SYN_BANDk_HI k, 15, 0⟩

/-! 06_clock_synthesis.md, R179. -/
def SYN_CLKOUTk_CFG_FOUT (k : Nat) : Fld := ⟨A.SYN_CLKOUTk_CFG k, 30, 0⟩
def SYN_CLKOUTk_CTL_ENABLE (k : Nat) : Fld := ⟨A.SYN_CLKOUTk_CTL k, 0, 0⟩
def SYN_CLKOUTk_CTL_ALIGN (k : Nat) : Fld := ⟨A.SYN_CLKOUTk_CTL k, 1, 1⟩
def SYN_CLKOUTk_CTL_ALIGNED (k : Nat) : Fld := ⟨A.SYN_CLKOUTk_CTL k, 8, 8⟩
def SYN_CLKOUTk_CTL_RELEASED (k : Nat) : Fld := ⟨A.SYN_CLKOUTk_CTL k, 9, 9⟩
def SYN_CLKOUTk_OFS_OFS (k : Nat) : Fld := ⟨A.SYN_CLKOUTk_OFS k, 31, 0⟩
def SYN_CLKOUTk_CAL_CAL (k : Nat) : Fld := ⟨A.SYN_CLKOUTk_CAL k, 15, 0⟩
def SYN_CLKOUTk_DIV_DIV (k : Nat) : Fld := ⟨A.SYN_CLKOUTk_DIV k, 31, 0⟩
def SYN_CLKOUTk_NINT_NINT (k : Nat) : Fld := ⟨A.SYN_CLKOUTk_NINT k, 3, 0⟩
def SYN_PPSk_CFG_ENABLE (k : Nat) : Fld := ⟨A.SYN_PPSk_CFG k, 0, 0⟩
def SYN_PPSk_CFG_WIDTH (k : Nat) : Fld := ⟨A.SYN_PPSk_CFG k, 31, 12⟩
def SYN_PPSk_OFS_OFS (k : Nat) : Fld := ⟨A.SYN_PPSk_OFS k, 31, 0⟩
def SYN_PPSk_CAL_CAL (k : Nat) : Fld := ⟨A.SYN_PPSk_CAL k, 15, 0⟩

/-! 07_domain_crossings.md, R193. -/
def XDC_CFG_WAKE_COMPAT : Fld := ⟨A.XDC_CFG, 0, 0⟩
def XDC_RUN_CORE_RUN : Fld := ⟨A.XDC_RUN_CORE, 9, 0⟩
def XDC_RUN_TX_RUN : Fld := ⟨A.XDC_RUN_TX, 19, 0⟩
def XDC_RUN_RX_RUN : Fld := ⟨A.XDC_RUN_RX, 19, 0⟩
def XDC_STOP_HIST_CORE_HIST : Fld := ⟨A.XDC_STOP_HIST_CORE, 9, 0⟩
def XDC_STOP_HIST_TX_HIST : Fld := ⟨A.XDC_STOP_HIST_TX, 19, 0⟩
def XDC_STOP_HIST_RX_HIST : Fld := ⟨A.XDC_STOP_HIST_RX, 19, 0⟩
def XDC_MERGE_SEL_INDEX : Fld := ⟨A.XDC_MERGE_SEL, 7, 0⟩
def XDC_MERGE_VAL_COUNT : Fld := ⟨A.XDC_MERGE_VAL, 7, 0⟩
def XDC_MERGE_VAL_SRC : Fld := ⟨A.XDC_MERGE_VAL, 14, 8⟩
def XDC_MERGE_VAL_USED : Fld := ⟨A.XDC_MERGE_VAL, 15, 15⟩
def XDC_MERGE_VAL_DST : Fld := ⟨A.XDC_MERGE_VAL, 22, 16⟩
def XDC_MERGE_VAL_BLOCK : Fld := ⟨A.XDC_MERGE_VAL, 27, 24⟩
def XDC_MERGE_CLR_CLEAR : Fld := ⟨A.XDC_MERGE_CLR, 0, 0⟩
def XDC_MERGE_CLR_CLEAR_ALL : Fld := ⟨A.XDC_MERGE_CLR, 1, 1⟩
def XDC_MERGE_NZ_NZ (w : Nat) : Fld := ⟨A.XDC_MERGE_NZ w, 31, 0⟩
def XDC_FLUSH_CNT_HANDSHAKES : Fld := ⟨A.XDC_FLUSH_CNT, 15, 0⟩
def XDC_FLUSH_CNT_DISCARDED : Fld := ⟨A.XDC_FLUSH_CNT, 31, 16⟩

/-! 08_ports_and_macs.md, R219. -/
def PRT_x_CFG_MODE (x : Nat) : Fld := ⟨A.PRT_x_CFG x, 2, 0⟩
def PRT_x_CFG_FEC (x : Nat) : Fld := ⟨A.PRT_x_CFG x, 3, 3⟩
def PRT_x_CFG_RX_PAUSE_EN (x : Nat) : Fld := ⟨A.PRT_x_CFG x, 4, 4⟩
def PRT_x_CFG_PFC_EN (x : Nat) : Fld := ⟨A.PRT_x_CFG x, 5, 5⟩
def PRT_x_CFG_BCAST_EN (x : Nat) : Fld := ⟨A.PRT_x_CFG x, 6, 6⟩
def PRT_x_CFG_ENABLE (x : Nat) : Fld := ⟨A.PRT_x_CFG x, 8, 8⟩
def PRT_x_CFG_AN_PAUSE (x : Nat) : Fld := ⟨A.PRT_x_CFG x, 9, 9⟩
def PRT_x_CFG_AN_ASM (x : Nat) : Fld := ⟨A.PRT_x_CFG x, 10, 10⟩
def PRT_x_MAXLEN_MAXLEN (x : Nat) : Fld := ⟨A.PRT_x_MAXLEN x, 13, 0⟩
def PRT_x_STAT_LINK (x : Nat) : Fld := ⟨A.PRT_x_STAT x, 2, 0⟩
def PRT_x_STAT_HI_BER (x : Nat) : Fld := ⟨A.PRT_x_STAT x, 3, 3⟩
def PRT_x_STAT_LOCAL_FAULT (x : Nat) : Fld := ⟨A.PRT_x_STAT x, 4, 4⟩
def PRT_x_STAT_REMOTE_FAULT (x : Nat) : Fld := ⟨A.PRT_x_STAT x, 5, 5⟩
def PRT_x_STAT_PAUSED (x : Nat) : Fld := ⟨A.PRT_x_STAT x, 6, 6⟩
def PRT_x_STAT_PFC_PAUSED (x : Nat) : Fld := ⟨A.PRT_x_STAT x, 15, 8⟩
def PRT_x_TXSTART_TX_START (x : Nat) : Fld := ⟨A.PRT_x_TXSTART x, 13, 0⟩
def PRT_x_TXSTART_TX_FLOOR (x : Nat) : Fld := ⟨A.PRT_x_TXSTART x, 29, 16⟩
def PRT_x_FILT_CFG_DEFAULT_Q (x : Nat) : Fld := ⟨A.PRT_x_FILT_CFG x, 2, 0⟩
def PRT_x_FILT_CFG_UNMATCHED_DROP (x : Nat) : Fld := ⟨A.PRT_x_FILT_CFG x, 3, 3⟩
def PRT_x_TIMERS_LINK_HOLD (x : Nat) : Fld := ⟨A.PRT_x_TIMERS x, 9, 0⟩
def PRT_x_TIMERS_PAUSE_LONG (x : Nat) : Fld := ⟨A.PRT_x_TIMERS x, 31, 16⟩
def PRT_x_CMD_RESET (x : Nat) : Fld := ⟨A.PRT_x_CMD x, 0, 0⟩
def PRT_x_CMD_CNT_SNAP (x : Nat) : Fld := ⟨A.PRT_x_CMD x, 1, 1⟩
def PRT_x_AN_STAT_LP_WORD (x : Nat) : Fld := ⟨A.PRT_x_AN_STAT x, 15, 0⟩
def PRT_x_AN_STAT_AN_DONE (x : Nat) : Fld := ⟨A.PRT_x_AN_STAT x, 16, 16⟩
def PRT_x_RXQq_CFG_CONSUMER (x q : Nat) : Fld := ⟨A.PRT_x_RXQq_CFG x q, 2, 0⟩
def PRT_x_RXQq_CFG_INDEX (x q : Nat) : Fld := ⟨A.PRT_x_RXQq_CFG x q, 5, 4⟩
def PRT_x_RXQq_CFG_DEPTH (x q : Nat) : Fld := ⟨A.PRT_x_RXQq_CFG x q, 23, 16⟩
def PRT_x_RXQq_CFG_FILL (x q : Nat) : Fld := ⟨A.PRT_x_RXQq_CFG x q, 31, 24⟩
def PRT_x_TXCc_CFG_SOURCE (x c : Nat) : Fld := ⟨A.PRT_x_TXCc_CFG x c, 2, 0⟩
def PRT_x_TXCc_CFG_PRIO (x c : Nat) : Fld := ⟨A.PRT_x_TXCc_CFG x c, 6, 4⟩
def PRT_x_TXCc_CFG_BURST (x c : Nat) : Fld := ⟨A.PRT_x_TXCc_CFG x c, 31, 16⟩
def PRT_x_TXCc_RATE_RATE (x c : Nat) : Fld := ⟨A.PRT_x_TXCc_RATE x c, 16, 0⟩

/-! 08_ports_and_macs.md, R220. -/
def PRT_x_RULEr_CTL_EN (x r : Nat) : Fld := ⟨A.PRT_x_RULEr_CTL x r, 0, 0⟩
def PRT_x_RULEr_CTL_TAG_MODE (x r : Nat) : Fld := ⟨A.PRT_x_RULEr_CTL x r, 2, 1⟩
def PRT_x_RULEr_CTL_OUTER_AD (x r : Nat) : Fld := ⟨A.PRT_x_RULEr_CTL x r, 3, 3⟩
def PRT_x_RULEr_CTL_ETYPE_ANY (x r : Nat) : Fld := ⟨A.PRT_x_RULEr_CTL x r, 4, 4⟩
def PRT_x_RULEr_CTL_VO_ANY (x r : Nat) : Fld := ⟨A.PRT_x_RULEr_CTL x r, 5, 5⟩
def PRT_x_RULEr_CTL_VI_ANY (x r : Nat) : Fld := ⟨A.PRT_x_RULEr_CTL x r, 6, 6⟩
def PRT_x_RULEr_CTL_QUEUE (x r : Nat) : Fld := ⟨A.PRT_x_RULEr_CTL x r, 9, 7⟩
def PRT_x_RULEr_CTL_DA_CLASS (x r : Nat) : Fld := ⟨A.PRT_x_RULEr_CTL x r, 11, 10⟩
def PRT_x_RULEr_CTL_ETYPE (x r : Nat) : Fld := ⟨A.PRT_x_RULEr_CTL x r, 31, 16⟩
def PRT_x_RULEr_VID_VID_OUTER (x r : Nat) : Fld := ⟨A.PRT_x_RULEr_VID x r, 11, 0⟩
def PRT_x_RULEr_VID_VID_INNER (x r : Nat) : Fld := ⟨A.PRT_x_RULEr_VID x r, 27, 16⟩
def PRT_x_RULEr_GRP_GRP_MASK (x r : Nat) : Fld := ⟨A.PRT_x_RULEr_GRP x r, 15, 0⟩
def PRT_x_RULEr_HITS_HITS (x r : Nat) : Fld := ⟨A.PRT_x_RULEr_HITS x r, 31, 0⟩

/-! 08_ports_and_macs.md, R222. -/
def PRT_LINK_UP_UP : Fld := ⟨A.PRT_LINK_UP, 19, 0⟩
def PRT_PAUSED_PAUSED : Fld := ⟨A.PRT_PAUSED, 19, 0⟩
def PRT_GATED_GATED : Fld := ⟨A.PRT_GATED, 19, 0⟩

/-! 09_timestamping_and_launch.md, R243. -/
def TSU_x_CFG_PIN_EN (x : Nat) : Fld := ⟨A.TSU_x_CFG x, 0, 0⟩
def TSU_x_CFG_RX_STAMP_EN (x : Nat) : Fld := ⟨A.TSU_x_CFG x, 1, 1⟩
def TSU_x_CAL_TX_CAL (x : Nat) : Fld := ⟨A.TSU_x_CAL_TX x, 31, 0⟩
def TSU_x_CAL_RX_CAL (x : Nat) : Fld := ⟨A.TSU_x_CAL_RX x, 31, 0⟩
def TSU_x_DPATH_D_TX (x : Nat) : Fld := ⟨A.TSU_x_DPATH x, 15, 0⟩
def TSU_x_DPATH_D_RX (x : Nat) : Fld := ⟨A.TSU_x_DPATH x, 31, 16⟩
def TSU_x_GUARD_GUARD (x : Nat) : Fld := ⟨A.TSU_x_GUARD x, 7, 0⟩
def TSU_x_GUARD_GUARD_AGE (x : Nat) : Fld := ⟨A.TSU_x_GUARD x, 15, 8⟩
def TSU_x_GUARD_LEAD (x : Nat) : Fld := ⟨A.TSU_x_GUARD x, 26, 16⟩
def TSU_x_RSV_RSV_PERIOD (x : Nat) : Fld := ⟨A.TSU_x_RSV x, 15, 0⟩
def TSU_x_RSV_RSV_LEN (x : Nat) : Fld := ⟨A.TSU_x_RSV x, 29, 16⟩
def TSU_x_PHASE_RES_VALID (x : Nat) : Fld := ⟨A.TSU_x_PHASE_RES x, 0, 0⟩
def TSU_x_PHASE_RES_SEQ (x : Nat) : Fld := ⟨A.TSU_x_PHASE_RES x, 15, 8⟩
def TSU_x_PHASE_RES_CAUSE (x : Nat) : Fld := ⟨A.TSU_x_PHASE_RES x, 19, 16⟩
def TSU_x_PHASE_KT96 (x w : Nat) : Fld := ⟨A.TSU_x_PHASE x w, 31, 0⟩
def TSU_x_SKEW_SKEW (x w : Nat) : Fld := ⟨A.TSU_x_SKEW x w, 15, 0⟩
def TSU_x_COMMITTED_COUNT (x : Nat) : Fld := ⟨A.TSU_x_COMMITTED x, 31, 0⟩
def TSU_x_SQ_MISSED_COUNT (x : Nat) : Fld := ⟨A.TSU_x_SQ_MISSED x, 31, 0⟩
def TSU_x_SQ_CANCEL_COUNT (x : Nat) : Fld := ⟨A.TSU_x_SQ_CANCEL x, 31, 0⟩
def TSU_x_SQ_LINK_COUNT (x : Nat) : Fld := ⟨A.TSU_x_SQ_LINK x, 31, 0⟩
def TSU_x_SQ_PAUSE_COUNT (x : Nat) : Fld := ⟨A.TSU_x_SQ_PAUSE x, 31, 0⟩
def TSU_x_SQ_HANDOVER_COUNT (x : Nat) : Fld := ⟨A.TSU_x_SQ_HANDOVER x, 31, 0⟩
def TSU_x_SQ_PHASE_COUNT (x : Nat) : Fld := ⟨A.TSU_x_SQ_PHASE x, 31, 0⟩
def TSU_x_SQ_STEP_COUNT (x : Nat) : Fld := ⟨A.TSU_x_SQ_STEP x, 31, 0⟩
def TSU_x_SQ_GUARDRAIL_COUNT (x : Nat) : Fld := ⟨A.TSU_x_SQ_GUARDRAIL x, 31, 0⟩
def TSU_x_MISMATCH_COUNT (x : Nat) : Fld := ⟨A.TSU_x_MISMATCH x, 31, 0⟩
def TSU_x_RX_STAMPS_COUNT (x : Nat) : Fld := ⟨A.TSU_x_RX_STAMPS x, 31, 0⟩
def TSU_x_TX_STAMPS_COUNT (x : Nat) : Fld := ⟨A.TSU_x_TX_STAMPS x, 31, 0⟩

/-! 09_timestamping_and_launch.md, R244. -/
def TSU_STAT_PHASE_VALID : Fld := ⟨A.TSU_STAT, 19, 0⟩
def TSU_STAT_STEP : Fld := ⟨A.TSU_STAT, 23, 20⟩

/-! 09_timestamping_and_launch.md, R245. -/
def TRG_k_CFG_ENABLE (k : Nat) : Fld := ⟨A.TRG_k_CFG k, 0, 0⟩
def TRG_k_CFG_POL (k : Nat) : Fld := ⟨A.TRG_k_CFG k, 1, 1⟩
def TRG_k_CAL_CAL (k : Nat) : Fld := ⟨A.TRG_k_CAL k, 15, 0⟩
def TRG_k_AT_KT96 (k w : Nat) : Fld := ⟨A.TRG_k_AT k w, 31, 0⟩
def TRG_k_WIDTH_WIDTH (k : Nat) : Fld := ⟨A.TRG_k_WIDTH k, 29, 0⟩
def TRG_k_COUNT_N (k : Nat) : Fld := ⟨A.TRG_k_COUNT k, 31, 0⟩
def TRG_k_CMD_PUSH (k : Nat) : Fld := ⟨A.TRG_k_CMD k, 0, 0⟩
def TRG_k_CMD_CANCEL_ALL (k : Nat) : Fld := ⟨A.TRG_k_CMD k, 1, 1⟩
def TRG_k_RES_VALID (k : Nat) : Fld := ⟨A.TRG_k_RES k, 0, 0⟩
def TRG_k_RES_RESULT (k : Nat) : Fld := ⟨A.TRG_k_RES k, 3, 1⟩
def TRG_k_RES_CAUSE (k : Nat) : Fld := ⟨A.TRG_k_RES k, 7, 4⟩
def TRG_k_RES_SEQ (k : Nat) : Fld := ⟨A.TRG_k_RES k, 15, 8⟩
def TRG_k_RES_FILL (k : Nat) : Fld := ⟨A.TRG_k_RES k, 20, 16⟩
def TRG_k_STAT_FILL (k : Nat) : Fld := ⟨A.TRG_k_STAT k, 4, 0⟩
def TRG_k_STAT_ACTIVE (k : Nat) : Fld := ⟨A.TRG_k_STAT k, 5, 5⟩
def TRG_k_FIRED_COUNT (k : Nat) : Fld := ⟨A.TRG_k_FIRED k, 31, 0⟩
def TRG_k_SKIPPED_COUNT (k : Nat) : Fld := ⟨A.TRG_k_SKIPPED k, 31, 0⟩

/-! 10_service_engines.md, R274. -/
def SVC_STAT_FILL : Fld := ⟨A.SVC_STAT, 16, 0⟩
def SVC_STAT_OPEN : Fld := ⟨A.SVC_STAT, 17, 17⟩
def SVC_STAT_FULL : Fld := ⟨A.SVC_STAT, 18, 18⟩
def SVC_CFG_USE_LIMIT : Fld := ⟨A.SVC_CFG, 15, 0⟩
def SVC_CFG_NTP_UNAUTH : Fld := ⟨A.SVC_CFG, 16, 16⟩
def SVC_CFG_NTS_NAK : Fld := ⟨A.SVC_CFG, 17, 17⟩
def SVC_CFG_V3_EN : Fld := ⟨A.SVC_CFG, 18, 18⟩
def SVC_CFG_MAX_COOKIES : Fld := ⟨A.SVC_CFG, 22, 20⟩
def SVC_CFG_PRECISION : Fld := ⟨A.SVC_CFG, 31, 24⟩
def SVC_LEDGER_HWM_HWM : Fld := ⟨A.SVC_LEDGER_HWM, 16, 0⟩
def SVC_ENG_RUN_RUN : Fld := ⟨A.SVC_ENG_RUN, 31, 0⟩
def SVC_ENG_OFFLINE_OFFLINE : Fld := ⟨A.SVC_ENG_OFFLINE, 31, 0⟩
def SVC_CMD_CNT_SNAP : Fld := ⟨A.SVC_CMD, 0, 0⟩
def SVC_JNL_SIZE_LOG2 : Fld := ⟨A.SVC_JNL_SIZE, 4, 0⟩
def SVC_JNL_STAT_WR : Fld := ⟨A.SVC_JNL_STAT, 21, 0⟩
def SVC_JNL_STAT_OVR : Fld := ⟨A.SVC_JNL_STAT, 26, 22⟩
def SVC_JNL_STAT_DISC : Fld := ⟨A.SVC_JNL_STAT, 31, 27⟩
def SVC_JNL_POP_EMPTY : Fld := ⟨A.SVC_JNL_POP, 0, 0⟩
def SVC_JNL_POP_COUNT : Fld := ⟨A.SVC_JNL_POP, 9, 1⟩
def SVC_JNL_POP_INDEX : Fld := ⟨A.SVC_JNL_POP, 31, 16⟩
def SVC_JNL_PEEK_REC (w : Nat) : Fld := ⟨A.SVC_JNL_PEEK w, 31, 0⟩
def SVC_REFIDn_REFID (n : Nat) : Fld := ⟨A.SVC_REFIDn n, 31, 0⟩

/-! 10_service_engines.md, R276. -/
def SVC_GMi_CFG_EN (i : Nat) : Fld := ⟨A.SVC_GMi_CFG i, 0, 0⟩
def SVC_GMi_CFG_PORT (i : Nat) : Fld := ⟨A.SVC_GMi_CFG i, 5, 1⟩
def SVC_GMi_CFG_PROFILE (i : Nat) : Fld := ⟨A.SVC_GMi_CFG i, 8, 6⟩
def SVC_GMi_CFG_ONE_STEP (i : Nat) : Fld := ⟨A.SVC_GMi_CFG i, 9, 9⟩
def SVC_GMi_CFG_AUTH_REQ (i : Nat) : Fld := ⟨A.SVC_GMi_CFG i, 10, 10⟩
def SVC_GMi_CFG_DOMAIN (i : Nat) : Fld := ⟨A.SVC_GMi_CFG i, 23, 16⟩
def SVC_GMi_RATE_LOG_SYNC (i : Nat) : Fld := ⟨A.SVC_GMi_RATE i, 7, 0⟩
def SVC_GMi_RATE_LOG_ANN (i : Nat) : Fld := ⟨A.SVC_GMi_RATE i, 15, 8⟩
def SVC_GMi_RATE_LOG_DREQ (i : Nat) : Fld := ⟨A.SVC_GMi_RATE i, 23, 16⟩
def SVC_GMi_QUAL_ACC (i : Nat) : Fld := ⟨A.SVC_GMi_QUAL i, 7, 0⟩
def SVC_GMi_QUAL_PRIO1 (i : Nat) : Fld := ⟨A.SVC_GMi_QUAL i, 15, 8⟩
def SVC_GMi_QUAL_PRIO2 (i : Nat) : Fld := ⟨A.SVC_GMi_QUAL i, 23, 16⟩
def SVC_GMi_VAR_OSLV (i : Nat) : Fld := ⟨A.SVC_GMi_VAR i, 15, 0⟩
def SVC_GMi_VAR_GRANT_MAX (i : Nat) : Fld := ⟨A.SVC_GMi_VAR i, 31, 16⟩

/-! 10_service_engines.md, R277. -/
def SVC_SEn_STAT_STATE (n : Nat) : Fld := ⟨A.SVC_SEn_STAT n, 1, 0⟩
def SVC_SEn_STAT_CTX_BUSY (n : Nat) : Fld := ⟨A.SVC_SEn_STAT n, 7, 4⟩
def SVC_SEn_STAT_CAUSE (n : Nat) : Fld := ⟨A.SVC_SEn_STAT n, 11, 8⟩
def SVC_SEn_STAT_RESETS (n : Nat) : Fld := ⟨A.SVC_SEn_STAT n, 23, 16⟩
def SVC_SEn_FAULT_PC_PC (n : Nat) : Fld := ⟨A.SVC_SEn_FAULT_PC n, 31, 0⟩
def SVC_SEn_FAULT_ADDR_ADDR (n : Nat) : Fld := ⟨A.SVC_SEn_FAULT_ADDR n, 31, 0⟩
def SVC_SEn_CMD_RESET (n : Nat) : Fld := ⟨A.SVC_SEn_CMD n, 0, 0⟩
def SVC_SEn_CMD_ONLINE (n : Nat) : Fld := ⟨A.SVC_SEn_CMD n, 1, 1⟩
def SVC_SEn_DONE_COUNT (n : Nat) : Fld := ⟨A.SVC_SEn_DONE n, 31, 0⟩

/-! 11_client_state.md, R294. -/
def LDR_STAT_READY : Fld := ⟨A.LDR_STAT, 0, 0⟩
def LDR_CFG_SIZE : Fld := ⟨A.LDR_CFG, 1, 0⟩
def LDR_CFG_GUEST_SILENT : Fld := ⟨A.LDR_CFG, 2, 2⟩
def LDR_AGE_AGE_OUT : Fld := ⟨A.LDR_AGE, 20, 0⟩
def LDR_DEF_CLASS_NTP : Fld := ⟨A.LDR_DEF_CLASS, 2, 0⟩
def LDR_DEF_CLASS_PTP_UDP : Fld := ⟨A.LDR_DEF_CLASS, 6, 4⟩
def LDR_DEF_CLASS_PTP_L2 : Fld := ⟨A.LDR_DEF_CLASS, 10, 8⟩
def LDR_LIVE_LIVE : Fld := ⟨A.LDR_LIVE, 23, 0⟩
def LDR_PINNED_PINNED : Fld := ⟨A.LDR_PINNED, 16, 0⟩
def LDR_GRANTS_COUNT : Fld := ⟨A.LDR_GRANTS, 14, 0⟩
def LDR_CMD_CNT_SNAP : Fld := ⟨A.LDR_CMD, 0, 0⟩
def LDR_RCLASSc_RATE (c : Nat) : Fld := ⟨A.LDR_RCLASSc c, 15, 0⟩
def LDR_RCLASSc_BURST (c : Nat) : Fld := ⟨A.LDR_RCLASSc c, 23, 16⟩
def LDR_RCLASSc_OVER (c : Nat) : Fld := ⟨A.LDR_RCLASSc c, 24, 24⟩
def LDR_RCLASSc_UNLIMITED (c : Nat) : Fld := ⟨A.LDR_RCLASSc c, 25, 25⟩
def LDR_Q_ADDR_ADDR (w : Nat) : Fld := ⟨A.LDR_Q_ADDR w, 31, 0⟩
def LDR_Q_CMD_KCLASS : Fld := ⟨A.LDR_Q_CMD, 2, 0⟩
def LDR_Q_CMD_INST : Fld := ⟨A.LDR_Q_CMD, 5, 3⟩
def LDR_Q_CMD_OP : Fld := ⟨A.LDR_Q_CMD, 9, 8⟩
def LDR_Q_CMD_RCLASS : Fld := ⟨A.LDR_Q_CMD, 12, 10⟩
def LDR_Q_CMD_DENY : Fld := ⟨A.LDR_Q_CMD, 13, 13⟩
def LDR_Q_CMD_GO : Fld := ⟨A.LDR_Q_CMD, 16, 16⟩
def LDR_QRES_VALID : Fld := ⟨A.LDR_QRES, 0, 0⟩
def LDR_QRES_FOUND : Fld := ⟨A.LDR_QRES, 1, 1⟩
def LDR_QRES_REFUSED : Fld := ⟨A.LDR_QRES, 2, 2⟩
def LDR_QRES_RESIDENT : Fld := ⟨A.LDR_QRES, 3, 3⟩
def LDR_QRES_SEQ : Fld := ⟨A.LDR_QRES, 15, 8⟩
def LDR_QRES_INDEX_INDEX : Fld := ⟨A.LDR_QRES_INDEX, 22, 0⟩
def LDR_QREC_REC (w : Nat) : Fld := ⟨A.LDR_QREC w, 31, 0⟩

/-! 12_keys_and_authentication.md, R327. -/
def KEY_STAT_LIVE : Fld := ⟨A.KEY_STAT, 7, 0⟩
def KEY_STAT_STAGED : Fld := ⟨A.KEY_STAT, 15, 8⟩
def KEY_STAT_RNG_OK : Fld := ⟨A.KEY_STAT, 16, 16⟩
def KEY_STAT_TAMPERED : Fld := ⟨A.KEY_STAT, 17, 17⟩
def KEY_STAT_LOCAL_OK : Fld := ⟨A.KEY_STAT, 18, 18⟩
def KEY_CFG_LOCAL_PROVISION : Fld := ⟨A.KEY_CFG, 0, 0⟩
def KEY_CMD_OP : Fld := ⟨A.KEY_CMD, 3, 0⟩
def KEY_RES_VALID : Fld := ⟨A.KEY_RES, 0, 0⟩
def KEY_RES_RESULT : Fld := ⟨A.KEY_RES, 2, 1⟩
def KEY_RES_CAUSE : Fld := ⟨A.KEY_RES, 7, 3⟩
def KEY_RES_SEQ : Fld := ⟨A.KEY_RES, 15, 8⟩
def KEY_RES_OP : Fld := ⟨A.KEY_RES, 19, 16⟩
def KEY_RES_HANDLE_HANDLE : Fld := ⟨A.KEY_RES_HANDLE, 23, 0⟩
def KEY_CTL_CNT_SNAP : Fld := ⟨A.KEY_CTL, 0, 0⟩
def KEY_ARG_ARG (w : Nat) : Fld := ⟨A.KEY_ARG w, 31, 0⟩
def KEY_WRAP_BLOB (w : Nat) : Fld := ⟨A.KEY_WRAP w, 31, 0⟩
def KEY_SLOT_SEL_HANDLE : Fld := ⟨A.KEY_SLOT_SEL, 23, 0⟩
def KEY_SLOT_INFO_INFO (w : Nat) : Fld := ⟨A.KEY_SLOT_INFO w, 31, 0⟩
def KEY_SLOT_INFO7_INCARN : Fld := ⟨A.KEY_SLOT_INFO7, 9, 0⟩
def KEY_SLOT_INFO7_TAG_OK : Fld := ⟨A.KEY_SLOT_INFO7, 10, 10⟩
def KEY_TAMPER_CFG_ARM_IN : Fld := ⟨A.KEY_TAMPER_CFG, 3, 0⟩
def KEY_TAMPER_CFG_MESH : Fld := ⟨A.KEY_TAMPER_CFG, 7, 4⟩
def KEY_TAMPER_CFG_ARM_SENS : Fld := ⟨A.KEY_TAMPER_CFG, 10, 8⟩
def KEY_TAMPER_CFG_DEBOUNCE : Fld := ⟨A.KEY_TAMPER_CFG, 23, 16⟩
def KEY_TAMPER_STAT_CAUSE : Fld := ⟨A.KEY_TAMPER_STAT, 10, 0⟩
def KEY_TAMPER_SEC_SEC : Fld := ⟨A.KEY_TAMPER_SEC, 31, 0⟩
def KEY_CKf_CFG_PARENT (f : Nat) : Fld := ⟨A.KEY_CKf_CFG f, 2, 0⟩
def KEY_CKf_CFG_EN (f : Nat) : Fld := ⟨A.KEY_CKf_CFG f, 3, 3⟩
def KEY_CKf_CFG_BACK (f : Nat) : Fld := ⟨A.KEY_CKf_CFG f, 6, 4⟩
def KEY_CKf_CFG_AHEAD (f : Nat) : Fld := ⟨A.KEY_CKf_CFG f, 7, 7⟩
def KEY_CKf_CFG_GEN (f : Nat) : Fld := ⟨A.KEY_CKf_CFG f, 31, 16⟩
def KEY_CKf_ID_KEYID (f : Nat) : Fld := ⟨A.KEY_CKf_ID f, 31, 0⟩
def KEY_TWVk_CFG_HANDLE (k : Nat) : Fld := ⟨A.KEY_TWVk_CFG k, 23, 0⟩
def KEY_TWVk_CFG_EN (k : Nat) : Fld := ⟨A.KEY_TWVk_CFG k, 24, 24⟩

/-! 13_time_interval_measurement.md, R353. -/
def TIC_STAT_WIT_VALID : Fld := ⟨A.TIC_STAT, 0, 0⟩
def TIC_STAT_EXP_UP : Fld := ⟨A.TIC_STAT, 1, 1⟩
def TIC_STAT_EXP_XOFF : Fld := ⟨A.TIC_STAT, 2, 2⟩
def TIC_CFG_EXP_EN : Fld := ⟨A.TIC_CFG, 0, 0⟩
def TIC_CFG_EXP_PORT : Fld := ⟨A.TIC_CFG, 5, 1⟩
def TIC_CFG_EXP_ETYPE : Fld := ⟨A.TIC_CFG, 31, 16⟩
def TIC_EXP_ID_STREAM_ID : Fld := ⟨A.TIC_EXP_ID, 15, 0⟩
def TIC_EXP_ID_EXP_HOLD : Fld := ⟨A.TIC_EXP_ID, 25, 16⟩
def TIC_CAL_CFG_INTERVAL : Fld := ⟨A.TIC_CAL_CFG, 15, 0⟩
def TIC_CAL_CFG_AGE_INTERVAL : Fld := ⟨A.TIC_CAL_CFG, 31, 16⟩
def TIC_LOOP_SEL_SRC : Fld := ⟨A.TIC_LOOP_SEL, 4, 0⟩
def TIC_CMD_RECAL_ALL : Fld := ⟨A.TIC_CMD, 0, 0⟩
def TIC_WIT_RES_VALID : Fld := ⟨A.TIC_WIT_RES, 0, 0⟩
def TIC_WIT_RES_SEQ : Fld := ⟨A.TIC_WIT_RES, 15, 8⟩
def TIC_FQ_POP_EMPTY : Fld := ⟨A.TIC_FQ_POP, 0, 0⟩
def TIC_FQ_POP_CH : Fld := ⟨A.TIC_FQ_POP, 5, 1⟩
def TIC_FQ_POP_INVALID : Fld := ⟨A.TIC_FQ_POP, 6, 6⟩
def TIC_FQ_POP_COUNT : Fld := ⟨A.TIC_FQ_POP, 16, 8⟩
def TIC_FQ_PEEK_HEAD : Fld := ⟨A.TIC_FQ_PEEK, 16, 0⟩
def TIC_FQ_STAT_DISC : Fld := ⟨A.TIC_FQ_STAT, 7, 0⟩
def TIC_EXP_FRAMES_COUNT : Fld := ⟨A.TIC_EXP_FRAMES, 31, 0⟩
def TIC_EXP_RESENT_COUNT : Fld := ⟨A.TIC_EXP_RESENT, 31, 0⟩

/-! 13_time_interval_measurement.md, R354. -/
def TIC_CHn_CFG_MODE (n : Nat) : Fld := ⟨A.TIC_CHn_CFG n, 1, 0⟩
def TIC_CHn_CFG_BASE (n : Nat) : Fld := ⟨A.TIC_CHn_CFG n, 2, 2⟩
def TIC_CHn_CFG_EDGE (n : Nat) : Fld := ⟨A.TIC_CHn_CFG n, 4, 3⟩
def TIC_CHn_CFG_Q (n : Nat) : Fld := ⟨A.TIC_CHn_CFG n, 8, 5⟩
def TIC_CHn_CFG_DEST (n : Nat) : Fld := ⟨A.TIC_CHn_CFG n, 10, 9⟩
def TIC_CHn_CFG_FEED (n : Nat) : Fld := ⟨A.TIC_CHn_CFG n, 11, 11⟩
def TIC_CHn_CFG_START_CH (n : Nat) : Fld := ⟨A.TIC_CHn_CFG n, 16, 12⟩
def TIC_CHn_DIV_DIV (n : Nat) : Fld := ⟨A.TIC_CHn_DIV n, 16, 0⟩
def TIC_CHn_CAL_CAL (n : Nat) : Fld := ⟨A.TIC_CHn_CAL n, 31, 0⟩
def TIC_CHn_WLO_W_LO (n : Nat) : Fld := ⟨A.TIC_CHn_WLO n, 31, 0⟩
def TIC_CHn_WHI_W_HI (n : Nat) : Fld := ⟨A.TIC_CHn_WHI n, 31, 0⟩
def TIC_CHn_GATE_GATE (n : Nat) : Fld := ⟨A.TIC_CHn_GATE n, 15, 0⟩
def TIC_CHn_FNOM_FNOM (n : Nat) : Fld := ⟨A.TIC_CHn_FNOM n, 31, 0⟩
def TIC_CHn_RING_SIZE_LOG2 (n : Nat) : Fld := ⟨A.TIC_CHn_RING_SIZE n, 4, 0⟩
def TIC_CHn_RING_WR_WR (n : Nat) : Fld := ⟨A.TIC_CHn_RING_WR n, 29, 0⟩
def TIC_CHn_RING_RD_RD (n : Nat) : Fld := ⟨A.TIC_CHn_RING_RD n, 29, 0⟩
def TIC_CHn_STAT_RING_FULL (n : Nat) : Fld := ⟨A.TIC_CHn_STAT n, 0, 0⟩
def TIC_CHn_STAT_QFULL (n : Nat) : Fld := ⟨A.TIC_CHn_STAT n, 1, 1⟩
def TIC_CHn_STAT_INTERP (n : Nat) : Fld := ⟨A.TIC_CHn_STAT n, 2, 2⟩
def TIC_CHn_STAT_CAL_FAIL (n : Nat) : Fld := ⟨A.TIC_CHn_STAT n, 3, 3⟩
def TIC_CHn_STAT_QFILL (n : Nat) : Fld := ⟨A.TIC_CHn_STAT n, 15, 4⟩
def TIC_CHn_LAST_VALID (n : Nat) : Fld := ⟨A.TIC_CHn_LAST n, 0, 0⟩
def TIC_CHn_LAST_EDGE (n : Nat) : Fld := ⟨A.TIC_CHn_LAST n, 1, 1⟩
def TIC_CHn_LAST_SEQ (n : Nat) : Fld := ⟨A.TIC_CHn_LAST n, 15, 8⟩
def TIC_CHn_LAST_T_KT96 (n w : Nat) : Fld := ⟨A.TIC_CHn_LAST_T n w, 31, 0⟩
def TIC_CHn_FQ_RES_VALID (n : Nat) : Fld := ⟨A.TIC_CHn_FQ_RES n, 0, 0⟩
def TIC_CHn_FQ_RES_INVALID (n : Nat) : Fld := ⟨A.TIC_CHn_FQ_RES n, 1, 1⟩
def TIC_CHn_FQ_RES_SEQ (n : Nat) : Fld := ⟨A.TIC_CHn_FQ_RES n, 15, 8⟩
def TIC_CHn_FQ_EDGES_EDGES (n : Nat) : Fld := ⟨A.TIC_CHn_FQ_EDGES n, 31, 0⟩
def TIC_CHn_IV_RES_VALID (n : Nat) : Fld := ⟨A.TIC_CHn_IV_RES n, 0, 0⟩
def TIC_CHn_IV_RES_ORPHAN (n : Nat) : Fld := ⟨A.TIC_CHn_IV_RES n, 1, 1⟩
def TIC_CHn_IV_RES_ORDER_AMBIG (n : Nat) : Fld := ⟨A.TIC_CHn_IV_RES n, 2, 2⟩
def TIC_CHn_IV_RES_NEG (n : Nat) : Fld := ⟨A.TIC_CHn_IV_RES n, 3, 3⟩
def TIC_CHn_IV_RES_SEQ (n : Nat) : Fld := ⟨A.TIC_CHn_IV_RES n, 15, 8⟩
def TIC_CHn_ACCEPTED_COUNT (n : Nat) : Fld := ⟨A.TIC_CHn_ACCEPTED n, 31, 0⟩
def TIC_CHn_LOST_DEAD_COUNT (n : Nat) : Fld := ⟨A.TIC_CHn_LOST_DEAD n, 31, 0⟩
def TIC_CHn_LOST_BURST_COUNT (n : Nat) : Fld := ⟨A.TIC_CHn_LOST_BURST n, 31, 0⟩
def TIC_CHn_LOST_QFULL_COUNT (n : Nat) : Fld := ⟨A.TIC_CHn_LOST_QFULL n, 31, 0⟩
def TIC_CHn_LOST_BASE_COUNT (n : Nat) : Fld := ⟨A.TIC_CHn_LOST_BASE n, 31, 0⟩
def TIC_CHn_CMD_RECAL (n : Nat) : Fld := ⟨A.TIC_CHn_CMD n, 0, 0⟩

/-! 14_gnss_baseband.md, R381. -/
def GNS_STAT_SOL_STATE : Fld := ⟨A.GNS_STAT, 1, 0⟩
def GNS_STAT_SOL_VALID : Fld := ⟨A.GNS_STAT, 2, 2⟩
def GNS_STAT_BAND_RUN : Fld := ⟨A.GNS_STAT, 4, 3⟩
def GNS_STAT_BAND_SLEEP : Fld := ⟨A.GNS_STAT, 6, 5⟩
def GNS_STAT_FE_FAIL : Fld := ⟨A.GNS_STAT, 8, 7⟩
def GNS_STAT_JAM : Fld := ⟨A.GNS_STAT, 10, 9⟩
def GNS_STAT_TRACK_L1 : Fld := ⟨A.GNS_STAT, 17, 11⟩
def GNS_STAT_TRACK_L5 : Fld := ⟨A.GNS_STAT, 24, 18⟩
def GNS_STAT_USED : Fld := ⟨A.GNS_STAT, 31, 25⟩
def GNS_CFG_SYS_EN : Fld := ⟨A.GNS_CFG, 3, 0⟩
def GNS_CFG_MODE : Fld := ⟨A.GNS_CFG, 4, 4⟩
def GNS_CFG_PPS_BAND : Fld := ⟨A.GNS_CFG, 5, 5⟩
def GNS_CFG_PPS_EN : Fld := ⟨A.GNS_CFG, 6, 6⟩
def GNS_CFG_RAIM_EN : Fld := ⟨A.GNS_CFG, 7, 7⟩
def GNS_CFG_MIN_SATS : Fld := ⟨A.GNS_CFG, 11, 8⟩
def GNS_CFG_K_SIGMA : Fld := ⟨A.GNS_CFG, 15, 12⟩
def GNS_CFG_ELEV_MASK : Fld := ⟨A.GNS_CFG, 22, 16⟩
def GNS_FE_L1_CFG_FS : Fld := ⟨A.GNS_FE_L1_CFG, 26, 0⟩
def GNS_FE_L1_CFG_FMT : Fld := ⟨A.GNS_FE_L1_CFG, 27, 27⟩
def GNS_FE_L1_CFG_INV : Fld := ⟨A.GNS_FE_L1_CFG, 28, 28⟩
def GNS_FE_L5_CFG_FS : Fld := ⟨A.GNS_FE_L5_CFG, 26, 0⟩
def GNS_FE_L5_CFG_FMT : Fld := ⟨A.GNS_FE_L5_CFG, 27, 27⟩
def GNS_FE_L5_CFG_INV : Fld := ⟨A.GNS_FE_L5_CFG, 28, 28⟩
def GNS_FE_L1_IF_IF : Fld := ⟨A.GNS_FE_L1_IF, 31, 0⟩
def GNS_FE_L5_IF_IF : Fld := ⟨A.GNS_FE_L5_IF, 31, 0⟩
def GNS_FE_DELAY_L1_DELAY : Fld := ⟨A.GNS_FE_DELAY_L1, 31, 0⟩
def GNS_FE_DELAY_L5_DELAY : Fld := ⟨A.GNS_FE_DELAY_L5, 31, 0⟩
def GNS_ANT_DELAY_DELAY : Fld := ⟨A.GNS_ANT_DELAY, 31, 0⟩
def GNS_UNC_ANT_U : Fld := ⟨A.GNS_UNC, 15, 0⟩
def GNS_UNC_FE_U : Fld := ⟨A.GNS_UNC, 31, 16⟩
def GNS_EPOCH_CFG_EPOCH : Fld := ⟨A.GNS_EPOCH_CFG, 10, 0⟩
def GNS_SURVEY_CFG_TIME : Fld := ⟨A.GNS_SURVEY_CFG, 15, 0⟩
def GNS_SURVEY_CFG_ACC : Fld := ⟨A.GNS_SURVEY_CFG, 31, 16⟩
def GNS_POS_U_POS_U : Fld := ⟨A.GNS_POS_U, 15, 0⟩
def GNS_SLEEP_CFG_ON : Fld := ⟨A.GNS_SLEEP_CFG, 15, 0⟩
def GNS_SLEEP_CFG_OFF : Fld := ⟨A.GNS_SLEEP_CFG, 31, 16⟩
def GNS_CMD_SLEEP : Fld := ⟨A.GNS_CMD, 0, 0⟩
def GNS_CMD_WAKE : Fld := ⟨A.GNS_CMD, 1, 1⟩
def GNS_CMD_COLD : Fld := ⟨A.GNS_CMD, 2, 2⟩
def GNS_CMD_RESURVEY : Fld := ⟨A.GNS_CMD, 3, 3⟩
def GNS_QL_QL_GOOD : Fld := ⟨A.GNS_QL, 3, 0⟩
def GNS_QL_QL_DEGRADED : Fld := ⟨A.GNS_QL, 7, 4⟩
def GNS_QL_QL_SURVEY : Fld := ⟨A.GNS_QL, 11, 8⟩
def GNS_QL_JAM_LIMIT : Fld := ⟨A.GNS_QL, 23, 16⟩
def GNS_LEVEL_L1 : Fld := ⟨A.GNS_LEVEL, 7, 0⟩
def GNS_LEVEL_L5 : Fld := ⟨A.GNS_LEVEL, 15, 8⟩
def GNS_SOL_RES_VALID : Fld := ⟨A.GNS_SOL_RES, 0, 0⟩
def GNS_SOL_RES_SOL_STATE : Fld := ⟨A.GNS_SOL_RES, 2, 1⟩
def GNS_SOL_RES_QL : Fld := ⟨A.GNS_SOL_RES, 7, 4⟩
def GNS_SOL_RES_SEQ : Fld := ⟨A.GNS_SOL_RES, 15, 8⟩
def GNS_SOL_RES_EB8 : Fld := ⟨A.GNS_SOL_RES, 23, 16⟩
def GNS_SOL_RES_USED : Fld := ⟨A.GNS_SOL_RES, 30, 24⟩
def GNS_SAW_RES_VALID : Fld := ⟨A.GNS_SAW_RES, 0, 0⟩
def GNS_SAW_RES_EDGE : Fld := ⟨A.GNS_SAW_RES, 1, 1⟩
def GNS_SAW_RES_SEQ : Fld := ⟨A.GNS_SAW_RES, 15, 8⟩
def GNS_SAW_SEC_SEC : Fld := ⟨A.GNS_SAW_SEC, 31, 0⟩
def GNS_SAW_Q_Q : Fld := ⟨A.GNS_SAW_Q, 31, 0⟩
def GNS_EPOCH_RES_VALID : Fld := ⟨A.GNS_EPOCH_RES, 0, 0⟩
def GNS_EPOCH_RES_SEQ : Fld := ⟨A.GNS_EPOCH_RES, 15, 8⟩
def GNS_EPOCH_RES_COUNT : Fld := ⟨A.GNS_EPOCH_RES, 23, 16⟩
def GNS_EPOCH_T_KT96 (w : Nat) : Fld := ⟨A.GNS_EPOCH_T w, 31, 0⟩
def GNS_UTC_OFFSET : Fld := ⟨A.GNS_UTC, 15, 0⟩
def GNS_UTC_LEAP_PENDING : Fld := ⟨A.GNS_UTC, 16, 16⟩
def GNS_UTC_DIR : Fld := ⟨A.GNS_UTC, 17, 17⟩

/-! 14_gnss_baseband.md, R382. -/
def GNS_CHc_STAT_STATE (c : Nat) : Fld := ⟨A.GNS_CHc_STAT c, 2, 0⟩
def GNS_CHc_STAT_SIG (c : Nat) : Fld := ⟨A.GNS_CHc_STAT c, 6, 3⟩
def GNS_CHc_STAT_SV (c : Nat) : Fld := ⟨A.GNS_CHc_STAT c, 12, 7⟩
def GNS_CHc_STAT_USED (c : Nat) : Fld := ⟨A.GNS_CHc_STAT c, 13, 13⟩
def GNS_CHc_STAT_CN0 (c : Nat) : Fld := ⟨A.GNS_CHc_STAT c, 23, 16⟩

/-! 15_distribution_links.md, R399. -/
def DST_STAT_LOCKED : Fld := ⟨A.DST_STAT, 15, 0⟩
def DST_STAT_PEER_LOCKED : Fld := ⟨A.DST_STAT, 31, 16⟩
def DST_DEPTH_DEPTH : Fld := ⟨A.DST_DEPTH, 2, 0⟩
def DST_SUBTYPE_SUB : Fld := ⟨A.DST_SUBTYPE, 23, 0⟩
def DST_TFWD_AT_KT96 (w : Nat) : Fld := ⟨A.DST_TFWD_AT w, 31, 0⟩
def DST_TFWD_WIDTH_WIDTH : Fld := ⟨A.DST_TFWD_WIDTH, 29, 0⟩
def DST_TFWD_COUNT_N : Fld := ⟨A.DST_TFWD_COUNT, 31, 0⟩
def DST_TFWD_CTL_PORTS : Fld := ⟨A.DST_TFWD_CTL, 15, 0⟩
def DST_TFWD_CTL_OUT : Fld := ⟨A.DST_TFWD_CTL, 19, 16⟩
def DST_TFWD_CTL_FWD : Fld := ⟨A.DST_TFWD_CTL, 20, 20⟩
def DST_TFWD_CMD_SEND : Fld := ⟨A.DST_TFWD_CMD, 0, 0⟩
def DST_TFWD_RES_VALID : Fld := ⟨A.DST_TFWD_RES, 0, 0⟩
def DST_TFWD_RES_RESULT : Fld := ⟨A.DST_TFWD_RES, 2, 1⟩
def DST_TFWD_RES_CAUSE : Fld := ⟨A.DST_TFWD_RES, 7, 4⟩
def DST_TFWD_RES_SEQ : Fld := ⟨A.DST_TFWD_RES, 15, 8⟩
def DST_TFWD_ACK_ACCEPTED : Fld := ⟨A.DST_TFWD_ACK, 15, 0⟩
def DST_TFWD_ACK_REFUSED : Fld := ⟨A.DST_TFWD_ACK, 31, 16⟩

/-! 15_distribution_links.md, R400. -/
def DST_LINKd_CFG_ROLE (d : Nat) : Fld := ⟨A.DST_LINKd_CFG d, 1, 0⟩
def DST_LINKd_CFG_DELAY_MODE (d : Nat) : Fld := ⟨A.DST_LINKd_CFG d, 2, 2⟩
def DST_LINKd_CFG_AUTH_EN (d : Nat) : Fld := ⟨A.DST_LINKd_CFG d, 3, 3⟩
def DST_LINKd_CFG_LOG_RATE (d : Nat) : Fld := ⟨A.DST_LINKd_CFG d, 6, 4⟩
def DST_LINKd_CFG_UP_INDEX (d : Nat) : Fld := ⟨A.DST_LINKd_CFG d, 7, 7⟩
def DST_LINKd_CFG_DOMAIN (d : Nat) : Fld := ⟨A.DST_LINKd_CFG d, 15, 8⟩
def DST_LINKd_KEY_HANDLE (d : Nat) : Fld := ⟨A.DST_LINKd_KEY d, 23, 0⟩
def DST_LINKd_FIX_MS_FIX (d : Nat) : Fld := ⟨A.DST_LINKd_FIX_MS d, 31, 0⟩
def DST_LINKd_FIX_SM_FIX (d : Nat) : Fld := ⟨A.DST_LINKd_FIX_SM d, 31, 0⟩
def DST_LINKd_ALPHA_ALPHA (d : Nat) : Fld := ⟨A.DST_LINKd_ALPHA d, 31, 0⟩
def DST_LINKd_KT_K_MS (d : Nat) : Fld := ⟨A.DST_LINKd_KT d, 15, 0⟩
def DST_LINKd_KT_K_SM (d : Nat) : Fld := ⟨A.DST_LINKd_KT d, 31, 16⟩
def DST_LINKd_TCAL_T_CAL (d : Nat) : Fld := ⟨A.DST_LINKd_TCAL d, 15, 0⟩
def DST_LINKd_TCAL_TADDR (d : Nat) : Fld := ⟨A.DST_LINKd_TCAL d, 22, 16⟩
def DST_LINKd_TCAL_TEMP_EN (d : Nat) : Fld := ⟨A.DST_LINKd_TCAL d, 23, 23⟩
def DST_LINKd_UFIX_U_FIX (d : Nat) : Fld := ⟨A.DST_LINKd_UFIX d, 31, 0⟩
def DST_LINKd_UALPHA_U_ALPHA (d : Nat) : Fld := ⟨A.DST_LINKd_UALPHA d, 31, 0⟩
def DST_LINKd_UK_U_K (d : Nat) : Fld := ⟨A.DST_LINKd_UK d, 15, 0⟩
def DST_LINKd_TRACK_TRACK_LIMIT (d : Nat) : Fld := ⟨A.DST_LINKd_TRACK d, 15, 0⟩
def DST_LINKd_TRACK_N_ANCHOR (d : Nat) : Fld := ⟨A.DST_LINKd_TRACK d, 23, 16⟩
def DST_LINKd_STAT_STATE (d : Nat) : Fld := ⟨A.DST_LINKd_STAT d, 1, 0⟩
def DST_LINKd_STAT_PEER_LOCKED (d : Nat) : Fld := ⟨A.DST_LINKd_STAT d, 2, 2⟩
def DST_LINKd_STAT_DEPTH (d : Nat) : Fld := ⟨A.DST_LINKd_STAT d, 5, 3⟩
def DST_LINKd_STAT_TEMP_VALID (d : Nat) : Fld := ⟨A.DST_LINKd_STAT d, 6, 6⟩
def DST_LINKd_STAT_TEMP_FAIL (d : Nat) : Fld := ⟨A.DST_LINKd_STAT d, 7, 7⟩
def DST_LINKd_STAT_UNLOCKS (d : Nat) : Fld := ⟨A.DST_LINKd_STAT d, 15, 8⟩
def DST_LINKd_STAT_CAUSE (d : Nat) : Fld := ⟨A.DST_LINKd_STAT d, 19, 16⟩
def DST_LINKd_RES_VALID (d : Nat) : Fld := ⟨A.DST_LINKd_RES d, 0, 0⟩
def DST_LINKd_RES_SEQ (d : Nat) : Fld := ⟨A.DST_LINKd_RES d, 15, 8⟩
def DST_LINKd_TEMP_T (d : Nat) : Fld := ⟨A.DST_LINKd_TEMP d, 15, 0⟩
def DST_LINKd_EXCH_COUNT (d : Nat) : Fld := ⟨A.DST_LINKd_EXCH d, 31, 0⟩
def DST_LINKd_AUTH_FAIL_COUNT (d : Nat) : Fld := ⟨A.DST_LINKd_AUTH_FAIL d, 31, 0⟩

/-! 16_pair_redundancy.md, R420. -/
def PAR_STAT_ROLE : Fld := ⟨A.PAR_STAT, 1, 0⟩
def PAR_STAT_COPY : Fld := ⟨A.PAR_STAT, 3, 2⟩
def PAR_STAT_LINK_UP : Fld := ⟨A.PAR_STAT, 4, 4⟩
def PAR_STAT_PEER_PPS : Fld := ⟨A.PAR_STAT, 5, 5⟩
def PAR_STAT_PEER_ACTIVE : Fld := ⟨A.PAR_STAT, 6, 6⟩
def PAR_STAT_RESIGN_IN : Fld := ⟨A.PAR_STAT, 7, 7⟩
def PAR_STAT_ARB : Fld := ⟨A.PAR_STAT, 8, 8⟩
def PAR_STAT_APPLYING : Fld := ⟨A.PAR_STAT, 9, 9⟩
def PAR_STAT_MISSED : Fld := ⟨A.PAR_STAT, 15, 10⟩
def PAR_CFG_PAIR_EN : Fld := ⟨A.PAR_CFG, 0, 0⟩
def PAR_CFG_PREF : Fld := ⟨A.PAR_CFG, 2, 1⟩
def PAR_CFG_ARB_EN : Fld := ⟨A.PAR_CFG, 3, 3⟩
def PAR_CFG_AUTH_EN : Fld := ⟨A.PAR_CFG, 4, 4⟩
def PAR_CFG_LOOP_EN : Fld := ⟨A.PAR_CFG, 5, 5⟩
def PAR_CFG_RESIGN_MASK : Fld := ⟨A.PAR_CFG, 13, 8⟩
def PAR_TIMERS_DISCOVER_WAIT : Fld := ⟨A.PAR_TIMERS, 15, 0⟩
def PAR_TIMERS_PPS_TIMEOUT : Fld := ⟨A.PAR_TIMERS, 31, 16⟩
def PAR_HOLDS_ARB_HOLD : Fld := ⟨A.PAR_HOLDS, 15, 0⟩
def PAR_HOLDS_RESIGN_HOLD : Fld := ⟨A.PAR_HOLDS, 31, 16⟩
def PAR_ETYPE_ETYPE : Fld := ⟨A.PAR_ETYPE, 15, 0⟩
def PAR_KEY_HANDLE : Fld := ⟨A.PAR_KEY, 23, 0⟩
def PAR_FIX_AS_FIX : Fld := ⟨A.PAR_FIX_AS, 31, 0⟩
def PAR_FIX_SA_FIX : Fld := ⟨A.PAR_FIX_SA, 31, 0⟩
def PAR_CMD_RESIGN : Fld := ⟨A.PAR_CMD, 0, 0⟩
def PAR_CMD_TAKEOVER : Fld := ⟨A.PAR_CMD, 1, 1⟩
def PAR_CMD_RESYNC : Fld := ⟨A.PAR_CMD, 2, 2⟩
def PAR_GEN_SEALED_GEN : Fld := ⟨A.PAR_GEN_SEALED, 31, 0⟩
def PAR_GEN_COMMIT_GEN : Fld := ⟨A.PAR_GEN_COMMIT, 31, 0⟩
def PAR_VINT_RES_VALID : Fld := ⟨A.PAR_VINT_RES, 0, 0⟩
def PAR_VINT_RES_RESULT : Fld := ⟨A.PAR_VINT_RES, 2, 1⟩
def PAR_VINT_RES_SEQ : Fld := ⟨A.PAR_VINT_RES, 15, 8⟩
def PAR_VINT_T_KT96 (w : Nat) : Fld := ⟨A.PAR_VINT_T w, 31, 0⟩
def PAR_TO_RES_VALID : Fld := ⟨A.PAR_TO_RES, 0, 0⟩
def PAR_TO_RES_CAUSE : Fld := ⟨A.PAR_TO_RES, 3, 1⟩
def PAR_TO_RES_SEQ : Fld := ⟨A.PAR_TO_RES, 15, 8⟩
def PAR_TO_GEN_GEN : Fld := ⟨A.PAR_TO_GEN, 31, 0⟩
def PAR_SENT_COUNT : Fld := ⟨A.PAR_SENT, 31, 0⟩
def PAR_DISCARDED_COUNT : Fld := ⟨A.PAR_DISCARDED, 31, 0⟩
def PAR_RECORDS_COUNT : Fld := ⟨A.PAR_RECORDS, 31, 0⟩
def PAR_COPY_DROP_COUNT : Fld := ⟨A.PAR_COPY_DROP, 31, 0⟩

/-! 17_memory_integrity.md, R434. -/
def MEM_STAT_SRAM_FILLED : Fld := ⟨A.MEM_STAT, 0, 0⟩
def MEM_STAT_LARDER_FILLED : Fld := ⟨A.MEM_STAT, 1, 1⟩
def MEM_STAT_DRAM_FILLED : Fld := ⟨A.MEM_STAT, 2, 2⟩
def MEM_STAT_RETRAINING : Fld := ⟨A.MEM_STAT, 3, 3⟩
def MEM_STAT_RANK : Fld := ⟨A.MEM_STAT, 4, 4⟩
def MEM_STAT_LOST_POS : Fld := ⟨A.MEM_STAT, 13, 8⟩
def MEM_STAT_LOST_VALID : Fld := ⟨A.MEM_STAT, 14, 14⟩
def MEM_STAT_LOST_RANK : Fld := ⟨A.MEM_STAT, 15, 15⟩
def MEM_SCRUB_DRAM_PERIOD : Fld := ⟨A.MEM_SCRUB, 15, 0⟩
def MEM_SCRUB_SRAM_PERIOD : Fld := ⟨A.MEM_SCRUB, 31, 16⟩
def MEM_CFG_RAW_EN : Fld := ⟨A.MEM_CFG, 0, 0⟩
def MEM_CFG_RETRAIN : Fld := ⟨A.MEM_CFG, 31, 16⟩
def MEM_SPARE_SPARES : Fld := ⟨A.MEM_SPARE, 10, 0⟩
def MEM_SPARE_USED : Fld := ⟨A.MEM_SPARE, 26, 16⟩
def MEM_FILL_WM_FILLED : Fld := ⟨A.MEM_FILL_WM, 16, 0⟩
def MEM_LAST_RES_VALID : Fld := ⟨A.MEM_LAST_RES, 0, 0⟩
def MEM_LAST_RES_KIND : Fld := ⟨A.MEM_LAST_RES, 3, 1⟩
def MEM_LAST_RES_SEQ : Fld := ⟨A.MEM_LAST_RES, 15, 8⟩
def MEM_LAST_RES_POS : Fld := ⟨A.MEM_LAST_RES, 22, 16⟩
def MEM_DRAM_CORR_COUNT : Fld := ⟨A.MEM_DRAM_CORR, 31, 0⟩
def MEM_SRAM_CORR_COUNT : Fld := ⟨A.MEM_SRAM_CORR, 31, 0⟩
def MEM_DRAM_UNCORR_COUNT : Fld := ⟨A.MEM_DRAM_UNCORR, 31, 0⟩
def MEM_SRAM_UNCORR_COUNT : Fld := ⟨A.MEM_SRAM_UNCORR, 31, 0⟩
def MEM_STICKY_COUNT : Fld := ⟨A.MEM_STICKY, 31, 0⟩
def MEM_RETIRED_COUNT : Fld := ⟨A.MEM_RETIRED, 31, 0⟩
def MEM_REMAPPED_COUNT : Fld := ⟨A.MEM_REMAPPED, 31, 0⟩
def MEM_TRACK_EVICT_COUNT : Fld := ⟨A.MEM_TRACK_EVICT, 31, 0⟩
def MEM_VIRGIN_READS_COUNT : Fld := ⟨A.MEM_VIRGIN_READS, 31, 0⟩
def MEM_RAW_SEL_TARGET : Fld := ⟨A.MEM_RAW_SEL, 1, 0⟩
def MEM_RAW_DATA_DATA (w : Nat) : Fld := ⟨A.MEM_RAW_DATA w, 31, 0⟩
def MEM_RAW_CHECK_CHECK : Fld := ⟨A.MEM_RAW_CHECK, 15, 0⟩
def MEM_RAW_CMD_READ : Fld := ⟨A.MEM_RAW_CMD, 0, 0⟩
def MEM_RAW_CMD_WRITE : Fld := ⟨A.MEM_RAW_CMD, 1, 1⟩
def MEM_RAW_RES_VALID : Fld := ⟨A.MEM_RAW_RES, 0, 0⟩
def MEM_RAW_RES_RESULT : Fld := ⟨A.MEM_RAW_RES, 2, 1⟩
def MEM_RAW_RES_SEQ : Fld := ⟨A.MEM_RAW_RES, 15, 8⟩
def MEM_DEVp_CORR_COUNT (p : Nat) : Fld := ⟨A.MEM_DEVp_CORR p, 31, 0⟩

/-! 18_management_plane.md, R461. -/
def MGT_BOOT_STATE : Fld := ⟨A.MGT_BOOT, 1, 0⟩
def MGT_BOOT_COPY : Fld := ⟨A.MGT_BOOT, 2, 2⟩
def MGT_BOOT_FALLBACK : Fld := ⟨A.MGT_BOOT, 3, 3⟩
def MGT_BOOT_CAUSE_A : Fld := ⟨A.MGT_BOOT, 11, 8⟩
def MGT_BOOT_CAUSE_B : Fld := ⟨A.MGT_BOOT, 15, 12⟩
def MGT_IMAGE_SERIAL_SERIAL : Fld := ⟨A.MGT_IMAGE_SERIAL, 31, 0⟩
def MGT_ROLLBACK_IMAGE : Fld := ⟨A.MGT_ROLLBACK, 5, 0⟩
def MGT_ROLLBACK_OTP : Fld := ⟨A.MGT_ROLLBACK, 13, 8⟩
def MGT_LOAD_MS_MS : Fld := ⟨A.MGT_LOAD_MS, 15, 0⟩
def MGT_CORE_STAT_FAULTS : Fld := ⟨A.MGT_CORE_STAT, 7, 0⟩
def MGT_CORE_STAT_CAUSE : Fld := ⟨A.MGT_CORE_STAT, 9, 8⟩
def MGT_WDOG_KICK : Fld := ⟨A.MGT_WDOG, 0, 0⟩
def MGT_WDOG_CFG_WDOG_TICKS : Fld := ⟨A.MGT_WDOG_CFG, 15, 0⟩
def MGT_SPI_CFG_WRITE : Fld := ⟨A.MGT_SPI_CFG, 0, 0⟩
def MGT_SPI_STAT_ERR : Fld := ⟨A.MGT_SPI_STAT, 0, 0⟩
def MGT_SPI_STAT_ADDR : Fld := ⟨A.MGT_SPI_STAT, 23, 1⟩
def MGT_TWV_CFG_ETYPE : Fld := ⟨A.MGT_TWV_CFG, 15, 0⟩
def MGT_TWV_CFG_SVC_VLAN_EN : Fld := ⟨A.MGT_TWV_CFG, 16, 16⟩
def MGT_TWV_CFG_VID : Fld := ⟨A.MGT_TWV_CFG, 28, 17⟩
def MGT_TWV_STAT_JOURNAL : Fld := ⟨A.MGT_TWV_STAT, 6, 0⟩
def MGT_TWV_BUSY_COUNT : Fld := ⟨A.MGT_TWV_BUSY, 31, 0⟩
def MGT_TWVk_OPS_OPS (k : Nat) : Fld := ⟨A.MGT_TWVk_OPS k, 16, 1⟩
def MGT_UART_TX_DATA : Fld := ⟨A.MGT_UART_TX, 7, 0⟩
def MGT_UART_RX_POP_EMPTY : Fld := ⟨A.MGT_UART_RX_POP, 0, 0⟩
def MGT_UART_RX_POP_DATA : Fld := ⟨A.MGT_UART_RX_POP, 8, 1⟩
def MGT_UART_RX_POP_FRAME_ERR : Fld := ⟨A.MGT_UART_RX_POP, 9, 9⟩
def MGT_UART_RX_PEEK_HEAD : Fld := ⟨A.MGT_UART_RX_PEEK, 9, 0⟩
def MGT_UART_STAT_TX_FILL : Fld := ⟨A.MGT_UART_STAT, 6, 0⟩
def MGT_UART_STAT_RX_FILL : Fld := ⟨A.MGT_UART_STAT, 14, 8⟩
def MGT_UART_STAT_TX_OVR : Fld := ⟨A.MGT_UART_STAT, 16, 16⟩
def MGT_UART_STAT_RX_OVR : Fld := ⟨A.MGT_UART_STAT, 17, 17⟩
def MGT_STAGE_RES_VALID : Fld := ⟨A.MGT_STAGE_RES, 0, 0⟩
def MGT_STAGE_RES_SEQ : Fld := ⟨A.MGT_STAGE_RES, 15, 8⟩
def MGT_STAGE_TICK_MGT_TICK : Fld := ⟨A.MGT_STAGE_TICK_MGT, 31, 0⟩
def MGT_STAGE_TICK_TWV_TICK : Fld := ⟨A.MGT_STAGE_TICK_TWV, 31, 0⟩
def MGT_STAGE_TICK_SPI_TICK : Fld := ⟨A.MGT_STAGE_TICK_SPI, 31, 0⟩
def MGT_REGIONr_SIZE_PAGES (r : Nat) : Fld := ⟨A.MGT_REGIONr_SIZE r, 27, 0⟩
def MGT_REGIONr_OWNER_OWNER (r : Nat) : Fld := ⟨A.MGT_REGIONr_OWNER r, 2, 0⟩

/-! 18_management_plane.md, R462. -/
def EVT_STAT_FILL : Fld := ⟨A.EVT_STAT, 12, 0⟩
def EVT_STAT_LOG_NONEMPTY : Fld := ⟨A.EVT_STAT, 13, 13⟩
def EVT_STAT_LOG_FULL : Fld := ⟨A.EVT_STAT, 14, 14⟩
def EVT_CFG_SPILL : Fld := ⟨A.EVT_CFG, 12, 0⟩
def EVT_CFG_LOG_EN : Fld := ⟨A.EVT_CFG, 13, 13⟩
def EVT_LOG_SIZE_LOG2 : Fld := ⟨A.EVT_LOG_SIZE, 4, 0⟩
def EVT_LOG_WR_WR : Fld := ⟨A.EVT_LOG_WR, 23, 0⟩
def EVT_LOG_RD_RD : Fld := ⟨A.EVT_LOG_RD, 23, 0⟩
def EVT_POP_EMPTY : Fld := ⟨A.EVT_POP, 0, 0⟩
def EVT_POP_COUNT : Fld := ⟨A.EVT_POP, 13, 1⟩
def EVT_POP_SEQ : Fld := ⟨A.EVT_POP, 31, 16⟩
def EVT_PEEK_REC (w : Nat) : Fld := ⟨A.EVT_PEEK w, 31, 0⟩
def EVT_LOSTb_COUNT (b : Nat) : Fld := ⟨A.EVT_LOSTb b, 31, 0⟩
def EVT_IRQn_MASK_MASK (n w : Nat) : Fld := ⟨A.EVT_IRQn_MASK n w, 31, 0⟩
def EVT_IRQn_PEND_PEND (n w : Nat) : Fld := ⟨A.EVT_IRQn_PEND n w, 31, 0⟩

/-! 19_start_sleep_ageing.md, R477. -/
def CLR_STAT_STATE : Fld := ⟨A.CLR_STAT, 1, 0⟩
def CLR_STAT_VAUX_OK : Fld := ⟨A.CLR_STAT, 2, 2⟩
def CLR_STAT_VBAT_OK : Fld := ⟨A.CLR_STAT, 3, 3⟩
def CLR_STAT_ON_VBAT : Fld := ⟨A.CLR_STAT, 4, 4⟩
def CLR_STAT_BOTH_LOST : Fld := ⟨A.CLR_STAT, 5, 5⟩
def CLR_CFG_DRAIN_MAX : Fld := ⟨A.CLR_CFG, 14, 0⟩
def CLR_CFG_TIMER : Fld := ⟨A.CLR_CFG, 16, 16⟩
def CLR_CFG_TAMPER : Fld := ⟨A.CLR_CFG, 17, 17⟩
def CLR_CMD_ENTER : Fld := ⟨A.CLR_CMD, 0, 0⟩
def CLR_CMD_CNT_SNAP : Fld := ⟨A.CLR_CMD, 1, 1⟩
def CLR_WAKE_AT_SEC : Fld := ⟨A.CLR_WAKE_AT, 31, 0⟩
def CLR_LAST_WAKE_SOURCE : Fld := ⟨A.CLR_LAST_WAKE, 2, 0⟩
def CLR_LAST_WAKE_FULL : Fld := ⟨A.CLR_LAST_WAKE, 3, 3⟩
def CLR_LAST_WAKE_MS : Fld := ⟨A.CLR_LAST_WAKE, 15, 8⟩
def CLR_RESULT_VALID : Fld := ⟨A.CLR_RESULT, 0, 0⟩
def CLR_RESULT_RESULT : Fld := ⟨A.CLR_RESULT, 2, 1⟩
def CLR_RESULT_CAUSE : Fld := ⟨A.CLR_RESULT, 7, 3⟩
def CLR_RESULT_SEQ : Fld := ⟨A.CLR_RESULT, 15, 8⟩
def CLR_DROPk_COUNT (k : Nat) : Fld := ⟨A.CLR_DROPk k, 31, 0⟩

/-! 19_start_sleep_ageing.md, R478. -/
def AGE_STAT_HIST_LOST : Fld := ⟨A.AGE_STAT, 0, 0⟩
def AGE_STAT_AVS_LIMIT : Fld := ⟨A.AGE_STAT, 1, 1⟩
def AGE_STAT_AVS_FAIL : Fld := ⟨A.AGE_STAT, 2, 2⟩
def AGE_STAT_LIFE_PERMIL : Fld := ⟨A.AGE_STAT, 15, 4⟩
def AGE_CFG_AVS_MODE : Fld := ⟨A.AGE_CFG, 0, 0⟩
def AGE_CFG_PMBUS_ADDR : Fld := ⟨A.AGE_CFG, 7, 1⟩
def AGE_CFG_AVS_FLOOR : Fld := ⟨A.AGE_CFG, 15, 8⟩
def AGE_CFG_AVS_K : Fld := ⟨A.AGE_CFG, 23, 16⟩
def AGE_REF_TIC_DRIFT_REF : Fld := ⟨A.AGE_REF, 15, 0⟩
def AGE_REF_FWD : Fld := ⟨A.AGE_REF, 31, 16⟩
def AGE_TJ_TJ : Fld := ⟨A.AGE_TJ, 15, 0⟩
def AGE_TJ_TJ_MAX : Fld := ⟨A.AGE_TJ, 31, 16⟩
def AGE_PDM_SLOW : Fld := ⟨A.AGE_PDM, 15, 0⟩
def AGE_PDM_SLOW_MAX : Fld := ⟨A.AGE_PDM, 31, 16⟩
def AGE_TIC_DRIFT_DRIFT : Fld := ⟨A.AGE_TIC_DRIFT, 15, 0⟩
def AGE_TSU_MOVE_MOVE : Fld := ⟨A.AGE_TSU_MOVE, 15, 0⟩
def AGE_TSU_MOVE_PORT : Fld := ⟨A.AGE_TSU_MOVE, 20, 16⟩
def AGE_EQ_HOURS_HOURS : Fld := ⟨A.AGE_EQ_HOURS, 31, 0⟩
def AGE_AVS_VID : Fld := ⟨A.AGE_AVS, 7, 0⟩
def AGE_AVS_VID_AGE : Fld := ⟨A.AGE_AVS, 15, 8⟩
def AGE_PLAN_RES_VALID : Fld := ⟨A.AGE_PLAN_RES, 0, 0⟩
def AGE_PLAN_RES_SEQ : Fld := ⟨A.AGE_PLAN_RES, 15, 8⟩
def AGE_PLAN_RES_CHANGED : Fld := ⟨A.AGE_PLAN_RES, 19, 16⟩

/-! 20_fault_injection.md, R485. -/
def INJ_CFG_CLASS_EN : Fld := ⟨A.INJ_CFG, 15, 0⟩
def INJ_CFG_DOUBLE_EN : Fld := ⟨A.INJ_CFG, 16, 16⟩
def INJ_CFG_TAMPER_EN : Fld := ⟨A.INJ_CFG, 17, 17⟩
def INJ_STAT_ACTIVE : Fld := ⟨A.INJ_STAT, 15, 0⟩
def INJ_CMD_POINT : Fld := ⟨A.INJ_CMD, 7, 0⟩
def INJ_CMD_INSTANCE : Fld := ⟨A.INJ_CMD, 15, 8⟩
def INJ_CMD_ARM : Fld := ⟨A.INJ_CMD, 16, 16⟩
def INJ_CMD_DISARM : Fld := ⟨A.INJ_CMD, 17, 17⟩
def INJ_CMD_DISARM_ALL : Fld := ⟨A.INJ_CMD, 18, 18⟩
def INJ_ARG0_ARG0 : Fld := ⟨A.INJ_ARG0, 31, 0⟩
def INJ_ARG1_ARG1 : Fld := ⟨A.INJ_ARG1, 31, 0⟩
def INJ_AT_KT96 (w : Nat) : Fld := ⟨A.INJ_AT w, 31, 0⟩
def INJ_RES_VALID : Fld := ⟨A.INJ_RES, 0, 0⟩
def INJ_RES_RESULT : Fld := ⟨A.INJ_RES, 3, 1⟩
def INJ_RES_CAUSE : Fld := ⟨A.INJ_RES, 7, 4⟩
def INJ_RES_SEQ : Fld := ⟨A.INJ_RES, 15, 8⟩
def INJ_RES_POINT : Fld := ⟨A.INJ_RES, 23, 16⟩
def INJ_RES_INSTANCE : Fld := ⟨A.INJ_RES, 31, 24⟩
def INJ_FIRE_T_KT96 (w : Nat) : Fld := ⟨A.INJ_FIRE_T w, 31, 0⟩
def INJ_FIRED_COUNT : Fld := ⟨A.INJ_FIRED, 31, 0⟩

/-! 10_service_engines.md, R275. -/
def SVC_CNT_COUNT (w : Nat) : Fld := ⟨A.SVC_CNT w, 31, 0⟩

/-! 11_client_state.md, R295. -/
def LDR_CNT_COUNT (w : Nat) : Fld := ⟨A.LDR_CNT w, 31, 0⟩

/-! 12_keys_and_authentication.md, R328. -/
def KEY_CNT_COUNT (w : Nat) : Fld := ⟨A.KEY_CNT w, 31, 0⟩

/-! 10_service_engines.md, R275. -/
def SVC_CAUSE_COUNT (w : Nat) : Fld := ⟨A.SVC_CAUSE w, 31, 0⟩
def SVC_REASON_COUNT (w : Nat) : Fld := ⟨A.SVC_REASON w, 31, 0⟩

end F

end Sys2Proof.Machine
end

