-- ==== Sys2Proof/Machine/RegMap.lean ====
section
/-!
DEFINITION. The register map: for every register of the spec's tables its address, its repetition over instances, and
each field's bits, access code (R10), reset value, permitted range and whether the Attic image loads it. Fields the
table calls reserved are not listed (R9: they read 0 and ignore writes). `resetWord` is what a register reads as at
reset (00_scope.md R10, R31; each register table of spec/), `fieldsAt` the fields of the register at an address.
-/
namespace Sys2Proof.Machine

/-- The access codes of R10. -/
inductive Acc where
  | RO | RW | W1C | WO | RP | RS
  deriving DecidableEq, Repr

/-- One field row of a register table. -/
structure FieldDef where
  hi : Nat
  lo : Nat
  acc : Acc
  /-- Reset value, from the outer and the inner instance index. -/
  reset : Nat → Nat → Nat
  /-- The permitted range, where the table gives one. -/
  rng : Option (Nat × Nat)
  /-- Loaded by the Attic image. -/
  attic : Bool

/-- One register of a table, repeated over at most two instance indexes. -/
structure RegDef where
  base : Nat
  /-- Count and stride of each index, outermost first. -/
  dims : List (Nat × Nat)
  fields : List FieldDef

/-- A reset value that is the same for every instance. -/
def k (v : Nat) : Nat → Nat → Nat := fun _ _ => v

/-- R111: the clockClass to QL table at reset, eight nibbles in word `w`. -/
def ptpqlNibble (cc : Nat) : Nat :=
  if cc = 6 then 1 else if cc = 7 then 4 else if cc = 13 then 2 else if cc = 14 then 4
  else if cc = 52 ∨ cc = 58 ∨ cc = 187 ∨ cc = 193 then 12 else if cc = 135 then 6 else if cc = 140 then 8
  else if cc = 150 then 9 else if cc = 160 then 11 else if cc = 165 then 12 else if cc = 248 then 13
  else if cc = 255 then 15 else 14
def ptpqlReset (w : Nat) : Nat :=
  (List.range 8).foldl (fun acc j => acc + ptpqlNibble (8 * w + j) * 2 ^ (4 * j)) 0

/-- R165: the default lock parameters of loop `l`, in ps, reference cycles and us. -/
def loopLockWin (l : Nat) : Nat := if l < 3 then 20 else if l < 5 then 100 else if l = 5 then 50 else 2
def loopLockN (l : Nat) : Nat := if l < 3 then 2000 else if l < 5 then 1000 else if l = 5 then 2000 else 50000
def loopSettle (l : Nat) : Nat :=
  if l < 3 then 1000 else if l < 5 then 100 else if l = 5 then 200 else if l < 26 then 500 else 1000
/-- TX_START at reset is TX_FLOOR at reset (R219). -/
def txFloor (_ : Nat) : Nat := 256


def regs00_0 : List RegDef := [
  /- ID_VENDOR R2 -/ ⟨0x0, [], [⟨31, 0, .RO, k 2981, none, false⟩]⟩,
  /- ID_PART R2 -/ ⟨0x4, [], [⟨31, 0, .RO, k 0x7720, none, false⟩]⟩,
  /- ID_REV R2 -/ ⟨0x8, [], [⟨7, 4, .RO, k 11, none, false⟩,
      ⟨3, 0, .RO, k 0, none, false⟩]⟩,
  /- MGT_BOOT R461 -/ ⟨0x100, [], [⟨1, 0, .RO, k 0, none, false⟩,
      ⟨2, 2, .RO, k 0, none, false⟩,
      ⟨3, 3, .RO, k 0, none, false⟩,
      ⟨11, 8, .RO, k 0, none, false⟩,
      ⟨15, 12, .RO, k 0, none, false⟩]⟩,
  /- MGT_IMAGE_SERIAL R461 -/ ⟨0x104, [], [⟨31, 0, .RO, k 0, none, false⟩]⟩,
  /- MGT_ROLLBACK R461 -/ ⟨0x108, [], [⟨5, 0, .RO, k 0, none, false⟩,
      ⟨13, 8, .RO, k 0, none, false⟩]⟩,
  /- MGT_LOAD_MS R461 -/ ⟨0x10C, [], [⟨15, 0, .RO, k 0, none, false⟩]⟩,
  /- MGT_CORE_STAT R461 -/ ⟨0x110, [], [⟨7, 0, .RO, k 0, none, false⟩,
      ⟨9, 8, .RO, k 0, none, false⟩]⟩,
  /- MGT_WDOG R461 -/ ⟨0x114, [], [⟨0, 0, .WO, k 0, none, false⟩]⟩,
  /- MGT_WDOG_CFG R461 -/ ⟨0x118, [], [⟨15, 0, .RO, k 954, some (16, 65535), true⟩]⟩,
  /- MGT_SPI_CFG R461 -/ ⟨0x120, [], [⟨0, 0, .RO, k 0, none, true⟩]⟩,
  /- MGT_SPI_STAT R461 -/ ⟨0x124, [], [⟨0, 0, .W1C, k 0, none, false⟩,
      ⟨23, 1, .RO, k 0, none, false⟩]⟩,
  /- MGT_TWV_CFG R461 -/ ⟨0x130, [], [⟨15, 0, .RO, k 0, none, true⟩,
      ⟨16, 16, .RO, k 0, none, true⟩,
      ⟨28, 17, .RO, k 0, none, true⟩]⟩,
  /- MGT_TWV_STAT R461 -/ ⟨0x134, [], [⟨6, 0, .RO, k 0, none, false⟩]⟩,
  /- MGT_TWV_BUSY R461 -/ ⟨0x138, [], [⟨31, 0, .RO, k 0, none, false⟩]⟩,
  /- MGT_TWVk_OPS R461 -/ ⟨0x140, [(8, 4)], [⟨16, 1, .RO, k 0, none, true⟩]⟩,
  /- MGT_UART_TX R461 -/ ⟨0x160, [], [⟨7, 0, .WO, k 0, none, false⟩]⟩,
  /- MGT_UART_RX_POP R461 -/ ⟨0x164, [], [⟨0, 0, .RP, k 1, none, false⟩,
      ⟨8, 1, .RP, k 0, none, false⟩,
      ⟨9, 9, .RP, k 0, none, false⟩]⟩,
  /- MGT_UART_RX_PEEK R461 -/ ⟨0x168, [], [⟨9, 0, .RO, k 1, none, false⟩]⟩,
  /- MGT_UART_STAT R461 -/ ⟨0x16C, [], [⟨6, 0, .RO, k 0, none, false⟩,
      ⟨14, 8, .RO, k 0, none, false⟩,
      ⟨16, 16, .W1C, k 0, none, false⟩,
      ⟨17, 17, .W1C, k 0, none, false⟩]⟩,
  /- MGT_STAGE_RES R461 -/ ⟨0x170, [], [⟨0, 0, .RS, k 0, none, false⟩,
      ⟨15, 8, .RS, k 0, none, false⟩]⟩,
  /- MGT_STAGE_TICK_MGT R461 -/ ⟨0x174, [], [⟨31, 0, .RS, k 0, none, false⟩]⟩,
  /- MGT_STAGE_TICK_TWV R461 -/ ⟨0x178, [], [⟨31, 0, .RS, k 0, none, false⟩]⟩,
  /- MGT_STAGE_TICK_SPI R461 -/ ⟨0x17C, [], [⟨31, 0, .RS, k 0, none, false⟩]⟩,
  /- MGT_REGIONr_BASE_LO R461 -/ ⟨0x200, [(16, 0x10)], [⟨31, 12, .RO, k 0, none, true⟩]⟩,
  /- MGT_REGIONr_BASE_HI R461 -/ ⟨0x204, [(16, 0x10)], [⟨7, 0, .RO, k 0, none, true⟩]⟩,
  /- MGT_REGIONr_SIZE R461 -/ ⟨0x208, [(16, 0x10)], [⟨27, 0, .RO, k 0, none, true⟩]⟩,
  /- MGT_REGIONr_OWNER R461 -/ ⟨0x20C, [(16, 0x10)], [⟨2, 0, .RO, k 0, none, true⟩]⟩]
def regs00 : List RegDef := regs00_0

def regs01_0 : List RegDef := [
  /- EVT_STAT R462 -/ ⟨0x10000, [], [⟨12, 0, .RO, k 0, none, false⟩,
      ⟨13, 13, .RO, k 0, none, false⟩,
      ⟨14, 14, .RO, k 0, none, false⟩]⟩,
  /- EVT_CFG R462 -/ ⟨0x10004, [], [⟨12, 0, .RW, k 3072, some (1, 4096), false⟩,
      ⟨13, 13, .RW, k 0, none, false⟩]⟩,
  /- EVT_LOG_BASE_LO R462 -/ ⟨0x10008, [], [⟨31, 12, .RW, k 0, none, false⟩]⟩,
  /- EVT_LOG_BASE_HI R462 -/ ⟨0x1000C, [], [⟨7, 0, .RW, k 0, none, false⟩]⟩,
  /- EVT_LOG_SIZE R462 -/ ⟨0x10010, [], [⟨4, 0, .RW, k 16, some (10, 24), false⟩]⟩,
  /- EVT_LOG_WR R462 -/ ⟨0x10014, [], [⟨23, 0, .RO, k 0, none, false⟩]⟩,
  /- EVT_LOG_RD R462 -/ ⟨0x10018, [], [⟨23, 0, .RW, k 0, none, false⟩]⟩,
  /- EVT_POP R462 -/ ⟨0x10020, [], [⟨0, 0, .RP, k 1, none, false⟩,
      ⟨13, 1, .RP, k 0, none, false⟩,
      ⟨31, 16, .RP, k 0, none, false⟩]⟩,
  /- EVT_PEEK R462 -/ ⟨0x10030, [(4, 4)], [⟨31, 0, .RO, k 0, none, false⟩]⟩,
  /- EVT_LOSTb R462 -/ ⟨0x10040, [(16, 4)], [⟨31, 0, .RO, k 0, none, false⟩]⟩,
  /- EVT_IRQn_MASK R462 -/ ⟨0x10100, [(8, 0x40), (8, 4)], [⟨31, 0, .RW, k 0, none, false⟩]⟩,
  /- EVT_IRQn_PEND R462 -/ ⟨0x10120, [(8, 0x40), (8, 4)], [⟨31, 0, .W1C, k 0, none, false⟩]⟩]
def regs01 : List RegDef := regs01_0

def regs02_0 : List RegDef := [
  /- KPR_STAT R72 -/ ⟨0x20000, [], [⟨2, 0, .RO, k 0, none, false⟩,
      ⟨6, 4, .RO, k 0, none, false⟩,
      ⟨10, 8, .RO, k 0, none, false⟩,
      ⟨12, 12, .RO, k 1, none, false⟩,
      ⟨13, 13, .RO, k 1, none, false⟩,
      ⟨14, 14, .RO, k 0, none, false⟩,
      ⟨17, 16, .RO, k 3, none, false⟩]⟩,
  /- KPR_VOTE_CFG R72 -/ ⟨0x20004, [], [⟨15, 0, .RW, k 64, some (8, 65535), false⟩,
      ⟨19, 16, .RW, k 4, some (1, 15), false⟩]⟩,
  /- KPR_REJOIN_CFG R72 -/ ⟨0x20008, [], [⟨23, 0, .RW, k 0xF4240, some (1000, 16777215), false⟩,
      ⟨26, 24, .RW, k 7, none, false⟩]⟩,
  /- KPR_TRIM_CFG R72 -/ ⟨0x2000C, [], [⟨2, 0, .RW, k 3, some (0, 6), false⟩]⟩,
  /- KPR_SNAP_CMD R72 -/ ⟨0x20010, [], [⟨0, 0, .WO, k 0, none, false⟩]⟩,
  /- KPR_SNAP_STAT R72 -/ ⟨0x20020, [], [⟨0, 0, .RS, k 0, none, false⟩,
      ⟨15, 8, .RS, k 0, none, false⟩,
      ⟨18, 16, .RS, k 0, none, false⟩,
      ⟨22, 20, .RS, k 0, none, false⟩]⟩,
  /- KPR_SNAP_VT R72 -/ ⟨0x20024, [(3, 4)], [⟨31, 0, .RS, k 0, none, false⟩]⟩,
  /- KPR_SNAP_A R72 -/ ⟨0x20030, [(3, 4)], [⟨31, 0, .RS, k 0, none, false⟩]⟩,
  /- KPR_SNAP_B R72 -/ ⟨0x2003C, [(3, 4)], [⟨31, 0, .RS, k 0, none, false⟩]⟩,
  /- KPR_SNAP_C R72 -/ ⟨0x20048, [(3, 4)], [⟨31, 0, .RS, k 0, none, false⟩]⟩,
  /- KPR_SNAP_OFS R72 -/ ⟨0x20054, [(3, 4)], [⟨31, 0, .RS, k 0, none, false⟩]⟩,
  /- KPR_VT R72 -/ ⟨0x20060, [(3, 4)], [⟨31, 0, .RO, k 0, none, false⟩]⟩,
  /- KPR_UTC_STAT R72 -/ ⟨0x20070, [], [⟨15, 0, .RO, k 0, none, true⟩,
      ⟨16, 16, .RO, k 0, none, false⟩,
      ⟨17, 17, .RO, k 0, none, false⟩,
      ⟨18, 18, .RO, k 0, none, false⟩,
      ⟨19, 19, .RO, k 0, none, false⟩]⟩,
  /- KPR_LEAP_SEC_LO R72 -/ ⟨0x20074, [], [⟨31, 0, .RW, k 0, none, false⟩]⟩,
  /- KPR_LEAP_SEC_HI R72 -/ ⟨0x20078, [], [⟨15, 0, .RW, k 0, none, false⟩,
      ⟨16, 16, .RW, k 0, none, false⟩]⟩,
  /- KPR_LEAP_CMD R72 -/ ⟨0x2007C, [], [⟨0, 0, .WO, k 0, none, false⟩,
      ⟨1, 1, .WO, k 0, none, false⟩]⟩,
  /- KPR_x_STAT R73 -/ ⟨0x20100, [(3, 0x100)], [⟨0, 0, .RO, k 0, none, false⟩,
      ⟨1, 1, .RO, k 0, none, false⟩,
      ⟨3, 2, .RO, k 0, none, false⟩,
      ⟨7, 4, .RO, k 0, none, false⟩,
      ⟨15, 8, .RO, k 0, none, false⟩,
      ⟨20, 16, .RO, k 0, none, false⟩,
      ⟨22, 21, .RO, k 0, none, false⟩,
      ⟨23, 23, .RO, k 0, none, false⟩]⟩,
  /- KPR_x_OFS R73 -/ ⟨0x20104, [(3, 0x100)], [⟨31, 0, .RO, k 0, none, false⟩]⟩,
  /- KPR_x_FREQ_LO R73 -/ ⟨0x20108, [(3, 0x100)], [⟨31, 0, .RO, k 0, none, false⟩]⟩,
  /- KPR_x_FREQ_HI R73 -/ ⟨0x2010C, [(3, 0x100)], [⟨23, 0, .RO, k 0, none, false⟩,
      ⟨31, 24, .RO, k 0, none, false⟩]⟩,
  /- KPR_x_TRIM_LO R73 -/ ⟨0x20110, [(3, 0x100)], [⟨31, 0, .RO, k 0, none, false⟩]⟩,
  /- KPR_x_TRIM_HI R73 -/ ⟨0x20114, [(3, 0x100)], [⟨7, 0, .RO, k 0, none, false⟩,
      ⟨31, 8, .RO, k 0, none, false⟩]⟩,
  /- KPR_x_TIME R73 -/ ⟨0x20118, [(3, 0x100), (3, 4)], [⟨31, 0, .RO, k 0, none, false⟩]⟩,
  /- KPR_x_CMD R73 -/ ⟨0x20124, [(3, 0x100)], [⟨0, 0, .WO, k 0, none, false⟩,
      ⟨1, 1, .WO, k 0, none, false⟩]⟩]
def regs02 : List RegDef := regs02_0

def regs03_0 : List RegDef := [
  /- BND_STAT R95 -/ ⟨0x30000, [], [⟨1, 0, .RO, k 2, none, false⟩,
      ⟨3, 2, .RO, k 2, none, false⟩,
      ⟨5, 4, .RO, k 2, none, false⟩,
      ⟨6, 6, .RO, k 0, none, false⟩,
      ⟨7, 7, .RO, k 0, none, false⟩,
      ⟨15, 8, .RO, k 0, none, false⟩]⟩,
  /- BND_CFG R95 -/ ⟨0x30004, [], [⟨0, 0, .RO, k 0, none, true⟩,
      ⟨1, 1, .RO, k 0, none, true⟩,
      ⟨2, 2, .RO, k 0, none, true⟩,
      ⟨3, 3, .RO, k 0, none, true⟩]⟩,
  /- BND_NTP_EF_TYPE R95 -/ ⟨0x30008, [], [⟨15, 0, .RO, k 0, none, true⟩]⟩,
  /- BND_PTP_ORG R95 -/ ⟨0x3000C, [], [⟨23, 0, .RO, k 0, none, true⟩]⟩,
  /- BND_PTP_SUBTYPE R95 -/ ⟨0x30010, [], [⟨23, 0, .RO, k 0, none, true⟩]⟩,
  /- BND_SAMPLE_TIMEOUT R95 -/ ⟨0x30014, [], [⟨15, 0, .RW, k 2048, some (1, 65535), false⟩]⟩,
  /- BND_HOLD_LIMIT_LO R95 -/ ⟨0x30018, [], [⟨31, 0, .RO, k 0xFFFFFFFF, none, true⟩]⟩,
  /- BND_HOLD_LIMIT_HI R95 -/ ⟨0x3001C, [], [⟨15, 0, .RO, k 0xFFFF, none, true⟩]⟩,
  /- BND_SERVICE_LIMIT_LO R95 -/ ⟨0x30020, [], [⟨31, 0, .RO, k 0, none, true⟩]⟩,
  /- BND_SERVICE_LIMIT_HI R95 -/ ⟨0x30024, [], [⟨15, 0, .RO, k 0, none, true⟩]⟩,
  /- BND_HW_BASE_LO R95 -/ ⟨0x30028, [], [⟨31, 0, .RO, k 0xFFFFFFFF, none, true⟩]⟩,
  /- BND_HW_BASE_HI R95 -/ ⟨0x3002C, [], [⟨15, 0, .RO, k 0xFFFF, none, true⟩]⟩,
  /- BND_HW_AGE_LO R95 -/ ⟨0x30030, [], [⟨31, 0, .RO, k 0, none, false⟩]⟩,
  /- BND_HW_AGE_HI R95 -/ ⟨0x30034, [], [⟨15, 0, .RO, k 0, none, false⟩]⟩,
  /- BND_FW_MARGIN_LO R95 -/ ⟨0x30038, [], [⟨31, 0, .RW, k 0, none, false⟩]⟩,
  /- BND_FW_MARGIN_HI R95 -/ ⟨0x3003C, [], [⟨15, 0, .RW, k 0, none, false⟩]⟩,
  /- BND_C1_FLOOR R95 -/ ⟨0x30040, [], [⟨31, 0, .RO, k 0xFFFFFFFF, none, true⟩]⟩,
  /- BND_C2_FLOOR R95 -/ ⟨0x30044, [], [⟨31, 0, .RO, k 0xFFFFFFFF, none, true⟩]⟩,
  /- BND_EPOCH R95 -/ ⟨0x30048, [], [⟨31, 0, .RO, k 0, none, false⟩]⟩,
  /- BND_TRACE_BASE_LO R95 -/ ⟨0x30060, [], [⟨31, 12, .RW, k 0, none, false⟩]⟩,
  /- BND_TRACE_BASE_HI R95 -/ ⟨0x30064, [], [⟨7, 0, .RW, k 0, none, false⟩]⟩,
  /- BND_TRACE_SIZE R95 -/ ⟨0x30068, [], [⟨4, 0, .RW, k 16, some (10, 20), false⟩]⟩,
  /- BND_TRACE_STAT R95 -/ ⟨0x3006C, [], [⟨19, 0, .RO, k 0, none, false⟩,
      ⟨27, 20, .RO, k 0, none, false⟩,
      ⟨31, 28, .RO, k 0, none, false⟩]⟩,
  /- BND_TRACE_POP R95 -/ ⟨0x30070, [], [⟨0, 0, .RP, k 1, none, false⟩,
      ⟨7, 1, .RP, k 0, none, false⟩,
      ⟨31, 8, .RP, k 0, none, false⟩]⟩,
  /- BND_TRACE_PEEK R95 -/ ⟨0x30080, [(16, 4)], [⟨31, 0, .RO, k 0, none, false⟩]⟩,
  /- BND_x_REF_LO R96 -/ ⟨0x30100, [(3, 0x40)], [⟨31, 0, .RO, k 0xFFFFFFFF, none, false⟩]⟩,
  /- BND_x_REF_HI R96 -/ ⟨0x30104, [(3, 0x40)], [⟨15, 0, .RO, k 0xFFFF, none, false⟩]⟩,
  /- BND_x_HOLD_LO R96 -/ ⟨0x30108, [(3, 0x40)], [⟨31, 0, .RO, k 0xFFFFFFFF, none, false⟩]⟩,
  /- BND_x_HOLD_HI R96 -/ ⟨0x3010C, [(3, 0x40)], [⟨15, 0, .RO, k 0xFFFF, none, false⟩]⟩,
  /- BND_x_HW_LO R96 -/ ⟨0x30110, [(3, 0x40)], [⟨31, 0, .RO, k 0xFFFFFFFF, none, false⟩]⟩,
  /- BND_x_HW_HI R96 -/ ⟨0x30114, [(3, 0x40)], [⟨15, 0, .RO, k 0xFFFF, none, false⟩]⟩,
  /- BND_x_OFS_LO R96 -/ ⟨0x30118, [(3, 0x40)], [⟨31, 0, .RO, k 0xFFFFFFFF, none, false⟩]⟩,
  /- BND_x_OFS_HI R96 -/ ⟨0x3011C, [(3, 0x40)], [⟨15, 0, .RO, k 0xFFFF, none, false⟩]⟩,
  /- BND_x_CORE_LO R96 -/ ⟨0x30120, [(3, 0x40)], [⟨31, 0, .RO, k 0xFFFFFFFF, none, false⟩]⟩,
  /- BND_x_CORE_HI R96 -/ ⟨0x30124, [(3, 0x40)], [⟨15, 0, .RO, k 0xFFFF, none, false⟩]⟩,
  /- BND_SLOTn_MIN_LO R97 -/ ⟨0x30400, [(16, 8)], [⟨31, 0, .RO, k 0xFFFFFFFF, none, true⟩]⟩,
  /- BND_SLOTn_MIN_HI R97 -/ ⟨0x30404, [(16, 8)], [⟨15, 0, .RO, k 0xFFFF, none, true⟩]⟩,
  /- BND_PORTk_ASYM_LO R97 -/ ⟨0x30500, [(20, 8)], [⟨31, 0, .RW, k 0xFFFFFFFF, none, true⟩]⟩,
  /- BND_PORTk_ASYM_HI R97 -/ ⟨0x30504, [(20, 8)], [⟨15, 0, .RW, k 0xFFFF, none, true⟩]⟩,
  /- BND_QUERY_T R98 -/ ⟨0x30600, [(3, 4)], [⟨31, 0, .RW, k 0, none, false⟩]⟩]

def regs03_1 : List RegDef := [
  /- BND_QUERY_CMD R98 -/ ⟨0x3060C, [], [⟨4, 0, .RW, k 0, none, false⟩,
      ⟨8, 8, .WO, k 0, none, false⟩]⟩,
  /- BND_QRES R98 -/ ⟨0x30610, [], [⟨0, 0, .RS, k 0, none, false⟩,
      ⟨15, 8, .RS, k 0, none, false⟩,
      ⟨23, 16, .RS, k 255, none, false⟩,
      ⟨29, 24, .RS, k 0, none, false⟩]⟩,
  /- BND_QRES_B_LO R98 -/ ⟨0x30614, [], [⟨31, 0, .RS, k 0xFFFFFFFF, none, false⟩]⟩,
  /- BND_QRES_B_HI R98 -/ ⟨0x30618, [], [⟨15, 0, .RS, k 0xFFFF, none, false⟩]⟩]
def regs03 : List RegDef := regs03_0 ++ regs03_1

def regs04_0 : List RegDef := [
  /- REF_STAT R125 -/ ⟨0x40000, [], [⟨3, 0, .RO, k 0, none, false⟩,
      ⟨4, 4, .RO, k 0, none, false⟩,
      ⟨5, 5, .RO, k 0, none, false⟩,
      ⟨6, 6, .RO, k 0, none, false⟩,
      ⟨11, 8, .RO, k 0, none, false⟩,
      ⟨12, 12, .RO, k 0, none, false⟩,
      ⟨15, 13, .RO, k 0, none, false⟩,
      ⟨19, 16, .RO, k 0, none, false⟩,
      ⟨20, 20, .RO, k 0, none, false⟩,
      ⟨21, 21, .RO, k 0, none, false⟩]⟩,
  /- REF_CFG R125 -/ ⟨0x40004, [], [⟨0, 0, .RW, k 0, none, false⟩]⟩,
  /- REF_CMD R125 -/ ⟨0x40008, [], [⟨3, 0, .WO, k 0, none, false⟩,
      ⟨11, 8, .WO, k 0, none, false⟩]⟩,
  /- REF_WIT_AGREE R125 -/ ⟨0x4000C, [], [⟨31, 0, .RW, k 0x186A0, none, false⟩]⟩,
  /- REF_QUAL_MASK R125 -/ ⟨0x40010, [], [⟨15, 0, .RO, k 0, none, false⟩,
      ⟨31, 16, .RO, k 0, none, false⟩]⟩,
  /- REF_FLAG_MASK R125 -/ ⟨0x40014, [], [⟨15, 0, .RO, k 0, none, false⟩,
      ⟨31, 16, .RO, k 0, none, false⟩]⟩,
  /- REF_SW_RES R125 -/ ⟨0x40018, [], [⟨0, 0, .RS, k 0, none, false⟩,
      ⟨3, 1, .RS, k 0, none, false⟩,
      ⟨7, 4, .RS, k 0, none, false⟩,
      ⟨15, 8, .RS, k 0, none, false⟩,
      ⟨19, 16, .RS, k 0, none, false⟩,
      ⟨20, 20, .RS, k 0, none, false⟩,
      ⟨21, 21, .RS, k 0, none, false⟩,
      ⟨22, 22, .RS, k 0, none, false⟩]⟩,
  /- REF_SW_OFS_LO R125 -/ ⟨0x4001C, [], [⟨31, 0, .RS, k 0, none, false⟩]⟩,
  /- REF_SW_OFS_HI R125 -/ ⟨0x40020, [], [⟨15, 0, .RS, k 0, none, false⟩]⟩,
  /- REF_PTPQL R125 -/ ⟨0x40040, [(32, 4)], [⟨31, 0, .RO, fun _ w => ptpqlReset w, none, true⟩]⟩,
  /- REF_TOD_CFG R125 -/ ⟨0x400C0, [(4, 4)], [⟨2, 0, .RO, k 4, none, true⟩,
      ⟨3, 3, .RO, k 0, none, true⟩]⟩,
  /- REF_TOD_STAT R125 -/ ⟨0x400D0, [(4, 4)], [⟨15, 0, .RO, k 0, none, false⟩,
      ⟨23, 16, .RO, k 0, none, false⟩,
      ⟨31, 24, .RO, k 0, none, false⟩]⟩,
  /- REF_PIN_CFG R125 -/ ⟨0x400E0, [(8, 4)], [⟨1, 0, .RO, k 0, none, true⟩,
      ⟨2, 2, .RO, k 0, none, true⟩,
      ⟨31, 4, .RO, k 0, some (1000, 250000000), true⟩]⟩,
  /- REF_SLOTn_BIND R126 -/ ⟨0x40100, [(16, 0x40)], [⟨3, 0, .RO, k 0, none, true⟩,
      ⟨7, 4, .RO, k 0, none, true⟩,
      ⟨10, 8, .RO, k 0, some (0, 3), true⟩,
      ⟨11, 11, .RO, k 0, none, true⟩,
      ⟨14, 12, .RO, k 0, none, true⟩,
      ⟨15, 15, .RO, k 0, none, true⟩,
      ⟨19, 16, .RO, k 15, none, true⟩]⟩,
  /- REF_SLOTn_CFG R126 -/ ⟨0x40104, [(16, 0x40)], [⟨3, 0, .RW, fun n _ => n, none, false⟩,
      ⟨7, 4, .RW, k 14, some (0, 14), false⟩,
      ⟨8, 8, .RW, k 1, none, false⟩,
      ⟨9, 9, .RW, k 0, none, true⟩]⟩,
  /- REF_SLOTn_TIME R126 -/ ⟨0x40108, [(16, 0x40)], [⟨15, 0, .RW, k 300, some (0, 65535), false⟩,
      ⟨31, 16, .RW, k 0, some (1, 65535), false⟩]⟩,
  /- REF_SLOTn_FLIM R126 -/ ⟨0x4010C, [(16, 0x40)], [⟨31, 0, .RW, k 0, none, false⟩]⟩,
  /- REF_SLOTn_FDIS R126 -/ ⟨0x40110, [(16, 0x40)], [⟨31, 0, .RW, k 0, none, false⟩]⟩,
  /- REF_SLOTn_JUMP R126 -/ ⟨0x40114, [(16, 0x40)], [⟨31, 0, .RW, k 0, none, false⟩]⟩,
  /- REF_SLOTn_LOS R126 -/ ⟨0x40118, [(16, 0x40)], [⟨15, 0, .RW, k 0, some (1, 65535), false⟩,
      ⟨19, 16, .RW, k 3, some (2, 15), false⟩]⟩,
  /- REF_SLOTn_STAT R126 -/ ⟨0x4011C, [(16, 0x40)], [⟨2, 0, .RO, k 0, none, false⟩,
      ⟨3, 3, .RO, k 0, none, false⟩,
      ⟨7, 4, .RO, k 15, none, false⟩,
      ⟨8, 8, .RO, k 0, none, false⟩,
      ⟨9, 9, .RO, k 0, none, false⟩,
      ⟨10, 10, .RO, k 0, none, false⟩,
      ⟨11, 11, .RO, k 0, none, false⟩,
      ⟨12, 12, .RO, k 0, none, false⟩,
      ⟨15, 13, .RO, k 0, none, false⟩,
      ⟨31, 16, .RO, k 0, none, false⟩]⟩,
  /- REF_SLOTn_HIST R126 -/ ⟨0x40120, [(16, 0x40)], [⟨9, 0, .W1C, k 0, none, false⟩]⟩,
  /- REF_SLOTn_OFS_LO R126 -/ ⟨0x40124, [(16, 0x40)], [⟨31, 0, .RO, k 0, none, false⟩]⟩,
  /- REF_SLOTn_OFS_HI R126 -/ ⟨0x40128, [(16, 0x40)], [⟨15, 0, .RO, k 0, none, false⟩]⟩,
  /- REF_SLOTn_FREQ R126 -/ ⟨0x4012C, [(16, 0x40)], [⟨31, 0, .RO, k 0, none, false⟩]⟩,
  /- REF_SLOTn_SUSP_LO R126 -/ ⟨0x40130, [(16, 0x40)], [⟨31, 0, .RO, k 0, none, false⟩]⟩,
  /- REF_SLOTn_SUSP_HI R126 -/ ⟨0x40134, [(16, 0x40)], [⟨15, 0, .RO, k 0, none, false⟩]⟩,
  /- REF_SLOTn_CNT R126 -/ ⟨0x40138, [(16, 0x40)], [⟨15, 0, .RO, k 0, none, false⟩,
      ⟨31, 16, .RO, k 0, none, false⟩]⟩,
  /- REF_SLOTn_UPSEQ R126 -/ ⟨0x4013C, [(16, 0x40)], [⟨31, 0, .RO, k 0xFFFFFFFF, none, false⟩]⟩]
def regs04 : List RegDef := regs04_0

def regs05_0 : List RegDef := [
  /- DSC_STAT R154 -/ ⟨0x50000, [], [⟨2, 0, .RO, k 0, none, false⟩,
      ⟨3, 3, .RO, k 0, none, false⟩,
      ⟨4, 4, .RO, k 0, none, false⟩,
      ⟨5, 5, .RO, k 0, none, false⟩,
      ⟨6, 6, .RO, k 0, none, false⟩,
      ⟨11, 8, .RO, k 0, none, false⟩,
      ⟨14, 12, .RO, k 0, none, false⟩,
      ⟨17, 15, .RO, k 0, none, false⟩,
      ⟨20, 18, .RO, k 0, none, false⟩]⟩,
  /- DSC_CFG R154 -/ ⟨0x50004, [], [⟨0, 0, .RO, k 0, none, true⟩]⟩,
  /- DSC_SLEW_MAX R154 -/ ⟨0x50008, [], [⟨31, 0, .RO, k 0x5F5E100, some (0, 1000000000), true⟩]⟩,
  /- DSC_FMAX R154 -/ ⟨0x5000C, [], [⟨31, 0, .RO, k 0x2FAF080, some (0, 50000000), true⟩]⟩,
  /- DSC_CAPTURE R154 -/ ⟨0x50010, [], [⟨31, 0, .RW, k 1000, some (0, 10000000), false⟩]⟩,
  /- DSC_FLOCK_LIMIT R154 -/ ⟨0x50014, [], [⟨31, 0, .RW, k 0xF4240, none, false⟩]⟩,
  /- DSC_LOCK_TIME R154 -/ ⟨0x50018, [], [⟨15, 0, .RW, k 64, some (1, 65535), false⟩,
      ⟨31, 16, .RW, k 10, some (1, 65535), false⟩]⟩,
  /- DSC_ACQ_BW R154 -/ ⟨0x5001C, [], [⟨16, 0, .RW, k 0x2710, some (1, 100000), false⟩,
      ⟨31, 24, .RW, k 181, some (64, 255), false⟩]⟩,
  /- DSC_MODEL_CFG R154 -/ ⟨0x50020, [], [⟨15, 0, .RO, k 60, some (0, 60), true⟩,
      ⟨31, 16, .RO, k 60, some (1, 65535), true⟩]⟩,
  /- DSC_MODEL_STEP_MAX R154 -/ ⟨0x50024, [], [⟨31, 0, .RO, k 0xF4240, none, true⟩]⟩,
  /- DSC_UF_NOMODEL R154 -/ ⟨0x50028, [], [⟨31, 0, .RO, k 0xFFFFFFFF, none, true⟩]⟩,
  /- DSC_CLASS R154 -/ ⟨0x5002C, [], [⟨7, 0, .RO, k 6, none, true⟩,
      ⟨15, 8, .RO, k 7, none, true⟩,
      ⟨23, 16, .RO, k 140, none, true⟩,
      ⟨31, 24, .RO, k 248, none, true⟩]⟩,
  /- DSC_REALIGN_CMD R154 -/ ⟨0x50030, [], [⟨3, 0, .RW, k 0, none, false⟩,
      ⟨4, 4, .RW, k 0, none, false⟩,
      ⟨8, 8, .WO, k 0, none, false⟩]⟩,
  /- DSC_RA_OFS R154 -/ ⟨0x50034, [(3, 4)], [⟨31, 0, .RW, k 0, none, false⟩]⟩,
  /- DSC_RA_AT R154 -/ ⟨0x50040, [(3, 4)], [⟨31, 0, .RW, k 0, none, false⟩]⟩,
  /- DSC_RA_U_LO R154 -/ ⟨0x5004C, [], [⟨31, 0, .RW, k 0, none, false⟩]⟩,
  /- DSC_RA_U_HI R154 -/ ⟨0x50050, [], [⟨15, 0, .RW, k 0, none, false⟩]⟩,
  /- DSC_RA_RES R154 -/ ⟨0x50054, [], [⟨0, 0, .RS, k 0, none, false⟩,
      ⟨2, 1, .RS, k 0, none, false⟩,
      ⟨7, 3, .RS, k 0, none, false⟩,
      ⟨15, 8, .RS, k 0, none, false⟩]⟩,
  /- DSC_RA_STEP R154 -/ ⟨0x50058, [(3, 4)], [⟨31, 0, .RS, k 0, none, false⟩]⟩,
  /- DSC_LOOP_PERR R154 -/ ⟨0x50080, [], [⟨31, 0, .RO, k 0, none, false⟩]⟩,
  /- DSC_LOOP_P R154 -/ ⟨0x50084, [], [⟨31, 0, .RO, k 0, none, false⟩]⟩,
  /- DSC_SLOTn_BW R154 -/ ⟨0x50100, [(16, 4)], [⟨16, 0, .RW, k 1000, some (1, 100000), false⟩,
      ⟨31, 24, .RW, k 181, none, false⟩]⟩,
  /- DSC_OSCx_CFG R155 -/ ⟨0x50200, [(3, 0x80)], [⟨1, 0, .RO, k 0, none, true⟩,
      ⟨2, 2, .RO, k 0, none, true⟩,
      ⟨3, 3, .RO, k 0, none, true⟩,
      ⟨10, 4, .RO, k 0, none, true⟩,
      ⟨23, 16, .RO, k 0, none, true⟩]⟩,
  /- DSC_OSCx_EFC R155 -/ ⟨0x50204, [(3, 0x80)], [⟨19, 0, .RO, k 0x80000, none, false⟩]⟩,
  /- DSC_OSCx_EFC_MIN R155 -/ ⟨0x50208, [(3, 0x80)], [⟨19, 0, .RO, k 0, none, true⟩]⟩,
  /- DSC_OSCx_EFC_MAX R155 -/ ⟨0x5020C, [(3, 0x80)], [⟨19, 0, .RO, k 0xFFFFF, none, true⟩]⟩,
  /- DSC_OSCx_EFC_PARK R155 -/ ⟨0x50210, [(3, 0x80)], [⟨19, 0, .RO, k 0x80000, none, true⟩]⟩,
  /- DSC_OSCx_STEER R155 -/ ⟨0x50214, [(3, 0x80)], [⟨15, 0, .RO, k 16, none, true⟩,
      ⟨31, 16, .RO, k 1000, none, true⟩]⟩,
  /- DSC_OSCx_KV R155 -/ ⟨0x50218, [(3, 0x80)], [⟨31, 0, .RO, k 0, none, true⟩]⟩,
  /- DSC_OSCx_WORD_CFG R155 -/ ⟨0x5021C, [(3, 0x80)], [⟨6, 0, .RO, k 0, none, true⟩,
      ⟨15, 8, .RO, k 0, none, true⟩,
      ⟨20, 16, .RO, k 15, some (15, 31), true⟩]⟩,
  /- DSC_OSCx_WORD R155 -/ ⟨0x50220, [(3, 0x80)], [⟨31, 0, .RO, k 0, none, false⟩]⟩,
  /- DSC_OSCx_TENV R155 -/ ⟨0x50224, [(3, 0x80)], [⟨15, 0, .RO, k 0xFFFF, none, true⟩,
      ⟨31, 16, .RO, k 0xFFFF, none, true⟩]⟩,
  /- DSC_OSCx_TEMP R155 -/ ⟨0x50228, [(3, 0x80)], [⟨15, 0, .RO, k 0, none, false⟩,
      ⟨16, 16, .RO, k 0, none, false⟩]⟩,
  /- DSC_OSCx_M_F0_LO R155 -/ ⟨0x50230, [(3, 0x80)], [⟨31, 0, .RW, k 0, none, true⟩]⟩,
  /- DSC_OSCx_M_F0_HI R155 -/ ⟨0x50234, [(3, 0x80)], [⟨23, 0, .RW, k 0, none, true⟩]⟩,
  /- DSC_OSCx_M_A1 R155 -/ ⟨0x50238, [(3, 0x80)], [⟨31, 0, .RW, k 0, none, false⟩]⟩,
  /- DSC_OSCx_M_KT R155 -/ ⟨0x5023C, [(3, 0x80)], [⟨31, 0, .RW, k 0, none, false⟩]⟩,
  /- DSC_OSCx_M_TREF R155 -/ ⟨0x50240, [(3, 0x80)], [⟨15, 0, .RW, k 0, none, false⟩,
      ⟨31, 16, .RW, k 0, none, false⟩]⟩,
  /- DSC_OSCx_M_EPOCH R155 -/ ⟨0x50244, [(3, 0x80)], [⟨31, 0, .RW, k 0, none, false⟩]⟩,
  /- DSC_OSCx_M_UF R155 -/ ⟨0x50248, [(3, 0x80)], [⟨31, 0, .RW, k 0xFFFFFFFF, none, false⟩]⟩]

def regs05_1 : List RegDef := [
  /- DSC_OSCx_M_UA R155 -/ ⟨0x5024C, [(3, 0x80)], [⟨31, 0, .RW, k 0xFFFFFFFF, none, false⟩]⟩,
  /- DSC_OSCx_M_UK R155 -/ ⟨0x50250, [(3, 0x80)], [⟨31, 0, .RW, k 0xFFFFFFFF, none, false⟩]⟩,
  /- DSC_OSCx_M_CMD R155 -/ ⟨0x50254, [(3, 0x80)], [⟨0, 0, .WO, k 0, none, false⟩]⟩,
  /- DSC_OSCx_C1_LO R155 -/ ⟨0x50258, [(3, 0x80)], [⟨31, 0, .RO, k 0xFFFFFFFF, none, false⟩]⟩,
  /- DSC_OSCx_C1_HI R155 -/ ⟨0x5025C, [(3, 0x80)], [⟨7, 0, .RO, k 0xFF, none, false⟩]⟩,
  /- DSC_OSCx_C2_LO R155 -/ ⟨0x50260, [(3, 0x80)], [⟨31, 0, .RO, k 0xFFFFFFFF, none, false⟩]⟩,
  /- DSC_OSCx_C2_HI R155 -/ ⟨0x50264, [(3, 0x80)], [⟨7, 0, .RO, k 0xFF, none, false⟩]⟩,
  /- DSC_WIT_STAT R156 -/ ⟨0x50400, [], [⟨0, 0, .RO, k 0, none, false⟩,
      ⟨1, 1, .RO, k 0, none, false⟩]⟩,
  /- DSC_WIT_W0 R156 -/ ⟨0x50404, [], [⟨31, 0, .RW, k 0, none, false⟩]⟩,
  /- DSC_WIT_W1 R156 -/ ⟨0x50408, [], [⟨31, 0, .RW, k 0, none, false⟩]⟩,
  /- DSC_WIT_EPOCH R156 -/ ⟨0x5040C, [], [⟨31, 0, .RW, k 0, none, false⟩]⟩,
  /- DSC_WIT_U R156 -/ ⟨0x50410, [], [⟨31, 0, .RW, k 0xFFFFFFFF, none, false⟩]⟩,
  /- DSC_WIT_CFG R156 -/ ⟨0x50414, [], [⟨15, 0, .RO, k 168, none, true⟩,
      ⟨31, 16, .RO, k 24, none, true⟩]⟩,
  /- DSC_WIT_CMD R156 -/ ⟨0x50418, [], [⟨0, 0, .WO, k 0, none, false⟩]⟩]
def regs05 : List RegDef := regs05_0 ++ regs05_1

def regs06_0 : List RegDef := [
  /- SYN_LOCK_LO R177 -/ ⟨0x60000, [], [⟨31, 0, .RO, k 0, none, false⟩]⟩,
  /- SYN_LOCK_HI R177 -/ ⟨0x60004, [], [⟨1, 0, .RO, k 0, none, false⟩]⟩,
  /- SYN_GATE_LO R177 -/ ⟨0x60008, [], [⟨31, 0, .RO, k 0xFFFFFFFF, none, false⟩]⟩,
  /- SYN_GATE_HI R177 -/ ⟨0x6000C, [], [⟨1, 0, .RO, k 3, none, false⟩]⟩,
  /- SYN_CFG R177 -/ ⟨0x60010, [], [⟨1, 0, .RO, k 0, none, true⟩]⟩,
  /- SYN_LOOPL_STAT R177 -/ ⟨0x60100, [(34, 0x10)], [⟨2, 0, .RO, k 0, none, false⟩,
      ⟨3, 3, .RO, k 1, none, false⟩,
      ⟨4, 4, .RO, k 0, none, false⟩,
      ⟨11, 5, .RO, k 0, none, false⟩,
      ⟨23, 16, .RO, k 0, none, false⟩]⟩,
  /- SYN_LOOPL_CFG R177 -/ ⟨0x60104, [(34, 0x10)], [⟨15, 0, .RO, fun l _ => loopLockWin l, none, true⟩,
      ⟨31, 16, .RO, fun l _ => loopLockN l, some (16, 65535), true⟩]⟩,
  /- SYN_LOOPL_SETTLE R177 -/ ⟨0x60108, [(34, 0x10)], [⟨15, 0, .RO, fun l _ => loopSettle l, none, true⟩]⟩,
  /- SYN_LOOPL_PERR R177 -/ ⟨0x6010C, [(34, 0x10)], [⟨15, 0, .RO, k 0, none, false⟩]⟩,
  /- SYN_BANDk_LO R178 -/ ⟨0x61000, [(128, 8)], [⟨5, 0, .RO, k 63, none, true⟩,
      ⟨15, 8, .RO, k 0, none, true⟩,
      ⟨31, 16, .RO, k 0, none, true⟩]⟩,
  /- SYN_BANDk_HI R178 -/ ⟨0x61004, [(128, 8)], [⟨15, 0, .RO, k 0, none, true⟩]⟩,
  /- SYN_CLKOUTk_CFG R179 -/ ⟨0x60400, [(8, 0x20)], [⟨30, 0, .RO, k 0, none, true⟩]⟩,
  /- SYN_CLKOUTk_CTL R179 -/ ⟨0x60404, [(8, 0x20)], [⟨0, 0, .RW, k 0, none, true⟩,
      ⟨1, 1, .RO, k 0, none, true⟩,
      ⟨8, 8, .RO, k 0, none, false⟩,
      ⟨9, 9, .RO, k 0, none, false⟩]⟩,
  /- SYN_CLKOUTk_OFS R179 -/ ⟨0x60408, [(8, 0x20)], [⟨31, 0, .RW, k 0, none, false⟩]⟩,
  /- SYN_CLKOUTk_CAL R179 -/ ⟨0x6040C, [(8, 0x20)], [⟨15, 0, .RO, k 0, none, true⟩]⟩,
  /- SYN_CLKOUTk_DIV R179 -/ ⟨0x60410, [(8, 0x20)], [⟨31, 0, .RO, k 0, none, false⟩]⟩,
  /- SYN_CLKOUTk_NINT R179 -/ ⟨0x60414, [(8, 0x20)], [⟨3, 0, .RO, k 0, none, false⟩]⟩,
  /- SYN_CLKOUTk_NFRAC_LO R179 -/ ⟨0x60418, [(8, 0x20)], [⟨31, 0, .RO, k 0, none, false⟩]⟩,
  /- SYN_CLKOUTk_NFRAC_HI R179 -/ ⟨0x6041C, [(8, 0x20)], [⟨31, 0, .RO, k 0, none, false⟩]⟩,
  /- SYN_PPSk_CFG R179 -/ ⟨0x60600, [(8, 0x10)], [⟨0, 0, .RW, k 0, none, true⟩,
      ⟨31, 12, .RW, k 0x186A0, some (1, 900000), false⟩]⟩,
  /- SYN_PPSk_OFS R179 -/ ⟨0x60604, [(8, 0x10)], [⟨31, 0, .RW, k 0, none, false⟩]⟩,
  /- SYN_PPSk_CAL R179 -/ ⟨0x60608, [(8, 0x10)], [⟨15, 0, .RO, k 0, none, true⟩]⟩]
def regs06 : List RegDef := regs06_0

def regs07_0 : List RegDef := [
  /- XDC_CFG R193 -/ ⟨0x70000, [], [⟨0, 0, .RO, k 0, none, true⟩]⟩,
  /- XDC_RUN_CORE R193 -/ ⟨0x70004, [], [⟨9, 0, .RO, k 768, none, false⟩]⟩,
  /- XDC_RUN_TX R193 -/ ⟨0x70008, [], [⟨19, 0, .RO, k 0, none, false⟩]⟩,
  /- XDC_RUN_RX R193 -/ ⟨0x7000C, [], [⟨19, 0, .RO, k 0, none, false⟩]⟩,
  /- XDC_STOP_HIST_CORE R193 -/ ⟨0x70010, [], [⟨9, 0, .W1C, k 0, none, false⟩]⟩,
  /- XDC_STOP_HIST_TX R193 -/ ⟨0x70014, [], [⟨19, 0, .W1C, k 0, none, false⟩]⟩,
  /- XDC_STOP_HIST_RX R193 -/ ⟨0x70018, [], [⟨19, 0, .W1C, k 0, none, false⟩]⟩,
  /- XDC_MERGE_SEL R193 -/ ⟨0x70020, [], [⟨7, 0, .RW, k 0, none, false⟩]⟩,
  /- XDC_MERGE_VAL R193 -/ ⟨0x70024, [], [⟨7, 0, .RO, k 0, none, false⟩,
      ⟨14, 8, .RO, k 0, none, false⟩,
      ⟨15, 15, .RO, k 0, none, false⟩,
      ⟨22, 16, .RO, k 0, none, false⟩,
      ⟨27, 24, .RO, k 0, none, false⟩]⟩,
  /- XDC_MERGE_CLR R193 -/ ⟨0x70028, [], [⟨0, 0, .WO, k 0, none, false⟩,
      ⟨1, 1, .WO, k 0, none, false⟩]⟩,
  /- XDC_MERGE_NZ R193 -/ ⟨0x70040, [(8, 4)], [⟨31, 0, .RO, k 0, none, false⟩]⟩,
  /- XDC_FLUSH_CNT R193 -/ ⟨0x70060, [], [⟨15, 0, .RO, k 0, none, false⟩,
      ⟨31, 16, .RO, k 0, none, false⟩]⟩]
def regs07 : List RegDef := regs07_0

def regs08_0 : List RegDef := [
  /- PRT_x_CFG R219 -/ ⟨0x80000, [(20, 0xc00)], [⟨2, 0, .RO, k 0, none, true⟩,
      ⟨3, 3, .RO, fun x _ => if x < 2 then 1 else 0, none, true⟩,
      ⟨4, 4, .RO, k 1, none, true⟩,
      ⟨5, 5, .RO, k 0, none, true⟩,
      ⟨6, 6, .RO, k 0, none, true⟩,
      ⟨8, 8, .RW, k 0, none, true⟩,
      ⟨9, 9, .RO, fun x _ => if x = 19 then 1 else 0, none, true⟩,
      ⟨10, 10, .RO, fun x _ => if x = 19 then 1 else 0, none, true⟩]⟩,
  /- PRT_x_MAXLEN R219 -/ ⟨0x80004, [(20, 0xc00)], [⟨13, 0, .RW, k 1522, some (1518, 9216), false⟩]⟩,
  /- PRT_x_ADDR_LO R219 -/ ⟨0x80008, [(20, 0xc00)], [⟨31, 0, .RO, k 0, none, true⟩]⟩,
  /- PRT_x_ADDR_HI R219 -/ ⟨0x8000C, [(20, 0xc00)], [⟨15, 0, .RO, k 0, none, true⟩]⟩,
  /- PRT_x_STAT R219 -/ ⟨0x80010, [(20, 0xc00)], [⟨2, 0, .RO, k 0, none, false⟩,
      ⟨3, 3, .RO, k 0, none, false⟩,
      ⟨4, 4, .RO, k 0, none, false⟩,
      ⟨5, 5, .RO, k 0, none, false⟩,
      ⟨6, 6, .RO, k 0, none, false⟩,
      ⟨15, 8, .RO, k 0, none, false⟩]⟩,
  /- PRT_x_TXSTART R219 -/ ⟨0x80014, [(20, 0xc00)], [⟨13, 0, .RW, fun x _ => txFloor x, none, false⟩,
      ⟨29, 16, .RO, k 256, some (64, 9216), true⟩]⟩,
  /- PRT_x_FILT_CFG R219 -/ ⟨0x80018, [(20, 0xc00)], [⟨2, 0, .RW, k 0, none, false⟩,
      ⟨3, 3, .RW, k 1, none, false⟩]⟩,
  /- PRT_x_TIMERS R219 -/ ⟨0x8001C, [(20, 0xc00)], [⟨9, 0, .RO, k 10, some (1, 1000), true⟩,
      ⟨31, 16, .RO, k 0x2710, some (1, 65535), true⟩]⟩,
  /- PRT_x_CMD R219 -/ ⟨0x80020, [(20, 0xc00)], [⟨0, 0, .WO, k 0, none, false⟩,
      ⟨1, 1, .WO, k 0, none, false⟩]⟩,
  /- PRT_x_AN_STAT R219 -/ ⟨0x80024, [(20, 0xc00)], [⟨15, 0, .RO, k 0, none, false⟩,
      ⟨16, 16, .RO, k 0, none, false⟩]⟩,
  /- PRT_x_GRPg_LO R219 -/ ⟨0x80100, [(20, 0xc00), (16, 8)], [⟨31, 0, .RO, k 0, none, true⟩]⟩,
  /- PRT_x_GRPg_HI R219 -/ ⟨0x80104, [(20, 0xc00), (16, 8)], [⟨15, 0, .RO, k 0, none, true⟩,
      ⟨16, 16, .RO, k 0, none, true⟩]⟩,
  /- PRT_x_RXQq_CFG R219 -/ ⟨0x80300, [(20, 0xc00), (8, 4)], [⟨2, 0, .RO, k 0, none, true⟩,
      ⟨5, 4, .RO, k 0, none, true⟩,
      ⟨23, 16, .RO, k 16, some (4, 255), true⟩,
      ⟨31, 24, .RO, k 0, none, false⟩]⟩,
  /- PRT_x_TXCc_CFG R219 -/ ⟨0x80340, [(20, 0xc00), (8, 8)], [⟨2, 0, .RO, k 0, none, true⟩,
      ⟨6, 4, .RO, fun _ c => c, none, true⟩,
      ⟨31, 16, .RO, k 64, none, true⟩]⟩,
  /- PRT_x_TXCc_RATE R219 -/ ⟨0x80344, [(20, 0xc00), (8, 8)], [⟨16, 0, .RO, k 0, some (0, 100000), true⟩]⟩,
  /- PRT_x_RULEr_CTL R220 -/ ⟨0x80200, [(20, 0xc00), (16, 0x10)], [⟨0, 0, .RW, k 0, none, false⟩,
      ⟨2, 1, .RW, k 0, none, false⟩,
      ⟨3, 3, .RW, k 0, none, false⟩,
      ⟨4, 4, .RW, k 1, none, false⟩,
      ⟨5, 5, .RW, k 1, none, false⟩,
      ⟨6, 6, .RW, k 1, none, false⟩,
      ⟨9, 7, .RW, k 0, none, false⟩,
      ⟨11, 10, .RW, k 0, none, false⟩,
      ⟨31, 16, .RW, k 0, none, false⟩]⟩,
  /- PRT_x_RULEr_VID R220 -/ ⟨0x80204, [(20, 0xc00), (16, 0x10)], [⟨11, 0, .RW, k 0, none, false⟩,
      ⟨27, 16, .RW, k 0, none, false⟩]⟩,
  /- PRT_x_RULEr_GRP R220 -/ ⟨0x80208, [(20, 0xc00), (16, 0x10)], [⟨15, 0, .RW, k 0xFFFF, none, false⟩]⟩,
  /- PRT_x_RULEr_HITS R220 -/ ⟨0x8020C, [(20, 0xc00), (16, 0x10)], [⟨31, 0, .RO, k 0, none, false⟩]⟩,
  /- PRT_x_RX_FRAMES_LO R221 -/ ⟨0x80400, [(20, 0xc00)], [⟨31, 0, .RO, k 0, none, false⟩]⟩,
  /- PRT_x_RX_FRAMES_HI R221 -/ ⟨0x80404, [(20, 0xc00)], [⟨31, 0, .RO, k 0, none, false⟩]⟩,
  /- PRT_x_RX_BYTES_LO R221 -/ ⟨0x80408, [(20, 0xc00)], [⟨31, 0, .RO, k 0, none, false⟩]⟩,
  /- PRT_x_RX_BYTES_HI R221 -/ ⟨0x8040C, [(20, 0xc00)], [⟨31, 0, .RO, k 0, none, false⟩]⟩,
  /- PRT_x_RX_RUNT_LO R221 -/ ⟨0x80410, [(20, 0xc00)], [⟨31, 0, .RO, k 0, none, false⟩]⟩,
  /- PRT_x_RX_RUNT_HI R221 -/ ⟨0x80414, [(20, 0xc00)], [⟨31, 0, .RO, k 0, none, false⟩]⟩,
  /- PRT_x_RX_OVERSIZE_LO R221 -/ ⟨0x80418, [(20, 0xc00)], [⟨31, 0, .RO, k 0, none, false⟩]⟩,
  /- PRT_x_RX_OVERSIZE_HI R221 -/ ⟨0x8041C, [(20, 0xc00)], [⟨31, 0, .RO, k 0, none, false⟩]⟩,
  /- PRT_x_RX_FCS_ERR_LO R221 -/ ⟨0x80420, [(20, 0xc00)], [⟨31, 0, .RO, k 0, none, false⟩]⟩,
  /- PRT_x_RX_FCS_ERR_HI R221 -/ ⟨0x80424, [(20, 0xc00)], [⟨31, 0, .RO, k 0, none, false⟩]⟩,
  /- PRT_x_RX_FILTER_DROP_LO R221 -/ ⟨0x80428, [(20, 0xc00)], [⟨31, 0, .RO, k 0, none, false⟩]⟩,
  /- PRT_x_RX_FILTER_DROP_HI R221 -/ ⟨0x8042C, [(20, 0xc00)], [⟨31, 0, .RO, k 0, none, false⟩]⟩,
  /- PRT_x_RX_QFULL_DROP_LO R221 -/ ⟨0x80430, [(20, 0xc00)], [⟨31, 0, .RO, k 0, none, false⟩]⟩,
  /- PRT_x_RX_QFULL_DROP_HI R221 -/ ⟨0x80434, [(20, 0xc00)], [⟨31, 0, .RO, k 0, none, false⟩]⟩,
  /- PRT_x_RX_PAUSE_LO R221 -/ ⟨0x80438, [(20, 0xc00)], [⟨31, 0, .RO, k 0, none, false⟩]⟩,
  /- PRT_x_RX_PAUSE_HI R221 -/ ⟨0x8043C, [(20, 0xc00)], [⟨31, 0, .RO, k 0, none, false⟩]⟩,
  /- PRT_x_RX_PFC_LO R221 -/ ⟨0x80440, [(20, 0xc00)], [⟨31, 0, .RO, k 0, none, false⟩]⟩,
  /- PRT_x_RX_PFC_HI R221 -/ ⟨0x80444, [(20, 0xc00)], [⟨31, 0, .RO, k 0, none, false⟩]⟩,
  /- PRT_x_TX_FRAMES_LO R221 -/ ⟨0x80448, [(20, 0xc00)], [⟨31, 0, .RO, k 0, none, false⟩]⟩,
  /- PRT_x_TX_FRAMES_HI R221 -/ ⟨0x8044C, [(20, 0xc00)], [⟨31, 0, .RO, k 0, none, false⟩]⟩,
  /- PRT_x_TX_BYTES_LO R221 -/ ⟨0x80450, [(20, 0xc00)], [⟨31, 0, .RO, k 0, none, false⟩]⟩]

def regs08_1 : List RegDef := [
  /- PRT_x_TX_BYTES_HI R221 -/ ⟨0x80454, [(20, 0xc00)], [⟨31, 0, .RO, k 0, none, false⟩]⟩,
  /- PRT_x_TX_UNDERRUN_LO R221 -/ ⟨0x80458, [(20, 0xc00)], [⟨31, 0, .RO, k 0, none, false⟩]⟩,
  /- PRT_x_TX_UNDERRUN_HI R221 -/ ⟨0x8045C, [(20, 0xc00)], [⟨31, 0, .RO, k 0, none, false⟩]⟩,
  /- PRT_x_TX_REFUSED_LO R221 -/ ⟨0x80460, [(20, 0xc00)], [⟨31, 0, .RO, k 0, none, false⟩]⟩,
  /- PRT_x_TX_REFUSED_HI R221 -/ ⟨0x80464, [(20, 0xc00)], [⟨31, 0, .RO, k 0, none, false⟩]⟩,
  /- PRT_x_TX_PINNED_SQUASH_LO R221 -/ ⟨0x80468, [(20, 0xc00)], [⟨31, 0, .RO, k 0, none, false⟩]⟩,
  /- PRT_x_TX_PINNED_SQUASH_HI R221 -/ ⟨0x8046C, [(20, 0xc00)], [⟨31, 0, .RO, k 0, none, false⟩]⟩,
  /- PRT_x_FEC_CORR_LO R221 -/ ⟨0x80470, [(20, 0xc00)], [⟨31, 0, .RO, k 0, none, false⟩]⟩,
  /- PRT_x_FEC_CORR_HI R221 -/ ⟨0x80474, [(20, 0xc00)], [⟨31, 0, .RO, k 0, none, false⟩]⟩,
  /- PRT_x_FEC_UNCORR_LO R221 -/ ⟨0x80478, [(20, 0xc00)], [⟨31, 0, .RO, k 0, none, false⟩]⟩,
  /- PRT_x_FEC_UNCORR_HI R221 -/ ⟨0x8047C, [(20, 0xc00)], [⟨31, 0, .RO, k 0, none, false⟩]⟩,
  /- PRT_x_PCS_ERR_LO R221 -/ ⟨0x80480, [(20, 0xc00)], [⟨31, 0, .RO, k 0, none, false⟩]⟩,
  /- PRT_x_PCS_ERR_HI R221 -/ ⟨0x80484, [(20, 0xc00)], [⟨31, 0, .RO, k 0, none, false⟩]⟩,
  /- PRT_x_LINK_DOWN_LO R221 -/ ⟨0x80488, [(20, 0xc00)], [⟨31, 0, .RO, k 0, none, false⟩]⟩,
  /- PRT_x_LINK_DOWN_HI R221 -/ ⟨0x8048C, [(20, 0xc00)], [⟨31, 0, .RO, k 0, none, false⟩]⟩,
  /- PRT_x_PAUSE_NS_LO R221 -/ ⟨0x80490, [(20, 0xc00)], [⟨31, 0, .RO, k 0, none, false⟩]⟩,
  /- PRT_x_PAUSE_NS_HI R221 -/ ⟨0x80494, [(20, 0xc00)], [⟨31, 0, .RO, k 0, none, false⟩]⟩,
  /- PRT_LINK_UP R222 -/ ⟨0x8F000, [], [⟨19, 0, .RO, k 0, none, false⟩]⟩,
  /- PRT_PAUSED R222 -/ ⟨0x8F004, [], [⟨19, 0, .RO, k 0, none, false⟩]⟩,
  /- PRT_GATED R222 -/ ⟨0x8F008, [], [⟨19, 0, .RO, k 0xFFFFF, none, false⟩]⟩]
def regs08 : List RegDef := regs08_0 ++ regs08_1

def regs09_0 : List RegDef := [
  /- TSU_x_CFG R243 -/ ⟨0x91000, [(20, 0x100)], [⟨0, 0, .RO, k 0, none, true⟩,
      ⟨1, 1, .RO, k 1, none, true⟩]⟩,
  /- TSU_x_CAL_TX R243 -/ ⟨0x91004, [(20, 0x100)], [⟨31, 0, .RO, k 0, none, true⟩]⟩,
  /- TSU_x_CAL_RX R243 -/ ⟨0x91008, [(20, 0x100)], [⟨31, 0, .RO, k 0, none, true⟩]⟩,
  /- TSU_x_DPATH R243 -/ ⟨0x9100C, [(20, 0x100)], [⟨15, 0, .RO, k 0, none, false⟩,
      ⟨31, 16, .RO, k 0, none, false⟩]⟩,
  /- TSU_x_GUARD R243 -/ ⟨0x91010, [(20, 0x100)], [⟨7, 0, .RW, k 4, some (2, 64), false⟩,
      ⟨15, 8, .RO, k 0, none, false⟩,
      ⟨26, 16, .RW, k 400, some (100, 1500), false⟩]⟩,
  /- TSU_x_RSV R243 -/ ⟨0x91014, [(20, 0x100)], [⟨15, 0, .RO, k 1000, none, true⟩,
      ⟨29, 16, .RO, k 512, some (64, 9216), true⟩]⟩,
  /- TSU_x_PHASE_RES R243 -/ ⟨0x91020, [(20, 0x100)], [⟨0, 0, .RS, k 0, none, false⟩,
      ⟨15, 8, .RS, k 0, none, false⟩,
      ⟨19, 16, .RS, k 0, none, false⟩]⟩,
  /- TSU_x_PHASE R243 -/ ⟨0x91024, [(20, 0x100), (3, 4)], [⟨31, 0, .RS, k 0, none, false⟩]⟩,
  /- TSU_x_SKEW R243 -/ ⟨0x91030, [(20, 0x100), (4, 4)], [⟨15, 0, .RO, k 0, none, false⟩]⟩,
  /- TSU_x_COMMITTED R243 -/ ⟨0x91040, [(20, 0x100)], [⟨31, 0, .RO, k 0, none, false⟩]⟩,
  /- TSU_x_SQ_MISSED R243 -/ ⟨0x91044, [(20, 0x100)], [⟨31, 0, .RO, k 0, none, false⟩]⟩,
  /- TSU_x_SQ_CANCEL R243 -/ ⟨0x91048, [(20, 0x100)], [⟨31, 0, .RO, k 0, none, false⟩]⟩,
  /- TSU_x_SQ_LINK R243 -/ ⟨0x9104C, [(20, 0x100)], [⟨31, 0, .RO, k 0, none, false⟩]⟩,
  /- TSU_x_SQ_PAUSE R243 -/ ⟨0x91050, [(20, 0x100)], [⟨31, 0, .RO, k 0, none, false⟩]⟩,
  /- TSU_x_SQ_HANDOVER R243 -/ ⟨0x91054, [(20, 0x100)], [⟨31, 0, .RO, k 0, none, false⟩]⟩,
  /- TSU_x_SQ_PHASE R243 -/ ⟨0x91058, [(20, 0x100)], [⟨31, 0, .RO, k 0, none, false⟩]⟩,
  /- TSU_x_SQ_STEP R243 -/ ⟨0x9105C, [(20, 0x100)], [⟨31, 0, .RO, k 0, none, false⟩]⟩,
  /- TSU_x_SQ_GUARDRAIL R243 -/ ⟨0x91060, [(20, 0x100)], [⟨31, 0, .RO, k 0, none, false⟩]⟩,
  /- TSU_x_MISMATCH R243 -/ ⟨0x91064, [(20, 0x100)], [⟨31, 0, .RO, k 0, none, false⟩]⟩,
  /- TSU_x_RX_STAMPS R243 -/ ⟨0x91068, [(20, 0x100)], [⟨31, 0, .RO, k 0, none, false⟩]⟩,
  /- TSU_x_TX_STAMPS R243 -/ ⟨0x9106C, [(20, 0x100)], [⟨31, 0, .RO, k 0, none, false⟩]⟩,
  /- TSU_STAT R244 -/ ⟨0x90000, [], [⟨19, 0, .RO, k 0, none, false⟩,
      ⟨23, 20, .RO, k 0, none, false⟩]⟩]
def regs09 : List RegDef := regs09_0

def regs0A_0 : List RegDef := [
  /- SVC_STAT R274 -/ ⟨0xA0000, [], [⟨16, 0, .RO, k 0, none, false⟩,
      ⟨17, 17, .RO, k 0, none, false⟩,
      ⟨18, 18, .RO, k 0, none, false⟩]⟩,
  /- SVC_CFG R274 -/ ⟨0xA0004, [], [⟨15, 0, .RO, k 100, some (1, 10000), true⟩,
      ⟨16, 16, .RO, k 0, none, true⟩,
      ⟨17, 17, .RO, k 1, none, true⟩,
      ⟨18, 18, .RO, k 1, none, true⟩,
      ⟨22, 20, .RO, k 7, some (1, 7), true⟩,
      ⟨31, 24, .RO, k 226, none, true⟩]⟩,
  /- SVC_LEDGER_HWM R274 -/ ⟨0xA0008, [], [⟨16, 0, .RO, k 0, none, false⟩]⟩,
  /- SVC_ENG_RUN R274 -/ ⟨0xA000C, [], [⟨31, 0, .RO, k 0, none, false⟩]⟩,
  /- SVC_ENG_OFFLINE R274 -/ ⟨0xA0010, [], [⟨31, 0, .RO, k 0, none, false⟩]⟩,
  /- SVC_CMD R274 -/ ⟨0xA0014, [], [⟨0, 0, .WO, k 0, none, false⟩]⟩,
  /- SVC_JNL_BASE_LO R274 -/ ⟨0xA0020, [], [⟨31, 12, .RW, k 0, none, false⟩]⟩,
  /- SVC_JNL_BASE_HI R274 -/ ⟨0xA0024, [], [⟨7, 0, .RW, k 0, none, false⟩]⟩,
  /- SVC_JNL_SIZE R274 -/ ⟨0xA0028, [], [⟨4, 0, .RW, k 16, some (10, 22), false⟩]⟩,
  /- SVC_JNL_STAT R274 -/ ⟨0xA002C, [], [⟨21, 0, .RO, k 0, none, false⟩,
      ⟨26, 22, .RO, k 0, none, false⟩,
      ⟨31, 27, .RO, k 0, none, false⟩]⟩,
  /- SVC_JNL_POP R274 -/ ⟨0xA0030, [], [⟨0, 0, .RP, k 1, none, false⟩,
      ⟨9, 1, .RP, k 0, none, false⟩,
      ⟨31, 16, .RP, k 0, none, false⟩]⟩,
  /- SVC_JNL_PEEK R274 -/ ⟨0xA0040, [(4, 4)], [⟨31, 0, .RO, k 0, none, false⟩]⟩,
  /- SVC_REFIDn R274 -/ ⟨0xA0080, [(16, 4)], [⟨31, 0, .RO, k 0, none, true⟩]⟩,
  /- SVC_GMi_CFG R276 -/ ⟨0xA0200, [(8, 0x10)], [⟨0, 0, .RO, k 0, none, true⟩,
      ⟨5, 1, .RO, k 0, some (0, 17), true⟩,
      ⟨8, 6, .RO, k 0, none, true⟩,
      ⟨9, 9, .RO, k 0, none, true⟩,
      ⟨10, 10, .RO, k 0, none, true⟩,
      ⟨23, 16, .RO, k 0, none, true⟩]⟩,
  /- SVC_GMi_RATE R276 -/ ⟨0xA0204, [(8, 0x10)], [⟨7, 0, .RO, k 0, none, true⟩,
      ⟨15, 8, .RO, k 1, none, true⟩,
      ⟨23, 16, .RO, k 0, none, true⟩]⟩,
  /- SVC_GMi_QUAL R276 -/ ⟨0xA0208, [(8, 0x10)], [⟨7, 0, .RO, k 254, none, true⟩,
      ⟨15, 8, .RO, k 128, none, true⟩,
      ⟨23, 16, .RO, k 128, none, true⟩]⟩,
  /- SVC_GMi_VAR R276 -/ ⟨0xA020C, [(8, 0x10)], [⟨15, 0, .RO, k 0xFFFF, none, true⟩,
      ⟨31, 16, .RO, k 300, some (1, 65535), true⟩]⟩,
  /- SVC_SEn_STAT R277 -/ ⟨0xA1000, [(32, 0x20)], [⟨1, 0, .RO, k 1, none, false⟩,
      ⟨7, 4, .RO, k 0, none, false⟩,
      ⟨11, 8, .RO, k 0, none, false⟩,
      ⟨23, 16, .RO, k 0, none, false⟩]⟩,
  /- SVC_SEn_FAULT_PC R277 -/ ⟨0xA1004, [(32, 0x20)], [⟨31, 0, .RO, k 0, none, false⟩]⟩,
  /- SVC_SEn_FAULT_ADDR R277 -/ ⟨0xA1008, [(32, 0x20)], [⟨31, 0, .RO, k 0, none, false⟩]⟩,
  /- SVC_SEn_CMD R277 -/ ⟨0xA100C, [(32, 0x20)], [⟨0, 0, .WO, k 0, none, false⟩,
      ⟨1, 1, .WO, k 0, none, false⟩]⟩,
  /- SVC_SEn_DONE R277 -/ ⟨0xA1010, [(32, 0x20)], [⟨31, 0, .RO, k 0, none, false⟩]⟩,
  /- SVC_CNT R275 -/ ⟨0xA0400, [(24, 4)], [⟨31, 0, .RO, k 0, none, false⟩]⟩,
  /- SVC_CAUSE R275 -/ ⟨0xA0500, [(16, 4)], [⟨31, 0, .RO, k 0, none, false⟩]⟩,
  /- SVC_REASON R275 -/ ⟨0xA0540, [(16, 4)], [⟨31, 0, .RO, k 0, none, false⟩]⟩]
def regs0A : List RegDef := regs0A_0

def regs0B_0 : List RegDef := [
  /- LDR_STAT R294 -/ ⟨0xB0000, [], [⟨0, 0, .RO, k 0, none, false⟩]⟩,
  /- LDR_CFG R294 -/ ⟨0xB0004, [], [⟨1, 0, .RO, k 3, none, true⟩,
      ⟨2, 2, .RO, k 0, none, true⟩]⟩,
  /- LDR_BASE_LO R294 -/ ⟨0xB0008, [], [⟨31, 12, .RO, k 0, none, true⟩]⟩,
  /- LDR_BASE_HI R294 -/ ⟨0xB000C, [], [⟨7, 0, .RO, k 0, none, true⟩]⟩,
  /- LDR_AGE R294 -/ ⟨0xB0010, [], [⟨20, 0, .RW, k 0x15180, some (60, 2000000), false⟩]⟩,
  /- LDR_DEF_CLASS R294 -/ ⟨0xB0014, [], [⟨2, 0, .RW, k 0, none, false⟩,
      ⟨6, 4, .RW, k 0, none, false⟩,
      ⟨10, 8, .RW, k 0, none, false⟩]⟩,
  /- LDR_LIVE R294 -/ ⟨0xB0018, [], [⟨23, 0, .RO, k 0, none, false⟩]⟩,
  /- LDR_PINNED R294 -/ ⟨0xB001C, [], [⟨16, 0, .RO, k 0, none, false⟩]⟩,
  /- LDR_GRANTS R294 -/ ⟨0xB0020, [], [⟨14, 0, .RO, k 0, none, false⟩]⟩,
  /- LDR_CMD R294 -/ ⟨0xB0024, [], [⟨0, 0, .WO, k 0, none, false⟩]⟩,
  /- LDR_RCLASSc R294 -/ ⟨0xB0040, [(16, 4)], [⟨15, 0, .RW, k 0, none, false⟩,
      ⟨23, 16, .RW, k 16, some (1, 255), false⟩,
      ⟨24, 24, .RW, k 1, none, false⟩,
      ⟨25, 25, .RW, fun c _ => if c = 0 then 1 else 0, none, false⟩]⟩,
  /- LDR_Q_ADDR R294 -/ ⟨0xB0100, [(4, 4)], [⟨31, 0, .RW, k 0, none, false⟩]⟩,
  /- LDR_Q_CMD R294 -/ ⟨0xB0110, [], [⟨2, 0, .RW, k 0, none, false⟩,
      ⟨5, 3, .RW, k 0, none, false⟩,
      ⟨9, 8, .RW, k 0, none, false⟩,
      ⟨12, 10, .RW, k 0, none, false⟩,
      ⟨13, 13, .RW, k 0, none, false⟩,
      ⟨16, 16, .WO, k 0, none, false⟩]⟩,
  /- LDR_QRES R294 -/ ⟨0xB0114, [], [⟨0, 0, .RS, k 0, none, false⟩,
      ⟨1, 1, .RS, k 0, none, false⟩,
      ⟨2, 2, .RS, k 0, none, false⟩,
      ⟨3, 3, .RS, k 0, none, false⟩,
      ⟨15, 8, .RS, k 0, none, false⟩]⟩,
  /- LDR_QRES_INDEX R294 -/ ⟨0xB0118, [], [⟨22, 0, .RS, k 0, none, false⟩]⟩,
  /- LDR_QREC R294 -/ ⟨0xB0120, [(16, 4)], [⟨31, 0, .RS, k 0, none, false⟩]⟩,
  /- LDR_CNT R295 -/ ⟨0xB0400, [(24, 4)], [⟨31, 0, .RO, k 0, none, false⟩]⟩]
def regs0B : List RegDef := regs0B_0

def regs0C_0 : List RegDef := [
  /- KEY_STAT R327 -/ ⟨0xC0000, [], [⟨7, 0, .RO, k 0, none, false⟩,
      ⟨15, 8, .RO, k 0, none, false⟩,
      ⟨16, 16, .RO, k 0, none, false⟩,
      ⟨17, 17, .RO, k 0, none, false⟩,
      ⟨18, 18, .RO, k 0, none, false⟩]⟩,
  /- KEY_CFG R327 -/ ⟨0xC0004, [], [⟨0, 0, .RO, k 0, none, true⟩]⟩,
  /- KEY_CMD R327 -/ ⟨0xC0008, [], [⟨3, 0, .WO, k 0, none, false⟩]⟩,
  /- KEY_RES R327 -/ ⟨0xC000C, [], [⟨0, 0, .RS, k 0, none, false⟩,
      ⟨2, 1, .RS, k 0, none, false⟩,
      ⟨7, 3, .RS, k 0, none, false⟩,
      ⟨15, 8, .RS, k 0, none, false⟩,
      ⟨19, 16, .RS, k 0, none, false⟩]⟩,
  /- KEY_RES_HANDLE R327 -/ ⟨0xC0010, [], [⟨23, 0, .RS, k 0, none, false⟩]⟩,
  /- KEY_CTL R327 -/ ⟨0xC0014, [], [⟨0, 0, .WO, k 0, none, false⟩]⟩,
  /- KEY_ARG R327 -/ ⟨0xC0020, [(8, 4)], [⟨31, 0, .RW, k 0, none, false⟩]⟩,
  /- KEY_WRAP R327 -/ ⟨0xC0040, [(10, 4)], [⟨31, 0, .WO, k 0, none, false⟩]⟩,
  /- KEY_SLOT_SEL R327 -/ ⟨0xC0080, [], [⟨23, 0, .RW, k 0, none, false⟩]⟩,
  /- KEY_SLOT_INFO R327 -/ ⟨0xC0084, [(7, 4)], [⟨31, 0, .RO, k 0, none, false⟩]⟩,
  /- KEY_SLOT_INFO7 R327 -/ ⟨0xC00A0, [], [⟨9, 0, .RO, k 0, none, false⟩,
      ⟨10, 10, .RO, k 0, none, false⟩]⟩,
  /- KEY_SLOT_USES_LO R327 -/ ⟨0xC00A4, [], [⟨31, 0, .RO, k 0, none, false⟩]⟩,
  /- KEY_SLOT_USES_HI R327 -/ ⟨0xC00A8, [], [⟨31, 0, .RO, k 0, none, false⟩]⟩,
  /- KEY_TAMPER_CFG R327 -/ ⟨0xC00C0, [], [⟨3, 0, .RW, k 0, none, false⟩,
      ⟨7, 4, .RW, k 0, none, false⟩,
      ⟨10, 8, .RW, k 0, none, false⟩,
      ⟨23, 16, .RW, k 3, some (1, 255), false⟩]⟩,
  /- KEY_TAMPER_STAT R327 -/ ⟨0xC00C4, [], [⟨10, 0, .W1C, k 0, none, false⟩]⟩,
  /- KEY_TAMPER_SEC R327 -/ ⟨0xC00C8, [], [⟨31, 0, .RO, k 0, none, false⟩]⟩,
  /- KEY_CKf_CFG R327 -/ ⟨0xC0100, [(4, 0x10)], [⟨2, 0, .RO, k 0, none, true⟩,
      ⟨3, 3, .RO, k 0, none, true⟩,
      ⟨6, 4, .RO, k 2, some (0, 6), true⟩,
      ⟨7, 7, .RO, k 1, none, true⟩,
      ⟨31, 16, .RO, k 0, none, true⟩]⟩,
  /- KEY_CKf_ID R327 -/ ⟨0xC0104, [(4, 0x10)], [⟨31, 0, .RO, k 0, none, true⟩]⟩,
  /- KEY_TWVk_CFG R327 -/ ⟨0xC0200, [(8, 0x10)], [⟨23, 0, .RO, k 0, none, true⟩,
      ⟨24, 24, .RO, k 0, none, true⟩]⟩,
  /- KEY_TWVk_HIGH_LO R327 -/ ⟨0xC0204, [(8, 0x10)], [⟨31, 0, .RO, k 0, none, false⟩]⟩,
  /- KEY_TWVk_HIGH_HI R327 -/ ⟨0xC0208, [(8, 0x10)], [⟨31, 0, .RO, k 0, none, false⟩]⟩,
  /- KEY_CNT R328 -/ ⟨0xC0400, [(16, 4)], [⟨31, 0, .RO, k 0, none, false⟩]⟩]
def regs0C : List RegDef := regs0C_0

def regs0D_0 : List RegDef := [
  /- TIC_STAT R353 -/ ⟨0xD0000, [], [⟨0, 0, .RO, k 0, none, false⟩,
      ⟨1, 1, .RO, k 0, none, false⟩,
      ⟨2, 2, .RO, k 0, none, false⟩]⟩,
  /- TIC_CFG R353 -/ ⟨0xD0004, [], [⟨0, 0, .RO, k 0, none, true⟩,
      ⟨5, 1, .RO, k 2, some (2, 17), true⟩,
      ⟨31, 16, .RO, k 0, none, true⟩]⟩,
  /- TIC_EXP_ID R353 -/ ⟨0xD0008, [], [⟨15, 0, .RO, k 0, none, true⟩,
      ⟨25, 16, .RW, k 10, some (1, 1000), false⟩]⟩,
  /- TIC_EXP_DA_LO R353 -/ ⟨0xD000C, [], [⟨31, 0, .RO, k 0, none, true⟩]⟩,
  /- TIC_EXP_DA_HI R353 -/ ⟨0xD0010, [], [⟨15, 0, .RO, k 0, none, true⟩]⟩,
  /- TIC_CAL_CFG R353 -/ ⟨0xD0014, [], [⟨15, 0, .RO, k 3600, some (60, 65535), true⟩,
      ⟨31, 16, .RO, k 0xFFFF, none, false⟩]⟩,
  /- TIC_LOOP_SEL R353 -/ ⟨0xD0018, [], [⟨4, 0, .RO, k 0, none, true⟩]⟩,
  /- TIC_CMD R353 -/ ⟨0xD001C, [], [⟨0, 0, .WO, k 0, none, false⟩]⟩,
  /- TIC_WIT_RES R353 -/ ⟨0xD0020, [], [⟨0, 0, .RS, k 0, none, false⟩,
      ⟨15, 8, .RS, k 0, none, false⟩]⟩,
  /- TIC_WIT_OFS_LO R353 -/ ⟨0xD0024, [], [⟨31, 0, .RS, k 0, none, false⟩]⟩,
  /- TIC_WIT_OFS_HI R353 -/ ⟨0xD0028, [], [⟨15, 0, .RS, k 0, none, false⟩]⟩,
  /- TIC_FQ_POP R353 -/ ⟨0xD0030, [], [⟨0, 0, .RP, k 1, none, false⟩,
      ⟨5, 1, .RP, k 0, none, false⟩,
      ⟨6, 6, .RP, k 0, none, false⟩,
      ⟨16, 8, .RP, k 0, none, false⟩]⟩,
  /- TIC_FQ_PEEK R353 -/ ⟨0xD0034, [], [⟨16, 0, .RO, k 1, none, false⟩]⟩,
  /- TIC_FQ_PEEK_Y_LO R353 -/ ⟨0xD0038, [], [⟨31, 0, .RO, k 0, none, false⟩]⟩,
  /- TIC_FQ_PEEK_Y_HI R353 -/ ⟨0xD003C, [], [⟨15, 0, .RO, k 0, none, false⟩]⟩,
  /- TIC_FQ_STAT R353 -/ ⟨0xD0040, [], [⟨7, 0, .RO, k 0, none, false⟩]⟩,
  /- TIC_EXP_FRAMES R353 -/ ⟨0xD0044, [], [⟨31, 0, .RO, k 0, none, false⟩]⟩,
  /- TIC_EXP_RESENT R353 -/ ⟨0xD0048, [], [⟨31, 0, .RO, k 0, none, false⟩]⟩,
  /- TIC_CHn_CFG R354 -/ ⟨0xD1000, [(32, 0x80)], [⟨1, 0, .RW, fun n _ => if n < 16 then 0 else 3, none, false⟩,
      ⟨2, 2, .RW, k 0, none, false⟩,
      ⟨4, 3, .RW, k 1, none, false⟩,
      ⟨8, 5, .RW, k 0, some (0, 12), false⟩,
      ⟨10, 9, .RW, k 0, none, false⟩,
      ⟨11, 11, .RO, fun n _ => if n < 16 then 0 else 1, none, true⟩,
      ⟨16, 12, .RW, k 0, none, false⟩]⟩,
  /- TIC_CHn_DIV R354 -/ ⟨0xD1004, [(32, 0x80)], [⟨16, 0, .RW, k 1, some (1, 65536), false⟩]⟩,
  /- TIC_CHn_CAL R354 -/ ⟨0xD1008, [(32, 0x80)], [⟨31, 0, .RO, k 0, none, true⟩]⟩,
  /- TIC_CHn_WLO R354 -/ ⟨0xD100C, [(32, 0x80)], [⟨31, 0, .RW, k 0, none, false⟩]⟩,
  /- TIC_CHn_WHI R354 -/ ⟨0xD1010, [(32, 0x80)], [⟨31, 0, .RW, k 1000, none, false⟩]⟩,
  /- TIC_CHn_GATE R354 -/ ⟨0xD1014, [(32, 0x80)], [⟨15, 0, .RW, k 954, some (1, 65535), false⟩]⟩,
  /- TIC_CHn_FNOM R354 -/ ⟨0xD1018, [(32, 0x80)], [⟨31, 0, .RW, k 0, none, false⟩]⟩,
  /- TIC_CHn_RING_BASE_LO R354 -/ ⟨0xD101C, [(32, 0x80)], [⟨31, 12, .RW, k 0, none, false⟩]⟩,
  /- TIC_CHn_RING_BASE_HI R354 -/ ⟨0xD1020, [(32, 0x80)], [⟨7, 0, .RW, k 0, none, false⟩]⟩,
  /- TIC_CHn_RING_SIZE R354 -/ ⟨0xD1024, [(32, 0x80)], [⟨4, 0, .RW, k 16, some (12, 30), false⟩]⟩,
  /- TIC_CHn_RING_WR R354 -/ ⟨0xD1028, [(32, 0x80)], [⟨29, 0, .RO, k 0, none, false⟩]⟩,
  /- TIC_CHn_RING_RD R354 -/ ⟨0xD102C, [(32, 0x80)], [⟨29, 0, .RW, k 0, none, false⟩]⟩,
  /- TIC_CHn_STAT R354 -/ ⟨0xD1030, [(32, 0x80)], [⟨0, 0, .RO, k 0, none, false⟩,
      ⟨1, 1, .RO, k 0, none, false⟩,
      ⟨2, 2, .RO, k 0, none, false⟩,
      ⟨3, 3, .RO, k 0, none, false⟩,
      ⟨15, 4, .RO, k 0, none, false⟩]⟩,
  /- TIC_CHn_LAST R354 -/ ⟨0xD1034, [(32, 0x80)], [⟨0, 0, .RS, k 0, none, false⟩,
      ⟨1, 1, .RS, k 0, none, false⟩,
      ⟨15, 8, .RS, k 0, none, false⟩]⟩,
  /- TIC_CHn_LAST_T R354 -/ ⟨0xD1038, [(32, 0x80), (3, 4)], [⟨31, 0, .RS, k 0, none, false⟩]⟩,
  /- TIC_CHn_FQ_RES R354 -/ ⟨0xD1044, [(32, 0x80)], [⟨0, 0, .RS, k 0, none, false⟩,
      ⟨1, 1, .RS, k 0, none, false⟩,
      ⟨15, 8, .RS, k 0, none, false⟩]⟩,
  /- TIC_CHn_FQ_EDGES R354 -/ ⟨0xD1048, [(32, 0x80)], [⟨31, 0, .RS, k 0, none, false⟩]⟩,
  /- TIC_CHn_FQ_Y_LO R354 -/ ⟨0xD104C, [(32, 0x80)], [⟨31, 0, .RS, k 0, none, false⟩]⟩,
  /- TIC_CHn_FQ_Y_HI R354 -/ ⟨0xD1050, [(32, 0x80)], [⟨15, 0, .RS, k 0, none, false⟩]⟩,
  /- TIC_CHn_FQ_SPAN_LO R354 -/ ⟨0xD1054, [(32, 0x80)], [⟨31, 0, .RS, k 0, none, false⟩]⟩,
  /- TIC_CHn_FQ_SPAN_HI R354 -/ ⟨0xD1058, [(32, 0x80)], [⟨15, 0, .RS, k 0, none, false⟩]⟩,
  /- TIC_CHn_IV_RES R354 -/ ⟨0xD105C, [(32, 0x80)], [⟨0, 0, .RS, k 0, none, false⟩,
      ⟨1, 1, .RS, k 0, none, false⟩,
      ⟨2, 2, .RS, k 0, none, false⟩,
      ⟨3, 3, .RS, k 0, none, false⟩,
      ⟨15, 8, .RS, k 0, none, false⟩]⟩]

def regs0D_1 : List RegDef := [
  /- TIC_CHn_IV_LO R354 -/ ⟨0xD1060, [(32, 0x80)], [⟨31, 0, .RS, k 0, none, false⟩]⟩,
  /- TIC_CHn_IV_HI R354 -/ ⟨0xD1064, [(32, 0x80)], [⟨15, 0, .RS, k 0, none, false⟩]⟩,
  /- TIC_CHn_ACCEPTED R354 -/ ⟨0xD1068, [(32, 0x80)], [⟨31, 0, .RO, k 0, none, false⟩]⟩,
  /- TIC_CHn_LOST_DEAD R354 -/ ⟨0xD106C, [(32, 0x80)], [⟨31, 0, .RO, k 0, none, false⟩]⟩,
  /- TIC_CHn_LOST_BURST R354 -/ ⟨0xD1070, [(32, 0x80)], [⟨31, 0, .RO, k 0, none, false⟩]⟩,
  /- TIC_CHn_LOST_QFULL R354 -/ ⟨0xD1074, [(32, 0x80)], [⟨31, 0, .RO, k 0, none, false⟩]⟩,
  /- TIC_CHn_LOST_BASE R354 -/ ⟨0xD1078, [(32, 0x80)], [⟨31, 0, .RO, k 0, none, false⟩]⟩,
  /- TIC_CHn_CMD R354 -/ ⟨0xD107C, [(32, 0x80)], [⟨0, 0, .WO, k 0, none, false⟩]⟩]
def regs0D : List RegDef := regs0D_0 ++ regs0D_1

def regs0E_0 : List RegDef := [
  /- GNS_STAT R381 -/ ⟨0xE0000, [], [⟨1, 0, .RO, k 0, none, false⟩,
      ⟨2, 2, .RO, k 0, none, false⟩,
      ⟨4, 3, .RO, k 0, none, false⟩,
      ⟨6, 5, .RO, k 0, none, false⟩,
      ⟨8, 7, .RO, k 0, none, false⟩,
      ⟨10, 9, .RO, k 0, none, false⟩,
      ⟨17, 11, .RO, k 0, none, false⟩,
      ⟨24, 18, .RO, k 0, none, false⟩,
      ⟨31, 25, .RO, k 0, none, false⟩]⟩,
  /- GNS_CFG R381 -/ ⟨0xE0004, [], [⟨3, 0, .RO, k 15, none, true⟩,
      ⟨4, 4, .RO, k 0, none, true⟩,
      ⟨5, 5, .RO, k 0, none, true⟩,
      ⟨6, 6, .RW, k 0, none, true⟩,
      ⟨7, 7, .RO, k 1, none, true⟩,
      ⟨11, 8, .RO, k 4, some (1, 15), true⟩,
      ⟨15, 12, .RO, k 6, some (3, 15), true⟩,
      ⟨22, 16, .RW, k 10, some (0, 60), false⟩]⟩,
  /- GNS_FE_L1_CFG R381 -/ ⟨0xE0008, [], [⟨26, 0, .RO, k 0, none, true⟩,
      ⟨27, 27, .RO, k 0, none, true⟩,
      ⟨28, 28, .RO, k 0, none, true⟩]⟩,
  /- GNS_FE_L5_CFG R381 -/ ⟨0xE0010, [], [⟨26, 0, .RO, k 0, none, true⟩,
      ⟨27, 27, .RO, k 0, none, true⟩,
      ⟨28, 28, .RO, k 0, none, true⟩]⟩,
  /- GNS_FE_L1_IF R381 -/ ⟨0xE000C, [], [⟨31, 0, .RO, k 0, none, true⟩]⟩,
  /- GNS_FE_L5_IF R381 -/ ⟨0xE0014, [], [⟨31, 0, .RO, k 0, none, true⟩]⟩,
  /- GNS_FE_DELAY_L1 R381 -/ ⟨0xE0018, [], [⟨31, 0, .RO, k 0, none, true⟩]⟩,
  /- GNS_FE_DELAY_L5 R381 -/ ⟨0xE001C, [], [⟨31, 0, .RO, k 0, none, true⟩]⟩,
  /- GNS_ANT_DELAY R381 -/ ⟨0xE0020, [], [⟨31, 0, .RO, k 0, none, true⟩]⟩,
  /- GNS_UNC R381 -/ ⟨0xE0024, [], [⟨15, 0, .RO, k 0xFFFF, none, true⟩,
      ⟨31, 16, .RO, k 0xFFFF, none, true⟩]⟩,
  /- GNS_EPOCH_CFG R381 -/ ⟨0xE0028, [], [⟨10, 0, .RW, k 1000, none, false⟩]⟩,
  /- GNS_SURVEY_CFG R381 -/ ⟨0xE002C, [], [⟨15, 0, .RO, k 1440, some (10, 65535), true⟩,
      ⟨31, 16, .RO, k 100, none, true⟩]⟩,
  /- GNS_POS_X_LO R381 -/ ⟨0xE0030, [], [⟨31, 0, .RO, k 0, none, true⟩]⟩,
  /- GNS_POS_X_HI R381 -/ ⟨0xE0034, [], [⟨15, 0, .RO, k 0, none, true⟩]⟩,
  /- GNS_POS_Y_LO R381 -/ ⟨0xE0038, [], [⟨31, 0, .RO, k 0, none, true⟩]⟩,
  /- GNS_POS_Y_HI R381 -/ ⟨0xE003C, [], [⟨15, 0, .RO, k 0, none, true⟩]⟩,
  /- GNS_POS_Z_LO R381 -/ ⟨0xE0040, [], [⟨31, 0, .RO, k 0, none, true⟩]⟩,
  /- GNS_POS_Z_HI R381 -/ ⟨0xE0044, [], [⟨15, 0, .RO, k 0, none, true⟩]⟩,
  /- GNS_POS_U R381 -/ ⟨0xE0048, [], [⟨15, 0, .RO, k 0, none, true⟩]⟩,
  /- GNS_SLEEP_CFG R381 -/ ⟨0xE004C, [], [⟨15, 0, .RW, k 0, none, false⟩,
      ⟨31, 16, .RW, k 0, none, false⟩]⟩,
  /- GNS_CMD R381 -/ ⟨0xE0050, [], [⟨0, 0, .WO, k 0, none, false⟩,
      ⟨1, 1, .WO, k 0, none, false⟩,
      ⟨2, 2, .WO, k 0, none, false⟩,
      ⟨3, 3, .WO, k 0, none, false⟩]⟩,
  /- GNS_QL R381 -/ ⟨0xE0054, [], [⟨3, 0, .RO, k 1, none, true⟩,
      ⟨7, 4, .RO, k 4, none, true⟩,
      ⟨11, 8, .RO, k 6, none, true⟩,
      ⟨23, 16, .RO, k 64, none, true⟩]⟩,
  /- GNS_LEVEL R381 -/ ⟨0xE0058, [], [⟨7, 0, .RO, k 0, none, false⟩,
      ⟨15, 8, .RO, k 0, none, false⟩]⟩,
  /- GNS_SOL_RES R381 -/ ⟨0xE0060, [], [⟨0, 0, .RS, k 0, none, false⟩,
      ⟨2, 1, .RS, k 0, none, false⟩,
      ⟨7, 4, .RS, k 15, none, false⟩,
      ⟨15, 8, .RS, k 0, none, false⟩,
      ⟨23, 16, .RS, k 255, none, false⟩,
      ⟨30, 24, .RS, k 0, none, false⟩]⟩,
  /- GNS_SOL_OFS_LO R381 -/ ⟨0xE0064, [], [⟨31, 0, .RS, k 0, none, false⟩]⟩,
  /- GNS_SOL_OFS_HI R381 -/ ⟨0xE0068, [], [⟨15, 0, .RS, k 0, none, false⟩]⟩,
  /- GNS_SOL_B_LO R381 -/ ⟨0xE006C, [], [⟨31, 0, .RS, k 0xFFFFFFFF, none, false⟩]⟩,
  /- GNS_SOL_B_HI R381 -/ ⟨0xE0070, [], [⟨15, 0, .RS, k 0xFFFF, none, false⟩]⟩,
  /- GNS_SAW_RES R381 -/ ⟨0xE0074, [], [⟨0, 0, .RS, k 0, none, false⟩,
      ⟨1, 1, .RS, k 0, none, false⟩,
      ⟨15, 8, .RS, k 0, none, false⟩]⟩,
  /- GNS_SAW_SEC R381 -/ ⟨0xE0078, [], [⟨31, 0, .RS, k 0, none, false⟩]⟩,
  /- GNS_SAW_Q R381 -/ ⟨0xE007C, [], [⟨31, 0, .RS, k 0, none, false⟩]⟩,
  /- GNS_EPOCH_RES R381 -/ ⟨0xE0080, [], [⟨0, 0, .RS, k 0, none, false⟩,
      ⟨15, 8, .RS, k 0, none, false⟩,
      ⟨23, 16, .RS, k 0, none, false⟩]⟩,
  /- GNS_EPOCH_T R381 -/ ⟨0xE0084, [(3, 4)], [⟨31, 0, .RS, k 0, none, false⟩]⟩,
  /- GNS_UTC R381 -/ ⟨0xE0090, [], [⟨15, 0, .RO, k 0, none, false⟩,
      ⟨16, 16, .RO, k 0, none, false⟩,
      ⟨17, 17, .RO, k 0, none, false⟩]⟩,
  /- GNS_CHc_STAT R382 -/ ⟨0xE1000, [(240, 4)], [⟨2, 0, .RO, k 0, none, false⟩,
      ⟨6, 3, .RO, k 0, none, false⟩,
      ⟨12, 7, .RO, k 0, none, false⟩,
      ⟨13, 13, .RO, k 0, none, false⟩,
      ⟨23, 16, .RO, k 0, none, false⟩]⟩]
def regs0E : List RegDef := regs0E_0

def regs0F_0 : List RegDef := [
  /- DST_STAT R399 -/ ⟨0xF0000, [], [⟨15, 0, .RO, k 0, none, false⟩,
      ⟨31, 16, .RO, k 0, none, false⟩]⟩,
  /- DST_DEPTH R399 -/ ⟨0xF0004, [], [⟨2, 0, .RO, k 0, none, false⟩]⟩,
  /- DST_SUBTYPE R399 -/ ⟨0xF0008, [], [⟨23, 0, .RO, k 0, none, true⟩]⟩,
  /- DST_TFWD_AT R399 -/ ⟨0xF0010, [(3, 4)], [⟨31, 0, .RW, k 0, none, false⟩]⟩,
  /- DST_TFWD_WIDTH R399 -/ ⟨0xF001C, [], [⟨29, 0, .RW, k 100, none, false⟩]⟩,
  /- DST_TFWD_PERIOD_LO R399 -/ ⟨0xF0020, [], [⟨31, 0, .RW, k 0, none, false⟩]⟩,
  /- DST_TFWD_PERIOD_HI R399 -/ ⟨0xF0024, [], [⟨15, 0, .RW, k 0, none, false⟩]⟩,
  /- DST_TFWD_COUNT R399 -/ ⟨0xF0028, [], [⟨31, 0, .RW, k 1, none, false⟩]⟩,
  /- DST_TFWD_CTL R399 -/ ⟨0xF002C, [], [⟨15, 0, .RW, k 0, none, false⟩,
      ⟨19, 16, .RW, k 0, none, false⟩,
      ⟨20, 20, .RW, k 0, none, false⟩]⟩,
  /- DST_TFWD_CMD R399 -/ ⟨0xF0030, [], [⟨0, 0, .WO, k 0, none, false⟩]⟩,
  /- DST_TFWD_RES R399 -/ ⟨0xF0034, [], [⟨0, 0, .RS, k 0, none, false⟩,
      ⟨2, 1, .RS, k 0, none, false⟩,
      ⟨7, 4, .RS, k 0, none, false⟩,
      ⟨15, 8, .RS, k 0, none, false⟩]⟩,
  /- DST_TFWD_ACK R399 -/ ⟨0xF0038, [], [⟨15, 0, .RS, k 0, none, false⟩,
      ⟨31, 16, .RS, k 0, none, false⟩]⟩,
  /- DST_TFWD_CAUSE_LO R399 -/ ⟨0xF003C, [], [⟨31, 0, .RS, k 0, none, false⟩]⟩,
  /- DST_TFWD_CAUSE_HI R399 -/ ⟨0xF0040, [], [⟨31, 0, .RS, k 0, none, false⟩]⟩,
  /- DST_LINKd_CFG R400 -/ ⟨0xF0100, [(16, 0x80)], [⟨1, 0, .RO, k 0, none, true⟩,
      ⟨2, 2, .RO, k 0, none, true⟩,
      ⟨3, 3, .RO, k 0, none, true⟩,
      ⟨6, 4, .RO, k 4, some (0, 7), true⟩,
      ⟨7, 7, .RO, k 0, none, true⟩,
      ⟨15, 8, .RO, k 0, none, true⟩]⟩,
  /- DST_LINKd_KEY R400 -/ ⟨0xF0104, [(16, 0x80)], [⟨23, 0, .RO, k 0, none, true⟩]⟩,
  /- DST_LINKd_FIX_MS R400 -/ ⟨0xF0108, [(16, 0x80)], [⟨31, 0, .RO, k 0, none, true⟩]⟩,
  /- DST_LINKd_FIX_SM R400 -/ ⟨0xF010C, [(16, 0x80)], [⟨31, 0, .RO, k 0, none, true⟩]⟩,
  /- DST_LINKd_ALPHA R400 -/ ⟨0xF0110, [(16, 0x80)], [⟨31, 0, .RO, k 0, none, true⟩]⟩,
  /- DST_LINKd_KT R400 -/ ⟨0xF0114, [(16, 0x80)], [⟨15, 0, .RO, k 0, none, true⟩,
      ⟨31, 16, .RO, k 0, none, true⟩]⟩,
  /- DST_LINKd_TCAL R400 -/ ⟨0xF0118, [(16, 0x80)], [⟨15, 0, .RO, k 6400, none, true⟩,
      ⟨22, 16, .RO, k 81, none, true⟩,
      ⟨23, 23, .RO, k 0, none, true⟩]⟩,
  /- DST_LINKd_UFIX R400 -/ ⟨0xF011C, [(16, 0x80)], [⟨31, 0, .RO, k 0xFFFFFFFF, none, true⟩]⟩,
  /- DST_LINKd_UALPHA R400 -/ ⟨0xF0120, [(16, 0x80)], [⟨31, 0, .RO, k 0xFFFFFFFF, none, true⟩]⟩,
  /- DST_LINKd_UK R400 -/ ⟨0xF0124, [(16, 0x80)], [⟨15, 0, .RO, k 0xFFFF, none, true⟩]⟩,
  /- DST_LINKd_TRACK R400 -/ ⟨0xF0128, [(16, 0x80)], [⟨15, 0, .RW, k 50, some (1, 65535), false⟩,
      ⟨23, 16, .RW, k 16, some (4, 255), false⟩]⟩,
  /- DST_LINKd_STAT R400 -/ ⟨0xF012C, [(16, 0x80)], [⟨1, 0, .RO, k 0, none, false⟩,
      ⟨2, 2, .RO, k 0, none, false⟩,
      ⟨5, 3, .RO, k 0, none, false⟩,
      ⟨6, 6, .RO, k 0, none, false⟩,
      ⟨7, 7, .RO, k 0, none, false⟩,
      ⟨15, 8, .RO, k 0, none, false⟩,
      ⟨19, 16, .RO, k 0, none, false⟩]⟩,
  /- DST_LINKd_RES R400 -/ ⟨0xF0130, [(16, 0x80)], [⟨0, 0, .RS, k 0, none, false⟩,
      ⟨15, 8, .RS, k 0, none, false⟩]⟩,
  /- DST_LINKd_RTT_LO R400 -/ ⟨0xF0134, [(16, 0x80)], [⟨31, 0, .RS, k 0, none, false⟩]⟩,
  /- DST_LINKd_RTT_HI R400 -/ ⟨0xF0138, [(16, 0x80)], [⟨15, 0, .RS, k 0, none, false⟩]⟩,
  /- DST_LINKd_DMS_LO R400 -/ ⟨0xF013C, [(16, 0x80)], [⟨31, 0, .RS, k 0, none, false⟩]⟩,
  /- DST_LINKd_DMS_HI R400 -/ ⟨0xF0140, [(16, 0x80)], [⟨15, 0, .RS, k 0, none, false⟩]⟩,
  /- DST_LINKd_OFS_LO R400 -/ ⟨0xF0144, [(16, 0x80)], [⟨31, 0, .RS, k 0, none, false⟩]⟩,
  /- DST_LINKd_OFS_HI R400 -/ ⟨0xF0148, [(16, 0x80)], [⟨15, 0, .RS, k 0, none, false⟩]⟩,
  /- DST_LINKd_BLINK_LO R400 -/ ⟨0xF014C, [(16, 0x80)], [⟨31, 0, .RS, k 0xFFFFFFFF, none, false⟩]⟩,
  /- DST_LINKd_BLINK_HI R400 -/ ⟨0xF0150, [(16, 0x80)], [⟨15, 0, .RS, k 0xFFFF, none, false⟩]⟩,
  /- DST_LINKd_TEMP R400 -/ ⟨0xF0154, [(16, 0x80)], [⟨15, 0, .RO, k 0, none, false⟩]⟩,
  /- DST_LINKd_EXCH R400 -/ ⟨0xF0158, [(16, 0x80)], [⟨31, 0, .RO, k 0, none, false⟩]⟩,
  /- DST_LINKd_AUTH_FAIL R400 -/ ⟨0xF015C, [(16, 0x80)], [⟨31, 0, .RO, k 0, none, false⟩]⟩]
def regs0F : List RegDef := regs0F_0

def regs10_0 : List RegDef := [
  /- PAR_STAT R420 -/ ⟨0x100000, [], [⟨1, 0, .RO, k 0, none, false⟩,
      ⟨3, 2, .RO, k 0, none, false⟩,
      ⟨4, 4, .RO, k 0, none, false⟩,
      ⟨5, 5, .RO, k 0, none, false⟩,
      ⟨6, 6, .RO, k 0, none, false⟩,
      ⟨7, 7, .RO, k 0, none, false⟩,
      ⟨8, 8, .RO, k 0, none, false⟩,
      ⟨9, 9, .RO, k 0, none, false⟩,
      ⟨15, 10, .RO, k 0, none, false⟩]⟩,
  /- PAR_CFG R420 -/ ⟨0x100004, [], [⟨0, 0, .RO, k 0, none, true⟩,
      ⟨2, 1, .RO, k 0, none, true⟩,
      ⟨3, 3, .RO, k 0, none, true⟩,
      ⟨4, 4, .RO, k 0, none, true⟩,
      ⟨5, 5, .RO, k 0, none, true⟩,
      ⟨13, 8, .RO, k 1, none, true⟩]⟩,
  /- PAR_TIMERS R420 -/ ⟨0x100008, [], [⟨15, 0, .RO, k 2000, some (500, 60000), true⟩,
      ⟨31, 16, .RO, k 1500, some (1100, 10000), true⟩]⟩,
  /- PAR_HOLDS R420 -/ ⟨0x10000C, [], [⟨15, 0, .RO, k 100, some (1, 65535), true⟩,
      ⟨31, 16, .RO, k 1000, some (1, 65535), true⟩]⟩,
  /- PAR_ETYPE R420 -/ ⟨0x100010, [], [⟨15, 0, .RO, k 0, none, true⟩]⟩,
  /- PAR_KEY R420 -/ ⟨0x100014, [], [⟨23, 0, .RO, k 0, none, true⟩]⟩,
  /- PAR_FIX_AS R420 -/ ⟨0x100018, [], [⟨31, 0, .RO, k 0, none, true⟩]⟩,
  /- PAR_FIX_SA R420 -/ ⟨0x10001C, [], [⟨31, 0, .RO, k 0, none, true⟩]⟩,
  /- PAR_SERIAL_LO R420 -/ ⟨0x100020, [], [⟨31, 0, .RO, k 0, none, false⟩]⟩,
  /- PAR_SERIAL_HI R420 -/ ⟨0x100024, [], [⟨31, 0, .RO, k 0, none, false⟩]⟩,
  /- PAR_PEER_SERIAL_LO R420 -/ ⟨0x100028, [], [⟨31, 0, .RO, k 0, none, false⟩]⟩,
  /- PAR_PEER_SERIAL_HI R420 -/ ⟨0x10002C, [], [⟨31, 0, .RO, k 0, none, false⟩]⟩,
  /- PAR_CMD R420 -/ ⟨0x100030, [], [⟨0, 0, .WO, k 0, none, false⟩,
      ⟨1, 1, .WO, k 0, none, false⟩,
      ⟨2, 2, .WO, k 0, none, false⟩]⟩,
  /- PAR_GEN_SEALED R420 -/ ⟨0x100040, [], [⟨31, 0, .RO, k 0, none, false⟩]⟩,
  /- PAR_GEN_COMMIT R420 -/ ⟨0x100044, [], [⟨31, 0, .RO, k 0, none, false⟩]⟩,
  /- PAR_VINT_RES R420 -/ ⟨0x100048, [], [⟨0, 0, .RS, k 0, none, false⟩,
      ⟨2, 1, .RS, k 0, none, false⟩,
      ⟨15, 8, .RS, k 0, none, false⟩]⟩,
  /- PAR_VINT_T R420 -/ ⟨0x10004C, [(3, 4)], [⟨31, 0, .RS, k 0, none, false⟩]⟩,
  /- PAR_OFS_LO R420 -/ ⟨0x100058, [], [⟨31, 0, .RS, k 0, none, false⟩]⟩,
  /- PAR_OFS_HI R420 -/ ⟨0x10005C, [], [⟨15, 0, .RS, k 0, none, false⟩]⟩,
  /- PAR_TO_RES R420 -/ ⟨0x100060, [], [⟨0, 0, .RS, k 0, none, false⟩,
      ⟨3, 1, .RS, k 0, none, false⟩,
      ⟨15, 8, .RS, k 0, none, false⟩]⟩,
  /- PAR_TO_GEN R420 -/ ⟨0x100064, [], [⟨31, 0, .RS, k 0, none, false⟩]⟩,
  /- PAR_SENT R420 -/ ⟨0x100070, [], [⟨31, 0, .RO, k 0, none, false⟩]⟩,
  /- PAR_DISCARDED R420 -/ ⟨0x100074, [], [⟨31, 0, .RO, k 0, none, false⟩]⟩,
  /- PAR_RECORDS R420 -/ ⟨0x100078, [], [⟨31, 0, .RO, k 0, none, false⟩]⟩,
  /- PAR_COPY_DROP R420 -/ ⟨0x10007C, [], [⟨31, 0, .RO, k 0, none, false⟩]⟩,
  /- PAR_STAGE_BASE_LO R420 -/ ⟨0x100080, [], [⟨31, 12, .RO, k 0, none, true⟩]⟩,
  /- PAR_STAGE_BASE_HI R420 -/ ⟨0x100084, [], [⟨7, 0, .RO, k 0, none, true⟩]⟩,
  /- PAR_LOG_BASE_LO R420 -/ ⟨0x100088, [], [⟨31, 12, .RO, k 0, none, true⟩]⟩,
  /- PAR_LOG_BASE_HI R420 -/ ⟨0x10008C, [], [⟨7, 0, .RO, k 0, none, true⟩]⟩]
def regs10 : List RegDef := regs10_0

def regs11_0 : List RegDef := [
  /- MEM_STAT R434 -/ ⟨0x110000, [], [⟨0, 0, .RO, k 0, none, false⟩,
      ⟨1, 1, .RO, k 0, none, false⟩,
      ⟨2, 2, .RO, k 0, none, false⟩,
      ⟨3, 3, .RO, k 0, none, false⟩,
      ⟨4, 4, .RO, k 0, none, false⟩,
      ⟨13, 8, .RO, k 0, none, false⟩,
      ⟨14, 14, .RO, k 0, none, false⟩,
      ⟨15, 15, .RO, k 0, none, false⟩]⟩,
  /- MEM_SCRUB R434 -/ ⟨0x110004, [], [⟨15, 0, .RW, k 240, some (60, 65535), false⟩,
      ⟨31, 16, .RW, k 1000, some (100, 65535), false⟩]⟩,
  /- MEM_CFG R434 -/ ⟨0x110008, [], [⟨0, 0, .RO, k 0, none, true⟩,
      ⟨31, 16, .RO, k 60, some (10, 65535), true⟩]⟩,
  /- MEM_SPARE R434 -/ ⟨0x11000C, [], [⟨10, 0, .RO, k 0, some (0, 1024), true⟩,
      ⟨26, 16, .RO, k 0, none, false⟩]⟩,
  /- MEM_SPARE_BASE_LO R434 -/ ⟨0x110010, [], [⟨31, 12, .RO, k 0, none, true⟩]⟩,
  /- MEM_SPARE_BASE_HI R434 -/ ⟨0x110014, [], [⟨7, 0, .RO, k 0, none, true⟩]⟩,
  /- MEM_FILL_WM R434 -/ ⟨0x110018, [], [⟨16, 0, .RO, k 0, none, false⟩]⟩,
  /- MEM_LAST_RES R434 -/ ⟨0x110020, [], [⟨0, 0, .RS, k 0, none, false⟩,
      ⟨3, 1, .RS, k 0, none, false⟩,
      ⟨15, 8, .RS, k 0, none, false⟩,
      ⟨22, 16, .RS, k 0, none, false⟩]⟩,
  /- MEM_LAST_ADDR_LO R434 -/ ⟨0x110024, [], [⟨31, 0, .RS, k 0, none, false⟩]⟩,
  /- MEM_LAST_ADDR_HI R434 -/ ⟨0x110028, [], [⟨7, 0, .RS, k 0, none, false⟩]⟩,
  /- MEM_DRAM_CORR R434 -/ ⟨0x110040, [], [⟨31, 0, .RO, k 0, none, false⟩]⟩,
  /- MEM_SRAM_CORR R434 -/ ⟨0x110044, [], [⟨31, 0, .RO, k 0, none, false⟩]⟩,
  /- MEM_DRAM_UNCORR R434 -/ ⟨0x110048, [], [⟨31, 0, .RO, k 0, none, false⟩]⟩,
  /- MEM_SRAM_UNCORR R434 -/ ⟨0x11004C, [], [⟨31, 0, .RO, k 0, none, false⟩]⟩,
  /- MEM_STICKY R434 -/ ⟨0x110050, [], [⟨31, 0, .RO, k 0, none, false⟩]⟩,
  /- MEM_RETIRED R434 -/ ⟨0x110054, [], [⟨31, 0, .RO, k 0, none, false⟩]⟩,
  /- MEM_REMAPPED R434 -/ ⟨0x110058, [], [⟨31, 0, .RO, k 0, none, false⟩]⟩,
  /- MEM_TRACK_EVICT R434 -/ ⟨0x11005C, [], [⟨31, 0, .RO, k 0, none, false⟩]⟩,
  /- MEM_VIRGIN_READS R434 -/ ⟨0x110060, [], [⟨31, 0, .RO, k 0, none, false⟩]⟩,
  /- MEM_RAW_SEL R434 -/ ⟨0x110100, [], [⟨1, 0, .RW, k 0, none, false⟩]⟩,
  /- MEM_RAW_ADDR_LO R434 -/ ⟨0x110104, [], [⟨31, 0, .RW, k 0, none, false⟩]⟩,
  /- MEM_RAW_ADDR_HI R434 -/ ⟨0x110108, [], [⟨7, 0, .RW, k 0, none, false⟩]⟩,
  /- MEM_RAW_DATA R434 -/ ⟨0x110110, [(4, 4)], [⟨31, 0, .RW, k 0, none, false⟩]⟩,
  /- MEM_RAW_CHECK R434 -/ ⟨0x110120, [], [⟨15, 0, .RW, k 0, none, false⟩]⟩,
  /- MEM_RAW_CMD R434 -/ ⟨0x110124, [], [⟨0, 0, .WO, k 0, none, false⟩,
      ⟨1, 1, .WO, k 0, none, false⟩]⟩,
  /- MEM_RAW_RES R434 -/ ⟨0x110128, [], [⟨0, 0, .RS, k 0, none, false⟩,
      ⟨2, 1, .RS, k 0, none, false⟩,
      ⟨15, 8, .RS, k 0, none, false⟩]⟩,
  /- MEM_DEVp_CORR R434 -/ ⟨0x110200, [(72, 4)], [⟨31, 0, .RO, k 0, none, false⟩]⟩]
def regs11 : List RegDef := regs11_0

def regs12_0 : List RegDef := [
  /- CLR_STAT R477 -/ ⟨0x120000, [], [⟨1, 0, .RO, k 0, none, false⟩,
      ⟨2, 2, .RO, k 0, none, false⟩,
      ⟨3, 3, .RO, k 0, none, false⟩,
      ⟨4, 4, .RO, k 0, none, false⟩,
      ⟨5, 5, .RO, k 0, none, false⟩]⟩,
  /- CLR_CFG R477 -/ ⟨0x120004, [], [⟨14, 0, .RO, k 200, some (10, 20000), true⟩,
      ⟨16, 16, .RW, k 0, none, false⟩,
      ⟨17, 17, .RW, k 0, none, false⟩]⟩,
  /- CLR_CMD R477 -/ ⟨0x120008, [], [⟨0, 0, .WO, k 0, none, false⟩,
      ⟨1, 1, .WO, k 0, none, false⟩]⟩,
  /- CLR_WAKE_AT R477 -/ ⟨0x12000C, [], [⟨31, 0, .RW, k 0, none, false⟩]⟩,
  /- CLR_SEC_LO R477 -/ ⟨0x120010, [], [⟨31, 0, .RO, k 0, none, false⟩]⟩,
  /- CLR_SEC_HI R477 -/ ⟨0x120014, [], [⟨15, 0, .RO, k 0, none, false⟩]⟩,
  /- CLR_SNAP_BASE_LO R477 -/ ⟨0x120018, [], [⟨31, 12, .RO, k 0, none, true⟩]⟩,
  /- CLR_SNAP_BASE_HI R477 -/ ⟨0x12001C, [], [⟨7, 0, .RO, k 0, none, true⟩]⟩,
  /- CLR_LAST_WAKE R477 -/ ⟨0x120020, [], [⟨2, 0, .RO, k 0, none, false⟩,
      ⟨3, 3, .RO, k 0, none, false⟩,
      ⟨15, 8, .RO, k 0, none, false⟩]⟩,
  /- CLR_RESULT R477 -/ ⟨0x120024, [], [⟨0, 0, .RS, k 0, none, false⟩,
      ⟨2, 1, .RS, k 0, none, false⟩,
      ⟨7, 3, .RS, k 0, none, false⟩,
      ⟨15, 8, .RS, k 0, none, false⟩]⟩,
  /- CLR_ACCk_LO R477 -/ ⟨0x120100, [(5, 0x20)], [⟨31, 0, .RO, k 0, none, false⟩]⟩,
  /- CLR_ACCk_HI R477 -/ ⟨0x120104, [(5, 0x20)], [⟨31, 0, .RO, k 0, none, false⟩]⟩,
  /- CLR_RESk_LO R477 -/ ⟨0x120108, [(5, 0x20)], [⟨31, 0, .RO, k 0, none, false⟩]⟩,
  /- CLR_RESk_HI R477 -/ ⟨0x12010C, [(5, 0x20)], [⟨31, 0, .RO, k 0, none, false⟩]⟩,
  /- CLR_DROPk R477 -/ ⟨0x120110, [(5, 0x20)], [⟨31, 0, .RO, k 0, none, false⟩]⟩]
def regs12 : List RegDef := regs12_0

def regs13_0 : List RegDef := [
  /- AGE_STAT R478 -/ ⟨0x130000, [], [⟨0, 0, .RO, k 0, none, false⟩,
      ⟨1, 1, .RO, k 0, none, false⟩,
      ⟨2, 2, .RO, k 0, none, false⟩,
      ⟨15, 4, .RO, k 0, none, false⟩]⟩,
  /- AGE_CFG R478 -/ ⟨0x130004, [], [⟨0, 0, .RO, k 0, none, true⟩,
      ⟨7, 1, .RO, k 0, none, true⟩,
      ⟨15, 8, .RO, k 80, some (80, 200), true⟩,
      ⟨23, 16, .RO, k 8, none, true⟩]⟩,
  /- AGE_REF R478 -/ ⟨0x130008, [], [⟨15, 0, .RO, k 500, some (100, 65535), true⟩,
      ⟨31, 16, .RO, k 16, some (16, 65535), true⟩]⟩,
  /- AGE_TJ R478 -/ ⟨0x13000C, [], [⟨15, 0, .RO, k 0, none, false⟩,
      ⟨31, 16, .RO, k 0, none, false⟩]⟩,
  /- AGE_PDM R478 -/ ⟨0x130010, [], [⟨15, 0, .RO, k 0, none, false⟩,
      ⟨31, 16, .RO, k 0, none, false⟩]⟩,
  /- AGE_TIC_DRIFT R478 -/ ⟨0x130014, [], [⟨15, 0, .RO, k 0, none, false⟩]⟩,
  /- AGE_TSU_MOVE R478 -/ ⟨0x130018, [], [⟨15, 0, .RO, k 0, none, false⟩,
      ⟨20, 16, .RO, k 0, none, false⟩]⟩,
  /- AGE_EQ_HOURS R478 -/ ⟨0x13001C, [], [⟨31, 0, .RO, k 0, none, false⟩]⟩,
  /- AGE_AVS R478 -/ ⟨0x130020, [], [⟨7, 0, .RO, k 80, none, false⟩,
      ⟨15, 8, .RO, k 0, none, false⟩]⟩,
  /- AGE_PLAN_RES R478 -/ ⟨0x130024, [], [⟨0, 0, .RS, k 0, none, false⟩,
      ⟨15, 8, .RS, k 0, none, false⟩,
      ⟨19, 16, .RS, k 0, none, false⟩]⟩]
def regs13 : List RegDef := regs13_0

def regs14_0 : List RegDef := [
  /- INJ_CFG R485 -/ ⟨0x140000, [], [⟨15, 0, .RO, k 0, none, true⟩,
      ⟨16, 16, .RO, k 0, none, true⟩,
      ⟨17, 17, .RO, k 0, none, true⟩]⟩,
  /- INJ_STAT R485 -/ ⟨0x140004, [], [⟨15, 0, .RO, k 0, none, false⟩]⟩,
  /- INJ_CMD R485 -/ ⟨0x140010, [], [⟨7, 0, .WO, k 0, none, false⟩,
      ⟨15, 8, .WO, k 0, none, false⟩,
      ⟨16, 16, .WO, k 0, none, false⟩,
      ⟨17, 17, .WO, k 0, none, false⟩,
      ⟨18, 18, .WO, k 0, none, false⟩]⟩,
  /- INJ_ARG0 R485 -/ ⟨0x140014, [], [⟨31, 0, .WO, k 0, none, false⟩]⟩,
  /- INJ_ARG1 R485 -/ ⟨0x140018, [], [⟨31, 0, .WO, k 0, none, false⟩]⟩,
  /- INJ_AT R485 -/ ⟨0x14001C, [(3, 4)], [⟨31, 0, .WO, k 0, none, false⟩]⟩,
  /- INJ_RES R485 -/ ⟨0x140030, [], [⟨0, 0, .RS, k 0, none, false⟩,
      ⟨3, 1, .RS, k 0, none, false⟩,
      ⟨7, 4, .RS, k 0, none, false⟩,
      ⟨15, 8, .RS, k 0, none, false⟩,
      ⟨23, 16, .RS, k 0, none, false⟩,
      ⟨31, 24, .RS, k 0, none, false⟩]⟩,
  /- INJ_FIRE_T R485 -/ ⟨0x140034, [(3, 4)], [⟨31, 0, .RS, k 0, none, false⟩]⟩,
  /- INJ_FIRED R485 -/ ⟨0x140040, [], [⟨31, 0, .RO, k 0, none, false⟩]⟩]
def regs14 : List RegDef := regs14_0

def regs15_0 : List RegDef := [
  /- TRG_k_CFG R245 -/ ⟨0x150100, [(16, 0x40)], [⟨0, 0, .RW, k 0, none, true⟩,
      ⟨1, 1, .RO, k 0, none, true⟩]⟩,
  /- TRG_k_CAL R245 -/ ⟨0x150104, [(16, 0x40)], [⟨15, 0, .RO, k 0, none, true⟩]⟩,
  /- TRG_k_AT R245 -/ ⟨0x150108, [(16, 0x40), (3, 4)], [⟨31, 0, .RW, k 0, none, false⟩]⟩,
  /- TRG_k_WIDTH R245 -/ ⟨0x150114, [(16, 0x40)], [⟨29, 0, .RW, k 100, some (2, 1000000000), false⟩]⟩,
  /- TRG_k_PERIOD_LO R245 -/ ⟨0x150118, [(16, 0x40)], [⟨31, 0, .RW, k 0, none, false⟩]⟩,
  /- TRG_k_PERIOD_HI R245 -/ ⟨0x15011C, [(16, 0x40)], [⟨15, 0, .RW, k 0, none, false⟩]⟩,
  /- TRG_k_COUNT R245 -/ ⟨0x150120, [(16, 0x40)], [⟨31, 0, .RW, k 1, none, false⟩]⟩,
  /- TRG_k_CMD R245 -/ ⟨0x150124, [(16, 0x40)], [⟨0, 0, .WO, k 0, none, false⟩,
      ⟨1, 1, .WO, k 0, none, false⟩]⟩,
  /- TRG_k_RES R245 -/ ⟨0x150128, [(16, 0x40)], [⟨0, 0, .RS, k 0, none, false⟩,
      ⟨3, 1, .RS, k 0, none, false⟩,
      ⟨7, 4, .RS, k 0, none, false⟩,
      ⟨15, 8, .RS, k 0, none, false⟩,
      ⟨20, 16, .RS, k 0, none, false⟩]⟩,
  /- TRG_k_STAT R245 -/ ⟨0x15012C, [(16, 0x40)], [⟨4, 0, .RO, k 0, none, false⟩,
      ⟨5, 5, .RO, k 0, none, false⟩]⟩,
  /- TRG_k_FIRED R245 -/ ⟨0x150130, [(16, 0x40)], [⟨31, 0, .RO, k 0, none, false⟩]⟩,
  /- TRG_k_SKIPPED R245 -/ ⟨0x150134, [(16, 0x40)], [⟨31, 0, .RO, k 0, none, false⟩]⟩]
def regs15 : List RegDef := regs15_0

/-- The registers of one 64 KiB block of the window (R31). -/
def blockRegs : Nat → List RegDef
  | 0 => regs00
  | 1 => regs01
  | 2 => regs02
  | 3 => regs03
  | 4 => regs04
  | 5 => regs05
  | 6 => regs06
  | 7 => regs07
  | 8 => regs08
  | 9 => regs09
  | 10 => regs0A
  | 11 => regs0B
  | 12 => regs0C
  | 13 => regs0D
  | 14 => regs0E
  | 15 => regs0F
  | 16 => regs10
  | 17 => regs11
  | 18 => regs12
  | 19 => regs13
  | 20 => regs14
  | 21 => regs15
  | _ => []

/-- The instance indexes of address `a` in register `r`, outer then inner; none where `a` is no instance of it. -/
def RegDef.index (r : RegDef) (a : Nat) : Option (Nat × Nat) :=
  if a < r.base then none else
  match r.dims with
  | [] => if a = r.base then some (0, 0) else none
  | [(c, st)] =>
    if (a - r.base) % st = 0 ∧ (a - r.base) / st < c then some ((a - r.base) / st, (a - r.base) / st) else none
  | (c, st) :: (c2, st2) :: _ =>
    if (a - r.base) / st < c ∧ (a - r.base) % st % st2 = 0 ∧ (a - r.base) % st / st2 < c2 then
      some ((a - r.base) / st, (a - r.base) % st / st2) else none

/-- The first register of a list that has address `a`, with its indexes. -/
def findReg (a : Nat) : List RegDef → Option (RegDef × Nat × Nat)
  | [] => none
  | r :: rs => match r.index a with
    | some (i, j) => some (r, i, j)
    | none => findReg a rs

def regAt (a : Nat) : Option (RegDef × Nat × Nat) := findReg a (blockRegs (a / 0x10000))

/-- The fields of the register at `a`; none at an unassigned address (R8). -/
def fieldsAt (a : Nat) : List FieldDef := match regAt a with
  | some (r, _, _) => r.fields
  | none => []

/-- The values wider than 32 bits whose reads R13 rules: lowest register, repetition, words. The KPR snapshot
(R71), the TIC stamps, the counters behind a CNT_SNAP (R221) and the KT96 registers that are written (R15) are read by
their own rules. -/
def wideRegs_0 : List (RegDef × Nat) := [
  /- KPR_VT -/ (⟨0x20060, [], []⟩, 3),
  /- KPR_LEAP_SEC -/ (⟨0x20074, [], []⟩, 2),
  /- KPR_x_FREQ -/ (⟨0x20108, [(3, 0x100)], []⟩, 2),
  /- KPR_x_TRIM -/ (⟨0x20110, [(3, 0x100)], []⟩, 2),
  /- KPR_x_TIME -/ (⟨0x20118, [(3, 0x100)], []⟩, 3),
  /- BND_HOLD_LIMIT -/ (⟨0x30018, [], []⟩, 2),
  /- BND_SERVICE_LIMIT -/ (⟨0x30020, [], []⟩, 2),
  /- BND_HW_BASE -/ (⟨0x30028, [], []⟩, 2),
  /- BND_HW_AGE -/ (⟨0x30030, [], []⟩, 2),
  /- BND_FW_MARGIN -/ (⟨0x30038, [], []⟩, 2),
  /- BND_TRACE_BASE -/ (⟨0x30060, [], []⟩, 2),
  /- BND_x_REF to BND_x_CORE (R96) -/ (⟨0x30100, [(3, 0x40)], []⟩, 10),
  /- BND_SLOTn_MIN -/ (⟨0x30400, [(16, 8)], []⟩, 2),
  /- BND_PORTk_ASYM -/ (⟨0x30500, [(20, 8)], []⟩, 2),
  /- BND_QRES_B -/ (⟨0x30614, [], []⟩, 2),
  /- REF_SW_OFS -/ (⟨0x4001C, [], []⟩, 2),
  /- REF_SLOTn_OFS -/ (⟨0x40124, [(16, 0x40)], []⟩, 2),
  /- REF_SLOTn_SUSP -/ (⟨0x40130, [(16, 0x40)], []⟩, 2),
  /- DSC_RA_U -/ (⟨0x5004C, [], []⟩, 2),
  /- DSC_RA_STEP -/ (⟨0x50058, [], []⟩, 3),
  /- DSC_OSCx_M_F0 -/ (⟨0x50230, [(3, 0x80)], []⟩, 2),
  /- DSC_OSCx_C1 -/ (⟨0x50258, [(3, 0x80)], []⟩, 2),
  /- DSC_OSCx_C2 -/ (⟨0x50260, [(3, 0x80)], []⟩, 2),
  /- SYN_LOCK -/ (⟨0x60000, [], []⟩, 2),
  /- SYN_GATE -/ (⟨0x60008, [], []⟩, 2),
  /- SYN_CLKOUTk_NFRAC -/ (⟨0x60418, [(8, 0x20)], []⟩, 2),
  /- PRT_x_ADDR -/ (⟨0x80008, [(20, 0xc00)], []⟩, 2),
  /- PRT_x_GRPg -/ (⟨0x80100, [(20, 0xc00), (16, 8)], []⟩, 2)]

def wideRegs_1 : List (RegDef × Nat) := [
  /- TSU_x_PHASE -/ (⟨0x91024, [(20, 0x100)], []⟩, 3),
  /- TRG_k_PERIOD -/ (⟨0x150118, [(16, 0x40)], []⟩, 2),
  /- SVC_JNL_BASE -/ (⟨0xA0020, [], []⟩, 2),
  /- LDR_BASE -/ (⟨0xB0008, [], []⟩, 2),
  /- KEY_SLOT_USES -/ (⟨0xC00A4, [], []⟩, 2),
  /- KEY_TWVk_HIGH -/ (⟨0xC0204, [(8, 0x10)], []⟩, 2),
  /- TIC_EXP_DA -/ (⟨0xD000C, [], []⟩, 2),
  /- TIC_WIT_OFS -/ (⟨0xD0024, [], []⟩, 2),
  /- TIC_FQ_PEEK_Y -/ (⟨0xD0038, [], []⟩, 2),
  /- TIC_CHn_RING_BASE -/ (⟨0xD101C, [(32, 0x80)], []⟩, 2),
  /- TIC_CHn_FQ_Y -/ (⟨0xD104C, [(32, 0x80)], []⟩, 2),
  /- TIC_CHn_FQ_SPAN -/ (⟨0xD1054, [(32, 0x80)], []⟩, 2),
  /- TIC_CHn_IV -/ (⟨0xD1060, [(32, 0x80)], []⟩, 2),
  /- GNS_POS_X -/ (⟨0xE0030, [], []⟩, 2),
  /- GNS_POS_Y -/ (⟨0xE0038, [], []⟩, 2),
  /- GNS_POS_Z -/ (⟨0xE0040, [], []⟩, 2),
  /- GNS_SOL_OFS -/ (⟨0xE0064, [], []⟩, 2),
  /- GNS_SOL_B -/ (⟨0xE006C, [], []⟩, 2),
  /- GNS_EPOCH_T -/ (⟨0xE0084, [], []⟩, 3),
  /- DST_TFWD_PERIOD -/ (⟨0xF0020, [], []⟩, 2),
  /- DST_TFWD_CAUSE -/ (⟨0xF003C, [], []⟩, 2),
  /- DST_LINKd_RTT -/ (⟨0xF0134, [(16, 0x80)], []⟩, 2),
  /- DST_LINKd_DMS -/ (⟨0xF013C, [(16, 0x80)], []⟩, 2),
  /- DST_LINKd_OFS -/ (⟨0xF0144, [(16, 0x80)], []⟩, 2),
  /- DST_LINKd_BLINK -/ (⟨0xF014C, [(16, 0x80)], []⟩, 2),
  /- PAR_SERIAL -/ (⟨0x100020, [], []⟩, 2),
  /- PAR_PEER_SERIAL -/ (⟨0x100028, [], []⟩, 2),
  /- PAR_VINT_T -/ (⟨0x10004C, [], []⟩, 3),
  /- PAR_OFS -/ (⟨0x100058, [], []⟩, 2)]

def wideRegs_2 : List (RegDef × Nat) := [
  /- BND_TRACE_PEEK -/ (⟨0x30080, [], []⟩, 16),
  /- SVC_JNL_PEEK -/ (⟨0xa0040, [], []⟩, 4),
  /- LDR_Q_ADDR -/ (⟨0xb0100, [], []⟩, 4),
  /- LDR_QREC -/ (⟨0xb0120, [], []⟩, 16),
  /- MEM_RAW_DATA -/ (⟨0x110110, [], []⟩, 4),
  /- EVT_PEEK -/ (⟨0x10030, [], []⟩, 4),
  /- PAR_STAGE_BASE -/ (⟨0x100080, [], []⟩, 2),
  /- PAR_LOG_BASE -/ (⟨0x100088, [], []⟩, 2),
  /- MEM_SPARE_BASE -/ (⟨0x110010, [], []⟩, 2),
  /- MEM_LAST_ADDR -/ (⟨0x110024, [], []⟩, 2),
  /- MEM_RAW_ADDR -/ (⟨0x110104, [], []⟩, 2),
  /- MGT_REGIONr_BASE -/ (⟨0x200, [(16, 0x10)], []⟩, 2),
  /- EVT_LOG_BASE -/ (⟨0x10008, [], []⟩, 2),
  /- CLR_SEC -/ (⟨0x120010, [], []⟩, 2),
  /- CLR_SNAP_BASE -/ (⟨0x120018, [], []⟩, 2),
  /- INJ_FIRE_T -/ (⟨0x140034, [], []⟩, 3)]
def wideRegs : List (RegDef × Nat) := wideRegs_0 ++ wideRegs_1 ++ wideRegs_2

/-- The lowest register and the words of the wide value that the register at `a` belongs to; none for a value of its own. -/
def wideIn (a : Nat) : List (RegDef × Nat) → Option (Nat × Nat)
  | [] => none
  | (r, n) :: l => match (List.range n).find? (fun i => decide (4 * i ≤ a) && (r.index (a - 4 * i)).isSome) with
    | some i => some (a - 4 * i, n)
    | none => wideIn a l
def wideAt (a : Nat) : Option (Nat × Nat) := wideIn a wideRegs

/-- The word a register holds at reset: each field's reset value in its bits; 0 at an unassigned address (R8). -/
def resetWord (a : Nat) : Word := match regAt a with
  | some (r, i, j) => BitVec.ofNat 32 (r.fields.foldl (fun acc f => acc + f.reset i j % 2 ^ (f.hi + 1 - f.lo) * 2 ^ f.lo) 0)
  | none => 0

end Sys2Proof.Machine
end

