-- ==== Sys2Proof/Machine/State.lean ====
section
/-!
DEFINITION. The state of the block: everything the spec gives it, as plain data. Every register of the window stands in
`regs` (RegMap.lean gives its reset word); what no register shows stands in one structure per block.
-/
namespace Sys2Proof.Machine

open Sys2Proof

/-- Why a run stops with a fault. -/
inductive Fault where
  /-- Raised by a DRAM access of a block outside the installed size (R444: no byte is there). Safe: the machine stops
  where the spec gives no byte. -/
  | dramAbsent (addr : Nat)
  deriving DecidableEq, Repr

/-- Why a command is refused. -/
inductive Refusal where
  /-- Raised by exec's arm of a command that has no meaning yet. Safe: no behaviour is claimed. -/
  | notModelled (mnemonic : String)
  deriving DecidableEq, Repr

/-- The all-ones BND48 value (R18). -/
def bnd48Max : Nat := 2 ^ 48 - 1

/-- What the last register access, command or transaction answered to its sender. -/
inductive Reply where
  | none
  | words (l : List Word)
  | bytes (l : List Byte)
  | busError
  | refused (code : Nat)
  deriving DecidableEq, Repr

/-- A write waiting in the staging copy (R26): its path, register, the bits it sets, and the voted time it arrived. -/
structure Staged where
  path : Path
  addr : Nat
  mask : Word
  val : Word
  at_ : Nat
  deriving DecidableEq, Repr

/-- An event record raised and not yet accepted (R35, R458). `cyc` orders records of different cycles. -/
structure EvRec where
  cyc : Nat
  time : Nat
  event : Nat
  inst : Nat
  detail : Nat
  deriving DecidableEq, Repr

/-- An accepted record: its 16 bytes of R35 as numbers. -/
structure RingRec where
  ns : Nat
  sec : Nat
  event : Nat
  inst : Nat
  seq : Nat
  detail : Nat
  deriving DecidableEq, Repr

/-- The event router (R458 to R460): the block queues, the losses not yet reported per block, the ring, the next SEQ. -/
structure EvtState where
  q : List EvRec
  lostPend : List (Nat × Nat)
  ring : List RingRec
  seq : Nat
  deriving DecidableEq, Repr

/-- Where a keeper's seed comes from (R64). -/
inductive SeedSrc where
  | voted | keeper (x : Nat) | reference | witness
  deriving DecidableEq, Repr

/-- One keeper beside its registers: its time word (R45) in units of 2^-64 ns, its steering word (R47), its trim
integrator in units of 2^-65 (R52), the instant its last marker marked in ns and the fine-delay step of its edge (R49), its
counts of R63, whether the offset of a reference seed was found (R64), the last second its PPS marked (R49). -/
structure Keeper where
  time : Nat
  steer : Int
  integ : Rat
  mark : Nat
  fine : Nat
  disagree : Nat
  hold : Nat
  heldWith : Nat
  seed : SeedSrc
  rejoin : Bool
  found : Bool
  pps : Option Nat
  deriving DecidableEq, Repr

/-- A leap operation waiting for the tick (R68). -/
inductive LeapOp where
  | arm (m : Nat) (deletion : Bool)
  | cancel
  deriving DecidableEq, Repr

/-- The keeper triad (R45 to R71): `pairs` counts consecutive agreeing votes of A-B, A-C, B-C, `noPair` consecutive
votes without agreement, `skip` markers the comparator ignores after a step, `corr` the correction of R53. -/
structure KprState where
  started : Bool
  realigned : Bool
  keepers : List Keeper
  pairs : List Nat
  noPair : Nat
  skip : Nat
  corr : Int
  voteNow : Nat
  lastVoted : Nat
  /-- Voted time as the last realign step set it (R153). -/
  stepTo : Nat
  /-- Voted time when it last came into being: at the start, or at the end of DARK (R61). -/
  bornAt : Nat
  /-- The integral of the time source's applied word over voted time, 2^-65 times 2^-16 ns (R507). -/
  yInt : Int
  leapM : Nat
  leapNext : Option LeapOp
  /-- A snapshot under way: MEMBER, VSTATE at the write and whether a time source existed. -/
  snap : Option (Nat × Nat × Bool)
  deriving DecidableEq, Repr

/-- What a keeper's bound is the sum of (R75, R82): UNBOUNDED, the REF term, t_s, the coefficients in force, HW, OFFSET, MARGIN
and what an injection adds. -/
structure BoundTerms where
  unb : Bool
  ref : Nat
  ts : Nat
  c1 : Nat
  c2 : Nat
  hw : Nat
  ofs : Nat
  margin : Nat
  inj : Nat
  deriving DecidableEq, Repr

/-- The state in force at a vote, against which requests are answered until the next (R83): each keeper's terms, the keepers in
the vote, whether two of them disagreed, ASYM per port, and bits [5:2] of the FLAGS byte of R90. -/
structure BoundVote where
  terms : List BoundTerms
  voters : List Nat
  disagree : Bool
  asym : List Nat
  flags : Nat
  deriving DecidableEq, Repr

/-- The Bound unit (R75 to R94). Lists of three are per keeper. -/
structure BndState where
  /-- The state in force at the last vote (R83). -/
  atVote : BoundVote
  /-- Causes of the bound epoch noted since the last vote, at which they are applied (R85, R86). -/
  causes : List Nat
  /-- The REF term loaded with the last phase-valid sample. -/
  ref : List Nat
  /-- t_s: the instant of that sample. -/
  ts : List Nat
  /-- A sample has been accepted since the start (R141). -/
  tsSet : List Bool
  /-- The coefficients C1 and C2 that DSC delivered last for each keeper (R142). -/
  c1 : List Nat
  c2 : List Nat
  /-- Known offsets by source (R78): the slot number, or 16 for DSC. -/
  offsets : List (Nat × Nat)
  /-- The disputed difference added to C1 (R77, R117). -/
  dispute : Nat
  /-- Values delivered below their floor at their last delivery (R80): 8 * keeper + 1 or 2, or 64 + slot. -/
  below : List Nat
  /-- The FLOOR flag of the next record. -/
  floorFlag : Bool
  /-- t_s was taken from a vintage (R93). -/
  takeover : Bool
  /-- The slot of the last phase-valid sample delivered. -/
  lastSlot : Option Nat
  /-- Peak of the voted core bound per tick, newest first, at most 128 (R84). -/
  peaks : List (Nat × Nat)
  /-- BELOW_SERVICE has been set since the start (R92). -/
  serviceSeen : Bool
  traceSeq : Nat
  prevCrc : Nat
  /-- Records in the DRAM ring since the start, and whether the first overwrite was reported (R94). -/
  ringCount : Nat
  ovrSeen : Bool
  discSeen : Bool
  /-- The on-chip queue of records, oldest first (R94). -/
  queue : List (List Byte)
  upSeq : Nat
  deriving DecidableEq, Repr

/-- One change R505 uses: the change of the offset (2^-12 ns), the interval (2^-16 ns), and the integral of the applied
word over it (R507). -/
structure Change where
  d : Int
  dt : Nat
  y : Int
  deriving DecidableEq, Repr

/-- A valid ToD frame waiting for the next edge (R105). -/
structure TodFrame where
  sec : Nat
  bound : Option Nat
  upSeq : Nat
  endAt : Nat
  deriving DecidableEq, Repr

/-- A packet exchange of this tick (R102): offset (2^-12 ns), mean path delay (2^-16 ns), claim, TRACE_SEQ, instant. -/
structure RefExch where
  ofs : Int
  delay : Int
  claim : Option Nat
  upSeq : Nat
  at_ : Nat
  deriving DecidableEq, Repr

/-- One reference slot beside its registers (R100 to R117, R505). -/
structure RefSlot where
  qualStart : Nat
  wtrStart : Nat
  /-- Has qualified since the start (R114). -/
  qualified : Bool
  /-- The instant the slot left OFF. -/
  offAt : Nat
  /-- A failure with ENABLE cleared waits for the switch to end (R114). -/
  disabled : Bool
  seen : Bool
  lastEdge : Nat
  annSeen : Bool
  lastAnn : Nat
  annLog : Int
  annClass : Nat
  masterSeen : Bool
  gm : Nat
  portId : Nat
  /-- The source is active, where its unit says so (GNSS, link, peer, lane lock). -/
  active : Bool
  esmcSeen : Bool
  lastEsmc : Nat
  /-- Edge counts of the last 16 ticks of a frequency pin. -/
  edgeCounts : List Nat
  /-- Unwrapped phase of a frequency slot, 2^-12 ns. -/
  phase : Int
  lastStamp : Option Nat
  tod : Option TodFrame
  /-- The last valid frame's claim and the instant of that frame. -/
  todClaim : Option (Option Nat × Nat)
  /-- Cause TOD stood when the slot was judged last (R105). -/
  todWas : Bool
  expected : Option (Int × Nat)
  meas : Option (Int × Nat × Int)
  /-- The next change spans a realign step and is left out. -/
  brk : Bool
  changes : List Change
  /-- f of the last ticks, newest first, at most 64 (R116). -/
  fHist : List Int
  exch : List RefExch
  /-- A sample was taken this tick; its claim and instant. -/
  newSample : Bool
  claim : Option Nat
  sampleAt : Nat
  /-- The last tick at which a pair of this slot was not clear (R117). -/
  clearSince : Nat
  deriving DecidableEq, Repr

/-- A switch pending (R119): the left slot, the target, the tick it started, the latest offset O of the target. -/
structure Switch where
  left : Option Nat
  target : Nat
  start : Nat
  ofs : Int
  deriving DecidableEq, Repr

/-- The reference selector: the slots, the commands waiting for the tick, the pending switch, and the disputed
difference's latch (R117). -/
structure RefState where
  slots : List RefSlot
  cmds : List (Nat × Nat)
  /-- What came of each command judged at the latest tick, in order (R450). -/
  judged : List Bool
  pend : Option Switch
  /-- The pairs in mutual dispute of which a slot was the selected one or of its rank: their difference is passed to BND (R117). -/
  passing : List (Nat × Nat)
  deriving DecidableEq, Repr

/-- A slot before anything has been received for it. -/
def RefSlot.blank : RefSlot :=
  { qualStart := 0, wtrStart := 0, qualified := false, offAt := 0, disabled := false, seen := false, lastEdge := 0,
    annSeen := false, lastAnn := 0, annLog := 0, annClass := 255, masterSeen := false, gm := 0, portId := 0, active := false,
    esmcSeen := false, lastEsmc := 0, edgeCounts := [], phase := 0, lastStamp := none, tod := none, todClaim := none, todWas := false,
    expected := none, meas := none, brk := false, changes := [], fHist := [], exch := [], newSample := false, claim := none,
    sampleAt := 0, clearSince := 0 }

/-- A committed holdover model (R139, R142): F0 in 2^-65, A1 in 10^-21 per s, K_T in 10^-15 per degree, T_REF in 1/256
degree, the fit span in minutes, t_m in TAI seconds, and the three uncertainties. -/
structure OscModel where
  f0 : Int
  a1 : Int
  kt : Int
  tref : Int
  span : Nat
  tm : Nat
  uf : Nat
  ua : Nat
  uk : Nat
  deriving DecidableEq, Repr

/-- A realign command that waits (R150, R151). -/
structure Realign where
  explicit : Bool
  slot : Nat
  step : Int
  u : Nat
  at_ : Nat
  /-- Its application tick has come and nothing refused it. -/
  ready : Bool
  deriving DecidableEq, Repr

/-- Discipline of one oscillator beside its registers. -/
structure OscState where
  /-- W_o in units of 2^-65 (R136). -/
  w : Rat
  /-- The model W_o was loaded from in INIT (R137, R144). -/
  initial : OscModel
  /-- The accepted commits, newest first, at most 64 (R141). -/
  models : List OscModel
  /-- Tick of the last accepted commit. -/
  lastCommit : Option Nat
  /-- A commit accepted, whose set takes effect at the next tick (R140). -/
  commitNext : Option OscModel
  /-- The control's position before rounding to a code or word, and the limit flag (R130). -/
  cont : Rat
  limited : Bool
  /-- A WORD write under way, and its consecutive failures (R131). -/
  wordSent : Option Int
  wordFails : Nat
  /-- The ticks of the last word written and of the last sensor read: one each per 64 ticks (R130, R143). -/
  wordTick : Option Nat
  tempTick : Option Nat
  /-- A sensor read under way, consecutive reads not acknowledged, consecutive valid reads (R143). -/
  tempRead : Bool
  tempNaks : Nat
  tempGood : Nat
  /-- The Cellar copy of the last committed model: the image serial it was made under, and the model (R144). -/
  cellar : Option (Nat × OscModel)
  deriving DecidableEq, Repr

/-- DSC beside its registers (R133 to R153). -/
structure DscState where
  oscs : List OscState
  /-- P in units of 10^-15 (R136). -/
  p : Rat
  /-- The slot and instant of the loop's last update (R133). -/
  lastUpd : Option (Nat × Nat)
  acqTick : Nat
  lockCount : Nat
  pullStart : Nat
  slewSeen : Bool
  /-- Each W_o as it stood on entry to BRIDGE, and each keeper's own part of it (R144). -/
  held : List Rat
  heldMoved : List Int
  /-- The model in force for each oscillator since the entry to BRIDGE, HOLDOVER or FREE (R141). -/
  inForce : List (Option OscModel)
  realign : Option Realign
  /-- The trim of each keeper added over the votes since the last transfer, their number, the tick of that transfer, and the part of
W_o that is each keeper's own, moved out of its trim (R136). -/
  trimSum : List Int
  trimN : Nat
  trimTick : Option Nat
  moved : List Int
  witTick : Option Nat
  witAt : Nat
  /-- The committed witness model: W0, W1, t_w and U (R148). -/
  wit : Option (Int × Int × Nat × Nat)
  /-- Keeper frequency against WCLK, and as the model predicts it, newest first, at most 65 (R116). -/
  witHist : List Int
  modHist : List Int
  deriving DecidableEq, Repr

/-- The model with nothing in it. -/
def OscModel.blank : OscModel := ⟨0, 0, 0, 0, 0, 0, 0, 0, 0⟩

def OscState.blank : OscState :=
  { w := 0, initial := OscModel.blank, models := [], lastCommit := none, commitNext := none, cont := 0, limited := false,
    wordSent := none, wordFails := 0, wordTick := none, tempTick := none, tempRead := false, tempNaks := 0, tempGood := 0, cellar := none }

/-- A pulse that an output's majority gate drives: its edges in 2^-12 ns (R55, R174). -/
structure PpsPulse where
  rise : Int
  fall : Int
  deriving DecidableEq, Repr

/-- The multiplying loops beside their registers (R158 to R180). `ref` says whether each loop's own reference is present
(an oscillator for 0 to 2, SYSCLK for 3 to 5); `frac` is each fractional loop's ratio N in units of 2^-64; `corr` an
aligned output's correction of N, relative; `aligned` its consecutive good markers; `clkEdge` the error of its edge
as placed or last measured, in 2^-12 ns; `ppsSec` the last second whose pulse each PPS output emitted, `pps` that pulse, `ppsOn`
the instant since which the output runs; `ppsMark` the latest voted second marker; `maskUntil` the end of the lock detectors'
mask after a handover (R168). -/
structure SynState where
  loaded : Bool
  ref : List Bool
  frac : List Nat
  corr : List Rat
  aligned : List Nat
  clkEdge : List (Option Int)
  ppsSec : List (Option Nat)
  pps : List (Option PpsPulse)
  ppsOn : List (Option Nat)
  ppsMark : Option Nat
  maskUntil : Nat
  /-- The instant at which an aligned clock output that holds low for a realign step restarts (R172). -/
  restart : List (Option Nat)
  /-- The DRAM controllers hold self-refresh for a lost DCLK (R167). -/
  sref : Bool
  deriving DecidableEq, Repr

/-- One reset handshake that is not in RUN (R189): the side that was reset, the other side, whether the acknowledge came,
the FLUSH queues that held entries and were emptied, and the entries discarded. -/
structure Handshake where
  x : Nat
  y : Nat
  acked : Bool
  queues : Nat
  entries : Nat
  deriving DecidableEq, Repr

/-- The crossings (R181 to R194): domains whose edges have stopped (beside those a loop's closed gate stops), merge counters by
index, tick strobes pending into stopped domains, command writes pending into them (path, register, value), monitor results
held while MCLK is stopped, handshakes under way. -/
structure XdcState where
  stopped : List Nat
  merge : List (Nat × Nat)
  strobes : List Nat
  cmds : List (Path × Nat × Word)
  held : List (Nat × Option Nat)
  hs : List Handshake
  deriving DecidableEq, Repr



/-- The receive-stamp descriptor of R230. -/
structure RxDesc where
  ns32 : Nat
  frac : Nat
  wrap8 : Nat
  step : Nat
  valid : Bool
  deriving DecidableEq, Repr

/-- A frame in a receive queue, without its FCS. -/
structure RxFrame where
  data : List Byte
  desc : RxDesc
  deriving DecidableEq, Repr

/-- An unpinned frame in the transmit buffer: its source, class, bytes without FCS, STAMP tag, bytes written so far, the
instant it started, and for an Announce the instance and the byte that take its clockAccuracy as it leaves (R91). -/
structure TxFrame where
  src : Nat
  cls : Nat
  data : List Byte
  stamp : Option Nat
  written : Nat
  start : Nat
  acc : Option (Nat × Nat)
  deriving DecidableEq, Repr

/-- States of a pinned frame before its end (R234). -/
inductive PinPhase where
  | reserved | armed | launching
  deriving DecidableEq, Repr

/-- A pinned frame (R232, R234): instants in 2^-16 ns, `stop` the end of its interval with the guard band. -/
structure Pinned where
  tag : Nat
  src : Nat
  cls : Nat
  slot : Nat
  t3 : Nat
  deadline : Nat
  stop : Nat
  len : Nat
  reserved : Bool
  phase : PinPhase
  data : List Byte
  deriving DecidableEq, Repr

/-- The one report of a pinned frame (R234): committed, with MISMATCH or not, or squashed with a cause of R257 (0 is
CANCEL) and the end of a pause. -/
inductive PinResult where
  | committed (mismatch : Bool)
  | squashed (cause hint : Nat)
  | launched
  deriving DecidableEq, Repr

/-- What a port's transmitter sends between frames (R196): idle, or remote fault ordered sets while it receives local fault. -/
inductive TxLine where
  | idle | remoteFault
  deriving DecidableEq, Repr

structure PinReport where
  src : Nat
  port : Nat
  tag : Nat
  result : PinResult
  deriving DecidableEq, Repr

/-- What a source gets back for an unpinned frame: the frame not sent (R199), or a transmit-stamp record (R237). -/
inductive TxReport where
  | notSent (port src : Nat) (data : List Byte)
  | stamp (port src : Nat) (record : List Byte)
  deriving DecidableEq, Repr

/-- One port beside its registers (R195 to R246). Pauses are start and end; buckets tokens in bytes and their instant. -/
structure PortState where
  rxq : List (List RxFrame)
  rxFull : List Bool
  pausePend : List (Nat × Nat)
  pfcPend : List (List (Option Nat) × Nat)
  pause : Option (Nat × Nat)
  pfc : List (Option (Nat × Nat))
  /-- Start of the pause that has not broken since, and whether PRT_PAUSE_LONG was raised for it. -/
  pauseSince : Option Nat
  pauseLong : Bool
  txq : List (List TxFrame)
  busy : Option TxFrame
  pinned : List Pinned
  buckets : List (Option (Rat × Nat))
  fecSeen : Bool
  phase : Option GridPhase
  /-- Every PCS, marker and FEC lock of the receive lanes is held. -/
  locked : Bool
  /-- What the transmitter sends between frames, and the Clause 37 word MP advertises (R196, R197). -/
  line : TxLine
  advert : Nat
  /-- The instant the port last left UP (R199). -/
  leftUp : Option Nat
  /-- MAC_MAXLEN before its last change, and the instant of the change (R201). -/
  lenWas : Option (Nat × Nat)
  /-- The last bytes sent: a frame with its padding and FCS, or what a fault left of it (R203, R217). -/
  wire : List Byte
  /-- The tick after the one of the last TSU_MISSED. -/
  missTick : Nat
  deriving DecidableEq, Repr

/-- The ports: each port's state, and the reports to sources not yet taken. -/
structure PrtState where
  ports : List PortState
  reports : List PinReport
  done : List TxReport
  deriving DecidableEq, Repr

def PortState.blank : PortState :=
  { rxq := List.replicate 8 [], rxFull := List.replicate 8 false, pausePend := [], pfcPend := [], pause := none,
    pfc := List.replicate 8 none, pauseSince := none, pauseLong := false, txq := List.replicate 8 [], busy := none,
    pinned := [], buckets := List.replicate 8 none, fecSeen := false, phase := none, locked := false, line := .idle, advert := 0,
    leftUp := none, lenWas := none, wire := [], missTick := 0 }

/-- A trigger entry (R239): first instant in 2^-16 ns, width in ns, period in 2^-12 ns, count, index of the next firing,
firings made. -/
structure TrgEntry where
  first : Nat
  width : Nat
  period : Nat
  count : Nat
  next : Nat
  fired : Nat
  deriving DecidableEq, Repr

/-- A pulse of a trigger output: its edges, and whether the output is inverted (R238). -/
structure TrgPulse where
  edges : PpsPulse
  inverted : Bool
  deriving DecidableEq, Repr

/-- One trigger output: its schedule, whether its last firing was skipped, the last pulse placed. -/
structure TrgOut where
  entries : List TrgEntry
  skipRun : Bool
  pulse : Option TrgPulse
  deriving DecidableEq, Repr

structure TrgState where
  outs : List TrgOut
  deriving DecidableEq, Repr



/-- States of a ledger entry before its outcome (R250). -/
inductive EntryPhase where
  | waiting | preparing | pinned
  deriving DecidableEq, Repr

/-- A launch request the ledger holds for an entry (R253). -/
structure LaunchReq where
  port : Nat
  cls : Nat
  e : Nat
  len : Nat
  deriving DecidableEq, Repr

/-- One ledger entry (R248, R250): the request and its stamp, the client that LDR found, the binding to an engine and
context, the slot held, and what the outcome will apply. `kiss` is 1 for a kiss-o'-death, 2 for a NAK after a failed
verification; `keys` are the keys its operations ran under (R308): a main slot's number, or 4096 + a Cellar key. -/
structure Entry where
  index : Nat
  port : Nat
  kind : Nat
  inst : Nat
  desc : RxDesc
  rx : Nat
  frame : List Byte
  addr : List Byte
  kclass : Nat
  resolved : Bool
  record : Nat
  bucket : Nat
  guest : Bool
  decision : Nat
  phase : EntryPhase
  returned : Bool
  squashes : Nat
  restart : Nat
  guardrails : Nat
  bind : Option (Nat × Nat)
  launch : Option LaunchReq
  tport : Nat
  slot : Nat
  t3 : Nat
  deadline : Nat
  hint : Nat
  cls : Nat
  epoch : Nat
  keys : List Nat
  staged : Option (List Byte)
  failed : Bool
  /-- Its AUTHENTICATION TLV verified (R264). -/
  verified : Bool
  kiss : Nat
  /-- Its engine was reset while it was PINNED. -/
  gone : Bool
  deriving DecidableEq, Repr

/-- A seal request waiting for the insertion unit (R254): the ARG words. -/
structure SealReq where
  ctx : Nat
  args : List Word
  deriving DecidableEq, Repr

/-- One context of an engine (R268, R269): the entry bound, the response buffer as the engine wrote it, whether it is
sealed and the sealed bytes with the bound epoch they carry, the fetched record, the handle a SPACE 3 verification recorded, the last queue activity. -/
structure Ctx where
  bound : Option Nat
  buf : List Byte
  sealed : Bool
  out : List Byte
  epoch : Nat
  fetched : List Byte
  pick : Option Nat
  act : Nat
  deriving DecidableEq, Repr

/-- One engine (R268 to R272): contexts, queues toward its ports, operations issued and not complete, the instants of its
last faults, the tick after the one of its last SVC_GUARDRAIL. -/
structure Engine where
  ctxs : List Ctx
  notes : List Word
  recRes : List Word
  crypto : List Word
  cryptoRes : List Word
  launchRes : List Word
  seals : List SealReq
  sealRes : List Word
  faults : List Nat
  guardTick : Nat
  deriving DecidableEq, Repr

/-- The service pipeline: the ledger in admission order, the engines, the on-chip journal queue, what has been reported
since the start, in the tick, or since a drain. -/
structure SvcState where
  ledger : List Entry
  engines : List Engine
  journal : List (List Byte)
  jnlCount : Nat
  jnlOvr : Bool
  jnlDisc : Bool
  fullSeen : Bool
  wdTick : Nat
  rsvTick : Nat
  skipTick : Nat
  skips : Nat
  deriving DecidableEq, Repr

def Ctx.blank : Ctx :=
  { bound := none, buf := [], sealed := false, out := [], epoch := 0, fetched := [], pick := none, act := 0 }

def Engine.blank : Engine :=
  { ctxs := List.replicate 4 Ctx.blank, notes := [], recRes := [], crypto := [], cryptoRes := [], launchRes := [], seals := [],
    sealRes := [], faults := [], guardTick := 0 }

/-- A Pantry line (R281). `used` orders use for replacement; `err` marks a line with an uncorrectable error (R290). -/
structure Line where
  addr : List Byte
  kclass : Nat
  flags : Nat
  ctrl : Nat
  poll : Nat
  lastTick : Nat
  tokens : Nat
  rateTick : Nat
  cookieGen : Nat
  logSync : Nat
  logAnn : Nat
  logDresp : Nat
  held : Nat
  tail : Nat
  tailValid : Bool
  grantEnd : Nat
  index : Nat
  ldirty : Bool
  firstSeen : Nat
  used : Nat
  err : Bool
  deriving DecidableEq, Repr

/-- An outcome write waiting in the HOLD queue (R287): the record, the counts to add, the FW fields, and the entry
whose decision was ALLOW. -/
structure OutWrite where
  index : Nat
  req : Nat
  kods : Nat
  drops : Nat
  auth : Nat
  allow : Bool
  fw : Option (List Byte)
  deriving DecidableEq, Repr

/-- The Larder and Pantry (R279 to R293): the hash key of this start, the lines by number (set * 16 + way), the outcome
writes, records whose DRAM copy has an uncorrectable error, SETs that wait for the tick, the grant list, the two dirty
bitmaps as sets of record indices. -/
structure LdrState where
  hashKey : Nat
  lines : List (Nat × Line)
  uses : Nat
  writes : List OutWrite
  bad : List Nat
  sets : List (Nat × Nat × Bool)
  grants : List Nat
  dirty : List Nat
  closed : List Nat
  guestTick : Nat
  evictSeen : Bool
  deriving DecidableEq, Repr

/-- A key slot (R297) with its INCARN count. `state` has the codes of R297. -/
structure KeySlot where
  material : List Byte
  label : List Byte
  parent : Nat
  gen : Nat
  depth : Nat
  state : Nat
  succ : Option Nat
  policy : Nat
  keyid : Nat
  notAfter : Nat
  tag : List Byte
  tagOk : Bool
  incarn : Nat
  deriving DecidableEq, Repr

def KeySlot.blank : KeySlot :=
  { material := List.replicate 32 0, label := List.replicate 8 0, parent := 0, gen := 0, depth := 0, state := 0, succ := none,
    policy := 0, keyid := 0, notAfter := 0, tag := List.replicate 4 0, tagOk := true, incarn := 0 }

/-- The KEY block: main slots by number, the 16 Cellar slots, the commit word, the transient store, use counts (main slot
number, or 4096 + Cellar key), what waits for the tick (commit mask, invalidations with cause, rolls), the random
generator's draw count and requests since its reseed, ticks after which events were raised. -/
structure KeyState where
  main : List (Nat × KeySlot)
  cellar : List (Nat × KeySlot)
  commit : Word
  transient : List (Nat × List Byte)
  uses : List (Nat × Nat)
  commitMask : Nat
  inval : List (Nat × Nat)
  rolls : List Nat
  draws : Nat
  requests : Nat
  reseeds : Nat
  policyTick : Nat
  failTick : Nat
  /-- The tick after that of the last check of every tag (R299). -/
  checked : Nat
  /-- A tamper that fell while the main domain was off, to be reported after MGT_RESTART (R321). -/
  tamperPend : Nat
  deriving DecidableEq, Repr



/-- A frequency gate under way (R345): its number, stamps, first and last stamp, and whether an edge was lost or a change
fell in it. -/
structure Gate where
  no : Nat
  edges : Nat
  first : Nat
  last : Nat
  bad : Bool
  deriving DecidableEq, Repr

/-- A Pip in a channel's queue with its destination (R347). -/
structure Pip where
  dest : Nat
  data : List Byte
  deriving DecidableEq, Repr

/-- One TIC channel beside its registers (R331 to R347). Stamps are in 2^-12 ns, instants in 2^-16 ns. `departs` holds the
departures of stamps from the burst buffer; `hist` the last 64 stamps with the change count at each; `stops` the stops not
judged (stamp, falling, change count); `changes` the counts of this channel's MARK-causing changes; `mark` the second of
the last MARK; `prev` the last stamp Pip since a MARK or GAP. -/
structure TicChan where
  div : Nat
  lastT : Option Nat
  departs : List Nat
  hist : List (Nat × Nat)
  stops : List (Nat × Bool × Nat)
  changes : List Nat
  mark : Option Nat
  prev : Option Nat
  lossMask : Nat
  lossCount : Nat
  q : List Pip
  lossTick : Nat
  orphanTick : Nat
  gates : List Gate
  gateNext : Nat
  calBusy : Bool
  calReady : Bool
  calAt : Nat
  retryAt : Option Nat
  feedRise : Option Nat
  feedFall : Option Nat
  feedCount : Nat
  feedLoss : Nat
  deriving DecidableEq, Repr

/-- The TIC beside its registers (R330 to R352): the count of changes, the last departure of any channel, the frequency
queue (channel, INVALID, Y), the witness scale in 2^-16 ns, the export frame being built (segments, first record's instant,
Pips), FRAME_SEQ, the retained copies with their Pips, the latest XOFF. -/
structure TicState where
  chans : List TicChan
  serial : Nat
  depart : Nat
  fq : List (Nat × Bool × Int)
  wit : Rat
  segs : List (Nat × List Byte)
  segAt : Nat
  segPips : Nat
  seq : Nat
  kept : List (List Byte × Nat)
  xoffAt : Option Nat
  deriving DecidableEq, Repr

def TicChan.blank : TicChan :=
  { div := 0, lastT := none, departs := [], hist := [], stops := [], changes := [], mark := none, prev := none, lossMask := 0,
    lossCount := 0, q := [], lossTick := 0, orphanTick := 0, gates := [], gateNext := 0, calBusy := false, calReady := false,
    calAt := 0, retryAt := none, feedRise := none, feedFall := none, feedCount := 0, feedLoss := 0 }

/-- What the retention SRAM keeps (R378): satellites with the instants of ephemeris and almanac, their last Doppler, the
broadcast UTC parameters, the position with its uncertainty, the last solution's instant, each band's sample-clock offset. -/
structure GnssRet where
  sats : List (Nat × Nat × Option Nat × Option Nat)
  doppler : List (Nat × Int)
  utc : Nat
  pos : Option (List Int × Nat)
  lastSol : Nat
  fs : List Int
  deriving DecidableEq, Repr

/-- One tracking channel beside its register: instants it entered PULL_IN, lost and gained continuous lock, and SLIP. -/
structure GnssChan where
  pullAt : Nat
  lockAt : Nat
  lostAt : Nat
  slip : Bool
  used : Bool
  deriving DecidableEq, Repr

/-- A sawtooth message (R376): second, q and t_B minus the second in 2^-12 ns, EDGE. -/
structure Saw where
  sec : Nat
  q : Int
  tb : Rat
  edge : Bool
  deriving DecidableEq, Repr

/-- The GNSS baseband beside its registers (R356 to R380). Lists of two are per band; `band` is 0 AWAKE, 1 ASLEEP,
2 WAKING; `jam` counts consecutive epochs above the limit, `calm` at or below it; `low` counts epochs below the entry
count; `barred` holds satellites excluded and the end of the bar; `extra` is the latest solution's extra clock offset, in
2^-12 ns, of each further system in use (R360). -/
structure GnsState where
  chans : List GnssChan
  win : List (List Byte)
  lastEpoch : Nat
  epochSeen : Bool
  jam : List Nat
  calm : List Nat
  band : List Nat
  wakeAt : List Nat
  sleptAt : List Nat
  compat : List Bool
  cold : Bool
  validAt : Nat
  low : Nat
  surveyAt : Nat
  barred : List (Nat × Nat × Nat)
  extra : List (Nat × Int)
  know : GnssRet
  ret : GnssRet
  saws : List Saw
  pulse : Option (Nat × Rat)
  deriving DecidableEq, Repr

def GnssRet.blank : GnssRet := { sats := [], doppler := [], utc := 0, pos := none, lastSol := 0, fs := [0, 0] }
def GnssChan.blank : GnssChan := ⟨0, 0, 0, false, false⟩

/-- A trigger entry on its way down (R387, R396): first instant in 2^-16 ns, width in ns, period in 2^-12 ns, count, remote
output, FWD, and whether it was sent from this device. -/
structure TrigFwd where
  first : Nat
  width : Nat
  period : Nat
  count : Nat
  out : Nat
  fwd : Bool
  own : Bool
  deriving DecidableEq, Repr

/-- What a Sync gave an UP link (R387): sequenceId, t1 and t2 in 2^-16 ns, t2's STEP count, the forward accumulator as the
Sync arrived, and the TLV's fields. -/
structure SyncInfo where
  seq : Nat
  t1 : Int
  t2 : Int
  step : Nat
  fwd : Int
  eb8 : Nat
  ql : Nat
  depth : Nat
  phaseValid : Bool
  parity : Bool
  trace : Nat
  rphase : Int
  deriving DecidableEq, Repr

/-- One distribution port's link beside its registers (R385 to R397). Down: LINK_SEQ, trigger entries waiting (the head
rides in each Sync), its TRG_SEQ and Syncs that carried it, the last F_PHASE. Up: the last Sync, the request in flight
(sequenceId, t3, STEP), agreeing exchanges, the anchor (theta, F, R), the fibre round trip, the R_PHASE changes by tick,
the last complete exchange, Syncs failed since, the entry last judged (TRG_SEQ, result). `sent` is the multiple of the Sync
interval last sent for, `asked` says that the latest Sync has had its request, `tempTick` the tick of the last reading. -/
structure DstLink where
  linkSeq : Nat
  trg : List TrigFwd
  trgSeq : Nat
  carried : Nat
  fPhase : Int
  sync : Option SyncInfo
  req : Option (Nat × Nat × Nat)
  agree : Nat
  anchor : Option (Int × Int × Int)
  fibre : Int
  dR : List (Nat × Nat)
  lastExch : Nat
  authRun : Nat
  depthSaid : Bool
  moved : Bool
  judged : Option (Nat × Nat)
  naks : Nat
  authTick : Nat
  sent : Option Nat
  asked : Bool
  tempTick : Option Nat
  deriving DecidableEq, Repr

/-- The links, and the entry sent from here: ports that have not answered, accepted, refused, and the causes (R396). -/
structure DstState where
  links : List DstLink
  waiting : Nat
  acc : Nat
  ref : Nat
  causes : Nat
  deriving DecidableEq, Repr

def DstLink.blank : DstLink :=
  { linkSeq := 0, trg := [], trgSeq := 0, carried := 0, fPhase := 0, sync := none, req := none, agree := 0, anchor := none, fibre := 0,
    dR := [], lastExch := 0, authRun := 0, depthSaid := false, moved := false, judged := none, naks := 0, authTick := 0,
    sent := none, asked := false, tempTick := none }

/-- A vintage on the active side: generation, frames and their payloads so far, the records sent, the log full, the state at
the boundary that closed its bitmap, the tick of its SEAL. -/
structure Vintage where
  gen : Nat
  frames : List (List Byte)
  log : List Nat
  full : Bool
  st : VintState
  sealedAt : Nat
  deriving DecidableEq, Repr

/-- The pair beside its registers (R402 to R417): ACTIVE_SINCE, the peer's role and ACTIVE_SINCE from its HELLO, the last
takeover's cause; the active side's next generation, open and sealed vintages and the state of the last boundary; the
standby side's generation under reception with its frames and staged records, the current vintage with its offset, offsets
by boundary, records to insert, the sample for the next tick; PEER_PPS's last edge and width (1 standby, 2 active); the
resignation output's start; the standing takeover causes; instants since which resignation causes stand; the last HELLO sent. -/
structure ParState where
  since : Nat
  peerRole : Nat
  peerSince : Nat
  tookBy : Nat
  nextGen : Nat
  openV : Option Vintage
  sealedV : Option Vintage
  lastTick : Nat
  rxGen : Nat
  rxFrames : List (Nat × List Byte)
  stage : List (Nat × List Byte)
  current : Option (VintState × Int)
  thetas : List (Nat × Int)
  insert : List (List Byte)
  sample : Option (Int × Nat × Nat × Nat × Nat)
  edge : Option Nat
  width : Nat
  resignOut : Option Nat
  takeFrame : Bool
  takeArb : Bool
  takeCmd : Bool
  spDown : Option Nat
  tampered : Bool
  pairFault : Option Nat
  helloAt : Option Nat
  /-- The role output drove PEER_PPS_OUT at the last marker: its width in ms, 0 for none. -/
  pulse : Nat
  deriving DecidableEq, Repr

/-- One entry of a correction tracker (R428): the address, FIRST in ticks, COUNT. -/
structure Track where
  addr : Nat
  first : Nat
  count : Nat
  deriving DecidableEq, Repr

/-- The memories' protection beside its registers (R422 to R433): how each DRAM codeword's check stands, by address div 16;
SRAM words stored raw or left in error, by location, with data and check bits; the two trackers; retired pages with their
spare (Cellar SRAM); spare rows used per SRAM macro; macros (0xFFF for DRAM) whose lack of a spare was reported, and
addresses not repaired for want of one; the corrections of this tick by rank, position and codeword; devices declared LOST;
uncorrectable words reported this tick; each rank's last training; the installed DRAM in bytes and its ranks (R444); writes that wait while no request is served (R186,
R432), oldest first: address and bytes. -/
structure MemState where
  chk : List (Nat × Chk)
  sram : List (Nat × (Nat × Nat))
  trackD : List Track
  trackS : List Track
  retired : List (Nat × Nat)
  rows : List (Nat × Nat)
  spareOut : List Nat
  unrepaired : List (Bool × Nat)
  dev : List (Nat × Nat × Nat)
  devTick : Nat
  lost : List (Nat × Nat)
  uncorr : Nat
  uncorrTick : Nat
  trained : List Nat
  size : Nat
  ranks : Nat
  dramQ : List (Nat × List Byte)
  deriving DecidableEq, Repr

/-- One injection point armed or firing (R480 to R484): its code and instance, the arguments, the instant AT, whether it
fires, what is left of its count (1 for a duration), the instant of its first firing. -/
structure InjPoint where
  point : Nat
  inst : Nat
  arg0 : Nat
  arg1 : Nat
  at_ : Nat
  firing : Bool
  left : Nat
  firedAt : Nat
  deriving DecidableEq, Repr

/-- Fault injection: the points armed or firing. -/
structure InjState where
  points : List InjPoint
  deriving DecidableEq, Repr

/-- The ageing monitors beside their registers (R473 to R476): each port's largest grid-phase move since the start, in fs; the
ticks of the last path-delay, equivalent-hours, planner and AVS steps; the largest reading of Tj in the period; EQ_HOURS held
exactly; the LIFE_PERMIL thresholds reported; whether PMBus linear mode was read; the VID the rule asks for. -/
structure AgeState where
  moves : List Nat
  pdmTick : Nat
  eqTick : Nat
  planTick : Nat
  avsTick : Nat
  tjMax : Option Int
  eq : Rat
  lifeSaid : Nat
  linear : Option Nat
  target : Nat
  deriving DecidableEq, Repr

/-- A Twivon command accepted and not yet replied to (R450): its key entry, sequence, OP and payload, the port it came on,
the source address and the VLAN tag bytes its answers use. -/
structure TwvCmd where
  key : Nat
  seq : Nat
  op : Nat
  payload : List Byte
  port : Nat
  da : List Byte
  vlan : List Byte
  deriving DecidableEq, Repr

/-- A sequence acknowledged under a key entry, with its reply once it was sent (R319, R450). -/
structure TwvSent where
  key : Nat
  seq : Nat
  reply : Option (List Byte)
  deriving DecidableEq, Repr

/-- A Twivon command whose target judges it at a tick (R450): its place among the REF commands of that tick, else the answer
already known. -/
structure TwvWait where
  cmd : TwvCmd
  ref : Option Nat
  status : Nat
  payload : List Byte
  deriving DecidableEq, Repr

/-- The management plane beside its registers (R446 to R454): the instant of a pair fault without recovery, the tick of the
last watchdog write, the console queues (a received byte with its missing stop bit), the Twivon journal oldest first, the
sequences acknowledged per entry newest first, the commands that wait for a tick with the answer of the target, ticks after
which MGT_TWV_BUSY and MGT_SPI_REFUSED were raised, the erase under way, the instant of a restart. -/
structure MgtState where
  coreFault : Option Nat
  kick : Option Nat
  uartTx : List Byte
  uartRx : List (Byte × Bool)
  journal : List TwvCmd
  sent : List TwvSent
  wait : List TwvWait
  busyTick : Nat
  spiTick : Nat
  erasing : Option Nat
  restartAt : Option Nat
  deriving DecidableEq, Repr

/-- The wake snapshot (R470): the RW and Attic register fields, the event ring with its next SEQ, BND's next SEQ and the CRC
of its last record, the stored Twivon replies. -/
structure Snapshot where
  regs : List (Nat × Word)
  ring : List RingRec
  seq : Nat
  traceSeq : Nat
  prevCrc : Nat
  sent : List TwvSent
  deriving DecidableEq, Repr

/-- The Cellar domain beside its registers (R464 to R472): the state of R469 (0 AWAKE, 1 DRAIN, 2 SAVE, 3 CELLAR, 4 WAKING),
whether it runs from VAUX, whether its content was lost with both supplies, the instant DRAIN began, whether admission was
open at entry, the Twivon ENTER that waits for its reply, the wake source, the snapshot and its commit word, a provoked
hash failure (R484), events whose cause arose while the main domain was off. -/
structure ClrState where
  phase : Nat
  vaux : Bool
  bothLost : Bool
  drainAt : Nat
  wasOpen : Bool
  enter : Option TwvCmd
  source : Nat
  snap : Option Snapshot
  snapOk : Bool
  snapFail : Bool
  waiting : List (Nat × Nat × Nat)
  deriving DecidableEq, Repr

/-- The start of the device beside its registers (R436 to R443): whether it is held in reset, the flash by byte (0xFF where
erased; copy A from 0, copy B from 0x01000000), the OTP rollback level, the copies still to try, whether one failed, the
lines the loader sent on the console (copy, SERIAL, cause; the last names the copy loaded, or 2 for FAILED), the lists and
firmware of the loaded image. -/
structure BootState where
  held : Bool
  flash : List Host.Cell
  otp : Nat
  candidates : List Nat
  failedOne : Bool
  console : List (Nat × Nat × Nat)
  derive_ : List (List Word)
  feList : List (Nat × Nat × Nat × Nat)
  mgtFw : List Byte
  seFw : List Byte
  lpFw : List Byte
  deriving DecidableEq, Repr

/-- The whole block. -/
structure State where
  /-- Commands waiting, first in first out. -/
  pending : List Instr
  /-- The register window: each register's word where it differs from its reset word. -/
  regs : List (Nat × Word)
  /-- Live 64-bit and 32-bit counters behind a CNT_SNAP, by the address of their low word (R221, R275, R295, R328, R477). -/
  cnt : List (Nat × Nat)
  /-- DRAM bytes that are not 0, by physical address. -/
  dram : List Host.Cell
  /-- Voted time in units of 2^-16 ns since the KT96 epoch (R14). -/
  now : Nat
  /-- Cycle count: advances whenever voted time does; orders events (R458). -/
  cyc : Nat
  /-- Free values consumed so far (the model's own field). -/
  free : Nat
  /-- What the last access answered. -/
  reply : Reply
  /-- The staging copy, oldest write first (R26). -/
  staged : List Staged
  /-- Holding copies of KT96 words +0x0 and +0x4 (R15), by address. -/
  hold : List (Nat × Word)
  /-- Latched higher words of a wide read (R13), by address. -/
  latch : List (Nat × Word)
  evt : EvtState
  /-- The keepers and the voter. -/
  kpr : KprState
  /-- The tick count of the next tick boundary (R22, R28). -/
  nextTick : Nat
  /-- The instant at which the last management tick boundary was taken (R22). -/
  tickAt : Option Nat
  /-- The Bound unit. -/
  bnd : BndState
  /-- The reference selector. -/
  ref : RefState
  /-- Discipline, holdover and realignment. -/
  dsc : DscState
  /-- The multiplying loops and outputs. -/
  syn : SynState
  /-- The clock domain crossings. -/
  xdc : XdcState
  /-- The ports and their timestamping units. -/
  prt : PrtState
  /-- The trigger scheduler. -/
  trg : TrgState
  /-- The service pipeline. -/
  svc : SvcState
  /-- The Larder and the Pantry. -/
  ldr : LdrState
  /-- The keys. -/
  key : KeyState
  /-- The main domain is unpowered: the supplies are off or the device is in the Cellar state (R464). -/
  mainOff : Bool
  /-- The time-interval counter. -/
  tic : TicState
  /-- The GNSS baseband. -/
  gns : GnsState
  /-- The distribution links. -/
  dst : DstState
  /-- The pair of units. -/
  par : ParState
  /-- The memories' protection. -/
  mem : MemState
  /-- Fault injection. -/
  inj : InjState
  /-- The ageing monitors. -/
  age : AgeState
  /-- The management plane. -/
  mgt : MgtState
  /-- The Cellar domain. -/
  clr : ClrState
  /-- The start of the device. -/
  boot : BootState
  deriving DecidableEq, Repr

/-- The state after reset: no command waiting, every register at its reset word, nothing in memory. -/
def State.reset : State where
  pending := []
  regs := []
  cnt := []
  dram := []
  now := 0
  cyc := 0
  free := 0
  reply := .none
  staged := []
  hold := []
  latch := []
  evt := { q := [], lostPend := [], ring := [], seq := 0 }
  kpr := { started := false, realigned := false, keepers := List.replicate 3 ⟨0, 0, 0, 0, 0, 0, 0, 3, .voted, false, false, none⟩,
           pairs := [0, 0, 0], noPair := 0, skip := 0, corr := 0, voteNow := 0, lastVoted := 0, stepTo := 0, bornAt := 0, yInt := 0, leapM := 0,
           leapNext := none, snap := none }
  nextTick := 1
  tickAt := none
  bnd := { atVote := ⟨[], [], false, [], 0⟩, causes := [], ref := [bnd48Max, bnd48Max, bnd48Max], ts := [0, 0, 0], tsSet := [false, false, false],
           c1 := [2 ^ 40 - 1, 2 ^ 40 - 1, 2 ^ 40 - 1], c2 := [2 ^ 40 - 1, 2 ^ 40 - 1, 2 ^ 40 - 1], offsets := [], dispute := 0, below := [], floorFlag := false,
           takeover := false, lastSlot := none, peaks := [], serviceSeen := false, traceSeq := 0, prevCrc := 0, ringCount := 0,
           ovrSeen := false, discSeen := false, queue := [], upSeq := 0xFFFFFFFF }
  ref := { slots := List.replicate 16 RefSlot.blank, cmds := [], judged := [], pend := none, passing := [] }
  dsc := { oscs := List.replicate 3 OscState.blank, p := 0, lastUpd := none, acqTick := 0, lockCount := 0, pullStart := 0,
           slewSeen := false, held := [0, 0, 0], heldMoved := [0, 0, 0], inForce := [none, none, none], realign := none, trimSum := [0, 0, 0],
           trimN := 0, trimTick := none, moved := [0, 0, 0], witTick := none, witAt := 0, wit := none, witHist := [], modHist := [] }
  syn := { loaded := false, ref := [false, false, false, true, true, true], frac := List.replicate 34 0,
           corr := List.replicate 8 0, aligned := List.replicate 8 0, clkEdge := List.replicate 8 none,
           ppsSec := List.replicate 8 none, pps := List.replicate 8 none, ppsOn := List.replicate 8 none, ppsMark := none, maskUntil := 0,
           restart := List.replicate 8 none, sref := false }
  xdc := { stopped := [6, 7] ++ (List.range 20).map (48 + ·), merge := [], strobes := [], cmds := [], held := [], hs := [] }
  prt := { ports := List.replicate 20 PortState.blank, reports := [], done := [] }
  trg := { outs := List.replicate 16 ⟨[], false, none⟩ }
  svc := { ledger := [], engines := List.replicate 32 Engine.blank, journal := [], jnlCount := 0, jnlOvr := false, jnlDisc := false,
           fullSeen := false, wdTick := 0, rsvTick := 0, skipTick := 0, skips := 0 }
  ldr := { hashKey := 0, lines := [], uses := 0, writes := [], bad := [], sets := [], grants := [], dirty := [], closed := [],
           guestTick := 0, evictSeen := false }
  key := { main := [], cellar := [], commit := 0xFFFF0000, transient := [], uses := [], commitMask := 0, inval := [], rolls := [],
           draws := 0, requests := 0, reseeds := 0, policyTick := 0, failTick := 0, checked := 0, tamperPend := 0 }
  mainOff := true
  tic := { chans := List.replicate 32 TicChan.blank, serial := 0, depart := 0, fq := [], wit := 0, segs := [], segAt := 0, segPips := 0, seq := 0,
           kept := [], xoffAt := none }
  gns := { chans := List.replicate 240 GnssChan.blank, win := [], lastEpoch := 0, epochSeen := false, jam := [0, 0], calm := [0, 0], band := [0, 0],
           wakeAt := [0, 0], sleptAt := [0, 0], compat := [false, false], cold := false, validAt := 0, low := 0, surveyAt := 0, barred := [], extra := [],
           know := GnssRet.blank, ret := GnssRet.blank, saws := [], pulse := none }
  dst := { links := List.replicate 16 DstLink.blank, waiting := 0, acc := 0, ref := 0, causes := 0 }
  par := { since := 0, peerRole := 0, peerSince := 0, tookBy := 0, nextGen := 1, openV := none, sealedV := none, lastTick := 0, rxGen := 0,
           rxFrames := [], stage := [], current := none, thetas := [], insert := [], sample := none, edge := none, width := 0, resignOut := none,
           takeFrame := false, takeArb := false, takeCmd := false, spDown := none, tampered := false, pairFault := none, helloAt := none, pulse := 0 }
  mem := { chk := [], sram := [], trackD := [], trackS := [], retired := [], rows := [], spareOut := [], unrepaired := [], dev := [], devTick := 0,
           lost := [], uncorr := 0, uncorrTick := 0, trained := [0, 0], size := 0, ranks := 0, dramQ := [] }
  inj := { points := [] }
  age := { moves := List.replicate 20 0, pdmTick := 0, eqTick := 0, planTick := 0, avsTick := 0, tjMax := none, eq := 0, lifeSaid := 0, linear := none, target := 80 }
  mgt := { coreFault := none, kick := none, uartTx := [], uartRx := [], journal := [], sent := [], wait := [], busyTick := 0, spiTick := 0, erasing := none, restartAt := none }
  clr := { phase := 0, vaux := false, bothLost := true, drainAt := 0, wasOpen := false, enter := none, source := 0, snap := none, snapOk := false, snapFail := false, waiting := [] }
  boot := { held := true, flash := [], otp := 0, candidates := [], failedOne := false, console := [], derive_ := [], feList := [], mgtFw := [], seFw := [], lpFw := [] }
end Sys2Proof.Machine
end

