-- ==== Sys2Proof/Machine/Ops.lean ====
section
/-!
DEFINITION. The named operations over registers, counters, DRAM, time and free values. Every read and write of a
register goes through `reg` and `setReg`; a field is read with `get` and written with `put`; a value of several words
with `wide`, `putWide` and their signed forms (the lowest word at the lowest address, R13, R14).
-/
namespace Sys2Proof.Machine

open Sys2Proof

/-! ### Registers -/

/-- The word of the register at `a`. -/
def State.reg (s : State) (a : Nat) : Word := spGet resetWord s.regs a

/-- The state with the register at `a` holding `w`. -/
def State.setReg (s : State) (a : Nat) (w : Word) : State := { s with regs := spSet resetWord s.regs a w }

/-- Bits `[hi:lo]` of a word as a number. -/
def bitsOf (w : Word) (hi lo : Nat) : Nat := w.toNat / 2 ^ lo % 2 ^ (hi + 1 - lo)

/-- A word with bits `[hi:lo]` replaced by the low bits of `v`. -/
def withBits (w : Word) (hi lo v : Nat) : Word :=
  BitVec.ofNat 32 (w.toNat - bitsOf w hi lo * 2 ^ lo + v % 2 ^ (hi + 1 - lo) * 2 ^ lo)

/-- The value of a field. -/
def State.get (s : State) (f : Fld) : Nat := bitsOf (s.reg f.addr) f.hi f.lo

/-- The state with a field holding the low bits of `v`. -/
def State.put (s : State) (f : Fld) (v : Nat) : State := s.setReg f.addr (withBits (s.reg f.addr) f.hi f.lo v)

/-- A one-bit field as a condition. -/
def State.flag (s : State) (f : Fld) : Bool := s.get f != 0

/-- The state with a one-bit field set or cleared. -/
def State.putB (s : State) (f : Fld) (b : Bool) : State := s.put f (if b then 1 else 0)

/-- One bit of a mask field. -/
def State.bit (s : State) (f : Fld) (i : Nat) : Bool := s.get f / 2 ^ i % 2 == 1

/-- A number with bit `i` set or cleared. -/
def natSetBit (n i : Nat) (b : Bool) : Nat :=
  if b then (if n / 2 ^ i % 2 = 1 then n else n + 2 ^ i) else (if n / 2 ^ i % 2 = 1 then n - 2 ^ i else n)

/-- The state with one bit of a mask field set or cleared. -/
def State.putBit (s : State) (f : Fld) (i : Nat) (b : Bool) : State := s.put f (natSetBit (s.get f) i b)

/-- A value read as two's complement of `w` bits. -/
def toSigned (w v : Nat) : Int := if v % 2 ^ w < 2 ^ (w - 1) then (v % 2 ^ w : Nat) else (v % 2 ^ w : Nat) - (2 ^ w : Nat)

/-- The two's complement of `w` bits of an integer. -/
def ofSigned (w : Nat) (i : Int) : Nat := (i % (2 ^ w : Nat)).toNat

/-- A signed field. -/
def State.getI (s : State) (f : Fld) : Int := toSigned (f.hi + 1 - f.lo) (s.get f)

/-- The state with a field holding the two's complement of `v`. -/
def State.putI (s : State) (f : Fld) (v : Int) : State := s.put f (ofSigned (f.hi + 1 - f.lo) v)

/-- The value of `n` consecutive registers, lowest word first. -/
def State.wide (s : State) (a : Nat) : Nat → Nat
  | 0 => 0
  | n + 1 => State.wide s a n + (s.reg (a + 4 * n)).toNat * 2 ^ (32 * n)

/-- The state with `n` consecutive registers holding `v`, lowest word first. -/
def State.putWide (s : State) (a : Nat) : Nat → Nat → State
  | 0, _ => s
  | n + 1, v => (s.putWide a n v).setReg (a + 4 * n) (BitVec.ofNat 32 (v / 2 ^ (32 * n)))

/-- `n` consecutive registers read as a signed value whose copies of the sign fill the high bits. -/
def State.wideI (s : State) (a n : Nat) : Int := toSigned (32 * n) (s.wide a n)

/-- The state with `n` consecutive registers holding the sign-extended `v`. -/
def State.putWideI (s : State) (a n : Nat) (v : Int) : State := s.putWide a n (ofSigned (32 * n) v)

/-- Counting up in a field, modulo its width. -/
def State.incr (s : State) (f : Fld) (n : Nat := 1) : State := s.put f (s.get f + n)

/-- Counting up in a field, stopping at its highest value. -/
def State.incrSat (s : State) (f : Fld) (n : Nat := 1) : State :=
  s.put f (min (s.get f + n) (2 ^ (f.hi + 1 - f.lo) - 1))

/-- Saturating a value to a signed width. -/
def satI (w : Nat) (v : Int) : Int := max (-(2 ^ (w - 1) : Nat) : Int) (min ((2 ^ (w - 1) : Nat) - 1 : Int) v)

/-- The value last taken of a staged register: the staged writes laid over the live word, in order (R10, R26). -/
def State.lastWritten (s : State) (a : Nat) : Word :=
  s.staged.foldl (fun w e => if e.addr = a then (w &&& ~~~e.mask) ||| (e.val &&& e.mask) else w) (s.reg a)

/-- A field of the value last taken. -/
def State.lastGet (s : State) (f : Fld) : Nat := bitsOf (s.lastWritten f.addr) f.hi f.lo

/-- `n` words of the value last taken, lowest first. -/
def State.lastWide (s : State) (a : Nat) : Nat → Nat
  | 0 => 0
  | n + 1 => State.lastWide s a n + (s.lastWritten (a + 4 * n)).toNat * 2 ^ (32 * n)

/-! ### Counters behind a snapshot -/

/-- The live counter whose low word stands at `a`. -/
def State.count (s : State) (a : Nat) : Nat := spGet (fun _ => 0) s.cnt a

/-- A live counter advanced by `n`, modulo its width in bits. -/
def State.countUp (s : State) (a : Nat) (n : Nat := 1) (width : Nat := 64) : State :=
  { s with cnt := spSet (fun _ => 0) s.cnt a ((s.count a + n) % 2 ^ width) }

/-- CNT_SNAP (R221): the live counters of `n` 64-bit pairs from `a` copied to their registers at one instant. -/
def State.snapPairs (s : State) (a : Nat) : Nat → State
  | 0 => s
  | n + 1 => (s.snapPairs a n).putWide (a + 8 * n) 2 (s.count (a + 8 * n))

/-- CNT_SNAP of `n` single-word counters from `a`. -/
def State.snapWords (s : State) (a : Nat) : Nat → State
  | 0 => s
  | n + 1 => (s.snapWords a n).setReg (a + 4 * n) (BitVec.ofNat 32 (s.count (a + 4 * n)))

/-! ### DRAM -/

/-- A byte that nothing has written reads 0: the VIRGIN fill (R426; assumption log 5). -/
def dramVirgin (_ : Nat) : Byte := 0

/-- A stored byte of DRAM, before decoding. -/
def State.cell (s : State) (a : Nat) : Byte := spGet dramVirgin s.dram a

/-- How the check of DRAM codeword `w` (address div 16) stands. -/
def State.chkOf (s : State) (w : Nat) : Chk := spGet (fun _ => Chk.virgin) s.mem.chk w

/-- The 128 data bits of codeword `w` as stored, first byte lowest. -/
def State.dramData (s : State) (w : Nat) : Nat := (List.range 16).foldl (fun acc i => acc + (s.cell (16 * w + i)).toNat * 256 ^ i) 0

/-- A codeword stored without its code, decoded (R425). -/
def State.rawDecode (s : State) (w c : Nat) : Decoded := dramCode.decode (s.dramData w) c

/-- Codeword `w` is uncorrectable as stored. -/
def State.wordBad (s : State) (w : Nat) : Bool := match s.chkOf w with
  | .raw c => s.rawDecode w c == .bad
  | _ => false

/-- One byte of DRAM as a read answers it: corrected where the codeword stands with an error its code corrects (R422). -/
def State.byte (s : State) (a : Nat) : Byte := match s.chkOf (a / 16) with
  | .raw c => match s.rawDecode (a / 16) c with
    | .data d _ => BitVec.ofNat 8 (d / 256 ^ (a % 16))
    | _ => 0
  | _ => s.cell a

/-- One stored byte of DRAM replaced. -/
def State.setCell (s : State) (a : Nat) (b : Byte) : State := { s with dram := spSet dramVirgin s.dram a b }

def State.setChk (s : State) (w : Nat) (c : Chk) : State :=
  { s with mem := { s.mem with chk := spSet (fun _ => Chk.virgin) s.mem.chk w c } }

/-- Codeword `w` stored as 128 data bits beside a check. -/
def State.setWord (s : State) (w d : Nat) (c : Chk) : State :=
  ((List.range 16).foldl (fun (s : State) i => s.setCell (16 * w + i) (BitVec.ofNat 8 (d / 256 ^ i))) s).setChk w c

/-- Codeword `w`, stored without its code, opened for a write by what it decodes to. -/
def State.openRaw (s : State) (w : Nat) (whole : Bool) : Decoded → State
  | .virgin _ => s.setWord w 0 .coded
  | .data d _ => s.setWord w d .coded
  | .bad => if whole then s.setChk w .coded else s

/-- R423, R425: a write opens codeword `w`: a VIRGIN word becomes data 0 under its code, a correctable one is corrected; an
uncorrectable one is replaced by a write of the whole codeword and otherwise left. -/
def State.openWord (s : State) (w : Nat) (whole : Bool) : State := match s.chkOf w with
  | .coded => s
  | .virgin => s.setChk w .coded
  | .raw c => s.openRaw w whole (s.rawDecode w c)

/-- One byte of DRAM written; in an uncorrectable codeword the write is refused (R423). -/
def State.setByte (s : State) (a : Nat) (b : Byte) : State :=
  let s1 := s.openWord (a / 16) false
  if s1.wordBad (a / 16) then s1 else s1.setCell a b

/-- `n` bytes of DRAM from `a`. -/
def State.readBytes (s : State) (a n : Nat) : List Byte := (List.range n).map (fun i => s.byte (a + i))

/-- Bytes written one after the other from `a` up. -/
def State.putBytes (s : State) (a : Nat) : List Byte → State
  | [] => s
  | b :: bs => (s.setByte a b).putBytes (a + 1) bs

/-- The codewords that `n` bytes from `a` cover whole are opened for a write. -/
def State.openWhole (s : State) (a n : Nat) : State :=
  (List.range (n / 16)).foldl (fun (s : State) i => if 16 * ((a + 15) / 16 + i) + 16 ≤ a + n then s.openWord ((a + 15) / 16 + i) true else s) s

/-- The state with a list of bytes written from `a` up (R423). -/
def State.writeBytes (s : State) (a : Nat) (l : List Byte) : State := (s.openWhole a l.length).putBytes a l

/-- The canonical form of the DRAM list. -/
def Memory.wf (m : List Host.Cell) : Bool := spWf dramVirgin m

/-- `n` bytes of a number, least significant first. -/
def leBytes : Nat → Nat → List Byte
  | 0, _ => []
  | n + 1, v => BitVec.ofNat 8 v :: leBytes n (v / 256)

/-- `n` bytes of a number, most significant first. -/
def beBytes (n v : Nat) : List Byte := (leBytes n v).reverse

/-- The number a list of bytes spells, least significant first. -/
def leNat : List Byte → Nat
  | [] => 0
  | b :: bs => b.toNat + 256 * leNat bs

/-- The number a list of bytes spells, most significant first. -/
def beNat (l : List Byte) : Nat := leNat l.reverse

/-! ### Time and free values -/

/-- Units of 2^-16 ns in one nanosecond, one second, one tick (R14, R22). -/
def lsbPerNs : Nat := 65536
def lsbPerSec : Nat := 1000000000 * 65536
def lsbPerTick : Nat := 2 ^ 20 * 65536
def lsbPerUs : Nat := 1000 * 65536

/-- Voted time moved to `t`; the cycle count advances with every change. -/
def State.setNow (s : State) (t : Nat) : State := if t = s.now then s else { s with now := t, cyc := s.cyc + 1 }

/-- Voted time moved up to `t` if it lies later. -/
def State.advanceTo (s : State) (t : Nat) : State := s.setNow (max s.now t)

/-- The tick count: whole ticks of the TAI nanosecond count (R22, R279). -/
def tickOf (t : Nat) : Nat := t / lsbPerTick

/-- The next free value, and the state that has consumed it. -/
def State.fresh (s : State) : Nat × State := (Config.freeValue s.free, { s with free := s.free + 1 })

/-- What the access or command answers. -/
def State.answer (s : State) (r : Reply) : State := { s with reply := r }

/-! ### One block's own state -/

/-- The event router's state replaced. -/
def State.modEvt (s : State) (f : EvtState → EvtState) : State := { s with evt := f s.evt }
/-- The state of one part replaced: The keepers and the voter. -/
def State.modKpr (s : State) (f : KprState → KprState) : State := { s with kpr := f s.kpr }
/-- The state of one part replaced: The Bound unit. -/
def State.modBnd (s : State) (f : BndState → BndState) : State := { s with bnd := f s.bnd }
/-- The state of one part replaced: The reference selector. -/
def State.modRef (s : State) (f : RefState → RefState) : State := { s with ref := f s.ref }
/-- The state of one part replaced: Discipline, holdover and realignment. -/
def State.modDsc (s : State) (f : DscState → DscState) : State := { s with dsc := f s.dsc }
/-- The state of one part replaced: The multiplying loops and outputs. -/
def State.modSyn (s : State) (f : SynState → SynState) : State := { s with syn := f s.syn }
/-- The state of one part replaced: The clock domain crossings. -/
def State.modXdc (s : State) (f : XdcState → XdcState) : State := { s with xdc := f s.xdc }
/-- The state of one part replaced: The ports and their timestamping units. -/
def State.modPrt (s : State) (f : PrtState → PrtState) : State := { s with prt := f s.prt }
/-- The state of one part replaced: The trigger scheduler. -/
def State.modTrg (s : State) (f : TrgState → TrgState) : State := { s with trg := f s.trg }
/-- The state of one part replaced: The service pipeline. -/
def State.modSvc (s : State) (f : SvcState → SvcState) : State := { s with svc := f s.svc }
/-- The state of one part replaced: The Larder and the Pantry. -/
def State.modLdr (s : State) (f : LdrState → LdrState) : State := { s with ldr := f s.ldr }
/-- The state of one part replaced: The keys. -/
def State.modKey (s : State) (f : KeyState → KeyState) : State := { s with key := f s.key }
/-- The state of one part replaced: The time-interval counter. -/
def State.modTic (s : State) (f : TicState → TicState) : State := { s with tic := f s.tic }
/-- The state of one part replaced: The GNSS baseband. -/
def State.modGns (s : State) (f : GnsState → GnsState) : State := { s with gns := f s.gns }
/-- The state of one part replaced: The distribution links. -/
def State.modDst (s : State) (f : DstState → DstState) : State := { s with dst := f s.dst }
/-- The state of one part replaced: The pair of units. -/
def State.modPar (s : State) (f : ParState → ParState) : State := { s with par := f s.par }
/-- The state of one part replaced: The memories' protection. -/
def State.modMem (s : State) (f : MemState → MemState) : State := { s with mem := f s.mem }
/-- The state of one part replaced: Fault injection. -/
def State.modInj (s : State) (f : InjState → InjState) : State := { s with inj := f s.inj }
/-- The state of one part replaced: The ageing monitors. -/
def State.modAge (s : State) (f : AgeState → AgeState) : State := { s with age := f s.age }
/-- The state of one part replaced: The management plane. -/
def State.modMgt (s : State) (f : MgtState → MgtState) : State := { s with mgt := f s.mgt }
/-- The state of one part replaced: The Cellar domain. -/
def State.modClr (s : State) (f : ClrState → ClrState) : State := { s with clr := f s.clr }
/-- The state of one part replaced: The start of the device. -/
def State.modBoot (s : State) (f : BootState → BootState) : State := { s with boot := f s.boot }
/-- The point `pt` on `inst`, while it fires and its count is not spent (R482). -/
def State.injOf (s : State) (pt inst : Nat) : Option InjPoint :=
  s.inj.points.find? fun q => q.point == pt && q.inst == inst && q.firing && decide (0 < q.left)

def State.injOn (s : State) (pt inst : Nat) : Bool := (s.injOf pt inst).isSome

/-- Its ARG0 as a signed number, 0 where it does not fire. -/
def State.injArg (s : State) (pt inst : Nat) : Int := match s.injOf pt inst with
  | some q => toSigned 32 q.arg0
  | none => 0

/-- One of its count used. -/
def State.injUse (s : State) (pt inst : Nat) : State :=
  if s.injOn pt inst then s.modInj fun c => { c with points := c.points.map fun q =>
    if q.point = pt ∧ q.inst = inst ∧ q.firing = true then { q with left := q.left - 1 } else q }
  else s

/-- The Cellar seconds count (R465); CLR_SEC is its home. -/
def State.clrSec (s : State) : Nat := s.wide A.CLR_SEC 2

/-! ### Lists -/

/-- The list with element `i` replaced by `f` of it. -/
def listUpd {α : Type} (l : List α) (i : Nat) (f : α → α) : List α := l.modify i f

end Sys2Proof.Machine
end

