-- ==== Sys2Proof/Machine/Crypto.lean ====
section
/-!
DEFINITION. The cryptographic operations the spec names by their standards (12_keys_and_authentication.md R299, R300,
R306, R316, R318; 17_memory_integrity.md): SHA-256, HMAC, HKDF-Expand, AES, CMAC, AES-SIV, AES key unwrap and the ECDSA
check over P-256. The spec gives the names; the algorithms are those of the standards (assumption log 13).
-/
namespace Sys2Proof.Machine

open Sys2Proof

def xorBytes (a b : List Byte) : List Byte := List.zipWith (· ^^^ ·) a b
def zeros (n : Nat) : List Byte := List.replicate n 0

/-! ### SHA-256 -/

/-- The largest `r` below 2^36 with r^k at most `n`. -/
def floorRoot (k n : Nat) : Nat := (List.range 36).foldl (fun r i => if (r + 2 ^ (35 - i)) ^ k ≤ n then r + 2 ^ (35 - i) else r) 0

/-- The first 32 bits of the fraction of the k-th root of `p`. -/
def rootBits (k p : Nat) : BitVec 32 := BitVec.ofNat 32 (floorRoot k (p * 2 ^ (32 * k)))

/-- The primes up to 311, of which there are 64. -/
def shaPrimes : List Nat := (List.range 312).filter fun n => decide (2 ≤ n) && (List.range 18).all fun d => decide (d < 2) || n == d || n % d != 0

/-- The round constants come from the cube roots of these primes, the first hash value from the square roots of eight. -/
def shaK : List (BitVec 32) := shaPrimes.map (rootBits 3)
def shaInit : List (BitVec 32) := (shaPrimes.take 8).map (rootBits 2)

/-- Word `i` of a list of words. -/
def wordAt (l : List (BitVec 32)) (i : Nat) : BitVec 32 := (l[i]?).getD 0

/-- The exclusive or of a word's right rotations by the amounts of a list. -/
def rots (l : List Nat) (x : BitVec 32) : BitVec 32 := l.foldl (fun y n => y ^^^ x.rotateRight n) 0

/-- The next word of the message schedule, from the sixteen before it, newest first. -/
def shaNext (w : List (BitVec 32)) : BitVec 32 :=
  (rots [17, 19] (wordAt w 1) ^^^ (wordAt w 1 >>> 10)) + wordAt w 6 + (rots [7, 18] (wordAt w 14) ^^^ (wordAt w 14 >>> 3)) + wordAt w 15

/-- One round with the sum `kw` of its constant and its schedule word, over the eight working words. -/
def shaRound (v : List (BitVec 32)) (kw : BitVec 32) : List (BitVec 32) :=
  let pick := wordAt v 6 ^^^ (wordAt v 4 &&& (wordAt v 5 ^^^ wordAt v 6))
  let most := (wordAt v 1 &&& wordAt v 2) ||| (wordAt v 0 &&& (wordAt v 1 ||| wordAt v 2))
  let t := wordAt v 7 + kw + rots [6, 11, 25] (wordAt v 4) + pick
  (t + rots [2, 13, 22] (wordAt v 0) + most) :: v.take 3 ++ (wordAt v 3 + t) :: (v.drop 4).take 3

/-- A block of 64 bytes: each round uses the oldest of the sixteen schedule words held and appends the next. -/
def shaBlock (h : List (BitVec 32)) (block : List Byte) : List (BitVec 32) :=
  let w := ((List.range 16).map fun i => BitVec.ofNat 32 (beNat ((block.drop (4 * i)).take 4))).reverse
  let r := shaK.foldl (fun (x : List (BitVec 32) × List (BitVec 32)) k => (shaRound x.1 (k + wordAt x.2 15), (shaNext x.2 :: x.2).take 16)) (h, w)
  List.zipWith (· + ·) h r.1

def sha256 (m : List Byte) : List Byte :=
  let p := m ++ [0x80] ++ zeros ((119 - m.length % 64) % 64) ++ beBytes 8 (8 * m.length)
  ((List.range (p.length / 64)).foldl (fun h i => shaBlock h ((p.drop (64 * i)).take 64)) shaInit).flatMap (fun w => beBytes 4 w.toNat)

/-- HMAC-SHA-256. -/
def hmac (key m : List Byte) : List Byte :=
  let k0 := if 64 < key.length then sha256 key else key
  let k := k0 ++ zeros (64 - k0.length)
  sha256 (k.map (· ^^^ 0x5C) ++ sha256 (k.map (· ^^^ 0x36) ++ m))

/-- HKDF-Expand for 32 bytes (R300). -/
def hkdf (parent label : List Byte) (gen : Nat) : List Byte := hmac parent (label ++ beBytes 2 gen ++ [1])

/-! ### AES -/

def xtime (b : Byte) : Byte := (b <<< 1) ^^^ (if b.getLsbD 7 then 0x1B else 0)

/-- Product in GF(2^8). -/
def gmul (a b : Byte) : Byte :=
  ((List.range 8).foldl (fun (p : Byte × Byte) i => (if b.getLsbD i then p.1 ^^^ p.2 else p.1, xtime p.2)) (0, a)).1

def gsq (a : Byte) : Byte := gmul a a

/-- The inverse in GF(2^8), as the power 254. -/
def ginv (a : Byte) : Byte :=
  ((List.range 6).foldl (fun (p : Byte × Byte) _ => (gmul p.1 (gsq p.2), gsq p.2)) (gsq a, gsq a)).1

def sbox (a : Byte) : Byte :=
  let b := ginv a
  b ^^^ b.rotateLeft 1 ^^^ b.rotateLeft 2 ^^^ b.rotateLeft 3 ^^^ b.rotateLeft 4 ^^^ 0x63

def invSbox (a : Byte) : Byte := ginv (a.rotateLeft 1 ^^^ a.rotateLeft 3 ^^^ a.rotateLeft 6 ^^^ 0x05)

def byteAt (l : List Byte) (i : Nat) : Byte := (l[i]?).getD 0

/-- The expanded key: words of 4 bytes, for a key of `nk` words. -/
def aesExpand (key : List Byte) : List (List Byte) :=
  let nk := key.length / 4
  let w0 := (List.range nk).map fun i => (key.drop (4 * i)).take 4
  ((List.range (4 * (nk + 7) - nk)).foldl (fun (a : List (List Byte) × Byte) j =>
    let i := j + nk
    let prev := (a.1[i - 1]?).getD []
    let back := (a.1[i - nk]?).getD []
    if i % nk = 0 then
      let t := (prev.drop 1 ++ prev.take 1).map sbox
      (a.1 ++ [xorBytes back (xorBytes t [a.2, 0, 0, 0])], xtime a.2)
    else if nk = 8 ∧ i % nk = 4 then (a.1 ++ [xorBytes back (prev.map sbox)], a.2)
    else (a.1 ++ [xorBytes back prev], a.2)) (w0, 1)).1

def roundKey (ks : List (List Byte)) (r : Nat) : List Byte := ((ks.drop (4 * r)).take 4).flatten

def shiftRows (s : List Byte) : List Byte := (List.range 16).map fun i => byteAt s ((i + 4 * (i % 4)) % 16)
def invShiftRows (s : List Byte) : List Byte := (List.range 16).map fun i => byteAt s ((i + 12 * (i % 4)) % 16)

/-- A column mix with the row `m` of its matrix. -/
def mixWith (m : List Byte) (s : List Byte) : List Byte :=
  (List.range 16).map fun i =>
    (List.range 4).foldl (fun a j => a ^^^ gmul (byteAt m ((4 + j - i % 4) % 4)) (byteAt s (i / 4 * 4 + j))) 0

/-- AES encryption of one block. -/
def aesEnc (key block : List Byte) : List Byte :=
  let ks := aesExpand key
  let nr := key.length / 4 + 6
  let s := (List.range (nr - 1)).foldl (fun s r => xorBytes (mixWith [2, 3, 1, 1] (shiftRows (s.map sbox))) (roundKey ks (r + 1)))
    (xorBytes block (roundKey ks 0))
  xorBytes (shiftRows (s.map sbox)) (roundKey ks nr)

/-- AES decryption of one block. -/
def aesDec (key block : List Byte) : List Byte :=
  let ks := aesExpand key
  let nr := key.length / 4 + 6
  let s := (List.range (nr - 1)).foldl (fun s r => mixWith [14, 11, 13, 9] (xorBytes ((invShiftRows s).map invSbox) (roundKey ks (nr - 1 - r))))
    (xorBytes block (roundKey ks nr))
  xorBytes ((invShiftRows s).map invSbox) (roundKey ks 0)

/-! ### CMAC, SIV, key unwrap -/

/-- Doubling in GF(2^128). -/
def dbl (b : List Byte) : List Byte :=
  let v := beNat b
  beBytes 16 ((2 * v) % 2 ^ 128 ^^^ (if v / 2 ^ 127 = 1 then 0x87 else 0))

def cmac (key m : List Byte) : List Byte :=
  let k1 := dbl (aesEnc key (zeros 16))
  let n := max 1 ((m.length + 15) / 16)
  let last := m.drop (16 * (n - 1))
  let lastX := if last.length = 16 then xorBytes last k1 else xorBytes (last ++ [0x80] ++ zeros (15 - last.length)) (dbl k1)
  let c := (List.range (n - 1)).foldl (fun c i => aesEnc key (xorBytes c ((m.drop (16 * i)).take 16))) (zeros 16)
  aesEnc key (xorBytes c lastX)

/-- S2V of RFC 5297 over the associated data and the plaintext. -/
def s2v (key : List Byte) (ad : List (List Byte)) (p : List Byte) : List Byte :=
  let d := ad.foldl (fun d a => xorBytes (dbl d) (cmac key a)) (cmac key (zeros 16))
  if 16 ≤ p.length then cmac key (p.take (p.length - 16) ++ xorBytes (p.drop (p.length - 16)) d)
  else cmac key (xorBytes (dbl d) (p ++ [0x80] ++ zeros (15 - p.length)))

/-- The counter stream of SIV laid over a text. -/
def sivCtr (key v x : List Byte) : List Byte :=
  let q := beNat v
  let q0 := q - q / 2 ^ 63 % 2 * 2 ^ 63 - q / 2 ^ 31 % 2 * 2 ^ 31
  xorBytes x ((List.range ((x.length + 15) / 16)).flatMap fun i => aesEnc key (beBytes 16 ((q0 + i) % 2 ^ 128)))

/-- AES-SIV-CMAC-256: V and the ciphertext (R316; a 32-byte key is two AES-128 keys). -/
def sivSeal (key : List Byte) (ad : List (List Byte)) (p : List Byte) : List Byte × List Byte :=
  let v := s2v (key.take 16) ad p
  (v, sivCtr (key.drop 16) v p)

/-- The plaintext, where V is right. -/
def sivOpen (key : List Byte) (ad : List (List Byte)) (v c : List Byte) : Option (List Byte) :=
  let p := sivCtr (key.drop 16) v c
  if s2v (key.take 16) ad p = v then some p else none

/-- AES Key Wrap's unwrapping (RFC 3394, default IV): the material, where the check passes. -/
def aesUnwrap (key blob : List Byte) : Option (List Byte) :=
  let n := blob.length / 8 - 1
  let r0 := (List.range n).map fun i => (blob.drop (8 * i + 8)).take 8
  let res := (List.range (6 * n)).foldl (fun (a : List Byte × List (List Byte)) k =>
    let t := 6 * n - k
    let i := (t - 1) % n
    let b := aesDec key (xorBytes a.1 (beBytes 8 t) ++ (a.2[i]?).getD [])
    (b.take 8, a.2.set i (b.drop 8))) (blob.take 8, r0)
  if res.1 = List.replicate 8 0xA6 then some res.2.flatten else none

/-! ### ECDSA over P-256 -/

def p256P : Nat := 2 ^ 256 - 2 ^ 224 + 2 ^ 192 + 2 ^ 96 - 1
def p256N : Nat := 0xFFFFFFFF00000000FFFFFFFFFFFFFFFFBCE6FAADA7179E84F3B9CAC2FC632551
def p256B : Nat := 0x5AC635D8AA3A93E7B3EBBD55769886BC651D06B0CC53B0F63BCE3C3E27D2604B
def p256G : Nat × Nat := (0x6B17D1F2E12C4247F8BCE6E563A440F277037D812DEB33A0F4A13945D898C296,
  0x4FE342E2FE1A7F9B8EE7EB4A7C0F9E162BCE33576B315ECECBB6406837BF51F5)

/-- Power modulo `m`, over 256 bits of the exponent. -/
def powMod (m b e : Nat) : Nat :=
  (List.range 256).foldl (fun a i => let a2 := a * a % m; if e / 2 ^ (255 - i) % 2 = 1 then a2 * b % m else a2) 1

def invMod (m a : Nat) : Nat := powMod m (a % m) (m - 2)

/-- The sum of two points; none is the point at infinity. -/
def ecAdd (a b : Option (Nat × Nat)) : Option (Nat × Nat) := match a, b with
  | none, b => b
  | a, none => a
  | some (x1, y1), some (x2, y2) =>
    let p := p256P
    if x1 = x2 ∧ (y1 + y2) % p = 0 then none
    else
      let l := if x1 = x2 then (3 * x1 * x1 + (p - 3)) * invMod p (2 * y1) % p else (y2 + p - y1) * invMod p (x2 + p - x1) % p
      let x3 := (l * l + 2 * p - x1 - x2) % p
      some (x3, (l * (x1 + p - x3) + p - y1) % p)

def ecMul (k : Nat) (g : Nat × Nat) : Option (Nat × Nat) :=
  (List.range 256).foldl (fun a i => let d := ecAdd a a; if k / 2 ^ (255 - i) % 2 = 1 then ecAdd d (some g) else d) none

/-- The signature (r, s) of 32 bytes each over a hash under the public key x, y of 32 bytes each. -/
def ecdsaOk (key hash sig : List Byte) : Bool :=
  let x := beNat (key.take 32)
  let y := beNat ((key.drop 32).take 32)
  let r := beNat (sig.take 32)
  let s := beNat ((sig.drop 32).take 32)
  let onCurve := x < p256P && y < p256P && (y * y % p256P == (x * x * x + (p256P - 3) * x + p256B) % p256P)
  if ¬ onCurve ∨ r = 0 ∨ s = 0 ∨ p256N ≤ r ∨ p256N ≤ s then false
  else
    let w := invMod p256N s
    match ecAdd (ecMul (beNat hash * w % p256N) p256G) (ecMul (r * w % p256N) (x, y)) with
    | none => false
    | some (xr, _) => xr % p256N == r

end Sys2Proof.Machine
end

