-- ==== Sys2Proof/Machine/Crc.lean ====
section
/-!
DEFINITION. The check sums the spec names: CRC-32 with the IEEE 802.3 polynomial (R93, R436) and CRC-16 with the
CCITT polynomial (R104). Bit orders and initial values are the standards' own (assumption log 7).
-/
namespace Sys2Proof.Machine

open Sys2Proof

/-- One bit step of the reflected CRC-32. -/
def crc32Bit (c : BitVec 32) : BitVec 32 := if c.getLsbD 0 then (c >>> 1) ^^^ 0xEDB88320#32 else c >>> 1

def iter {α : Type} (f : α → α) : Nat → α → α
  | 0, x => x
  | n + 1, x => iter f n (f x)

def crc32Byte (c : BitVec 32) (b : Byte) : BitVec 32 := iter crc32Bit 8 (c ^^^ b.setWidth 32)

/-- CRC-32 of IEEE 802.3. -/
def crc32 (l : List Byte) : Nat := (~~~ (l.foldl crc32Byte 0xFFFFFFFF#32)).toNat

/-- One bit step of the CCITT CRC-16, most significant bit first. -/
def crc16Bit (c : BitVec 16) : BitVec 16 := if c.getLsbD 15 then (c <<< 1) ^^^ 0x1021#16 else c <<< 1

def crc16Byte (c : BitVec 16) (b : Byte) : BitVec 16 := iter crc16Bit 8 (c ^^^ (b.setWidth 16 <<< 8))

/-- CRC-16 with the polynomial 0x1021 from a given initial value. -/
def crc16 (init : BitVec 16) (l : List Byte) : Nat := (l.foldl crc16Byte init).toNat

end Sys2Proof.Machine
end

