-- ==== Sys2Proof/Machine/Events.lean ====
section
/-!
DEFINITION. The event numbers of the blocks' event tables (R34, and the event rule of each chapter).
-/
namespace Sys2Proof.Machine.Ev


/-! 02_keepers_and_voting.md, R74. -/
def KPR_LEAVE : Nat := 0x10
def KPR_REJOIN : Nat := 0x11
def KPR_STATE : Nat := 0x12
def KPR_REJOIN_FAIL : Nat := 0x13
def KPR_TRIM_SAT : Nat := 0x14
def KPR_LEAP_ARMED : Nat := 0x15
def KPR_LEAP_APPLIED : Nat := 0x16
def KPR_LEAP_REFUSED : Nat := 0x17
def KPR_STEP : Nat := 0x18
def KPR_CMD_REFUSED : Nat := 0x19

/-! 03_error_bound.md, R99. -/
def BND_UNBOUNDED : Nat := 0x20
def BND_BOUNDED : Nat := 0x21
def BND_HOLD_LIMIT : Nat := 0x22
def BND_SERVICE_LIMIT : Nat := 0x23
def BND_FLOOR : Nat := 0x24
def BND_RAISE : Nat := 0x25
def BND_TRACE_OVR : Nat := 0x26
def BND_TRACE_DISC : Nat := 0x27
def BND_ASYM_REFUSED : Nat := 0x28

/-! 04_reference_selection.md, R127. -/
def REF_SELECT : Nat := 0x30
def REF_SWITCH_START : Nat := 0x31
def REF_SWITCH_CANCEL : Nat := 0x32
def REF_SWITCH_ABANDON : Nat := 0x33
def REF_QUALIFIED : Nat := 0x34
def REF_FAILED : Nat := 0x35
def REF_HOLDOVER : Nat := 0x36
def REF_JUMP : Nat := 0x37
def REF_SUSPECT : Nat := 0x38
def REF_SUSPECT_CLEAR : Nat := 0x39
def REF_DISPUTE : Nat := 0x3A
def REF_DISPUTE_CLEAR : Nat := 0x3B
def REF_QL_CHANGE : Nat := 0x3C
def REF_MASTER_CHANGE : Nat := 0x3D
def REF_TOD_ERR : Nat := 0x3E
def REF_CMD_REFUSED : Nat := 0x3F

/-! 05_discipline_and_holdover.md, R157. -/
def DSC_STATE : Nat := 0x40
def DSC_HOLDOVER : Nat := 0x41
def DSC_FREE : Nat := 0x42
def DSC_FLOCK : Nat := 0x43
def DSC_PLOCK : Nat := 0x44
def DSC_SLEW_LIMIT : Nat := 0x45
def DSC_FREQ_LIMIT : Nat := 0x46
def DSC_MODEL_COMMIT : Nat := 0x47
def DSC_MODEL_REFUSED : Nat := 0x48
def DSC_TEMP_FAIL : Nat := 0x49
def DSC_WORD_FAIL : Nat := 0x4A
def DSC_EFC_LIMIT : Nat := 0x4B
def DSC_REALIGN : Nat := 0x4C
def DSC_REALIGN_REFUSED : Nat := 0x4D
def DSC_WIT_STALE : Nat := 0x4E

/-! 06_clock_synthesis.md, R180. -/
def SYN_LOCK : Nat := 0x50
def SYN_UNLOCK : Nat := 0x51
def SYN_LOR : Nat := 0x52
def SYN_NO_BAND : Nat := 0x53
def SYN_HANDOVER : Nat := 0x54
def SYN_ALIGNED : Nat := 0x55
def SYN_OFS_REFUSED : Nat := 0x56
def SYN_SREF : Nat := 0x57

/-! 07_domain_crossings.md, R194. -/
def XDC_STOP : Nat := 0x60
def XDC_RUN : Nat := 0x61
def XDC_MERGE : Nat := 0x62
def XDC_MERGE_SAT : Nat := 0x63
def XDC_FLUSH : Nat := 0x64
def XDC_WAKE : Nat := 0x65
def XDC_SAMPLE_STALL : Nat := 0x66

/-! 08_ports_and_macs.md, R223. -/
def PRT_LINK_UP : Nat := 0x70
def PRT_LINK_DOWN : Nat := 0x71
def PRT_GATED : Nat := 0x72
def PRT_UNDERRUN : Nat := 0x73
def PRT_TX_REFUSED : Nat := 0x74
def PRT_PAUSE_LONG : Nat := 0x75
def PRT_RXQ_FULL : Nat := 0x76
def PRT_FEC_UNCORR : Nat := 0x77
def PRT_AN_FAIL : Nat := 0x78
def PRT_RESET_DONE : Nat := 0x79

/-! 09_timestamping_and_launch.md, R246. -/
def TSU_PHASE : Nat := 0x80
def TSU_PIN_MISMATCH : Nat := 0x81
def TSU_MISSED : Nat := 0x82
def TSU_STAMP_INVALID : Nat := 0x83
def TSU_GUARD : Nat := 0x84
def TRG_REFUSED : Nat := 0x88
def TRG_SKIPPED : Nat := 0x89
def TRG_DONE : Nat := 0x8A

/-! 10_service_engines.md, R278. -/
def SVC_OPEN : Nat := 0x90
def SVC_LEDGER_FULL : Nat := 0x91
def SVC_ENG_FAULT : Nat := 0x92
def SVC_ENG_OFFLINE : Nat := 0x93
def SVC_ENG_ONLINE : Nat := 0x94
def SVC_RESERVED : Nat := 0x95
def SVC_WITHDRAW : Nat := 0x96
def SVC_JNL_OVR : Nat := 0x97
def SVC_JNL_DISC : Nat := 0x98
def SVC_SYNC_SKIP : Nat := 0x99
def SVC_GUARDRAIL : Nat := 0x9A

/-! 11_client_state.md, R296. -/
def LDR_READY : Nat := 0xA0
def LDR_GUEST : Nat := 0xA1
def LDR_EVICT : Nat := 0xA2
def LDR_PANTRY_ERR : Nat := 0xA3
def LDR_LARDER_ERR : Nat := 0xA4
def LDR_REBUILD : Nat := 0xA5
def LDR_GRANT_FULL : Nat := 0xA6

/-! 12_keys_and_authentication.md, R329. -/
def KEY_COMMIT : Nat := 0xB0
def KEY_DISCARD : Nat := 0xB1
def KEY_TAG_FAIL : Nat := 0xB2
def KEY_INVALIDATE : Nat := 0xB3
def KEY_TAMPER : Nat := 0xB4
def KEY_CMD_REFUSED : Nat := 0xB5
def KEY_DERIVE_FAIL : Nat := 0xB6
def KEY_ROLL : Nat := 0xB7
def KEY_RNG_FAIL : Nat := 0xB8
def KEY_TWV_AUTH_FAIL : Nat := 0xB9
def KEY_TWV_REPLAY : Nat := 0xBA
def KEY_POLICY : Nat := 0xBB

/-! 13_time_interval_measurement.md, R355. -/
def TIC_LOSS : Nat := 0xC0
def TIC_RING_FULL : Nat := 0xC1
def TIC_CAL_FAIL : Nat := 0xC2
def TIC_CAL_DRIFT : Nat := 0xC3
def TIC_CFG_REFUSED : Nat := 0xC4
def TIC_EXP_XOFF : Nat := 0xC5
def TIC_EXP_TIMEOUT : Nat := 0xC6
def TIC_WIT_ANCHOR : Nat := 0xC7
def TIC_ORPHAN : Nat := 0xC8
def TIC_CAL_INTERVAL : Nat := 0xC9

/-! 14_gnss_baseband.md, R384. -/
def GNS_SOLUTION : Nat := 0xD0
def GNS_SURVEY_DONE : Nat := 0xD1
def GNS_RAIM_EXCLUDE : Nat := 0xD2
def GNS_BAND_STOP : Nat := 0xD3
def GNS_SLEEP : Nat := 0xD4
def GNS_WAKE : Nat := 0xD5
def GNS_JAM : Nat := 0xD6
def GNS_FE_CFG_FAIL : Nat := 0xD7
def GNS_LEAP : Nat := 0xD8
def GNS_LP_FAULT : Nat := 0xD9

/-! 15_distribution_links.md, R401. -/
def DST_LOCK : Nat := 0xE0
def DST_UNLOCK : Nat := 0xE1
def DST_DEPTH : Nat := 0xE2
def DST_TRG_RESULT : Nat := 0xE3
def DST_TEMP_FAIL : Nat := 0xE4
def DST_AUTH_FAIL : Nat := 0xE5
def DST_PEER_LOCK : Nat := 0xE6

/-! 16_pair_redundancy.md, R421. -/
def PAR_ROLE : Nat := 0xE8
def PAR_TAKEOVER : Nat := 0xE9
def PAR_LINK_DOWN : Nat := 0xEA
def PAR_STALE : Nat := 0xEB
def PAR_VINTAGE_FAIL : Nat := 0xEC
def PAR_PEER_PPS : Nat := 0xED
def PAR_DUAL_ACTIVE : Nat := 0xEE
def PAR_RESIGN : Nat := 0xEF

/-! 17_memory_integrity.md, R435. -/
def MEM_CORRECT : Nat := 0xF0
def MEM_STICKY : Nat := 0xF1
def MEM_UNCORR : Nat := 0xF2
def MEM_SPARE_OUT : Nat := 0xF3
def MEM_RETIRE : Nat := 0xF4
def MEM_DEV_LOST : Nat := 0xF5
def MEM_FILL_DONE : Nat := 0xF6
def MEM_RETRAIN : Nat := 0xF7

/-! 18_management_plane.md, R463. -/
def MGT_RESTART : Nat := 0x00
def MGT_LOADED : Nat := 0x01
def MGT_CORE_FAULT : Nat := 0x02
def MGT_CORE_RECOVERED : Nat := 0x03
def MGT_TWV_BUSY : Nat := 0x04
def MGT_TWV_REFUSED : Nat := 0x05
def MGT_SPI_REFUSED : Nat := 0x06
def MGT_GUARDRAIL : Nat := 0x07
def EVT_LOG_FULL : Nat := 0x08
def EVT_LOST : Nat := 0x09
def MGT_FLASH_DONE : Nat := 0x0A

/-! 19_start_sleep_ageing.md, R479. -/
def CLR_CELLAR_ENTER : Nat := 0xF8
def CLR_CELLAR_ABORT : Nat := 0xF9
def CLR_WAKE : Nat := 0xFA
def CLR_SUPPLY : Nat := 0xFB
def AGE_MARGIN : Nat := 0xFC
def AGE_AVS : Nat := 0xFD
def AGE_LIFE : Nat := 0xFE
def AGE_HIST_LOST : Nat := 0xFF

end Sys2Proof.Machine.Ev
end

