-- ==== Sys2Proof/Machine/Flags.lean ====
section
/-!
DEFINITION. What blocks report: raising an event toward the router (R34, R35, R458), and posting a result in an RS
result register (R11).
-/
namespace Sys2Proof.Machine

open Sys2Proof

/-- Records one block may hold toward the router (R458). -/
def evtQueueDepth : Nat := 16

/-- The block of an event number: its range of 16 (R458). -/
def evtBlock (event : Nat) : Nat := event / 16

/-- The records of block `b` waiting for the router. -/
def State.evtWaiting (s : State) (b : Nat) : Nat := (s.evt.q.filter (fun r => evtBlock r.event == b)).length

/-- Losses of block `b` that no EVT_LOST record has reported yet. -/
def State.evtLost (s : State) (b : Nat) : Nat := spGet (fun _ => 0) s.evt.lostPend b

/-- INSTANCE of an event of a block with one instance (R35). -/
def noInst : Nat := 0xFF

/-- Raising an event: a record with the voted time of this moment joins its block's queue toward the router; where that
queue is full (or held full, R484) the event is lost and counted in EVT_LOSTb (R458). -/
def State.raise (s : State) (event : Nat) (inst : Nat := noInst) (detail : Nat := 0) : State :=
  if s.evtWaiting (evtBlock event) < evtQueueDepth ∧ ¬ s.injOn 0x01 (evtBlock event) then
    s.modEvt fun e => { e with q := e.q ++ [⟨s.cyc, s.now, event, inst, detail % 2 ^ 32⟩] }
  else
    (s.modEvt fun e => { e with
        lostPend := spSet (fun _ => 0) e.lostPend (evtBlock event) (s.evtLost (evtBlock event) + 1) }).incr
      (F.EVT_LOSTb_COUNT (evtBlock event))

/-- Raising an event where a condition holds. -/
def State.raiseIf (s : State) (c : Bool) (event : Nat) (inst : Nat := noInst) (detail : Nat := 0) : State :=
  if c then s.raise event inst detail else s

/-- A signed detail word, saturating. -/
def detI (v : Int) : Nat := ofSigned 32 (satI 32 v)

/-- An unsigned detail field of `w` bits, saturating. -/
def detSat (w v : Nat) : Nat := min v (2 ^ w - 1)

/-- Bits of VALID and SEQ in every RS result word (R11). -/
def rsWord (seq payload : Nat) : Word := BitVec.ofNat 32 (payload + 1 + seq % 256 * 256)

/-- SEQ of the RS result word at `a`. -/
def State.rsSeq (s : State) (a : Nat) : Nat := bitsOf (s.reg a) 15 8

/-- The device drains into the Cellar state or saves its snapshot (R469): what entry closed stays closed. -/
def State.draining (s : State) : Bool := s.get F.CLR_STAT_STATE != 0

/-- AGE notes a code move of a calibration, in fs (R473). -/
def State.ageDrift (s : State) (fs : Nat) : State := s.put F.AGE_TIC_DRIFT_DRIFT (max (s.get F.AGE_TIC_DRIFT_DRIFT) (detSat 16 fs))

/-- AGE notes a grid-phase move of a port, in 2^-12 ns (R473). -/
def State.ageMove (s : State) (p mv : Nat) : State :=
  let fs := mv * 1000000 / 4096
  let s1 := s.modAge fun a => { a with moves := listUpd a.moves p fun m => max m fs }
  if s.get F.AGE_TSU_MOVE_MOVE < detSat 16 fs then (s1.put F.AGE_TSU_MOVE_MOVE (detSat 16 fs)).put F.AGE_TSU_MOVE_PORT p else s1

/-- Posting a result: VALID set, SEQ one higher modulo 256, the other fields from `payload`, whose bits [0] and
[15:8] are 0 (R11). -/
def State.post (s : State) (a payload : Nat) : State := s.setReg a (rsWord (s.rsSeq a + 1) payload)

/-- A new result is under way: the previous one reads with VALID = 0 (R11). -/
def State.unpost (s : State) (a : Nat) : State := s.setReg a (withBits (s.reg a) 0 0 0)

/-! ### Running clocks (R29, R186, R192) -/

/-- The output gate of a loop is open. -/
def State.gateOpen (s : State) (l : Nat) : Bool := !s.flag (F.SYN_LOOPL_STAT_GATED l)

/-- The loop that makes a domain's clock (R158, R192); none for the domains that no loop makes. -/
def domainLoop (d : Nat) : Option Nat := if d < 6 then some d else if 16 ≤ d ∧ d < 36 then some (d - 10) else none

/-- A domain's clock runs: its loop's gate is open, and its edges have not stopped. What the edge monitors have reported of it
makes no difference (R187). -/
def State.clockRuns (s : State) (d : Nat) : Bool :=
  !s.xdc.stopped.contains d && (match domainLoop d with
    | some l => s.gateOpen l
    | none => true)

/-- MCLK stands: the management cores, event router, SPI port and Twivon path stop (R166). -/
def State.mclkLost (s : State) : Bool := !s.clockRuns 4

/-- CCLK runs: the engines, the ledger, the crypto cores and the Pantry work (R29, R166). -/
def State.cclkRuns (s : State) : Bool := s.clockRuns 3

/-! ### Requests into DCLK (R29, R30, R186, R432) -/

/-- DRAM serves no request: DCLK stands, self-refresh is held, or a rank is in training. DESIGN CHOICE (assumption log 76): which
rank an address lies in is not stated, so every request waits for a training. -/
def State.dramBusy (s : State) : Bool := s.flag F.MEM_STAT_RETRAINING || s.syn.sref || !s.clockRuns 5

/-- A write request of DRAM: served at once, or kept in its queue until DRAM serves again. -/
def State.dramWrite (s : State) (a : Nat) (l : List Byte) : State :=
  if s.dramBusy then s.modMem fun c => { c with dramQ := c.dramQ ++ [(a, l)] } else s.writeBytes a l

/-- The waiting requests are served in their order, once DRAM serves again (R166, R186). -/
def State.dramServe (s : State) : State :=
  if s.dramBusy then s
  else s.mem.dramQ.foldl (fun (s : State) e => s.writeBytes e.1 e.2) (s.modMem fun c => { c with dramQ := [] })

end Sys2Proof.Machine
end

