-- ==== Sys2Proof/Machine/Operands.lean ====
section
/-!
DEFINITION. The value formats of 00_scope.md: KT96 (R14), NS32 and its extension (R16), stamps (R17), BND48 (R18) and
EB8 with its encoder (R19, R20), and the signed KT96 step (R15, R150).
-/
namespace Sys2Proof.Machine

open Sys2Proof

/-- The three KT96 words of a time in units of 2^-16 ns, as one 96-bit number, lowest word first (R14). -/
def kt96Of (t : Nat) : Nat :=
  t % 65536 + t / 65536 % 1000000000 * 65536 + t / lsbPerSec % 2 ^ 48 * 2 ^ 48

/-- The time in units of 2^-16 ns that a 96-bit KT96 number spells. -/
def timeOf (k : Nat) : Nat := k % 65536 + k / 65536 % 2 ^ 32 * 65536 + k / 2 ^ 48 % 2 ^ 48 * lsbPerSec

/-- The nanoseconds field of a KT96 number (R14). -/
def kt96Ns (k : Nat) : Nat := k / 65536 % 2 ^ 32

/-- Three registers read as a KT96 time. -/
def State.getKt (s : State) (a : Nat) : Nat := timeOf (s.wide a 3)

/-- Three registers holding a KT96 time. -/
def State.putKt (s : State) (a t : Nat) : State := s.putWide a 3 (kt96Of t)

/-- A signed KT96 step: the 96-bit two's complement of the step with its seconds, nanoseconds and fraction laid out as
R14 lays them out (R150). -/
def stepOf (k : Nat) : Int :=
  (k % 65536 + k / 65536 % 2 ^ 32 * 65536 : Nat) + toSigned 48 (k / 2 ^ 48) * (lsbPerSec : Int)

/-- The KT96 layout of a signed step: floored seconds, then nanoseconds and fraction. -/
def stepWords (v : Int) : Nat := kt96Of (v % (2 ^ 48 * lsbPerSec : Nat)).toNat

/-- The low 32 bits of the TAI nanosecond count (R16). -/
def ns32Of (t : Nat) : Nat := t / lsbPerNs % 2 ^ 32

/-- `extend` of R16: the full nanosecond count nearest a reference. -/
def ns32Extend (ns32 ref : Nat) : Int := (ref : Int) + toSigned 32 (ns32 + 2 ^ 32 - ref % 2 ^ 32)

/-- A stamp carries 12 fraction bits; written into KT96 its low four fraction bits are 0 (R17). -/
def stampOf (t : Nat) : Nat := t / 16 * 16

/-- BND48: unbounded, the largest finite value, and the value a bound is held as (R18). -/
def bndUnbounded : Nat := 2 ^ 48 - 1
def bndSat (b : Nat) : Nat := min b bndUnbounded

/-- A sum of bounds, unbounded where a part or the sum is (R18, R75). -/
def bndAdd (a b : Nat) : Nat := bndSat (a + b)

/-- The value of an EB8 code in units of 1/16 ps (R19): (8 + m) * 2^e / 8 ps. -/
def eb8Value (c : Nat) : Nat := (8 + c % 8) * 2 ^ (c / 8) * 2

/-- The encoder of R87: the smallest code whose value is not below the bound; 0xFF where it is unbounded or out of
range. -/
def eb8Of (u : Nat) : Nat :=
  if u ≥ bndUnbounded then 0xFF
  else if u ≤ 16 then 0
  else if u > 14 * 2 ^ 32 then 0xFF
  else
    let e := u.log2 - 4
    let m := (u + 2 ^ (e + 1) - 1) / 2 ^ (e + 1) - 8
    if m = 8 then 8 * (e + 1) else 8 * e + m

/-- A bound in units of 1/16 ps rounded up from units of 2^-12 ns. -/
def bndOfStampUnits (u : Nat) : Nat := (u * 16000 + 4095) / 4096

/-! ### Loop gains (R52, R134) -/

/-- The integer square root, from `k` trial bits. -/
def isqrtAux (n : Nat) : Nat → Nat → Nat
  | 0, r => r
  | k + 1, r => isqrtAux n k (if (r + 2 ^ k) * (r + 2 ^ k) ≤ n then r + 2 ^ k else r)

/-- The square root of a rational below 2^32, rounded down to a multiple of 2^-32. -/
def sqrtLo (q : Rat) : Rat := (isqrtAux (q * 2 ^ 64).floor.toNat 48 0 : Nat) / (2 : Rat) ^ 32
/-- wn of R134 at a bandwidth of 1 Hz, damping `z`/256: 2*pi / sqrt(a + sqrt(a^2 + 1)), a = 1 + 2*(z/256)^2. DESIGN CHOICE
(assumption log 6): pi to 12 decimals and square roots to 32 fractional bits, as the rule gives the formula and no precision. -/
def loopWn1 (z : Nat) : Rat :=
  let a : Rat := 1 + 2 * ((z * z : Nat) : Rat) / 65536
  6283185307180 / 10 ^ 12 / sqrtLo (a + sqrtLo (a * a + 1))

/-- A buffer with bytes laid over it from `o`. -/
def overlay (buf : List Byte) (o : Nat) (bs : List Byte) : List Byte := buf.take o ++ bs ++ buf.drop (o + bs.length)

end Sys2Proof.Machine
end

