-- ==== Sys2Proof/Machine/Kpr.lean ====
section
/-!
DEFINITION. The keeper triad and the voter (02_keepers_and_voting.md R45 to R74): the keepers' time words, the vote and
its states, membership, trim, snapshots and leap seconds.
-/
namespace Sys2Proof.Machine

open Sys2Proof

/-! ### Names of the state codes (R72, R73) -/

def vInit : Nat := 0
def vVote3 : Nat := 1
def vVote2 : Nat := 2
def vSplit : Nat := 3
def vSolo : Nat := 4
def vDark : Nat := 5

def msOut : Nat := 0
def msSeeding : Nat := 1
def msRejoining : Nat := 2
def msIn : Nat := 3

def causeLock : Nat := 1
def causeCoarse : Nat := 2
def causeSpread : Nat := 3
def causeCommand : Nat := 4
def causeInjected : Nat := 5
def causeSplit : Nat := 6

def noKeeper : Keeper := ⟨0, 0, 0, 0, 0, 0, 0, 3, .voted, false, false, none⟩

/-- Keeper `x` beside its registers. -/
def State.kp (s : State) (x : Nat) : Keeper := (s.kpr.keepers[x]?).getD noKeeper

/-- Keeper `x` changed. -/
def State.modKp (s : State) (x : Nat) (f : Keeper → Keeper) : State :=
  s.modKpr fun k => { k with keepers := listUpd k.keepers x f }

def State.vstate (s : State) : Nat := s.get F.KPR_STAT_VSTATE
def State.mstate (s : State) (x : Nat) : Nat := s.get (F.KPR_x_STAT_MSTATE x)
def State.kLocked (s : State) (x : Nat) : Bool := s.flag (F.KPR_x_STAT_LOCKED x)
def State.unjudged (s : State) : Bool := s.flag F.KPR_STAT_UNJUDGED
def State.tsrc (s : State) : Nat := s.get F.KPR_STAT_TSRC
def State.isIn (s : State) (x : Nat) : Bool := s.mstate x == msIn

/-- The keepers in the vote, lowest letter first. -/
def State.inVote (s : State) : List Nat := [0, 1, 2].filter s.isIn

/-- The keepers whose TCLK loop is locked and settled. -/
def State.lockedKeepers (s : State) : List Nat := [0, 1, 2].filter s.kLocked

/-- Voted time exists once the keepers have started and outside DARK (R61). -/
def State.hasVoted (s : State) : Bool := s.kpr.started && s.vstate != vDark

/-- The vote judges time: VOTE3 or VOTE2 with UNJUDGED clear. -/
def State.judged (s : State) : Bool := (s.vstate == vVote3 || s.vstate == vVote2) && !s.unjudged

/-! ### Time words (R45 to R47) -/

/-- Units of 2^-64 ns in one unit of 2^-16 ns and in one unit of 2^-12 ns. -/
def perLsb : Nat := 2 ^ 48
def perStamp : Nat := 2 ^ 52

/-- The keeper's time in units of 2^-16 ns. -/
def Keeper.kt (k : Keeper) : Nat := k.time / perLsb

/-- A keeper's time wraps with its 48-bit seconds (R45). -/
def timeWrap : Nat := 2 ^ 48 * 1000000000 * 2 ^ 64

def satFreq (y : Int) : Int := max (-1844674407370955) (min 1844674407370955 y)

/-- The trim register (R52), units of 2^-65. -/
def State.trim (s : State) (x : Nat) : Int := s.wideI (A.KPR_x_TRIM x) 2

/-- The applied frequency word y (R47). -/
def State.freqWord (s : State) (x : Nat) : Int := s.wideI (A.KPR_x_FREQ x) 2

/-- y formed again from the steering word and the trim, saturated at 50 ppm (R47). -/
def State.reformFreq (s : State) (x : Nat) : State :=
  s.putWideI (A.KPR_x_FREQ x) 2 (satFreq ((s.kp x).steer + s.trim x))

/-- `n` TCLK cycles of keeper `x`, each adding 2^65 + y (R46). -/
def State.runKeeper (s : State) (x n : Nat) : State :=
  s.modKp x fun k => { k with time := (((k.time : Int) + (n : Int) * (2 ^ 65 + s.freqWord x)) % (timeWrap : Int)).toNat }

/-- Keeper `x` stepped by a signed amount in units of 2^-64 ns (R48). -/
def State.stepKeeper (s : State) (x : Nat) (d : Int) : State :=
  s.modKp x fun k => { k with time := (((k.time : Int) + d) % (timeWrap : Int)).toNat }

/-! ### Membership and state -/

/-- MSTATE of keeper `x`, with IN_VOTE and MEMBER following it. -/
def State.setMs (s : State) (x ms : Nat) : State :=
  ((s.put (F.KPR_x_STAT_MSTATE x) ms).putB (F.KPR_x_STAT_IN_VOTE x) (ms == msIn)).putBit F.KPR_STAT_MEMBER x (ms == msIn)

/-- The time-source keeper of R54 for the present state and membership; 3 is none. In SPLIT it is the lowest letter of
the locked keepers that are in the dispute (assumption log 9). -/
def State.tsrcOf (s : State) : Nat :=
  if !s.kpr.started || s.vstate == vDark then 3
  else if s.vstate == vSplit then ((s.lockedKeepers.filter s.isIn).head?).getD ((s.lockedKeepers.head?).getD 3)
  else (s.inVote.head?).getD 3

/-- The correction of R53: the time source's offset from the median in VOTE3, else 0. -/
def State.corrOf (s : State) : Int :=
  if s.vstate == vVote3 && s.tsrc < 3 then s.getI (F.KPR_x_OFS_OFS s.tsrc) else 0

/-- TSRC follows the state and the membership, at a vote or a change of vote state (R54); outside VOTE3 the correction is zero
(R53). -/
def State.retarget (s : State) : State :=
  (s.put F.KPR_STAT_TSRC s.tsrcOf).modKpr fun k => { k with corr := if s.vstate = vVote3 then k.corr else 0 }

/-- The correction as a judged vote forms it (R53). -/
def State.correct (s : State) : State := s.modKpr fun k => { k with corr := s.corrOf }

/-- The gating condition of R58 and INIT: outputs gated and bounds unbounded. -/
def State.gateCond (s : State) : Bool :=
  s.vstate == vInit || s.vstate == vSplit || s.vstate == vSolo || s.vstate == vDark || s.unjudged

/-- OUT_GATED sets with the condition and clears only at a voted second marker (R58); UNBOUNDED follows it (R57). -/
def State.regate (s : State) : State :=
  (s.putB F.KPR_STAT_UNBOUNDED s.gateCond).putB F.KPR_STAT_OUT_GATED (s.flag F.KPR_STAT_OUT_GATED || s.gateCond)

/-- A STANDBY unit of a pair (R402, R403). -/
def State.isStandby (s : State) : Bool := s.flag F.PAR_CFG_PAIR_EN && s.get F.PAR_STAT_ROLE == 2

/-- The pulse and clock outputs do not run: gated (R58), or high impedance on a STANDBY unit without LOOP_EN (R403, R419). -/
def State.outsOff (s : State) : Bool := s.flag F.KPR_STAT_OUT_GATED || (s.isStandby && !s.flag F.PAR_CFG_LOOP_EN)

/-- A change of vote state, raising KPR_STATE (R59, R74). -/
def State.setVstate (s : State) (v : Nat) : State :=
  if v = s.vstate then s.regate
  else
    let s1 := ((s.put F.KPR_STAT_VSTATE v).modKpr fun k => { k with noPair := 0 }).retarget.regate
    s1.raise Ev.KPR_STATE noInst (s.vstate + 16 * v + 256 * s1.get F.KPR_STAT_MEMBER + (if s1.unjudged then 2048 else 0))

/-- Keeper `x` leaves the vote with a cause (R63, R74). -/
def State.leave (s : State) (x cause : Nat) : State :=
  ((((s.setMs x msOut).put (F.KPR_x_STAT_CAUSE x) cause).incrSat (F.KPR_x_STAT_LEAVES x)).modKp x
    fun k => { k with disagree := 0 }).raise Ev.KPR_LEAVE x
      (cause + 256 * min (s.getI (F.KPR_x_OFS_OFS x)).natAbs (2 ^ 24 - 1))

/-- Keeper `x` joins the vote from REJOINING (R63, R66). -/
def State.join (s : State) (x : Nat) : State :=
  (((s.setMs x msIn).put (F.KPR_x_STAT_FAILS x) 0).modKp x fun k => { k with disagree := 0, rejoin := false }).raise
    Ev.KPR_REJOIN x (min (s.get (F.KPR_x_STAT_FAILS x)) 15)

/-- The vote state after a keeper joined (R59). -/
def State.afterJoin (s : State) : State :=
  if s.vstate == vVote2 && s.inVote.length == 3 then s.setVstate vVote3
  else if s.vstate == vSolo && s.inVote.length ≥ 2 then s.setVstate vVote2
  else s.regate

/-- No keeper is IN and a loop is locked: the locked keeper furthest on becomes IN at once (R59). -/
def State.rescue (s : State) : State :=
  if s.inVote.isEmpty && !s.lockedKeepers.isEmpty && s.vstate != vDark && s.kpr.started then
    let pick (ms : Nat) := s.lockedKeepers.find? (fun x => s.mstate x == ms)
    let x := ((pick msRejoining <|> pick msSeeding) <|> pick msOut).getD 0
    if s.vstate == vInit then (s.setMs x msIn).regate
    else ((s.putB F.KPR_STAT_UNJUDGED true).setMs x msIn).setVstate vSolo
  else s

/-- The vote state after keepers left by loss of lock or by command (R59). -/
def State.afterLeave (s : State) : State :=
  let s := s.rescue
  if s.vstate == vVote3 && s.inVote.length == 2 then s.setVstate vVote2
  else if (s.vstate == vVote3 || s.vstate == vVote2) && s.inVote.length == 1 then s.setVstate vSolo
  else if s.vstate == vSplit && s.inVote.length == 1 then (s.putB F.KPR_STAT_UNJUDGED true).setVstate vSolo
  else s.regate

/-! ### Seeding (R63, R64) -/

/-- The seed source of R64 for the present state; none where no seed exists. -/
def State.seedSource (s : State) (phaseValidRef : Bool) : Option SeedSrc :=
  if !s.kpr.started then none
  else if s.vstate == vVote3 || s.vstate == vVote2 then some .voted
  else if s.vstate == vSplit then
    if phaseValidRef then some .reference else (s.inVote.head?).map SeedSrc.keeper
  else if s.vstate == vSolo then (s.inVote.head?).map SeedSrc.keeper
  else if s.vstate == vInit then (if s.tsrc < 3 then some (.keeper s.tsrc) else none)
  else none

/-- The load of a seed: seconds and nanoseconds of the seed at the time source's marker, fraction 0 (R63). -/
def State.loadSeed (s : State) (x : Nat) (src : SeedSrc) : State :=
  let m : Nat := match src with
    | .keeper y => (s.kp y).mark
    | _ => (s.kp s.tsrc).mark
  (s.setMs x msSeeding).modKp x fun k =>
    { k with time := m * 2 ^ 64 % timeWrap, mark := m % (timeWrap / 2 ^ 64), seed := src, hold := 0, heldWith := 3, rejoin := false, found := false }

/-- R64: the offset from the reference that the management cores found for a keeper seeded from it is applied, in place of
the marker step. -/
def State.applyFound (s : State) (x : Nat) (ofs : Option Int) : State := match ofs, (s.kp x).seed with
  | some o, .reference => (s.stepKeeper x (o * (perStamp : Int))).modKp x fun k => { k with mark := k.time / 2 ^ 64, found := true }
  | _, _ => s

/-- REF has a phase-valid selected reference (R64, R125). -/
def State.phaseValidSelected (s : State) : Bool :=
  s.flag F.REF_STAT_SEL_VALID && s.flag (F.REF_SLOTn_STAT_PHASE_VALID (s.get F.REF_STAT_SEL))

/-- A keeper that is SEEDING or REJOINING is reseeded when the state moves to another seed source (R64). -/
def State.reseedMoved (s : State) : State :=
  [0, 1, 2].foldl (fun (s : State) x =>
    if s.mstate x == msSeeding || s.mstate x == msRejoining then
      match s.seedSource s.phaseValidSelected with
      | some src => if src = (s.kp x).seed then s else s.loadSeed x src
      | none => s
    else s) s

/-- What R64 says where the vote state was `v` and has moved. -/
def State.reseedFrom (s : State) (v : Nat) : State := if s.vstate = v then s else s.reseedMoved

/-! ### The vote (R50 to R53) -/

def offsetSat : Int := 2048000

def satOfs (v : Int) : Int := max (-offsetSat) (min offsetSat v)

/-- The middle of three values. -/
def median3 (a b c : Int) : Int := max (min a b) (min (max a b) c)

/-- The reference arrival of a vote: the median of three in-vote markers, else the time source's marker. -/
def State.refArrival (s : State) (arr : Nat → Option Int) : Option Int :=
  if s.inVote.length = 3 then
    match arr 0, arr 1, arr 2 with
    | some a, some b, some c => some (median3 a b c)
    | _, _, _ => if s.tsrc < 3 then arr s.tsrc else none
  else if s.tsrc < 3 then arr s.tsrc else none

/-- The word of the majority of the in-vote keepers, or of the time source where there is none (R50). -/
def majorityWord (ws : List Nat) : Option Nat := ws.find? (fun w => ws.length < 2 * ws.count w)

/-- Keeper `x`'s latched word, in whole microseconds, with an injected error (R49, R484). -/
def State.word (s : State) (x : Nat) : Int := ((s.kp x).mark / 1000 : Nat) + (if s.injOn 0x11 x then 1 else 0)

/-- A coarse mismatch of keeper `x` at this vote (R50): its word differs from that of the in-vote majority; where the
in-vote words share no majority each of them mismatches. -/
def State.mismatch (s : State) (x : Nat) : Bool :=
  let ws := s.inVote.map (fun y => ((s.word y).toNat))
  match majorityWord ws with
  | some w => decide (s.word x ≠ w)
  | none => true

/-- The vote comparator's measured distance of two keepers from the last offsets. -/
def State.pairOfs (s : State) (x y : Nat) : Int := s.getI (F.KPR_x_OFS_OFS x) - s.getI (F.KPR_x_OFS_OFS y)

def State.voteLimit (s : State) : Int := s.get F.KPR_VOTE_CFG_VOTE_LIMIT
def State.persist (s : State) : Nat := s.get F.KPR_VOTE_CFG_PERSIST

/-- Keeper `x`'s marker was paired: its offset is not saturated (R50). -/
def State.paired (s : State) (x : Nat) : Bool := decide (((s.getI (F.KPR_x_OFS_OFS x)).natAbs : Int) < offsetSat)

/-- Two in-vote keepers agree at this vote (R51): both paired, within VOTE_LIMIT and no word mismatch. -/
def State.agrees (s : State) (x y : Nat) : Bool :=
  s.paired x && s.paired y && ((s.pairOfs x y).natAbs : Int) ≤ s.voteLimit && decide (s.word x = s.word y)

/-- The other two keepers. -/
def others (x : Nat) : Nat × Nat := if x = 0 then (1, 2) else if x = 1 then (0, 2) else (0, 1)

/-- Keeper `x` disagrees at this vote (R51): with all three in the vote, it is beyond VOTE_LIMIT of both others or
mismatches, and the others agree. -/
def State.disagrees (s : State) (x : Nat) : Bool :=
  s.inVote.length == 3 && s.agrees (others x).1 (others x).2 &&
    ((decide (s.voteLimit < ((s.pairOfs x (others x).1).natAbs : Int)) && decide (s.voteLimit < ((s.pairOfs x (others x).2).natAbs : Int)))
      || decide (s.word x ≠ s.word (others x).1))

/-- Offsets of this vote into KPR_x_OFS (R50): a keeper without a marker keeps its last one. -/
def State.recordOffsets (s : State) (arr : Nat → Option Int) : State :=
  match s.refArrival arr with
  | none => s
  | some r => [0, 1, 2].foldl (fun (s : State) x => match arr x with
    | some a => if s.mstate x == msOut then s else s.putI (F.KPR_x_OFS_OFS x) (satOfs (a - r))
    | none => s) s

/-! #### Trim (R52) -/

/-- wn of R52 for the configured bandwidth 10 Hz * 2^TRIM_BW. -/
def State.trimWn (s : State) : Rat := loopWn1 256 * 10 * 2 ^ s.get F.KPR_TRIM_CFG_TRIM_BW

/-- Rounding to the nearest integer, halves up. -/
def roundRat (q : Rat) : Int := (q + 1 / 2).floor

def trimLimit : Int := 2 ^ 39

/-- The 40-bit trim saturates at plus and minus 2^39; its field holds at most 2^39 - 1 (R52). -/
def satTrim (v : Int) : Int := max (-trimLimit) (min (trimLimit - 1) v)

/-- One update of the trim loop of keeper `x`, with `e` its offset in seconds (R52). -/
def State.trimUpdate (s : State) (x : Nat) : State :=
  let e : Rat := (s.getI (F.KPR_x_OFS_OFS x) : Rat) / (4096 * 1000000000)
  let wn := s.trimWn
  let i0 := (s.kp x).integ
  let step := wn * wn * e / 1000000
  let sat0 := s.flag (F.KPR_x_STAT_TRIM_SAT x)
  let i1 := if sat0 && ((0 < e && 0 < s.trim x) || (e < 0 && s.trim x < 0)) then i0 else i0 + step
  let raw := roundRat (2 ^ 65 * (2 * wn * e + i1))
  let sat1 := decide (raw ≥ trimLimit ∨ raw ≤ -trimLimit)
  let s1 := ((s.modKp x fun k => { k with integ := i1 }).putWideI (A.KPR_x_TRIM x) 2 (satTrim raw)).putB
    (F.KPR_x_STAT_TRIM_SAT x) sat1
  (s1.raiseIf (sat1 && !sat0) Ev.KPR_TRIM_SAT x (if raw < 0 then 1 else 0)).reformFreq x

/-- Keeper `x` is in the vote or rejoining. -/
def State.trims (s : State) (x : Nat) : Bool := s.mstate x == msIn || s.mstate x == msRejoining

/-- The trim loops of the keepers in the vote or rejoining (R52): those that were so in `s0`, at the vote's measurement. A
keeper that a seed stepped at this vote starts with I = 0 at the next. -/
def State.trimAll (s0 s : State) : State :=
  [0, 1, 2].foldl (fun (s : State) x => if s0.trims x && s.trims x then s.trimUpdate x else s) s

/-! #### Judging a vote -/

/-- Consecutive agreeing votes of the pairs A-B, A-C, B-C, and consecutive votes without any agreeing in-vote pair. -/
def State.countPairs (s : State) : State :=
  let c (i x y : Nat) : Nat := if s.isIn x && s.isIn y && s.agrees x y then (s.kpr.pairs[i]?).getD 0 + 1 else 0
  let ps := [c 0 0 1, c 1 0 2, c 2 1 2]
  s.modKpr fun k => { k with pairs := ps, noPair := if ps.all (· == 0) && 2 ≤ s.inVote.length then k.noPair + 1 else 0 }

/-- A leave that an injection provokes has cause INJECTED (R483). -/
def State.leaveCause (s : State) (x cause : Nat) : Nat := if s.injOn 0x10 x || s.injOn 0x11 x then causeInjected else cause

/-- A vote used up of the injections on the keepers (R484). -/
def State.votesUsed (s : State) : State := [0, 1, 2].foldl (fun (s : State) x => (s.injUse 0x10 x).injUse 0x11 x) s

/-- Leaves by COARSE and SPREAD among three in-vote keepers, in every vote state (R63). -/
def State.judgeLeaves (s : State) : State :=
  let bad := [0, 1, 2].filter s.disagrees
  let s1 := [0, 1, 2].foldl (fun (s : State) x =>
    s.modKp x fun k => { k with disagree := if bad.contains x then k.disagree + 1 else 0 }) s
  match bad.head? with
  | none => s1
  | some x =>
    if decide (s1.word x ≠ s1.word (others x).1) then (s1.leave x (s1.leaveCause x causeCoarse)).afterLeave
    else if s1.persist ≤ (s1.kp x).disagree then (s1.leave x (s1.leaveCause x causeSpread)).afterLeave
    else s1

/-- The pair kept when SPLIT ends by agreement: lowest letters first (R59). -/
def State.agreedPair (s : State) : Option (Nat × Nat) :=
  let p (i : Nat) : Bool := s.persist ≤ (s.kpr.pairs[i]?).getD 0
  if p 0 then some (0, 1) else if p 1 then some (0, 2) else if p 2 then some (1, 2) else none

/-- The moves of R59 that a vote's agreement makes: into SPLIT, and out of it. -/
def State.judgeState (s : State) : State :=
  let split := s.setVstate vSplit
  if s.vstate == vSplit then
    match s.agreedPair with
    | some (a, b) =>
      let c := 3 - a - b
      ((if s.isIn c then s.leave c causeSplit else s)).setVstate vVote2
    | none => s
  else if s.inVote.length == 3 then
    if s.persist ≤ s.kpr.noPair then split else s
  else if s.inVote.length == 2 && (s.vstate == vVote2 || s.vstate == vInit) then
    let x := (s.inVote.head?).getD 0
    let y := (s.inVote.getLast?).getD 0
    if decide (s.word x ≠ s.word y) || s.persist ≤ s.kpr.noPair then split else s
  else s

/-- A SEEDING keeper's marker offset is measured: its time steps forward by it and it holds (R63); a keeper seeded from
a reference has had its offset applied (R64). -/
def State.seedStep (s : State) (x : Nat) (arr : Nat → Option Int) : State :=
  let src := (s.kp x).seed
  let ref : Option Int := match src with
    | .keeper y => arr y
    | _ => if s.tsrc < 3 then arr s.tsrc else none
  let go (s : State) : State := (s.setMs x msRejoining).modKp x fun k => { k with hold := 0, heldWith := 3, integ := 0 }
  match src with
  | .reference => if (s.kp x).found then go s else s
  | _ => match arr x, ref with
    | some a, some r => go (s.stepKeeper x ((a - r) * (perStamp : Int)))
    | _, _ => s

/-- A REJOINING keeper that failed a vote: one more failure, then a new seed, or OUT with AUTO_REJOIN cleared at 16. -/
def State.rejoinFail (s : State) (x : Nat) : State :=
  let n := s.get (F.KPR_x_STAT_FAILS x) + 1
  let s1 := s.put (F.KPR_x_STAT_FAILS x) n
  if 16 ≤ n then
    (((s1.setMs x msOut).modKp x fun k => { k with rejoin := false }).putBit F.KPR_REJOIN_CFG_AUTO_REJOIN x false).raise Ev.KPR_REJOIN_FAIL x (detI (s.getI (F.KPR_x_OFS_OFS x)))
  else match s1.seedSource s1.phaseValidSelected with
    | some src => s1.loadSeed x src
    | none => s1.setMs x msSeeding

/-- A REJOINING keeper held one more vote: it joins after REJOIN_HOLD of them (R63). -/
def State.rejoinHold (s : State) (x : Nat) (done : State → State) : State :=
  let s1 := s.modKp x fun k => { k with hold := k.hold + 1 }
  if s1.get F.KPR_REJOIN_CFG_REJOIN_HOLD ≤ (s1.kp x).hold then done (s1.join x) else s1

/-- In SPLIT a reference-seeded keeper is judged against both disputing keepers (R64): agreeing with exactly one holds,
anything else restarts the count; complete, the other disputing keeper leaves with cause SPLIT. DESIGN CHOICE (assumption
log 75): the votes held count with one and the same disputing keeper; a vote that agrees with the other one starts anew. -/
def State.splitRefVote (s : State) (x : Nat) : State :=
  let ok := (s.inVote.filter (fun y => y != x && s.agrees x y))
  match ok with
  | [y] =>
    let s1 := if (s.kp x).heldWith = y then s else s.modKp x fun k => { k with hold := 0, heldWith := y }
    s1.rejoinHold x fun s2 =>
      ((s2.inVote.filter (fun z => z != x && z != y)).foldl (fun (s : State) z => s.leave z causeSplit) s2).setVstate vVote2
  | _ => s.modKp x fun k => { k with hold := 0, heldWith := 3 }

/-- The vote of a REJOINING keeper (R63, R64). DESIGN CHOICE (assumption log 75): at a vote at which no marker of it came the
keeper neither advances nor fails. -/
def State.rejoinVote (s : State) (x : Nat) (arr : Nat → Option Int) : State :=
  if arr x = none then s
  else if s.vstate == vSplit then
    match (s.kp x).seed with
    | .reference => s.splitRefVote x
    | .keeper y =>
      if s.agrees x y then
        s.rejoinHold x fun s2 =>
          (((s2.inVote.filter (fun z => z != x && z != y)).foldl (fun (s : State) z => s.leave z causeSplit) s2).putB
            F.KPR_STAT_UNJUDGED true).setVstate vVote2
      else s.rejoinFail x
    | _ => s
  else if decide (((s.getI (F.KPR_x_OFS_OFS x)).natAbs : Int) ≤ s.voteLimit) && !s.mismatch x then
    s.rejoinHold x State.afterJoin
  else s.rejoinFail x

/-- Keepers on their way back at this vote. -/
def State.returnVotes (s : State) (arr : Nat → Option Int) : State :=
  [0, 1, 2].foldl (fun (s : State) x =>
    if s.mstate x == msSeeding then s.seedStep x arr
    else if s.mstate x == msRejoining then s.rejoinVote x arr
    else s) s

/-- The step of 8,192 per TCLK cycle at which a keeper whose time now is `t`, with increment `inc`, placed the marker of its
last whole multiple of 1,000 ns: the crossing's place in its cycle (R49). -/
def fineStep (t inc : Nat) : Nat := (inc - t % (1000 * 2 ^ 64) % inc) % inc * 8192 / inc

/-- The markers of this vote latched: each locked keeper runs its cycles, latches the marked instant and places its marker's
edge; a marker at nanoseconds 0 is its second marker and drives its PPS (R49). -/
def State.runMarkers (s : State) (m : Nat → Marker) : State :=
  [0, 1, 2].foldl (fun (s : State) x =>
    if s.kLocked x then
      let s1 := s.runKeeper x (m x).cycles
      let inc := (2 ^ 65 + s1.freqWord x).toNat
      s1.modKp x fun k =>
        { k with mark := k.time / 2 ^ 64 / 1000 * 1000, fine := fineStep k.time inc,
                 pps := if k.time / 2 ^ 64 / 1000 * 1000 % 1000000000 = 0 then some (k.time / 2 ^ 64 / 1000000000) else k.pps }
    else s) s

/-- Voted time at the time source's marker: its marked instant with the correction (R53). -/
def State.votedAtMarker (s : State) : Nat :=
  (((s.kp s.tsrc).mark * lsbPerNs : Nat) + s.kpr.corr * 16).toNat

/-- Voted time follows the vote. -/
def State.followVote (s : State) : State :=
  if s.tsrc < 3 then
    (s.setNow s.votedAtMarker).modKpr fun k =>
      { k with voteNow := s.votedAtMarker, yInt := k.yInt + s.freqWord s.tsrc * ((s.votedAtMarker : Int) - k.voteNow) }
  else s

/-- The integral of the applied word at instant `t` of the present vote (R507). -/
def State.yAt (s : State) (t : Nat) : Int := s.kpr.yInt + (if s.tsrc < 3 then s.freqWord s.tsrc else 0) * ((t : Int) - s.kpr.voteNow)

/-- The arrival of keeper `x`, with an injected marker offset (R484); no marker from a keeper out of lock or OUT. -/
def State.arrivalOf (s : State) (m : Nat → Marker) (x : Nat) : Option Int :=
  if s.kLocked x && s.mstate x != msOut then ((m x).arrival).map (· + s.injArg 0x10 x) else none

/-- One vote (R50): markers, offsets, judgement, membership, trim, voted time. A vote that straddles a step judges
nothing (R62). -/
def State.kprVote (s : State) (m : Nat → Marker) : State :=
  if !s.kpr.started || s.lockedKeepers.isEmpty then s
  else
    let s1 := s.runMarkers m
    if 0 < s1.kpr.skip then (s1.modKpr fun k => { k with skip := k.skip - 1 }).followVote
    else
      let arr := s1.arrivalOf m
      let s2 := (s1.recordOffsets arr).countPairs
      let s3 := (s2.judgeLeaves).judgeState
      let s4 := (s3.returnVotes arr).reseedFrom s.vstate
      (s2.trimAll s4).retarget.correct.regate.followVote.votesUsed

/-- The instant, in 2^-12 ns, at which two of the three keepers' edges for the instant `t` of their own time have fallen: the
second of the three (R55). An edge of a keeper out of the vote is the time source's. -/
def State.gateEdge (s : State) (t : Int) : Int :=
  let e (x : Nat) : Int := t + (if s.isIn x then s.getI (F.KPR_x_OFS_OFS x) else if s.tsrc < 3 then s.getI (F.KPR_x_OFS_OFS s.tsrc) else 0)
  median3 (e 0) (e 1) (e 2)

/-- The marker record of a vote's three operands. -/
def markerOf (a b c : Marker) (x : Nat) : Marker := if x = 0 then a else if x = 1 then b else c

/-! ### Start, lock and commands -/

/-- R60: the keepers start once a TCLK loop is locked: every locked keeper is seeded from the Cellar seconds and is IN
at once, in INIT. -/
def State.kprStart (s : State) (cellar : Nat) : State :=
  if s.kpr.started || s.lockedKeepers.isEmpty then s
  else
    let s1 := s.modKpr fun k => { k with started := true }
    let s2 := s1.lockedKeepers.foldl (fun (s : State) x =>
      (s.setMs x msIn).modKp x fun k => { k with time := cellar * 1000000000 * 2 ^ 64, mark := cellar * 1000000000 }) s1
    ((s2.retarget.regate).setNow (cellar * lsbPerSec)).modKpr fun k => { k with voteNow := cellar * lsbPerSec, bornAt := cellar * lsbPerSec }

/-- TCLK_x lost its lock (R63): an IN keeper leaves with cause LOCK (INJECTED where the loss was provoked), one on its
way back abandons it; with all three lost the state is DARK and the last voted time is latched (R59). -/
def State.kprLost (s : State) (x : Nat) (injected : Bool) : State :=
  let s1 := (s.putB (F.KPR_x_STAT_LOCKED x) false).putBit F.KPR_STAT_LOCKED x false
  if !s1.kpr.started then s1
  else
    let s2 := if s1.isIn x then s1.leave x (if injected then causeInjected else causeLock) else s1.setMs x msOut
    if s2.lockedKeepers.isEmpty then
      (s2.modKpr fun k => { k with lastVoted := if s.hasVoted then s.now else k.lastVoted }).setVstate vDark
    else (s2.afterLeave).reseedFrom s.vstate

/-- TCLK_x locked and settled. In DARK the keeper is seeded from the last voted time plus the elapsed time of WCLK, corrected
by the witness model, and it is the SOLO keeper, UNJUDGED (R59). -/
def State.kprLocked (s : State) (x : Nat) (darkElapsed : Nat) : State :=
  let s1 := (s.putB (F.KPR_x_STAT_LOCKED x) true).putBit F.KPR_STAT_LOCKED x true
  if s1.kpr.started && s1.vstate == vDark then
    let t := s1.kpr.lastVoted + darkElapsed
    let s2 := (s1.modKp x fun k => { k with time := t * perLsb, mark := t / lsbPerNs, seed := .witness }).setMs x msIn
    (((s2.putB F.KPR_STAT_UNJUDGED true).setVstate vSolo).setNow t).modKpr fun k => { k with voteNow := t, bornAt := t }
  else s1.rescue

/-- R63, R64: an OUT keeper that is locked loads its seed at the time source's marker and is SEEDING; the offset found for a
keeper seeded from a reference is applied with the load or when it comes. -/
def State.keeperSeed (s : State) (x : Nat) (refOffset : Option Int) : State :=
  if s.mstate x == msOut && s.kLocked x && (s.bit F.KPR_REJOIN_CFG_AUTO_REJOIN x || (s.kp x).rejoin) then
    match s.seedSource s.phaseValidSelected with
    | some src => (s.loadSeed x src).applyFound x refOffset
    | none => s
  else if s.mstate x == msSeeding && !(s.kp x).found then s.applyFound x refOffset
  else s

def execKeeperSeed (x : Fin 3) (refOffset : Option Int) (s : State) : Host.Outcome State Fault Refusal :=
  .next (s.keeperSeed x refOffset)

/-- Two keepers that agreed at the last vote remain in the vote without `x` (R66). -/
def State.twoRemain (s : State) (x : Nat) : Bool :=
  let p (i a b : Nat) : Bool := a != x && b != x && s.isIn a && s.isIn b && 0 < (s.kpr.pairs[i]?).getD 0
  p 0 0 1 || p 1 0 2 || p 2 1 2

/-- Two keepers in the vote agreed at the last vote (R59). -/
def State.twoAgree (s : State) : Bool := s.twoRemain 3

/-- R66: a write of AUTO_REJOIN resets the failure counts, as it takes effect (assumption log 75). -/
def State.autoRejoinWritten (s : State) : State := [0, 1, 2].foldl (fun (s : State) x => s.put (F.KPR_x_STAT_FAILS x) 0) s

/-- R66: a REMOVE is accepted only if two agreeing keepers remain; else KPR_CMD_REFUSED. -/
def State.keeperRemove (s : State) (x : Nat) : State :=
  if s.twoRemain x then
    if s.isIn x then (s.leave x causeCommand).afterLeave else s
  else s.raise Ev.KPR_CMD_REFUSED x x

/-- R66: a REJOIN for a keeper that is OUT asks for a rejoin and resets its failure count; else it is ignored. -/
def State.keeperRejoin (s : State) (x : Nat) : State :=
  if s.mstate x == msOut then (s.put (F.KPR_x_STAT_FAILS x) 0).modKp x fun k => { k with rejoin := true } else s

def execKeeperRejoinCmd (x : Fin 3) (s : State) : Host.Outcome State Fault Refusal := .next (s.keeperRejoin x)

/-! ### The realign step in the keepers (R62) -/

/-- Every running keeper adds the same signed step, given in units of 2^-16 ns; the comparator ignores the markers that
straddle it; UNJUDGED clears and the state moves by R59; KPR_STEP is raised. -/
def State.kprStep (s : State) (d : Int) : State :=
  let s1 := [0, 1, 2].foldl (fun (s : State) x =>
    if s.kLocked x then (s.stepKeeper x (d * (perLsb : Int))).modKp x fun k => { k with mark := k.time / 2 ^ 64 / 1000 * 1000 } else s) s
  let t := ((s.now : Int) + d).toNat
  let s2 := (((s1.setNow t).modKpr fun k => { k with voteNow := t, stepTo := t, bornAt := ((k.bornAt : Int) + d).toNat, skip := 1, realigned := true }).putB F.KPR_STAT_UNJUDGED false).raise
    Ev.KPR_STEP noInst (detI (d / (lsbPerNs : Int)))
  if s2.vstate == vInit then
    if s2.inVote.length = 3 then s2.setVstate vVote3
    else if s2.inVote.length = 2 then
      (if s2.twoAgree then s2.setVstate vVote2 else s2.setVstate vSplit)
    else if s2.inVote.length = 1 then s2.setVstate vSolo
    else s2.regate
  else s2.regate

/-! ### Snapshots (R71) -/

/-- R71: a TAKE asks for a snapshot; one written while a snapshot is pending merges with it. -/
def State.snapTake (s : State) : State :=
  if s.kpr.snap = none then
    (s.modKpr fun k => { k with snap := some (s.get F.KPR_STAT_MEMBER, s.vstate, s.tsrc != 3) }).unpost A.KPR_SNAP_STAT
  else s

def execSnapshotTake (s : State) : Host.Outcome State Fault Refusal := .next s.snapTake

/-- The snapshot's base address for keeper `x`'s time. -/
def snapTimeAddr (x : Nat) : Nat := if x = 0 then A.KPR_SNAP_A 0 else if x = 1 then A.KPR_SNAP_B 0 else A.KPR_SNAP_C 0

/-- The snapshot words of keeper `x` at the time source's marker: its own time from its marker and offset, and the
offset; all ones for a keeper that is OUT. -/
def State.snapKeeper (s : State) (x : Nat) : State :=
  if s.mstate x == msOut then
    (s.putWide (snapTimeAddr x) 3 (2 ^ 96 - 1)).put (F.KPR_SNAP_OFS_OFS x) (2 ^ 32 - 1)
  else
    let d := s.getI (F.KPR_x_OFS_OFS x) - s.getI (F.KPR_x_OFS_OFS s.tsrc)
    (s.putKt (snapTimeAddr x) (((s.kp x).mark * lsbPerNs : Nat) - d * 16).toNat).putI (F.KPR_SNAP_OFS_OFS x) (s.getI (F.KPR_x_OFS_OFS x))

/-- R71: the snapshot is latched and posted; taken without a time source its time words read all ones. -/
def State.snapComplete (s : State) : State :=
  match s.kpr.snap with
  | none => s
  | some (mem, vs, src) =>
    let s0 := s.modKpr fun k => { k with snap := none }
    if src && s0.tsrc < 3 then
      let s1 := [0, 1, 2].foldl (fun (s : State) x => s.snapKeeper x) (s0.putKt (A.KPR_SNAP_VT 0) s0.votedAtMarker)
      s1.post A.KPR_SNAP_STAT (s1.get F.KPR_STAT_MEMBER * 65536 + s1.vstate * 2 ^ 20)
    else
      let s1 := [0, 1, 2].foldl (fun (s : State) x =>
        (s.putWide (snapTimeAddr x) 3 (2 ^ 96 - 1)).put (F.KPR_SNAP_OFS_OFS x) (2 ^ 32 - 1)) (s0.putWide (A.KPR_SNAP_VT 0) 3 (2 ^ 96 - 1))
      s1.post A.KPR_SNAP_STAT (mem * 65536 + vs * 2 ^ 20)

def execSnapshotComplete (s : State) : Host.Outcome State Fault Refusal := .next s.snapComplete

/-! ### UTC and leap seconds (R67 to R70) -/

/-- The current TAI-UTC offset. -/
def State.utcOffset (s : State) : Int := s.getI F.KPR_UTC_STAT_OFFSET

/-- The UTC second count (R67): voted seconds less the offset; Cellar seconds where no voted time exists (R68). -/
def State.utcCount (s : State) : Int :=
  (if s.hasVoted then (s.now / lsbPerSec : Nat) else (s.clrSec : Nat) : Nat) - s.utcOffset

/-- LEAP_DAY and LEAP_HALF follow the UTC count while a leap is pending (R70). -/
def State.leapFlags (s : State) : State :=
  let p := s.flag F.KPR_UTC_STAT_PENDING
  (s.putB F.KPR_UTC_STAT_LEAP_DAY (p && decide ((s.kpr.leapM : Int) - 86400 ≤ s.utcCount))).putB
    F.KPR_UTC_STAT_LEAP_HALF (p && decide ((s.kpr.leapM : Int) - 43200 ≤ s.utcCount))

/-- R70: the window flags set when the UTC count has reached their start. -/
def execLeapWindowOpen (s : State) : Host.Outcome State Fault Refusal := .next s.leapFlags

/-- The arguments of ARM: as a Twivon LEAP carries them, or the value last taken of KPR_LEAP_SEC (R68). -/
def State.leapArgs (s : State) (direct : Option (Nat × Bool)) : Nat × Bool :=
  match direct with
  | some p => p
  | none =>
    let lo := (s.lastWritten A.KPR_LEAP_SEC_LO).toNat
    let hi := (s.lastWritten A.KPR_LEAP_SEC_HI).toNat
    (lo + hi % 65536 * 2 ^ 32, hi / 65536 % 2 == 1)

/-- R68: ARM is refused where M is no midnight or lies no more than 2 s ahead, and whole together with CANCEL; else it
takes effect at the next tick. -/
def State.leapCause (s : State) (direct : Option (Nat × Bool)) (withCancel : Bool) : Nat :=
  let m := (s.leapArgs direct).1
  if withCancel then 4 else (if m % 86400 = 0 then 0 else 1) + (if (m : Int) ≤ s.utcCount + 2 then 2 else 0)

def State.leapArm (s : State) (direct : Option (Nat × Bool)) (withCancel : Bool) : State :=
  if s.leapCause direct withCancel ≠ 0 then s.raise Ev.KPR_LEAP_REFUSED noInst (s.leapCause direct withCancel)
  else s.modKpr fun k => { k with leapNext := some (.arm (s.leapArgs direct).1 (s.leapArgs direct).2) }

def execLeapArm (direct : Option (Nat × Bool)) (withCancel : Bool) (s : State) : Host.Outcome State Fault Refusal :=
  .next (s.leapArm direct withCancel)

/-- R68: CANCEL clears a pending leap at the next tick. -/
def State.leapCancel (s : State) : State := s.modKpr fun k => { k with leapNext := some .cancel }

def execLeapCancel (s : State) : Host.Outcome State Fault Refusal := .next s.leapCancel

/-- The tick's part of R68. -/
def State.leapTick (s : State) : State :=
  match s.kpr.leapNext with
  | none => s
  | some (.arm m del) =>
    ((((s.modKpr fun k => { k with leapNext := none, leapM := m }).putB F.KPR_UTC_STAT_PENDING true).putB
      F.KPR_UTC_STAT_DIR del).leapFlags).raise Ev.KPR_LEAP_ARMED noInst (m % 65536 + (if del then 65536 else 0))
  | some .cancel =>
    ((s.modKpr fun k => { k with leapNext := none }).putB F.KPR_UTC_STAT_PENDING false).leapFlags

/-- The TAI second at which a pending leap changes the offset (R69). -/
def State.leapSecond (s : State) : Int :=
  s.kpr.leapM + s.utcOffset - (if s.flag F.KPR_UTC_STAT_DIR then 1 else 0)

/-- R69: at the leap's TAI second the offset changes by one. -/
def State.leapApply (s : State) : State :=
  if s.flag F.KPR_UTC_STAT_PENDING && s.hasVoted && decide (s.leapSecond ≤ (s.now / lsbPerSec : Nat)) then
    let o := if s.flag F.KPR_UTC_STAT_DIR then s.utcOffset - 1 else s.utcOffset + 1
    ((((s.putI F.KPR_UTC_STAT_OFFSET o).putB F.KPR_UTC_STAT_PENDING false).leapFlags).raise Ev.KPR_LEAP_APPLIED noInst
      (ofSigned 16 o))
  else s

def execLeapApply (s : State) : Host.Outcome State Fault Refusal := .next s.leapApply

/-! ### Live time words (R13, R72, R73) -/

/-- Voted time read live: the reset value before the keepers start; in DARK, where no voted time exists, the spec states no
value (assumption log 3). -/
def State.liveVoted (s : State) : Nat :=
  if s.hasVoted then kt96Of s.now else if s.kpr.started then Config.freeValue s.free % 2 ^ 96 else 0

/-- Keeper `x`'s time read live: its word at the last vote carried on by the voted time since. -/
def State.liveKeeper (s : State) (x : Nat) : Nat :=
  if s.kpr.started then kt96Of ((s.kp x).kt + (s.now - s.kpr.voteNow)) else 0

end Sys2Proof.Machine
end

