-- ==== Sys2Proof/Machine/Bnd.lean ====
section
/-!
DEFINITION. The Bound unit (03_error_bound.md R75 to R99): the terms of a keeper's bound, its states, requests, the
epoch, the limits and the traceability record.
-/
namespace Sys2Proof.Machine

open Sys2Proof

def bsTrack : Nat := 0
def bsCoast : Nat := 1
def bsUnbounded : Nat := 2

/-- The state field of keeper `x` in BND_STAT (R95). -/
def bndStateFld (x : Nat) : Fld := ⟨A.BND_STAT, 2 * x + 1, 2 * x⟩

def State.bstate (s : State) (x : Nat) : Nat := s.get (bndStateFld x)

/-- A BND48 register pair. -/
def State.getB (s : State) (a : Nat) : Nat := s.wide a 2 % 2 ^ 48

/-- Element `x` of a list of three. -/
def nth (l : List Nat) (x : Nat) : Nat := (l[x]?).getD 0

/-! ### Terms (R75, R77, R78) -/

/-- The oscillator a keeper is bound to. -/
def State.oscOf (s : State) (x : Nat) : Nat := min (s.get (F.KPR_x_STAT_OSC x)) 2

/-- The coefficients in force for keeper `x`: the ones DSC delivered, or the Attic floor if larger (R77). -/
def State.c1 (s : State) (x : Nat) : Nat := max (nth s.bnd.c1 x) (s.get F.BND_C1_FLOOR_C1)
def State.c2 (s : State) (x : Nat) : Nat := max (nth s.bnd.c2 x) (s.get F.BND_C2_FLOOR_C2)

/-- The growth of R77 over `tau` whole microseconds: ceil(C1*tau/2^32 + C2*tau^2/2^64). -/
def holdGrowth (c1 c2 tau : Nat) : Nat := bndSat ((c1 * tau * 2 ^ 32 + c2 * tau ^ 2 + (2 ^ 64 - 1)) / 2 ^ 64)

/-- Whole microseconds from one instant to another, rounded up; 0 for an instant before the sample (R77). -/
def ceilUs (t0 t : Nat) : Nat := (t - t0 + (lsbPerUs - 1)) / lsbPerUs

def State.hwTerm (s : State) : Nat := bndAdd (s.getB A.BND_HW_BASE) (s.getB A.BND_HW_AGE)

/-- The OFFSET term: the sum of all known offsets (R78). -/
def State.offsetTerm (s : State) : Nat := bndSat (s.bnd.offsets.foldl (fun acc p => acc + p.2) 0)

def State.margin (s : State) : Nat := s.getB A.BND_FW_MARGIN

/-- QUANT: 2^-12 ns rounded up to 4 units (R75). -/
def quantTerm : Nat := 4

/-- Keeper `x`'s terms as they stand, with what an injection adds (R75, R82, R484). -/
def State.terms (s : State) (x : Nat) : BoundTerms :=
  { unb := s.bstate x == bsUnbounded, ref := nth s.bnd.ref x, ts := nth s.bnd.ts x, c1 := s.c1 x + s.bnd.dispute, c2 := s.c2 x,
    hw := s.hwTerm, ofs := s.offsetTerm, margin := s.margin, inj := (s.injArg 0x20 0 % 2 ^ 32).toNat }

/-- The HOLD term at `t` (R77). -/
def BoundTerms.hold (k : BoundTerms) (t : Nat) : Nat := holdGrowth k.c1 k.c2 (ceilUs k.ts t)

/-- The sum of the terms at `t`, saturating (R75, R79). -/
def BoundTerms.sum (k : BoundTerms) (t : Nat) : Nat :=
  bndAdd k.ref (bndAdd (k.hold t) (bndAdd k.hw (bndAdd k.ofs (bndAdd (quantTerm + k.inj) k.margin))))

/-- The core bound at `t`: unbounded in UNBOUNDED (R82). -/
def BoundTerms.core (k : BoundTerms) (t : Nat) : Nat := if k.unb then bndUnbounded else k.sum t

def State.sumTerms (s : State) (x t : Nat) : Nat := (s.terms x).sum t

/-- Keeper `x`'s terms at the last vote; before the first, unbounded. -/
def State.voted (s : State) (x : Nat) : BoundTerms :=
  (s.bnd.atVote.terms[x]?).getD ⟨true, bndUnbounded, 0, 0, 0, bndUnbounded, 0, 0, 0⟩

/-- Keeper `x`'s core bound at `t`, by the state in force (R83). -/
def State.core (s : State) (x t : Nat) : Nat := (s.voted x).core t

/-- Two keepers vote and disagreed at the last vote (R36). -/
def State.twoDisagree (s : State) : Bool := s.inVote.length == 2 && s.kpr.pairs.all (· == 0)

/-- The voted core bound at `t` (R36): the largest core bound of the keepers in the vote; unbounded where two disagree
or none votes. -/
def State.votedCore (s : State) (t : Nat) : Nat :=
  if s.bnd.atVote.voters.isEmpty || s.bnd.atVote.disagree then bndUnbounded
  else s.bnd.atVote.voters.foldl (fun m x => max m (s.core x t)) 0

/-! ### Epoch (R85) -/

/-- The epoch advances, raising BND_RAISE with its cause. -/
def State.epochRaise (s : State) (cause : Nat) : State :=
  let e := (s.get F.BND_EPOCH_EPOCH + 1) % 2 ^ 32
  ((s.put F.BND_EPOCH_EPOCH e).put F.BND_STAT_EPOCH e).raise Ev.BND_RAISE noInst (e % 256 + 256 * cause)

/-- A cause of the epoch is noted; it is applied at the next vote, with the term that rose (R83, R86). -/
def State.epochLater (s : State) (cause : Nat) : State := s.modBnd fun b => { b with causes := b.causes ++ [cause] }

def State.epochIf (s : State) (c : Bool) (cause : Nat) : State := if c then s.epochLater cause else s

/-- The causes noted since the last vote are applied. -/
def State.epochVote (s : State) : State :=
  s.bnd.causes.foldl State.epochRaise (s.modBnd fun b => { b with causes := [] })

/-! ### Floors (R80) -/

/-- A delivered value below its floor sets the FLOOR flag, and raises BND_FLOOR unless its previous delivery was below
as well; a delivery at or above the floor rearms the event. -/
def State.floorNote (s : State) (key what slot : Nat) (isBelow : Bool) : State :=
  if isBelow then
    ((s.modBnd fun b => { b with floorFlag := true, below := if b.below.contains key then b.below else key :: b.below }).raiseIf
      (!s.bnd.below.contains key) Ev.BND_FLOOR noInst (what + 256 * slot))
  else s.modBnd fun b => { b with below := b.below.erase key }

/-- Coefficients delivered by DSC for keeper `x` (R142): floors noted, and the epoch advanced where either rises over
the one in force (R85). -/
def State.deliverCoeffs (s : State) (x c1 c2 : Nat) : State :=
  let s1 := s.modBnd fun b => { b with c1 := listUpd b.c1 x (fun _ => min c1 (2 ^ 40 - 1)), c2 := listUpd b.c2 x (fun _ => min c2 (2 ^ 40 - 1)) }
  let s2 := (s1.floorNote (8 * x + 1) 1 0 (c1 < s.get F.BND_C1_FLOOR_C1)).floorNote (8 * x + 2) 2 0 (c2 < s.get F.BND_C2_FLOOR_C2)
  s2.epochIf (decide (s.c1 x < s1.c1 x ∨ s.c2 x < s1.c2 x)) 7

/-! ### Known offsets and the dispute term (R77, R78) -/

/-- An offset joins the OFFSET term under its source's key; a larger term advances the epoch. -/
def State.offsetJoin (s : State) (key v : Nat) : State :=
  let old := spGet (fun _ => 0) s.bnd.offsets key
  (s.modBnd fun b => { b with offsets := spSet (fun _ => 0) b.offsets key v }).epochIf (decide (old < v)) 1

/-- The realign step that removes an offset takes it out of the term (R78). -/
def State.offsetLeave (s : State) (key : Nat) : State :=
  s.modBnd fun b => { b with offsets := spSet (fun _ => 0) b.offsets key 0 }

/-- The dispute difference added to C1 changes; a rise advances the epoch (R77, R85). -/
def State.disputeSet (s : State) (v : Nat) : State :=
  (s.modBnd fun b => { b with dispute := v }).epochIf (decide (s.bnd.dispute < v)) 2

/-! ### Keeper bound states (R82) -/

/-- The condition that drives a keeper's bound to unbounded, as the cause of BND_UNBOUNDED; 0 for none. -/
def State.unbCause (s : State) (x : Nat) : Nat :=
  if !s.isIn x then 1
  else if s.vstate != vVote3 && s.vstate != vVote2 then 2
  else if s.unjudged then 3
  else if s.sumTerms x s.now ≥ bndUnbounded then 4
  else 0

/-- TRACK and COAST end in UNBOUNDED on any of its causes. -/
def State.unbCheck (s : State) (x : Nat) : State :=
  if s.bstate x ≠ bsUnbounded ∧ s.unbCause x ≠ 0 then
    ((s.put (bndStateFld x) bsUnbounded).raise Ev.BND_UNBOUNDED x (s.unbCause x)).epochLater 5
  else s

/-- A phase-valid sample accepted for keeper `x` (R82): REF and t_s load; the state becomes TRACK unless the sum is
unbounded. A REF term larger than the last advances the epoch. -/
def State.sampleKeeper (s : State) (x claim t : Nat) : State :=
  if s.isIn x && (s.vstate == vVote3 || s.vstate == vVote2) && !s.unjudged then
    let old := nth s.bnd.ref x
    let was := s.bstate x
    let s1 := s.modBnd fun b => { b with ref := listUpd b.ref x (fun _ => claim), ts := listUpd b.ts x (fun _ => t), tsSet := listUpd b.tsSet x (fun _ => true), takeover := false }
    if s1.sumTerms x s1.now ≥ bndUnbounded then
      if was = bsUnbounded then s1 else s1.unbCheck x
    else
      let s2 := s1.put (bndStateFld x) bsTrack
      if was = bsUnbounded then s2.raise Ev.BND_BOUNDED x (eb8Of (s2.sumTerms x s2.now))
      else s2.epochIf (decide (old < claim)) 3
  else s

/-- The REF term of keeper `x` for a sample (R110): the claim plus the magnitude of the keeper's offset from the sample,
the sample's offset plus KPR_x_OFS, rounded up to 1/16 ps. -/
def State.refTerm (s : State) (x claim : Nat) (ofs : Int) : Nat :=
  bndAdd claim (bndOfStampUnits (ofs + s.getI (F.KPR_x_OFS_OFS x)).natAbs)

/-- REF delivers a phase-valid sample of the selected slot with its claimed bound, if it has one (R76, R80): a claim below
SLOT_MIN is replaced by it and noted; without a claim SLOT_MIN stands alone and no value below the floor was delivered. -/
def State.bndSample (s : State) (slot : Nat) (claim : Option Nat) (t : Nat) (ofs : Int) (upSeq : Nat) : State :=
  let floor := s.getB (A.BND_SLOTn_MIN slot)
  let s0 := match claim with | some c => s.floorNote (64 + slot) 3 slot (c < floor) | none => s
  let s1 := s0.modBnd fun b => { b with upSeq := upSeq, lastSlot := some slot }
  [0, 1, 2].foldl (fun (s : State) x => s.sampleKeeper x (s.refTerm x (max (claim.getD 0) floor) ofs) t) s1

/-- A realign step moves every t_s with the time scale, so an interval stays the time since the sample (assumption log 8). -/
def State.bndStep (s : State) (d : Int) : State :=
  (s.modBnd fun b => { b with ts := b.ts.map (fun (t : Nat) => ((t : Int) + d).toNat) }).epochLater 6

/-- R82: no phase-valid sample for BND_SAMPLE_TIMEOUT ticks moves TRACK to COAST. -/
def State.sampleTimeout (s : State) (x : Nat) : State :=
  if s.bstate x = bsTrack ∧ nth s.bnd.ts x + s.get F.BND_SAMPLE_TIMEOUT_TICKS * lsbPerTick ≤ s.now then
    s.put (bndStateFld x) bsCoast
  else s

def execSampleTimeout (x : Fin 3) (s : State) : Host.Outcome State Fault Refusal := .next (s.sampleTimeout x)

/-! ### The vote's part (R83, R84, R92) -/

/-- The tick's peak of the voted core bound (R84): at most 128 ticks are held. -/
def peakNote (l : List (Nat × Nat)) (tick b : Nat) : List (Nat × Nat) :=
  match l with
  | (t, p) :: r => if t = tick then (t, max p b) :: r else ((tick, b) :: l).take 129
  | [] => [(tick, b)]

/-- The limits of R92. -/
def State.bndLimits (s : State) : State :=
  let v := s.votedCore s.now
  let above := decide (s.getB A.BND_HOLD_LIMIT < v)
  let below := decide (v < s.getB A.BND_SERVICE_LIMIT)
  let s1 := (s.putB F.BND_STAT_ABOVE_HOLD above).raiseIf (above && !s.flag F.BND_STAT_ABOVE_HOLD) Ev.BND_HOLD_LIMIT noInst (eb8Of v)
  let s2 := (s1.putB F.BND_STAT_BELOW_SERVICE below).raiseIf (below && !s1.bnd.serviceSeen) Ev.BND_SERVICE_LIMIT noInst (eb8Of v)
  s2.modBnd fun b => { b with serviceSeen := b.serviceSeen || below }

/-- Bits [5:2] of the FLAGS byte of R90: COAST, PHASE_SUSPECT, DISPUTE, VOTE2. -/
def State.boundConds (s : State) : Nat :=
  (if s.inVote.any (fun x => s.bstate x == bsCoast) then 4 else 0)
    + (if 0 < s.offsetTerm then 8 else 0) + (if 0 < s.bnd.dispute then 16 else 0) + (if s.vstate = vVote2 then 32 else 0)

/-- ASYM of a port; none for the core bound (port 31). -/
def State.asymOf (s : State) (port : Nat) : Nat := if port < 20 then s.getB (A.BND_PORTk_ASYM port) else 0

/-- The state in force from this vote on (R83). -/
def State.boundNow (s : State) : BoundVote :=
  { terms := [s.terms 0, s.terms 1, s.terms 2], voters := s.inVote, disagree := s.twoDisagree, asym := (List.range 20).map s.asymOf,
    flags := s.boundConds }

/-- BND's evaluation at a vote (R83): the keepers' states, the terms that take effect, the epoch they advance, the tick's peak
and the limits. -/
def State.bndVote (s : State) : State :=
  let s1 := [0, 1, 2].foldl (fun (s : State) x => s.unbCheck x) s
  let s2 := (s1.modBnd fun b => { b with atVote := s1.boundNow }).epochVote
  (s2.modBnd fun b => { b with peaks := peakNote b.peaks (tickOf s2.now) (s2.votedCore s2.now) }).bndLimits

/-! ### Requests (R84, R98) -/

/-- The voted core bound at one instant of a request (R84). DESIGN CHOICE (assumption log 78): an instant before the current
vote is answered from its tick's peak in every vote state, also where R57 makes the bound of every instant from now on unbounded. -/
def State.boundAt (s : State) (t : Nat) : Nat :=
  if s.kpr.voteNow ≤ t then s.votedCore t
  else if tickOf s.now ≤ tickOf t + 128 then
    match s.bnd.peaks.find? (fun p => p.1 == tickOf t) with
    | some p => p.2
    | none => bndUnbounded
  else bndUnbounded

/-- The bound a request is answered with: the larger of its instants' results, with ASYM (R84). -/
def State.boundReq (s : State) (port t3 : Nat) (received : Option Nat) : Nat :=
  let b := match received with
    | some t2 => max (s.boundAt t3) (s.boundAt t2)
    | none => s.boundAt t3
  bndAdd b (nth s.bnd.atVote.asym port)

/-- Bits [5:0] of the FLAGS byte of R90 for a bound. -/
def State.boundFlags (s : State) (b : Nat) : Nat :=
  (if b ≥ bndUnbounded then 1 else 0) + (if b < bndUnbounded ∧ eb8Of b = 0xFF then 2 else 0) + s.bnd.atVote.flags

/-- R84: BND answers a request with BND48, EB8, the flags and the epoch. -/
def execBoundRequest (port : Fin 20) (t3 : Nat) (received : Option Nat) (s : State) : Host.Outcome State Fault Refusal :=
  let b := s.boundReq port t3 received
  .next (s.answer (.words [BitVec.ofNat 32 b, BitVec.ofNat 32 (b / 2 ^ 32), BitVec.ofNat 32 (eb8Of b + 256 * s.boundFlags b),
    s.reg A.BND_EPOCH]))

/-- R98: a GO with PORT 20 to 30 is ignored whole; else the query runs on the registers as they stand and its result is
posted. -/
def State.bndQuery (s : State) (port : Nat) : State :=
  if 20 ≤ port % 32 ∧ port % 32 ≤ 30 then s
  else
    let s1 := s.put F.BND_QUERY_CMD_PORT port
    let b := s1.boundReq (port % 32) (s1.getKt (A.BND_QUERY_T 0)) none
    (s1.putWide A.BND_QRES_B 2 b).post A.BND_QRES (eb8Of b * 65536 + s1.boundFlags b * 2 ^ 24)

def execBndQueryGo (port : Nat) (s : State) : Host.Outcome State Fault Refusal := .next (s.bndQuery port)

/-- The 48-bit ASYM value that a write of one word of the pair would give. -/
def State.asymWith (s : State) (k : Nat) (high : Bool) (val : Word) : Nat :=
  let a := A.BND_PORTk_ASYM k
  if high then (s.lastWritten a).toNat + val.toNat % 65536 * 2 ^ 32
  else val.toNat + (s.lastWritten (a + 4)).toNat % 65536 * 2 ^ 32

/-- R81: a write that would lower the budget is refused with BND_ASYM_REFUSED; another is staged to the next tick. DESIGN CHOICE
(assumption log 78): each write of one word of the pair is judged by itself, with the other word as last written. -/
def State.asymWrite (s : State) (path : Path) (k : Nat) (high : Bool) (val : Word) : State :=
  let v := s.asymWith k high val
  if v < s.lastWide (A.BND_PORTk_ASYM k) 2 % 2 ^ 48 then s.raise Ev.BND_ASYM_REFUSED k (v % 2 ^ 32)
  else { s with staged := s.staged ++ [⟨path, A.BND_PORTk_ASYM k + (if high then 4 else 0), if high then 0xFFFF else 0xFFFFFFFF, val, s.now⟩] }

def execAsymWrite (path : Path) (k : Fin 20) (high : Bool) (val : Word) (s : State) : Host.Outcome State Fault Refusal :=
  .next (s.asymWrite path k high val)

/-! ### The traceability record (R93, R94) -/

/-- KMAX: the in-vote keeper with the largest core bound, the lowest letter on a tie. -/
def State.kmax (s : State) : Nat :=
  match s.bnd.atVote.voters with
  | [] => 0
  | x :: r => r.foldl (fun m y => if s.core m s.now < s.core y s.now then y else m) x

/-- The first 60 bytes of the record of second `sec` (R93). -/
def State.traceBody (s : State) (sec : Nat) : List Byte :=
  let km := s.kmax
  let k := s.voted km
  let unb := decide (s.votedCore s.now ≥ bndUnbounded)
  let selv := s.flag F.REF_STAT_SEL_VALID
  let sel := s.get F.REF_STAT_SEL
  let flags := (if unb then 1 else 0) + s.bnd.atVote.flags / 4 % 8 * 2 + (if s.bnd.floorFlag then 16 else 0)
    + (if s.unjudged then 32 else 0) + (if s.bnd.takeover then 64 else 0)
  let t (v : Nat) : List Byte := leBytes 6 (if unb then bndUnbounded else v)
  leBytes 6 sec ++ leBytes 2 flags ++ leBytes 4 s.bnd.traceSeq ++ leBytes 1 (if selv then sel else 0xFF)
    ++ leBytes 1 (if selv then s.get (F.REF_SLOTn_STAT_QL sel) else 15)
    ++ leBytes 1 (s.vstate + 8 * s.get F.KPR_STAT_MEMBER) ++ leBytes 1 (eb8Of (s.votedCore s.now))
    ++ t k.ref ++ t (k.hold s.now) ++ t k.hw ++ t (bndAdd k.ofs k.margin) ++ t (k.core s.now)
    ++ leBytes 1 km ++ leBytes 1 0 ++ leBytes 4 s.bnd.upSeq ++ leBytes 4 (s.get F.MGT_IMAGE_SERIAL_SERIAL) ++ leBytes 4 s.bnd.prevCrc

def traceQueueDepth : Nat := 64

/-- The record written to the DRAM ring (R94). DESIGN CHOICE (assumption log 78): a new BND_TRACE_BASE or BND_TRACE_SIZE leaves
WR and the count of records as they are. -/
def State.traceRing (s : State) (r : List Byte) : State :=
  let size := 2 ^ s.get F.BND_TRACE_SIZE_LOG2
  let wr := s.get F.BND_TRACE_STAT_WR
  let base := s.wide A.BND_TRACE_BASE 2 / 4096 * 4096
  let isOver := decide (size ≤ s.bnd.ringCount)
  let s1 := (s.dramWrite (base + 64 * wr) r).put F.BND_TRACE_STAT_WR ((wr + 1) % size)
  let s2 := if isOver then (s1.incrSat F.BND_TRACE_STAT_OVR).raiseIf (!s1.bnd.ovrSeen) Ev.BND_TRACE_OVR noInst wr else s1
  s2.modBnd fun b => { b with ringCount := b.ringCount + 1, ovrSeen := b.ovrSeen || isOver }

/-- The record queued on chip, the oldest discarded when 64 are held (R94). -/
def State.traceQueue (s : State) (r : List Byte) : State :=
  match s.bnd.queue with
  | old :: rest =>
    if s.bnd.queue.length < traceQueueDepth then s.modBnd fun b => { b with queue := b.queue ++ [r] }
    else ((s.incrSat F.BND_TRACE_STAT_DISC).raiseIf (!s.bnd.discSeen) Ev.BND_TRACE_DISC noInst (leNat ((old.drop 8).take 3))).modBnd
      fun b => { b with queue := rest ++ [r], discSeen := true }
  | [] => s.modBnd fun b => { b with queue := [r] }

/-- R93: at a voted second marker while any keeper is in the vote, one record is written to both places. -/
def State.traceRecord (s : State) (sec : Nat) : State :=
  if s.inVote.isEmpty then s
  else
    let body := s.traceBody sec
    let c := crc32 body
    let r := body ++ leBytes 4 c
    (((s.traceRing r).traceQueue r).modBnd fun b =>
      { b with traceSeq := (b.traceSeq + 1) % 2 ^ 32, prevCrc := c, floorFlag := false })

/-- The word BND_TRACE_POP answers (R12, R95). -/
def State.tracePopWord (s : State) : Word := match s.bnd.queue with
  | [] => 1
  | r :: _ => BitVec.ofNat 32 (2 * s.bnd.queue.length + 256 * leNat ((r.drop 8).take 3))

/-- R94, R12: a read of BND_TRACE_POP removes the head record. -/
def execBndTracePop (s : State) : Host.Outcome State Fault Refusal :=
  .next ((s.modBnd fun b => { b with queue := b.queue.drop 1, discSeen := false }).answer (.words [s.tracePopWord]))

/-- Word `n` of the head record (BND_TRACE_PEEK). -/
def State.tracePeek (s : State) (n : Nat) : Word := match s.bnd.queue with
  | [] => 0
  | r :: _ => BitVec.ofNat 32 (leNat ((r.drop (4 * n)).take 4))

/-! ### The live term words (R96) -/

/-- Word `w` (0 to 9) of keeper `x`'s term registers, at the last vote; all ones in UNBOUNDED. -/
def State.termWord (s : State) (x w : Nat) : Word :=
  let k := s.voted x
  if k.unb then (if w % 2 = 0 then 0xFFFFFFFF else 0xFFFF)
  else
    let t := s.kpr.voteNow
    let v := if w / 2 = 0 then k.ref else if w / 2 = 1 then k.hold t else if w / 2 = 2 then k.hw
      else if w / 2 = 3 then k.ofs else k.core t
    BitVec.ofNat 32 (v / 2 ^ (32 * (w % 2)))

/-! ### clockAccuracy (R91; the limits of IEEE 1588-2019, assumption log 17) -/

/-- The enumerated limits from 0x17, in ps. -/
def accLimits : List Nat :=
  [1, 2, 10, 25, 100, 250, 1000, 2500, 10000, 25000, 100000, 250000, 10 ^ 6, 25 * 10 ^ 5] ++
  [10 ^ 7, 25 * 10 ^ 6, 10 ^ 8, 25 * 10 ^ 7, 10 ^ 9, 25 * 10 ^ 8, 10 ^ 10, 25 * 10 ^ 9, 10 ^ 11, 25 * 10 ^ 10, 10 ^ 12, 10 ^ 13]

/-- A limit in units of 1/16 ps; the second is 2.5 ps. -/
def accUnits (ps : Nat) : Nat := if ps = 2 then 40 else 16 * ps

def clockAccuracy (b : Nat) : Nat :=
  if b ≥ bndUnbounded then 0xFE
  else match accLimits.findIdx? (fun l => decide (b ≤ accUnits l)) with
    | some i => 0x17 + i
    | none => 0x31

/-- The clockAccuracy an instance sends for a bound (R91, R266). -/
def State.accuracyOf (s : State) (i b : Nat) : Nat :=
  if s.flag F.BND_CFG_ANNOUNCE_ACC then clockAccuracy b else s.get (F.SVC_GMi_QUAL_ACC i)

end Sys2Proof.Machine
end

