-- ==== Sys2Proof/Machine/DscModel.lean ====
section
/-!
DEFINITION. The holdover model of an oscillator and the coefficients it gives BND (05_discipline_and_holdover.md R139 to
R142), and the witness model (R148).
-/
namespace Sys2Proof.Machine

open Sys2Proof

def State.osc (s : State) (o : Nat) : OscState := (s.dsc.oscs[o]?).getD OscState.blank
def State.modOsc (s : State) (o : Nat) (f : OscState → OscState) : State :=
  s.modDsc fun d => { d with oscs := listUpd d.oscs o f }

/-- Units of 2^-65 in one. -/
def two65 : Rat := 2 ^ 65

/-- Seconds of a difference of instants. -/
def secs (d : Int) : Rat := (d : Rat) / lsbPerSec

/-- TAI seconds [31:0] extended to the full count nearest voted time. -/
def State.fullSec (s : State) (lo : Nat) : Nat :=
  ((s.now / lsbPerSec : Nat) + toSigned 32 (lo + 2 ^ 32 - s.now / lsbPerSec % 2 ^ 32)).toNat

/-- The last valid reading of the oscillator's sensor, degrees (R139). -/
def State.temp (s : State) (o : Nat) : Rat := (s.getI (F.DSC_OSCx_TEMP_T o) : Rat) / 256

/-- f_o(t) of R139, relative. -/
def State.foAt (s : State) (o : Nat) (m : OscModel) (t : Nat) : Rat :=
  (m.f0 : Rat) / two65 + (m.a1 : Rat) / 10 ^ 21 * secs ((t : Int) - m.tm * lsbPerSec)
    + (if s.flag (F.DSC_OSCx_TEMP_VALID o) then (m.kt : Rat) / 10 ^ 15 * (s.temp o - (m.tref : Rat) / 256) else 0)

/-- KV in relative units per code (R130). -/
def State.kv (s : State) (o : Nat) : Rat := (s.getI (F.DSC_OSCx_KV_KV o) : Rat) / 10 ^ 18

/-- The steering mode in force (R128, R129). -/
def State.oscMode (s : State) (o : Nat) : Nat :=
  if s.flag (F.DSC_OSCx_CFG_NEVER_STEER o) then 0 else s.get (F.DSC_OSCx_CFG_MODE o)

/-- The control's distance from the point the model describes: the code from EFC_PARK, or the word from zero. -/
def State.codeOffset (s : State) (o : Nat) : Int :=
  if s.oscMode o = 1 then (s.get (F.DSC_OSCx_EFC_CODE o) : Int) - s.get (F.DSC_OSCx_EFC_PARK_PARK o)
  else if s.oscMode o = 2 then s.getI (F.DSC_OSCx_WORD_WORD o) else 0

/-- W_o(t) of R139 in units of 2^-65: minus the model's frequency, plus the effect of the applied code. -/
def State.modelWord (s : State) (o : Nat) (m : OscModel) (t : Nat) : Rat :=
  two65 * (- s.foAt o m t + s.kv o * s.codeOffset o)

/-- t_s of a keeper; before its first sample the midpoint of the current tick (R141). -/
def State.tsOf (s : State) (x : Nat) : Nat :=
  if (s.bnd.tsSet[x]?).getD false then nth s.bnd.ts x else (s.nextTick - 1) * lsbPerTick + lsbPerTick / 2

/-- The newest commit whose epoch is at least MODEL_LAG before `ts` (R141). -/
def State.pickModel (s : State) (o ts : Nat) : Option OscModel :=
  (s.osc o).models.find? (fun m => decide ((m.tm + s.get F.DSC_MODEL_CFG_MODEL_LAG) * lsbPerSec ≤ ts))

def dsBridge : Nat := 4
def dsHoldover : Nat := 5
def dsFree : Nat := 6

def State.dstate (s : State) : Nat := s.get F.DSC_STAT_STATE

/-- BRIDGE, HOLDOVER or FREE: W_o follows the model. -/
def State.onModel (s : State) : Bool := s.dstate == dsBridge || s.dstate == dsHoldover || s.dstate == dsFree

/-- The model in force (R141): chosen with the time source's t_s, and fixed at the entry to BRIDGE, HOLDOVER or FREE. -/
def State.modelOf (s : State) (o : Nat) : Option OscModel :=
  if s.onModel then (s.dsc.inForce[o]?).getD none else s.pickModel o (s.tsOf (min s.tsrc 2))

/-- The models in force are fixed on entry to a state that applies them. -/
def State.fixModels (s : State) : State :=
  let l := [0, 1, 2].map fun o => s.pickModel o (s.tsOf (min s.tsrc 2))
  s.modDsc fun d => { d with inForce := l }

/-- MODEL_VALID of an oscillator (R141). -/
def State.modelValid (s : State) (o : Nat) : Bool :=
  match s.modelOf o with
  | some m => decide (s.get F.DSC_MODEL_CFG_FIT_MIN ≤ m.span)
  | none => false

/-- The ceiling of a rational as a natural number. -/
def ceilNat (q : Rat) : Nat := q.ceil.toNat

/-- C1 units of 2^-32 BND48 per us in 10^-15 (R142). -/
def c1Of (uf : Nat) : Nat := ceilNat ((uf : Rat) * 68719476736 / 10 ^ 9)
def c2Of (u : Nat) : Nat := ceilNat ((u : Rat) * 147573952589676412928 / 10 ^ 21)

/-- The two coefficients of R142 for a keeper, each step rounding up. `extra` is the TRACK_FREQ term. -/
def State.coeffs (s : State) (x extra : Nat) : Nat × Nat :=
  let o := s.oscOf x
  match s.modelOf o with
  | some m =>
    if s.modelValid o then
      let ds := ceilNat (secs ((s.tsOf x : Int) - m.tm * lsbPerSec))
      let uf := m.uf + (m.ua * ds + 999999) / 1000000
        + (if s.bit F.DSC_STAT_TEMP_FAIL o then (m.kt.natAbs * s.get (F.DSC_OSCx_TENV_TSPAN o) + 15) / 16 else 0) + extra
      (c1Of uf, c2Of (m.ua + m.uk * s.get (F.DSC_OSCx_TENV_TRATE_MAX o)))
    else (c1Of (s.get F.DSC_UF_NOMODEL_UF + extra), 0)
  | none => (c1Of (s.get F.DSC_UF_NOMODEL_UF + extra), 0)

/-- The model of keeper `x`'s oscillator: the one in force, or the one W_o was loaded from. -/
def State.keeperModel (s : State) (x : Nat) : OscModel := (s.modelOf (s.oscOf x)).getD (s.osc (s.oscOf x)).initial

/-- f_o now of keeper `x`'s oscillator, relative (R139). -/
def State.foKeeper (s : State) (x : Nat) : Rat := s.foAt (s.oscOf x) (s.keeperModel x) s.now

/-- f_model of R116, in 10^-15: what a true reference would read, the modelled frequency of voted time: what the time source's
applied word exceeds the word that R139 gives its oscillator by. -/
def State.fModel (s : State) : Rat :=
  let x := min s.tsrc 2
  10 ^ 15 * ((if s.tsrc < 3 then (s.freqWord s.tsrc : Rat) else 0) - s.modelWord (s.oscOf x) (s.keeperModel x) s.now) / two65

/-- w(t) of R148, relative; 0 before the first commit (R333). -/
def State.witnessAt (s : State) (t : Nat) : Rat :=
  match s.dsc.wit with
  | some (w0, w1, tw, _) => (w0 : Rat) / 10 ^ 13 + (w1 : Rat) / 10 ^ 21 * secs ((t : Int) - tw * lsbPerSec)
  | none => 0

/-- witness_confirms of R116: over 64 ticks the change of the keepers' frequency against WCLK agrees with the change the
model predicts within REF_WIT_AGREE; never while the witness is STALE (R149) or WCLK stands, when disputes cannot be judged (R29). -/
def State.witnessConfirms (s : State) : Bool :=
  !s.flag F.DSC_WIT_STAT_STALE && s.clockRuns 8 &&
    (match s.dsc.witHist[64]?, s.dsc.modHist[64]? with
     | some w, some m =>
       decide ((((s.dsc.witHist.headD 0 - w) - (s.dsc.modHist.headD 0 - m)).natAbs : Nat) ≤ s.get F.REF_WIT_AGREE_LIMIT)
     | _, _ => false)

end Sys2Proof.Machine
end

