-- ==== Sys2Proof/Machine/Ref.lean ====
section
/-!
DEFINITION. The reference selector (04_reference_selection.md R100 to R127, R505, R506): what arrives for a slot, its
samples and frequency, qualification, disputes, selection, the staged switch and the commands.
-/
namespace Sys2Proof.Machine

open Sys2Proof

def rsOff : Nat := 0
def rsMonitor : Nat := 1
def rsQualifying : Nat := 2
def rsWtr : Nat := 3
def rsQualified : Nat := 4
def rsHeld : Nat := 5

def State.sl (s : State) (n : Nat) : RefSlot := (s.ref.slots[n]?).getD RefSlot.blank
def State.modSl (s : State) (n : Nat) (f : RefSlot → RefSlot) : State := s.modRef fun r => { r with slots := listUpd r.slots n f }

def allSlots : List Nat := List.range 16
/-- An operation on every slot, in order. -/
def State.eachSlot (s : State) (f : State → Nat → State) : State := allSlots.foldl f s

def State.slotState (s : State) (n : Nat) : Nat := s.get (F.REF_SLOTn_STAT_STATE n)
def State.slotType (s : State) (n : Nat) : Nat := s.get (F.REF_SLOTn_BIND_TYPE n)
def State.slotIndex (s : State) (n : Nat) : Nat := s.get (F.REF_SLOTn_BIND_INDEX n)
def State.suspect (s : State) (n : Nat) : Bool := s.flag (F.REF_SLOTn_STAT_PHASE_SUSPECT n)
def State.demoted (s : State) (n : Nat) : Bool := s.flag (F.REF_SLOTn_STAT_DEMOTED n)
def State.mutual (s : State) (n : Nat) : Bool := s.flag (F.REF_SLOTn_STAT_MUTUAL n)
def State.lockout (s : State) (n : Nat) : Bool := s.flag (F.REF_SLOTn_STAT_LOCKOUT n)
def State.slotQl (s : State) (n : Nat) : Nat := s.get (F.REF_SLOTn_STAT_QL n)
def State.rank (s : State) (n : Nat) : Nat := s.get (F.REF_SLOTn_CFG_RANK n)

/-- The selected slot. -/
def State.selected (s : State) : Option Nat := if s.flag F.REF_STAT_SEL_VALID then some (s.get F.REF_STAT_SEL) else none

/-- The current tick count: that of the last boundary. -/
def State.curTick (s : State) : Nat := s.nextTick - 1

/-- Voted time stands at a tick boundary: the one last taken. REF acts at no other instant (R22, R101), and what is due every so
many ticks comes at one (R24). -/
def State.atTick (s : State) : Bool := s.tickAt == some s.now

/-- A type 1 slot bound to a pin of a kind (R101): 1 PPS, 2 frequency. -/
def State.pinKind (s : State) (n : Nat) : Nat :=
  if s.slotType n = 1 then s.get (F.REF_PIN_CFG_KIND (s.slotIndex n)) else 0

/-- The slot's source gives phase (R100, R101). -/
def State.givesPhase (s : State) (n : Nat) : Bool :=
  s.pinKind n == 1 || s.slotType n == 2 || s.slotType n == 3 || s.slotType n == 4 || s.slotType n == 5

/-- The slot gives phase-valid samples: QUALIFIED, a phase source, not PHASE_SUSPECT (R108). -/
def State.phaseValid (s : State) (n : Nat) : Bool := s.givesPhase n && s.slotState n == rsQualified && !s.suspect n

/-- The masks and PHASE_VALID follow the slot's status (R125). -/
def State.refMasks (s : State) (n : Nat) : State :=
  let pv := s.phaseValid n
  (((((s.putB (F.REF_SLOTn_STAT_PHASE_VALID n) pv).putBit F.REF_QUAL_MASK_PHASE_VALID n pv).putBit F.REF_QUAL_MASK_QUALIFIED n
    (s.slotState n == rsQualified)).putBit F.REF_FLAG_MASK_DISPUTE n (s.demoted n || s.mutual n)).putBit F.REF_FLAG_MASK_SUSPECT n
      (s.suspect n))

def State.setSlot (s : State) (n st : Nat) : State := (s.put (F.REF_SLOTn_STAT_STATE n) st).refMasks n

/-- A history bit sets; its event is raised only when the bit changes from 0 to 1 (R115). -/
def State.hist (s : State) (n b event detail : Nat) : State :=
  if s.bit (F.REF_SLOTn_HIST_HIST n) b then s
  else (s.putBit (F.REF_SLOTn_HIST_HIST n) b true).raise event n detail

/-- A history bit sets without an event of its own. -/
def State.histQuiet (s : State) (n b : Nat) : State := s.putBit (F.REF_SLOTn_HIST_HIST n) b true

/-! ### Quality (R111, R112) -/

/-- A slot's QL becomes the mapped value of its latest indication. -/
def State.setQl (s : State) (n q : Nat) : State :=
  let q := min q 15
  if q = s.slotQl n then s
  else (s.put (F.REF_SLOTn_STAT_QL n) q).raise Ev.REF_QL_CHANGE n (s.slotQl n + 16 * q)

/-- QL of a clockClass (R111). -/
def State.ptpQl (s : State) (c : Nat) : Nat := (s.reg (A.REF_PTPQL (c / 8))).toNat / 2 ^ (4 * (c % 8)) % 16

/-- QL of an SSM code, and of an extended QL TLV where present (R111). The codes of the extended TLV are those of G.8264
(assumption log 10). -/
def esmcQl (ssm : Nat) (extended : Option (Fin 256)) : Nat :=
  match extended with
  | some e =>
    if e.val = 0x20 then 1 else if e.val = 0x21 then 0 else if e.val = 0x22 then 9 else if e.val = 0x23 then 2
    else if ssm = 0x2 then 3 else if ssm = 0x4 then 5 else if ssm = 0x8 then 7 else if ssm = 0xB then 10 else 15
  | none => if ssm = 0x2 then 3 else if ssm = 0x4 then 5 else if ssm = 0x8 then 7 else if ssm = 0xB then 10 else 15

/-! ### Frequency (R505) -/

/-- The shortest run of the newest changes whose intervals add to at least 64 ticks; all of them where they add to
less. -/
def takeRun : List Change → Nat → List Change
  | [], _ => []
  | c :: cs, need => if need ≤ c.dt then [c] else c :: takeRun cs (need - c.dt)

def runSpan (l : List Change) : Nat := l.foldl (fun a c => a + c.dt) 0

/-- f of a run of changes, relative. -/
def runFreq (l : List Change) : Rat := ((16 * l.foldl (fun a c => a + c.d) 0 : Int) : Rat) / runSpan l

/-- The slot's frequency offset in 10^-15, where the changes used span 64 ticks. DESIGN CHOICE (assumption log 79): rounded to the
nearest unit. -/
def State.slotFreq (s : State) (n : Nat) : Option Int :=
  let run := takeRun (s.sl n).changes (64 * lsbPerTick)
  if 64 * lsbPerTick ≤ runSpan run then some (satI 32 (roundRat (runFreq run * 10 ^ 15) + s.injArg 0x32 n)) else none

/-- A measurement of a slot: its change from the one before enters R505, unless it spans a step or its sample was
refused. -/
def State.measure (s : State) (n : Nat) (ofs : Int) (t : Nat) (refused : Bool) : State :=
  let y := s.yAt t
  s.modSl n fun sl =>
    let cs := match sl.meas with
      | some (o, t0, y0) => if sl.brk || refused || t ≤ t0 then sl.changes else takeRun (⟨ofs - o, t - t0, y - y0⟩ :: sl.changes) (64 * lsbPerTick)
      | none => sl.changes
    { sl with meas := some (ofs, t, y), brk := false, changes := cs }

/-! ### Samples (R106 to R110) -/

/-- A slot becomes PHASE_SUSPECT with an offset in 2^-12 ns; a slot that is already keeps the larger magnitude (R108). -/
def State.setSuspect (s : State) (n : Nat) (ofs : Int) : State :=
  let b := bndSat (bndOfStampUnits ofs.natAbs)
  if s.suspect n then s.putWide (A.REF_SLOTn_SUSP n) 2 (max b (s.getB (A.REF_SLOTn_SUSP n)))
  else
    (((s.putB (F.REF_SLOTn_STAT_PHASE_SUSPECT n) true).putWide (A.REF_SLOTn_SUSP n) 2 b).refMasks n).hist n 4 Ev.REF_SUSPECT
      (detI (ofs / 4096))

/-- The offset register holds a signed 48-bit value (R126). -/
def sat48 (v : Int) : Int := satI 48 v

/-- The slot's offset from voted time at its last sample. -/
def State.slotOfs (s : State) (n : Nat) : Int := toSigned 48 (s.wide (A.REF_SLOTn_OFS n) 2)

/-- The offset R107 expects at `t`: the last one accepted, carried forward by the slot's frequency. -/
def State.expectedOfs (s : State) (n t : Nat) : Option Int :=
  (s.sl n).expected.map fun p =>
    p.1 + roundRat (((s.slotFreq n).getD 0 : Int) / 10 ^ 15 * ((t : Rat) - p.2) / 16)

/-- Whether the jump check refuses a sample (R107). -/
def State.jumps (s : State) (n : Nat) (ofs : Int) (t : Nat) : Option Int :=
  let lim := s.get (F.REF_SLOTn_JUMP_JUMP_LIMIT n)
  match s.expectedOfs n t with
  | some e => if lim ≠ 0 ∧ lim * 4096 < (ofs - e).natAbs then some (ofs - e) else none
  | none => none

/-- A sample of a phase slot (R106, R107): `secDiff` is the whole-second difference a ToD frame showed, 0 for none. The
sample is refused and makes the slot PHASE_SUSPECT, or is accepted: the next is expected from it, and its claim and TRACE_SEQ go with
it. R505 leaves out the change that ends at a sample R107 refused. -/
def State.refPhaseOf (s : State) (n : Nat) (ofs : Int) (t : Nat) (claim : Option Nat) (upSeq : Nat) (secDiff : Int) : State :=
  let s1 := s.putWideI (A.REF_SLOTn_OFS n) 2 (sat48 ofs)
  let note (s : State) (refused : Bool) : State :=
    if s.pinKind n == 1 && s.flag (F.REF_SLOTn_BIND_COMP_EN n) then s else s.measure n ofs t refused
  if secDiff ≠ 0 then
    (((note s1 false).hist n 8 Ev.REF_TOD_ERR 4).incrSat (F.REF_SLOTn_CNT_REFUSED n)).setSuspect n (secDiff * 1000000000 * 4096)
  else
    match s1.jumps n ofs t with
    | some move =>
      (((note s1 true).hist n 3 Ev.REF_JUMP (detI (move / 4096))).incrSat (F.REF_SLOTn_CNT_REFUSED n)).setSuspect n ofs
    | none =>
      let s2 := ((note s1 false).incr (F.REF_SLOTn_CNT_ACCEPTED n)).put (F.REF_SLOTn_UPSEQ_UP_SEQ n) upSeq
      let s3 := if s2.suspect n then s2.setSuspect n ofs else s2
      s3.modSl n fun sl => { sl with newSample := true, claim := claim, sampleAt := t, expected := some (ofs, t) }

/-- The sample with what an injection adds to its offset, in ns (R484). -/
def State.refPhase (s : State) (n : Nat) (ofs : Int) (t : Nat) (claim : Option Nat) (upSeq : Nat) (secDiff : Int) : State :=
  (s.injUse 0x31 n).refPhaseOf n (ofs + s.injArg 0x31 n * 4096) t claim upSeq secDiff

/-- An edge of a PPS pin: the whole voted second it marks, an edge midway marking the later (R106). -/
def markedSecond (t : Nat) : Nat := (t + lsbPerSec / 2) / lsbPerSec

/-- A PPS edge taken at the tick (R105, R106): the ToD frame that waits describes it; without one the last frame's claim stands for
4 s. DESIGN CHOICE (assumption log 79): UP_SEQ of an edge without a frame is 0xFFFF_FFFF. -/
def State.refEdge (s : State) (n t : Nat) : State :=
  let sec := markedSecond t
  let ofs : Int := ((t : Int) - sec * lsbPerSec) / 16
  let sl := s.sl n
  let s0 := s.modSl n fun sl => { sl with seen := true, lastEdge := t }
  if s.flag (F.REF_SLOTn_BIND_TOD_EN n) then
    match sl.tod with
    | some f =>
      let s1 := s0.modSl n fun sl => { sl with tod := none, todClaim := some (f.bound, f.endAt) }
      s1.refPhase n ofs t f.bound f.upSeq ((f.sec : Int) - sec)
    | none =>
      match sl.todClaim with
      | some (b, at_) => s0.refPhase n ofs t (if t ≤ at_ + 4 * lsbPerSec then b else none) 0xFFFFFFFF 0
      | none => s0.refPhase n ofs t none 0xFFFFFFFF 0
  else s0.refPhase n ofs t none 0xFFFFFFFF 0

/-! ### ToD frames (R104, R105) -/

/-- The slots that name a TOD_IN line. -/
def State.todSlots (s : State) (line : Nat) : List Nat :=
  allSlots.filter fun n => s.slotType n == 1 && s.flag (F.REF_SLOTn_BIND_TOD_EN n) && s.get (F.REF_SLOTn_BIND_TOD n) == line

/-- Bytes `[i, i+n)` of a frame as a big-endian number. -/
def beAt (l : List Byte) (i n : Nat) : Nat := beNat ((l.drop i).take n)

/-- Begins with SYNC and holds 24 bytes (R105). -/
def todIsFrame (l : List Byte) : Bool := l.length == 24 && beAt l 0 2 == 0xA55A

/-- TYPE, LEN and CRC as R104 gives them. -/
def todFormatOk (l : List Byte) : Bool :=
  beAt l 2 1 == 1 && beAt l 3 1 == 24 && crc16 0xFFFF#16 ((l.drop 2).take 20) == beAt l 22 2

/-- The claim a frame carries: none without BOUND_PRESENT; 0xFF is unbounded (R105). -/
def todBound (l : List Byte) : Option Nat :=
  if beAt l 15 1 / 2 % 2 = 1 then some (if beAt l 14 1 = 0xFF then bndUnbounded else eb8Value (beAt l 14 1)) else none

/-- The frame ends between 100 ms and 900 ms after the slot's preceding edge (R105). -/
def State.todTimely (s : State) (n endAt : Nat) : Bool :=
  (s.sl n).seen && decide ((s.sl n).lastEdge + lsbPerSec / 10 ≤ endAt ∧ endAt ≤ (s.sl n).lastEdge + lsbPerSec / 10 * 9)

/-- R105: a frame is judged, counted, and waits for the next edge of the slots that name its line. DESIGN CHOICE (assumption log 79):
a frame timely for one slot and late for another counts in LATE alone. -/
def State.todFrame (s : State) (line : Nat) (l : List Byte) (endAt : Nat) : State :=
  if !todIsFrame l || !s.flag (F.REF_TOD_CFG_ENABLE line) then s
  else if !todFormatOk l then
    (s.todSlots line).foldl (fun (s : State) n => s.hist n 7 Ev.REF_TOD_ERR 1) (s.incrSat (F.REF_TOD_STAT_CRC line))
  else
    let late := (s.todSlots line).filter (fun n => !s.todTimely n endAt)
    let ok := (s.todSlots line).filter (fun n => s.todTimely n endAt)
    let s1 := if late.isEmpty then s.incr (F.REF_TOD_STAT_OK line) else s.incrSat (F.REF_TOD_STAT_LATE line)
    let s2 := late.foldl (fun (s : State) n => s.hist n 7 Ev.REF_TOD_ERR 2) s1
    ok.foldl (fun (s : State) n =>
      (s.modSl n fun sl => { sl with tod := some ⟨beAt l 4 6, todBound l, beAt l 16 4, endAt⟩, todClaim := some (todBound l, endAt) }).setQl n
        (min (beAt l 13 1) 15)) s2

def execTodFrame (line : Fin 4) (frame : List Byte) (endAt : Nat) (s : State) : Host.Outcome State Fault Refusal :=
  .next (s.todFrame line frame endAt)

/-- Cause TOD stands: a ToD slot without a valid frame since it left OFF, or none for more than 4 s (R105). -/
def State.todStanding (s : State) (n : Nat) : Bool :=
  s.slotType n == 1 && s.flag (F.REF_SLOTn_BIND_TOD_EN n) &&
    (match (s.sl n).todClaim with
     | some (_, t) => decide (t + 4 * lsbPerSec < s.now)
     | none => true)

/-! ### Packet references (R101 to R103, R506) -/

/-- The slots bound to a source type and index. -/
def State.slotsOf (s : State) (typ idx : Nat) : List Nat :=
  allSlots.filter fun n => s.slotType n == typ && s.slotIndex n == idx

/-- The port of a packet reference's instance: the one with a queue bound to consumer 3 with its INDEX (R506). -/
def State.packetPort (s : State) (inst : Nat) : Option Nat :=
  (List.range 20).find? fun x => (List.range 8).any fun q =>
    s.get (F.PRT_x_RXQq_CFG_CONSUMER x q) == 3 && s.get (F.PRT_x_RXQq_CFG_INDEX x q) == inst

/-- Offset from voted time of an exchange (R267): half the difference of the two corrected paths, in 2^-12 ns. -/
def exchOfs (e : Exchange) : Int := ((e.t2 - e.t1 - e.corrSync) - (e.t4 - e.t3 - e.corrDelay)) / 32

/-- Its mean path delay, in 2^-16 ns. -/
def exchDelay (e : Exchange) : Int := ((e.t2 - e.t1 - e.corrSync) + (e.t4 - e.t3 - e.corrDelay)) / 2

/-- The claim of an exchange: the upstream bound plus the receiving port's ASYM budget (R76); none without an EB8. -/
def State.exchClaim (s : State) (inst : Nat) (e : Exchange) : Option Nat :=
  e.eb8.map fun (c : Fin 256) =>
    bndAdd (if c.val = 0xFF then bndUnbounded else eb8Value c.val) (match s.packetPort inst with | some p => s.asymOf p | none => 0)

/-- R102, R103: an exchange is delivered; a change of master is recorded and the QL re-derived. One whose local stamps carry
different STEP counts is discarded (R231, R267). -/
def State.packetExchange (s : State) (inst : Nat) (e : Exchange) : State :=
  if e.step2 ≠ e.step3 then s
  else (s.slotsOf 3 inst).foldl (fun (s : State) n =>
    let sl := s.sl n
    let changed := sl.masterSeen && (sl.gm != e.grandmaster || sl.portId != e.sourcePort)
    let s1 := if changed then (s.hist n 6 Ev.REF_MASTER_CHANGE (e.grandmaster % 2 ^ 32)).setQl n (s.ptpQl sl.annClass) else s
    s1.modSl n fun sl =>
      { sl with masterSeen := true, gm := e.grandmaster, portId := e.sourcePort, seen := true, lastEdge := e.at_,
                exch := sl.exch ++ [⟨exchOfs e, exchDelay e, s.exchClaim inst e, e.traceSeq, e.at_⟩] }) s

def execPacketExchange (inst : Fin 4) (e : Exchange) (s : State) : Host.Outcome State Fault Refusal :=
  .next (s.packetExchange inst e)

/-- R113, R111: an Announce gives the slot its clockClass, QL and interval, and restarts the timeout count. -/
def State.packetAnnounce (s : State) (inst : Nat) (cls : Nat) (log : Int) (t : Nat) : State :=
  (s.slotsOf 3 inst).foldl (fun (s : State) n =>
    (s.modSl n fun sl => { sl with annSeen := true, lastAnn := t, annLog := log, annClass := cls }).setQl n (s.ptpQl cls)) s

def execPacketAnnounceRx (inst : Fin 4) (cls : Fin 256) (log : Int) (t : Nat) (s : State) : Host.Outcome State Fault Refusal :=
  .next (s.packetAnnounce inst cls log t)

/-- The exchange with the smallest mean path delay (R102). DESIGN CHOICE (assumption log 79): of two with the same, the one
delivered first. -/
def bestExch : List RefExch → Option RefExch
  | [] => none
  | e :: es => match bestExch es with
    | none => some e
    | some b => if b.delay < e.delay then some b else some e

/-- The tick's exchanges of a slot: the chosen one is the sample, every one enters the frequency (R102, R505). -/
def State.packetTick (s : State) (n : Nat) : State :=
  match bestExch (s.sl n).exch with
  | none => s
  | some b =>
    let s1 := (s.sl n).exch.foldl (fun (s : State) e =>
      if e = b then s.refPhase n e.ofs e.at_ e.claim e.upSeq 0 else s.measure n e.ofs e.at_ false) s
    s1.modSl n fun sl => { sl with exch := [] }

/-- R111: an ESMC PDU updates the QL of the slots recovered from its port. -/
def State.esmcPdu (s : State) (dp ssm : Nat) (ext : Option (Fin 256)) (t : Nat) : State :=
  (s.slotsOf 6 dp).foldl (fun (s : State) n =>
    (s.modSl n fun sl => { sl with esmcSeen := true, lastEsmc := t }).setQl n (esmcQl ssm ext)) s

def execEsmcPdu (dp ssm : Fin 16) (ext : Option (Fin 256)) (t : Nat) (s : State) : Host.Outcome State Fault Refusal :=
  .next (s.esmcPdu dp ssm ext t)

/-! ### Qualification (R113, R114) -/

/-- Announce intervals allowed, as an instant after the last one (R113). -/
def annSpan (count : Nat) (log : Int) : Nat :=
  if 0 ≤ log then count * 2 ^ log.toNat * lsbPerSec else count * lsbPerSec / 2 ^ (-log).toNat

/-- The slot's edges over the ticks held are at least half those expected (R113). -/
def State.freqPinActive (s : State) (n pin : Nat) : Bool :=
  let cs := (s.sl n).edgeCounts
  let expected := s.get (F.REF_PIN_CFG_FREQ pin) * cs.length * 2 ^ 20
  decide (expected ≤ 2 * cs.sum * 1000000000)

/-- PPS: an edge since the slot left OFF, and less than 1.1 s since the last (R113). -/
def State.ppsActive (s : State) (n : Nat) : Bool :=
  (s.sl n).seen && decide (s.now < (s.sl n).lastEdge + lsbPerSec / 10 * 11)
def State.packetActive (s : State) (n : Nat) : Bool :=
  (s.sl n).seen && decide (s.now < (s.sl n).lastEdge + s.get (F.REF_SLOTn_LOS_LOS n) * lsbPerTick)
def State.announceActive (s : State) (n : Nat) : Bool :=
  (s.sl n).annSeen && decide (s.now < (s.sl n).lastAnn + annSpan (s.get (F.REF_SLOTn_LOS_ANN_TIMEOUT n)) (s.sl n).annLog)
def State.esmcActive (s : State) (n : Nat) : Bool :=
  (s.sl n).esmcSeen && decide (s.now < (s.sl n).lastEsmc + 5 * lsbPerSec)

/-- The source is active (R113). -/
def State.slotActive (s : State) (n : Nat) : Bool :=
  if s.injOn 0x30 n then false
  else if s.slotType n = 1 then
    (if s.pinKind n = 1 then s.ppsActive n && (!s.flag (F.REF_SLOTn_BIND_COMP_EN n) || s.freqPinActive n (s.get (F.REF_SLOTn_BIND_COMP_PIN n)))
     else s.pinKind n = 2 && s.freqPinActive n (s.slotIndex n))
  else if s.slotType n = 3 then s.packetActive n && s.announceActive n
  else if s.slotType n = 6 then (s.sl n).active && s.esmcActive n
  else (s.sl n).active

/-- The slot's frequency lies outside FREQ_LIMIT, or it has no measurement (R113). -/
def State.freqFails (s : State) (n : Nat) : Bool :=
  match s.slotFreq n with | some f => decide (s.get (F.REF_SLOTn_FLIM_FREQ_LIMIT n) < f.natAbs) | none => true

/-- The slot's QL exceeds its limit, or is 15 (R112). -/
def State.qlFails (s : State) (n : Nat) : Bool :=
  s.slotQl n == 15 || decide (s.get (F.REF_SLOTn_CFG_QL_LIMIT n) < s.slotQl n)

/-- The standing failure cause of a slot: 1 LOS, 2 FREQ, 3 QL, 4 TOD, 5 DISABLED; 0 none (R113). DESIGN CHOICE (assumption log 79):
of several, the first in this order after DISABLED. -/
def State.slotCause (s : State) (n : Nat) : Nat :=
  if !s.flag (F.REF_SLOTn_CFG_ENABLE n) then 5
  else if !s.slotActive n then 1
  else if s.freqFails n then 2
  else if s.qlFails n then 3
  else if s.todStanding n then 4 else 0

/-- The history bits of every condition that holds where a slot's criteria fail (R115). -/
def State.causeHist (s : State) (n cause : Nat) : State :=
  if cause = 0 ∨ cause = 5 then s
  else
    let s1 := if s.slotActive n then s else s.histQuiet n 0
    let s2 := if s.freqFails n then s1.histQuiet n 1 else s1
    if s.qlFails n then s2.histQuiet n 2 else s2

/-- R111: five seconds without an ESMC PDU make the QL of a recovered-frequency slot 15. -/
def State.esmcCheck (s : State) (n : Nat) : State := if s.slotType n == 6 && !s.esmcActive n then s.setQl n 15 else s

/-- The slot fails with cause TOD: TOD_ERR sets when the cause comes to stand (R105, R115). -/
def State.todCheck (s : State) (n : Nat) : State :=
  let st := s.todStanding n
  (if st && !(s.sl n).todWas then s.hist n 7 Ev.REF_TOD_ERR 8 else s).modSl n fun sl => { sl with todWas := st }

/-- R109: a qualifying slot whose offset lies within the capture window stays phase-valid; another, and every slot while
the vote is in INIT, becomes PHASE_SUSPECT. -/
def State.captureCheck (s : State) (n : Nat) : State :=
  if s.givesPhase n && (s.vstate == vInit || decide (s.get F.DSC_CAPTURE_WINDOW * 4096 < (s.slotOfs n).natAbs)) then
    s.setSuspect n (s.slotOfs n)
  else s

/-- A slot leaves QUALIFYING, WTR or QUALIFIED with a cause, to `st`. -/
def State.slotFail (s : State) (n cause st : Nat) : State :=
  (((s.causeHist n cause).put (F.REF_SLOTn_STAT_CAUSE n) cause).setSlot n st).raise Ev.REF_FAILED n cause

/-- The slot's indication before anything is received: DEF_QL for a pin without a ToD line, else 15 (R111). -/
def State.defaultQl (s : State) (n : Nat) : Nat :=
  if s.slotType n = 1 ∧ ¬ s.flag (F.REF_SLOTn_BIND_TOD_EN n) then s.get (F.REF_SLOTn_BIND_DEF_QL n) else 15

/-- R113, R114: one slot's criteria judged and its state moved. The completions of QUAL_TIME and WTR are commands of
their own. -/
def State.slotCheck (s : State) (n : Nat) : State :=
  let st := s.slotState n
  let en := s.flag (F.REF_SLOTn_CFG_ENABLE n)
  if st = rsOff then
    if en && s.slotType n != 0 then
      ((s.modSl n fun _ => { RefSlot.blank with qualified := (s.sl n).qualified, active := (s.sl n).active, offAt := s.now }).setQl n (s.defaultQl n)).setSlot n rsMonitor
    else s
  else
    let s := (s.esmcCheck n).todCheck n
    let c := s.slotCause n
    let sel := s.selected == some n
    if c = 5 then
      if st = rsMonitor then (s.put (F.REF_SLOTn_STAT_CAUSE n) 5).setSlot n rsOff
      else if st = rsHeld then (s.put (F.REF_SLOTn_STAT_CAUSE n) 5).modSl n fun sl => { sl with disabled := true }
      else if st = rsQualified && sel then (s.slotFail n 5 rsHeld).modSl n fun sl => { sl with disabled := true }
      else s.slotFail n 5 rsOff
    else if st = rsMonitor then
      if c = 0 then (s.modSl n fun sl => { sl with qualStart := s.now }).setSlot n rsQualifying else s
    else if st = rsQualifying || st = rsWtr then (if c = 0 then s else s.slotFail n c rsMonitor)
    else if st = rsQualified then
      (if c = 0 then s else if sel then s.slotFail n c rsHeld else s.slotFail n c rsMonitor)
    else s

/-- Seconds left in QUALIFYING or WTR (R126). -/
def State.slotLeft (s : State) (n : Nat) : State :=
  let left (t0 dur : Nat) : Nat := (t0 + dur * lsbPerSec - s.now + lsbPerSec - 1) / lsbPerSec
  let v := if s.slotState n = rsQualifying then left (s.sl n).qualStart (s.get (F.REF_SLOTn_TIME_QUAL_TIME n))
    else if s.slotState n = rsWtr then left (s.sl n).wtrStart (s.get (F.REF_SLOTn_TIME_WTR n)) else 0
  s.put (F.REF_SLOTn_STAT_WTR_LEFT n) v

/-- A slot enters QUALIFIED (R114, R127). -/
def State.enterQualified (s : State) (n : Nat) : State :=
  ((s.modSl n fun sl => { sl with qualified := true }).setSlot n rsQualified).raise Ev.REF_QUALIFIED n (s.slotQl n)

/-- R114: the criteria have held for QUAL_TIME: R109 is applied, and the slot qualifies, or waits to restore where it has
qualified before. -/
def State.qualComplete (s : State) (n : Nat) : State :=
  if s.slotState n = rsQualifying ∧ s.slotCause n = 0 ∧
      (s.sl n).qualStart + s.get (F.REF_SLOTn_TIME_QUAL_TIME n) * lsbPerSec ≤ s.now then
    if (s.sl n).qualified then
      ((s.captureCheck n).modSl n fun sl => { sl with wtrStart := s.now }).setSlot n rsWtr
    else (s.captureCheck n).enterQualified n
  else s

def execQualificationComplete (n : Fin 16) (s : State) : Host.Outcome State Fault Refusal :=
  .next (if s.atTick then s.qualComplete n else s)

/-- R114: the WTR seconds have elapsed. -/
def State.wtrComplete (s : State) (n : Nat) : State :=
  if s.slotState n = rsWtr ∧ (s.sl n).wtrStart + s.get (F.REF_SLOTn_TIME_WTR n) * lsbPerSec ≤ s.now then s.enterQualified n else s

def execWtrComplete (n : Fin 16) (s : State) : Host.Outcome State Fault Refusal := .next (if s.atTick then s.wtrComplete n else s)

/-! ### Timeouts (R113, R105) -/

/-- A failure is declared at a tick boundary: the slot's criteria are judged where its condition holds. -/
def State.checkIf (s : State) (n : Nat) (c : Bool) : State := if s.atTick && c then s.slotCheck n else s

def execTodStale (n : Fin 16) (s : State) : Host.Outcome State Fault Refusal :=
  .next (s.checkIf n (s.slotType n == 1 && s.todStanding n))
def execPpsEdgeTimeout (n : Fin 16) (s : State) : Host.Outcome State Fault Refusal :=
  .next (s.checkIf n (s.pinKind n == 1 && !s.ppsActive n))
def execPacketLos (n : Fin 16) (s : State) : Host.Outcome State Fault Refusal :=
  .next (s.checkIf n (s.slotType n == 3 && !s.packetActive n))
def execAnnounceTimeout (n : Fin 16) (s : State) : Host.Outcome State Fault Refusal :=
  .next (s.checkIf n (s.slotType n == 3 && !s.announceActive n))
def execEsmcTimeout (n : Fin 16) (s : State) : Host.Outcome State Fault Refusal :=
  .next (s.checkIf n (s.slotType n == 6 && !s.esmcActive n))

/-! ### Disputes (R116, R117) -/

/-- The mean over the ticks held, at most 64, of f_a - f_b, in 10^-15; none where either slot has no measurement. -/
def State.meanDiff (s : State) (a b : Nat) : Option Rat :=
  let ds := List.zipWith (fun x y => x - y) (s.sl a).fHist (s.sl b).fHist
  if (s.slotFreq a).isSome && (s.slotFreq b).isSome && !ds.isEmpty then some ((ds.sum : Int) / (ds.length : Rat)) else none

/-- A slot's mean f over the ticks held, at most 64, in 10^-15; none without a measurement (R142). -/
def State.meanFreq (s : State) (n : Nat) : Option Rat :=
  let l := (s.sl n).fHist
  if (s.slotFreq n).isSome && !l.isEmpty then some ((l.sum : Int) / (l.length : Rat)) else none

/-- A pair R116 examines. -/
def State.examined (s : State) (a b : Nat) : Bool :=
  s.slotState a == rsQualified && s.slotState b == rsQualified && s.rank a == s.rank b && !s.suspect a && !s.suspect b

def ratAbs (q : Rat) : Rat := if q < 0 then -q else q

inductive Verdict where
  | clear | aLoses | bLoses | inDispute
  deriving DecidableEq, Repr

/-- dispute_check of R116. -/
def State.disputeCheck (s : State) (a b : Nat) : Verdict :=
  match s.meanDiff a b with
  | none => .clear
  | some diff =>
    if !s.examined a b then .clear
    else
      let limit := max (s.get (F.REF_SLOTn_FDIS_FDIS_LIMIT a)) (s.get (F.REF_SLOTn_FDIS_FDIS_LIMIT b))
      if ratAbs diff ≤ (limit : Rat) then .clear
      else if !s.witnessConfirms then .inDispute
      else
        let da := ratAbs ((((s.slotFreq a).getD 0 : Int) : Rat) - s.fModel)
        let db := ratAbs ((((s.slotFreq b).getD 0 : Int) : Rat) - s.fModel)
        if 2 * da ≤ db ∧ s.slotQl a ≤ s.get (F.REF_SLOTn_CFG_QL_LIMIT a) then .bLoses
        else if 2 * db ≤ da ∧ s.slotQl b ≤ s.get (F.REF_SLOTn_CFG_QL_LIMIT b) then .aLoses
        else .inDispute

/-- A slot is demoted, or enters mutual dispute (R117). -/
def State.disputeMark (s : State) (n other : Nat) (both : Bool) : State :=
  let f := if both then F.REF_SLOTn_STAT_MUTUAL n else F.REF_SLOTn_STAT_DEMOTED n
  (((s.putB f true).modSl n fun sl => { sl with clearSince := s.now }).refMasks n).hist n 5 Ev.REF_DISPUTE (other + (if both then 16 else 0))

/-- Both slots of a pair that is not clear restart their count of clear seconds. -/
def State.disputePair (s : State) (a b : Nat) : State :=
  let touch (s : State) : State :=
    (s.modSl a fun sl => { sl with clearSince := s.now }).modSl b fun sl => { sl with clearSince := s.now }
  match s.disputeCheck a b with
  | .clear => s
  | .bLoses => (touch s).disputeMark b a false
  | .aLoses => (touch s).disputeMark a b false
  | .inDispute =>
    let concerns := match s.selected with
      | some n => n == a || n == b || s.rank n == s.rank a
      | none => false
    (((touch s).disputeMark a b true).disputeMark b a true).modRef fun r =>
      { r with passing := if concerns && !r.passing.contains (a, b) then (a, b) :: r.passing else r.passing }

def allPairs : List (Nat × Nat) := allSlots.flatMap fun a => (allSlots.filter (a < ·)).map fun b => (a, b)

/-- The largest |diff| among the pairs passed, rounded up into C1 units (R117). -/
def State.mutualDiff (s : State) : Nat :=
  s.ref.passing.foldl (fun m p => match s.meanDiff p.1 p.2 with
    | some d => max m (ceilNat (ratAbs d * 68719476736 / 10 ^ 9))
    | none => m) 0

/-- What REF passes to BND while a mutual dispute concerns the selection (R117): a pair is passed until its dispute ends. -/
def State.passDispute (s : State) : State :=
  let s1 := s.modRef fun r => { r with passing := r.passing.filter fun p => s.mutual p.1 && s.mutual p.2 }
  (s1.disputeSet s1.mutualDiff).putB F.REF_STAT_MUTUAL (!s1.ref.passing.isEmpty)

def State.disputeTick (s : State) : State :=
  (allPairs.foldl (fun (s : State) p => s.disputePair p.1 p.2) s).passDispute

/-- R117: demotion or mutual dispute ends when every pair of the slot has been clear for its WTR seconds. -/
def State.disputeClear (s : State) (n : Nat) : State :=
  if s.atTick && (s.demoted n || s.mutual n) && decide ((s.sl n).clearSince < s.now) && decide ((s.sl n).clearSince + s.get (F.REF_SLOTn_TIME_WTR n) * lsbPerSec ≤ s.now) then
    ((((s.putB (F.REF_SLOTn_STAT_DEMOTED n) false).putB (F.REF_SLOTn_STAT_MUTUAL n) false).refMasks n).raise Ev.REF_DISPUTE_CLEAR n).passDispute
  else s

def execDisputeClear (n : Fin 16) (s : State) : Host.Outcome State Fault Refusal := .next (s.disputeClear n)

/-! ### Selection (R118) -/

/-- The candidates C. -/
def State.candidates (s : State) : List Nat :=
  allSlots.filter fun n => s.slotState n == rsQualified && !s.lockout n && !s.mutual n

/-- The key of a slot, as one number in the order of R118. -/
def State.selKey (s : State) (n : Nat) : Nat :=
  let r := s.rank n + (if s.demoted n then 1 else 0)
  if s.flag F.REF_CFG_QL_FIRST then (s.slotQl n * 32 + r) * 16 + n else (r * 32 + s.slotQl n) * 16 + n

/-- The candidate with the smallest key. -/
def State.bestOf (s : State) : List Nat → Option Nat
  | [] => none
  | n :: ns => match s.bestOf ns with
    | none => some n
    | some m => if s.selKey m < s.selKey n then some m else some n

/-- select() of R118; on a STANDBY unit the peer slot comes first where it is a candidate (R403). -/
def State.select (s : State) : Option Nat :=
  if s.flag F.REF_STAT_HOLDOVER_FORCED then none
  else
    let c := s.candidates
    let forced := s.get F.REF_STAT_FORCED_SLOT
    let peer := if s.isStandby then c.find? (fun n => s.slotType n == 5) else none
    if peer.isSome then peer
    else if s.flag F.REF_STAT_FORCED && c.contains forced then some forced
    else match s.bestOf c with
      | none => none
      | some best => match s.selected with
        | some cur =>
          if c.contains cur then
            if best = cur then some cur
            else if s.selKey best < s.selKey cur ∧ (s.flag (F.REF_SLOTn_CFG_REVERTIVE best) ∨ s.demoted cur) then some best
            else some cur
          else some best
        | none => some best

/-! ### The staged switch (R119 to R121) -/

/-- The selection becomes a slot or none. -/
def State.setSelected (s : State) (t : Option Nat) : State :=
  let s1 := s.eachSlot fun s n => s.putB (F.REF_SLOTn_STAT_SELECTED n) (t == some n)
  match t with
  | some n => ((s1.putB F.REF_STAT_SEL_VALID true).put F.REF_STAT_SEL n).putB F.REF_STAT_FREQ_ONLY (!s1.phaseValid n)
  | none => ((s1.putB F.REF_STAT_SEL_VALID false).put F.REF_STAT_SEL 0).putB F.REF_STAT_FREQ_ONLY false

/-- The result of a switch posted with its O (R119). -/
def State.postSwitch (s : State) (result : Nat) (l : Option Nat) (t : Option Nat) (ofs : Int) (susp : Bool) : State :=
  (s.putWideI A.REF_SW_OFS 2 (sat48 ofs)).post A.REF_SW_RES
    (2 * result + 16 * l.getD 0 + 65536 * t.getD 0 + (if l.isNone then 2 ^ 20 else 0) + (if t.isNone then 2 ^ 21 else 0) + (if susp then 2 ^ 22 else 0))

/-- The switch is over: PENDING clears; a HELD slot that was left goes to MONITOR, or OFF where it was disabled (R114). -/
def State.endSwitch (s : State) : State :=
  let s1 := (s.modRef fun r => { r with pend := none }).putB F.REF_STAT_PENDING false
  s1.eachSlot fun s n =>
    if s.slotState n = rsHeld then
      (if (s.sl n).disabled then (s.setSlot n rsOff).modSl n fun sl => { sl with disabled := false } else s.setSlot n rsMonitor)
    else s

/-- Selection becomes none (R119). -/
def State.dropSelection (s : State) : State :=
  (s.setSelected none).raise Ev.REF_HOLDOVER noInst (if s.flag F.REF_STAT_HOLDOVER_FORCED then 1 else 0)

/-- STEADY: the selection that select() names starts a switch, whose result is awaited (R11), or drops at once to none (R119). DESIGN
CHOICE (assumption log 79): INSTANCE of REF_SWITCH_START, REF_SWITCH_ABANDON and REF_SELECT is T, of REF_SWITCH_CANCEL L. -/
def State.switchStart (s : State) : State :=
  let t := s.select
  if t = s.selected then s
  else match t with
    | some n =>
      ((((s.modRef fun r => { r with pend := some ⟨s.selected, n, s.curTick, s.slotOfs n⟩ }).putB F.REF_STAT_PENDING true).put
        F.REF_STAT_TARGET n).unpost A.REF_SW_RES).raise Ev.REF_SWITCH_START n (s.selected.getD 0 + 16 * n + (if s.selected.isNone then 256 else 0))
    | none => ((s.postSwitch 1 s.selected none 0 false).endSwitch).dropSelection

/-- The cause that abandons a pending switch to `t` (R119); 0 for none. -/
def State.abandonCause (s : State) (t : Nat) : Nat :=
  if s.flag F.REF_STAT_HOLDOVER_FORCED then 5
  else if !s.flag (F.REF_SLOTn_CFG_ENABLE t) then 3
  else if s.lockout t then 2
  else if s.mutual t then 4
  else if s.slotState t ≠ rsQualified then 1 else 0

/-- The left slot was HELD, its cause has cleared and it is revertive (R119, R121). -/
def State.cancels (s : State) (p : Switch) : Bool :=
  match p.left with
  | some l => s.slotState l == rsHeld && !(s.sl l).disabled && s.slotCause l == 0 && s.flag (F.REF_SLOTn_CFG_REVERTIVE l)
  | none => false

/-- The tick's upkeep of a pending switch: O taken afresh; then cancel, abandon or go on. -/
def State.switchTick (s : State) : State :=
  match s.ref.pend with
  | none => s.switchStart
  | some q =>
    let p := { q with ofs := s.slotOfs q.target }
    let c := s.abandonCause p.target
    if c ≠ 5 && s.cancels p then
      let l := p.left.getD 0
      (((s.setSlot l rsQualified).endSwitch).hist l 9 Ev.REF_SWITCH_CANCEL (l + 16 * p.target)).postSwitch 2 p.left (some p.target) p.ofs false
    else if c ≠ 0 then
      let s1 := (s.raise Ev.REF_SWITCH_ABANDON p.target (p.target + 16 * c)).postSwitch 3 p.left (some p.target) p.ofs false
      let stays := c != 5 && (match p.left with | some l => s.slotState l == rsQualified | none => false)
      if stays then s1.endSwitch
      else if p.left.isSome then (s1.endSwitch).dropSelection
      else if c = 5 then (s1.endSwitch).dropSelection else s1.endSwitch
    else s.modRef fun r => { r with pend := some p }

/-- Phase build-out lasts 96 ticks (R119). -/
def buildOut : Nat := 96

/-- A pending switch may commit now. -/
def State.commitDue (s : State) : Option Switch :=
  match s.ref.pend with
  | some p => if s.atTick ∧ p.start + buildOut ≤ s.curTick ∧ s.abandonCause p.target = 0 ∧ s.cancels p = false then some p else none
  | none => none

/-- R119: the commit: T becomes selected, R109 is applied with the latest O, a HELD L goes to MONITOR. -/
def State.refCommit (s : State) (p : Switch) : State :=
  let s1 := s.captureCheck p.target
  let s2 := (s1.endSwitch).setSelected (some p.target)
  let susp := s2.suspect p.target
  (s2.postSwitch 1 p.left (some p.target) p.ofs susp).raise Ev.REF_SELECT p.target
    (p.left.getD 0 + 16 * p.target + (if p.left.isNone then 256 else 0) + (if susp then 512 else 0))

/-! ### Commands (R123) -/

/-- A command joins those judged at the next tick. -/
def State.refCmd (s : State) (op n : Nat) : State := if op = 0 then s else s.modRef fun r => { r with cmds := r.cmds ++ [(op, n)] }

def execRefForce (n : Fin 16) (s : State) : Host.Outcome State Fault Refusal := .next (s.refCmd 1 n)
def execRefLockout (n : Fin 16) (s : State) : Host.Outcome State Fault Refusal := .next (s.refCmd 2 n)
def execRefUnlock (n : Fin 16) (s : State) : Host.Outcome State Fault Refusal := .next (s.refCmd 3 n)
def execRefClearForce (s : State) : Host.Outcome State Fault Refusal := .next (s.refCmd 4 0)
def execRefForceHoldover (s : State) : Host.Outcome State Fault Refusal := .next (s.refCmd 5 0)
def execRefClearHoldover (s : State) : Host.Outcome State Fault Refusal := .next (s.refCmd 6 0)

/-- R123: OP 7 to 15 is refused with REF_CMD_REFUSED; OP 0 is no operation, and 1 to 6 are the commands. -/
def execRefCmdInvalidOp (op n : Fin 16) (s : State) : Host.Outcome State Fault Refusal :=
  .next (if 7 ≤ op.val then s.raise Ev.REF_CMD_REFUSED noInst (op.val + 256 * n.val) else s.refCmd op n)

/-- A command that the boundary takes: FORCE needs a qualified slot. -/
def State.refTaken (s : State) (c : Nat × Nat) : Bool := c.1 != 1 || s.slotState c.2 == rsQualified

/-- One command judged against the state at the boundary. -/
def State.refJudge (s : State) (op n : Nat) : State :=
  if op = 1 then
    if s.slotState n = rsQualified then (s.putB F.REF_STAT_FORCED true).put F.REF_STAT_FORCED_SLOT n
    else s.raise Ev.REF_CMD_REFUSED noInst (1 + 256 * n)
  else if op = 2 then (s.putB (F.REF_SLOTn_STAT_LOCKOUT n) true).put (F.REF_SLOTn_STAT_CAUSE n) 6
  else if op = 3 then s.putB (F.REF_SLOTn_STAT_LOCKOUT n) false
  else if op = 4 then (s.putB F.REF_STAT_FORCED false).put F.REF_STAT_FORCED_SLOT 0
  else if op = 5 then s.putB F.REF_STAT_HOLDOVER_FORCED true
  else if op = 6 then s.putB F.REF_STAT_HOLDOVER_FORCED false
  else s

def State.refCommands (s : State) : State :=
  let r := s.ref.cmds.foldl (fun (p : State × List Bool) c => (p.1.refJudge c.1 c.2, p.2 ++ [p.1.refTaken c])) (s, [])
  r.1.modRef fun k => { k with cmds := [], judged := r.2 }

/-! ### The tick (R107, R113, R116, R118, R119) -/

/-- f of each slot taken at the tick, and its register (R505). -/
def State.freqTick (s : State) (n : Nat) : State :=
  match s.slotFreq n with
  | some f => (s.putI (F.REF_SLOTn_FREQ_FREQ n) f).modSl n fun sl => { sl with fHist := (f :: sl.fHist).take 64 }
  | none => (s.putI (F.REF_SLOTn_FREQ_FREQ n) 0).modSl n fun sl => { sl with fHist := [] }

/-- The sample of the selected slot goes to BND where it is phase-valid and accepted (R82, R110); the offset of a selected
PHASE_SUSPECT slot joins the OFFSET term (R78, R108). -/
def State.deliverTick (s : State) : State :=
  match s.selected with
  | none => s
  | some n =>
    let s1 := if s.phaseValid n && (s.sl n).newSample then
        s.bndSample n (s.sl n).claim (s.sl n).sampleAt (s.slotOfs n) (s.get (F.REF_SLOTn_UPSEQ_UP_SEQ n)) else s
    let s2 := if s1.suspect n then s1.offsetJoin n (s1.getB (A.REF_SLOTn_SUSP n)) else s1
    s2.putB F.REF_STAT_FREQ_ONLY (!s2.phaseValid n)

/-- REF's decisions at a tick boundary, once the samples of the tick are in. -/
def State.refTick (s : State) : State :=
  let s1 := s.refCommands
  let s2 := s1.eachSlot fun s n => s.packetTick n
  let s3 := s2.eachSlot fun s n => s.freqTick n
  let s4 := s3.eachSlot fun s n => (s.slotCheck n).slotLeft n
  let s5 := s4.disputeTick
  (s5.switchTick).deliverTick

/-- The samples of the tick are spent once DSC has had them. -/
def State.refTickEnd (s : State) : State := s.eachSlot fun s n => s.modSl n fun sl => { sl with newSample := false }

/-! ### The realign step in REF (R107, R505) -/

/-- Every slot's expected offset and measurement moves with voted time; the next change spans the step and is left out. -/
def State.refStep (s : State) (d : Int) : State :=
  s.eachSlot fun s n =>
    ((if s.givesPhase n && s.slotState n != rsOff then s.putWideI (A.REF_SLOTn_OFS n) 2 (sat48 (s.slotOfs n + d / 16)) else s).modSl n fun sl =>
      { sl with expected := sl.expected.map (fun p => (p.1 + d / 16, ((p.2 : Int) + d).toNat)), brk := true,
                meas := sl.meas.map (fun p => (p.1 + d / 16, ((p.2.1 : Int) + d).toNat, p.2.2)),
                lastEdge := ((sl.lastEdge : Int) + d).toNat, lastAnn := ((sl.lastAnn : Int) + d).toNat, lastEsmc := ((sl.lastEsmc : Int) + d).toNat,
                qualStart := ((sl.qualStart : Int) + d).toNat, wtrStart := ((sl.wtrStart : Int) + d).toNat,
                clearSince := ((sl.clearSince : Int) + d).toNat, todClaim := sl.todClaim.map (fun p => (p.1, ((p.2 : Int) + d).toNat)),
                exch := sl.exch.map (fun e => { e with ofs := e.ofs + d / 16, at_ := ((e.at_ : Int) + d).toNat }) })

/-- A slot-form realign clears the slot's PHASE_SUSPECT (R108, R152); the next sample is expected from the offset measured, moved by
the step, so that the slot gives phase-valid samples again (DEDUCED, assumption log 11). -/
def State.suspectClear (s : State) (n : Nat) : State :=
  if s.suspect n then
    ((((s.putB (F.REF_SLOTn_STAT_PHASE_SUSPECT n) false).putWide (A.REF_SLOTn_SUSP n) 2 0).refMasks n).modSl n fun sl =>
      { sl with expected := some (s.slotOfs n, s.now) }).raise Ev.REF_SUSPECT_CLEAR n
  else s

end Sys2Proof.Machine
end

