-- ==== Sys2Proof/Machine/Dsc.lean ====
section
/-!
DEFINITION. Discipline and holdover (05_discipline_and_holdover.md R128 to R157, R507): the loop and its guardrails, the
states, model and witness commits, oscillator controls and sensors, and the realign command.
-/
namespace Sys2Proof.Machine

open Sys2Proof

def dsInit : Nat := 0
def dsAcquire : Nat := 1
def dsTrackPhase : Nat := 2
def dsTrackFreq : Nat := 3

/-- ACQUIRE, TRACK_PHASE or TRACK_FREQ. -/
def State.tracking (s : State) : Bool := s.dstate == dsAcquire || s.dstate == dsTrackPhase || s.dstate == dsTrackFreq

/-- The followed slot (R144): the selected slot, or the left slot while a switch is pending. -/
def State.followed (s : State) : Option Nat :=
  match s.ref.pend with
  | some p => p.left
  | none => s.selected

/-- A change of state raises DSC_STATE; P is 0 outside TRACK_PHASE, and BW_CLAMP belongs to the loop. PULLING stands until a phase
lock (R144). -/
def State.setDsc (s : State) (st : Nat) : State :=
  if st = s.dstate then s
  else
    let s1 := (s.put F.DSC_STAT_STATE st).raise Ev.DSC_STATE noInst (s.dstate + 16 * st)
    let s2 := if st = dsTrackPhase then s1 else s1.modDsc fun d => { d with p := 0 }
    if s2.tracking then s2 else s2.putB F.DSC_STAT_BW_CLAMP false

/-- The phase loop engages: PULLING sets and the pull-in starts (R144). -/
def State.engage (s : State) : State :=
  ((s.setDsc dsTrackPhase).putB F.DSC_STAT_PULLING true).modDsc fun d =>
    { d with pullStart := s.now, slewSeen := false, lockCount := 0, lastUpd := none }

/-- The clockClass advertised (R145). -/
def State.clockClass (s : State) : Nat :=
  if s.votedCore s.now ≥ bndUnbounded then s.get F.DSC_CLASS_OTHER
  else if s.dstate = dsTrackPhase ∨ s.dstate = dsBridge then s.get F.DSC_CLASS_LOCKED
  else if s.dstate = dsTrackFreq ∨ s.dstate = dsHoldover then s.get F.DSC_CLASS_HOLD
  else if s.dstate = dsFree then s.get F.DSC_CLASS_FREE
  else s.get F.DSC_CLASS_OTHER

/-! ### Frequency words (R136, R137) -/

/-- Every W_o moved by the same increment, in units of 2^-65. -/
def State.bumpW (s : State) (d : Rat) : State :=
  s.modDsc fun c => { c with oscs := c.oscs.map (fun o => { o with w := o.w + d }) }

/-- The cap of R137 on a steering word, in units of 2^-65. -/
def State.freqCapOf (s : State) : Int := (two65 * s.get F.DSC_FMAX_FMAX / 10 ^ 12).floor

/-- Keeper `x`'s steering word: W_o of its oscillator with the part that is the keeper's own, and P in TRACK_PHASE (R136). -/
def State.rawWord (s : State) (x : Nat) : Int :=
  roundRat ((s.osc (s.oscOf x)).w + (if s.dstate = dsTrackPhase then s.dsc.p * two65 / 10 ^ 15 else 0))
    + (s.dsc.moved[x]?).getD 0

/-- The word applied to keeper `x`, capped; a capped word raises DSC_FREQ_LIMIT (R137). -/
def State.steerKeeper (s : State) (x : Nat) : State :=
  let y := s.rawWord x
  let cap := s.freqCapOf
  let s1 := s.raiseIf (decide (cap < (y.natAbs : Int))) Ev.DSC_FREQ_LIMIT noInst x
  (s1.modKp x fun k => { k with steer := max (-cap) (min cap y) }).reformFreq x

def State.steerAll (s : State) : State := [0, 1, 2].foldl (fun (s : State) x => s.steerKeeper x) s

/-- P, capped at DSC_SLEW_MAX; DSC_SLEW_LIMIT at the first capped update of a pull-in (R137). -/
def State.setP (s : State) (p : Rat) : State :=
  let cap : Rat := s.get F.DSC_SLEW_MAX_SLEW
  let isOver := decide (cap < ratAbs p)
  let s1 := if isOver && s.flag F.DSC_STAT_PULLING && !s.dsc.slewSeen then
      (s.raise Ev.DSC_SLEW_LIMIT noInst (detI (s.getI F.DSC_LOOP_PERR_PERR / 4096))).modDsc fun d => { d with slewSeen := true }
    else s
  s1.modDsc fun d => { d with p := max (-cap) (min cap p) }

/-! ### The loop (R133 to R135) -/

/-- The interval of the slot's samples in seconds (R135): 1 s for a PPS pin and GNSS (R505), 64 ticks for the peer (R404), the
interval measured for a packet reference, which delivers as its exchanges come, and a tick for the others (R505). -/
def State.sampleDt (s : State) (n : Nat) (measured : Rat) : Rat :=
  if s.pinKind n = 1 ∨ s.slotType n = 2 then 1
  else if s.slotType n = 5 then 64 * secs lsbPerTick
  else if s.slotType n = 3 then max measured (secs lsbPerTick)
  else secs lsbPerTick

/-- The bandwidth configured for the state, in hertz, and the damping. -/
def State.loopCfg (s : State) (n : Nat) : Rat × Nat :=
  if s.dstate = dsAcquire then ((s.get F.DSC_ACQ_BW_BW : Rat) / 10000, s.get F.DSC_ACQ_BW_ZETA)
  else ((s.get (F.DSC_SLOTn_BW_BW n) : Rat) / 10000, s.get (F.DSC_SLOTn_BW_ZETA n))

/-- wn and zeta in force for samples `dt` seconds apart, and whether the clamp of R135 acts. -/
def State.loopGain (s : State) (n : Nat) (dt : Rat) : Rat × Rat × Bool :=
  let c := s.loopCfg n
  let lim := 1 / (20 * dt)
  (loopWn1 c.2 * min c.1 lim, (c.2 : Rat) / 256, decide (lim < c.1))

/-- Seconds since the loop's last update on this slot; 0 at its first. -/
def State.sinceUpd (s : State) (n t : Nat) : Rat :=
  match s.dsc.lastUpd with
  | some (m, t0) => if m = n ∧ t0 < t then secs ((t : Int) - t0) else 0
  | none => 0

/-- A new sample of the slot came at this tick; a source of frequency alone delivers one every tick (R133). -/
def State.hasSample (s : State) (n : Nat) : Bool := (s.sl n).newSample || !s.givesPhase n

/-- The instant of that sample. -/
def State.sampleTime (s : State) (n : Nat) : Nat := if (s.sl n).newSample then (s.sl n).sampleAt else s.now

def State.noteUpd (s : State) (n : Nat) (clamp : Bool) : State :=
  (s.putB F.DSC_STAT_BW_CLAMP clamp).modDsc fun d => { d with lastUpd := some (n, s.sampleTime n) }

/-- The phase loop's update: P from the error, the integrator from its integral over the time since the last update. While P stands
at its cap the integrator holds, so that the offset goes at the cap's rate and no faster (R138; assumption log 12). -/
def State.pllUpdate (s : State) (n : Nat) : State :=
  let dt := s.sinceUpd n (s.sampleTime n)
  let (wn, z, clamp) := s.loopGain n (s.sampleDt n dt)
  let phi : Rat := (s.slotOfs n : Rat) / (4096 * 1000000000)
  let p := -(2 * z * wn * phi) * 10 ^ 15
  let s1 := (s.putI F.DSC_LOOP_PERR_PERR (satI 32 (s.slotOfs n))).setP p
  (if (s.get F.DSC_SLEW_MAX_SLEW : Rat) < ratAbs p then s1 else s1.bumpW (-(wn * wn * phi * dt) * two65)).noteUpd n clamp

/-- The frequency-locked loop's update: W_o moves by the slot's frequency offset times the loop's proportional gain over
the interval, at most the whole offset (assumption log 12). -/
def State.fllUpdate (s : State) (n : Nat) : State :=
  let dt := s.sinceUpd n (s.sampleTime n)
  let (wn, z, clamp) := s.loopGain n (s.sampleDt n dt)
  match s.slotFreq n with
  | some f => (s.bumpW (-(min 1 (2 * z * wn * dt) * f / 10 ^ 15 * two65))).noteUpd n clamp
  | none => s.noteUpd n clamp

/-- Consecutive ticks within the lock limit of the state (R144). -/
def State.countLock (s : State) (n : Nat) : State :=
  let ok := if s.dstate = dsAcquire then
      (match s.slotFreq n with | some f => decide (f.natAbs ≤ s.get F.DSC_FLOCK_LIMIT_LIMIT) | none => false)
    else s.dstate == dsTrackPhase && s.flag F.DSC_STAT_PULLING &&
      decide ((s.getI F.DSC_LOOP_PERR_PERR).natAbs ≤ s.get F.DSC_LOCK_TIME_PLOCK_LIMIT * 4096)
  s.modDsc fun d => { d with lockCount := if ok then d.lockCount + 1 else 0 }

def State.lockHeld (s : State) : Bool := decide (s.get F.DSC_LOCK_TIME_FLOCK_TICKS ≤ s.dsc.lockCount)

/-- R144: frequency lock ends ACQUIRE. -/
def State.freqLock (s : State) : State :=
  match s.followed with
  | some n =>
    if s.dstate = dsAcquire ∧ s.lockHeld then
      let s1 := s.raise Ev.DSC_FLOCK noInst (detSat 16 (s.curTick - s.dsc.acqTick))
      if s.phaseValid n then s1.engage else s1.setDsc dsTrackFreq
    else s
  | none => s

def execDscFreqLock (s : State) : Host.Outcome State Fault Refusal := .next (if s.atTick then s.freqLock else s)

/-- R144: phase lock clears PULLING. -/
def State.phaseLock (s : State) : State :=
  if s.dstate = dsTrackPhase ∧ s.flag F.DSC_STAT_PULLING ∧ s.lockHeld then
    ((s.putB F.DSC_STAT_PULLING false).modDsc fun d => { d with lockCount := 0 }).raise Ev.DSC_PLOCK noInst
      (detSat 32 ((s.now - s.dsc.pullStart) / (lsbPerSec / 1000)))
  else s

def execDscPhaseLock (s : State) : Host.Outcome State Fault Refusal := .next (if s.atTick then s.phaseLock else s)

/-- The loop at a tick (R133, R144). -/
def State.trackTick (s : State) (n : Nat) : State :=
  let s1 := if s.dstate = dsTrackPhase ∧ s.suspect n then (s.setDsc dsTrackFreq)
    else if s.dstate = dsTrackFreq ∧ s.phaseValid n then s.engage else s
  let s2 := if s1.hasSample n then (if s1.dstate = dsTrackPhase then s1.pllUpdate n else s1.fllUpdate n) else s1
  s2.countLock n

/-! ### Entering and leaving the states (R144, R507) -/

/-- The word that held the slot's offset constant over R505's window (R507), in units of 2^-65; none where the window is
not full. -/
def State.preloadWord (s : State) (n : Nat) : Option Rat :=
  let run := takeRun (s.sl n).changes (64 * lsbPerTick)
  if 64 * lsbPerTick ≤ runSpan run then
    some (-((run.foldl (fun a c => a + (16 * c.d * 2 ^ 65 - c.y)) 0 : Int) : Rat) / runSpan run)
  else none

/-- The preload: every W_o moves by what brings the time source's word to the preload word. -/
def State.preload (s : State) (n : Nat) : State :=
  match s.preloadWord n with
  | some y =>
    let x := min s.tsrc 2
    s.bumpW (y - s.trim x - (s.dsc.moved[x]?).getD 0 - (s.osc (s.oscOf x)).w)
  | none => s

/-- A switch to `n` commits: the integrator is preloaded and DSC acquires (R144, R147). -/
def State.dscCommit (s : State) (n : Nat) : State :=
  ((s.preload n).setDsc dsAcquire).modDsc fun d => { d with acqTick := s.curTick, lockCount := 0, lastUpd := none, p := 0 }

/-- W_o of every oscillator from its model at the midpoint of the tick, for every keeper bound to it; without a model in force it
keeps its value (R136, R139; assumption log 12). -/
def State.modelWords (s : State) : State :=
  let mid := s.curTick * lsbPerTick + lsbPerTick / 2
  [0, 1, 2].foldl (fun (s : State) o => match s.modelOf o with
    | some m => (s.modOsc o fun c => { c with w := s.modelWord o m mid }).modDsc fun d =>
        { d with moved := [0, 1, 2].map fun x => if s.oscOf x = o then 0 else (d.moved[x]?).getD 0 }
    | none => s) s

/-- BRIDGE: the words are kept for a return to L. -/
def State.enterBridge (s : State) : State :=
  ((s.fixModels.modDsc fun d => { d with held := d.oscs.map (fun o => o.w), heldMoved := d.moved }).setDsc dsBridge)

/-- HOLDOVER, or FREE without a valid model of the time source's oscillator. -/
def State.enterHoldover (s : State) : State :=
  let o := s.oscOf (min s.tsrc 2)
  let valid := (match s.pickModel o (s.tsOf (min s.tsrc 2)) with
    | some m => decide (s.get F.DSC_MODEL_CFG_FIT_MIN ≤ m.span)
    | none => false)
  let s1 := (s.fixModels.setDsc (if valid then dsHoldover else dsFree)).raise Ev.DSC_HOLDOVER noInst (eb8Of (s.votedCore s.now))
  s1.raiseIf (!valid) Ev.DSC_FREE noInst 1

/-- A switch was cancelled or abandoned back to L: DSC resumes on the integrator it held. -/
def State.resumeFrom (s : State) (n : Nat) : State :=
  let s1 := s.modDsc fun d => { d with oscs := List.zipWith (fun o w => { o with w := w }) d.oscs d.held, moved := d.heldMoved, lastUpd := none }
  if s1.phaseValid n then s1.engage else s1.setDsc dsTrackFreq

/-- HOLDOVER ends in FREE when BND sets ABOVE_HOLD (R92, R144). -/
def State.freeCheck (s : State) : State :=
  if s.dstate = dsHoldover ∧ s.flag F.BND_STAT_ABOVE_HOLD then (s.setDsc dsFree).raise Ev.DSC_FREE noInst 0 else s

/-- DSC follows what the selection became (R144). -/
def State.dscFollow (s : State) : State :=
  match s.ref.pend with
  | some p =>
    match p.left with
    | some l => if s.tracking && !(s.phaseValid l && s.slotState l == rsQualified) then s.enterBridge else s
    | none => s
  | none =>
    match s.selected with
    | none => if s.tracking || s.dstate == dsBridge then s.enterHoldover else s
    | some n => if s.dstate = dsBridge then s.resumeFrom n else s

/-! ### Oscillator controls (R128 to R132) -/

/-- The control moves toward carrying W_o, with CENTRE_TAU, over `ticks` ticks, at most STEP_MAX codes a tick, between
two limits. Returns the new position before rounding. -/
def State.centre (s : State) (o ticks : Nat) (code lo hi : Int) : Rat :=
  let tau : Rat := max 1 (s.get (F.DSC_OSCx_STEER_CENTRE_TAU o))
  let c := (s.osc o).cont
  let want := c + (s.osc o).w / two65 / s.kv o * (ticks * secs lsbPerTick) / tau
  let cap : Rat := s.get (F.DSC_OSCx_STEER_STEP_MAX o) * ticks
  max (max lo (code - cap)) (min (min hi (code + cap)) want)

/-- W_o less the predicted effect of a change of code (R130). -/
def State.compensate (s : State) (o : Nat) (d : Int) : State := s.modOsc o fun c => { c with w := c.w - s.kv o * d * two65 }

/-- R130: the EFC code of oscillator `o` moves at the tick. -/
def State.efcStep (s : State) (o : Nat) : State :=
  if s.oscMode o = 1 ∧ s.tracking then
    let code : Int := s.get (F.DSC_OSCx_EFC_CODE o)
    let lo : Int := s.get (F.DSC_OSCx_EFC_MIN_MIN o)
    let hi : Int := s.get (F.DSC_OSCx_EFC_MAX_MAX o)
    let c := s.centre o 1 code lo hi
    let code1 := max lo (min hi (roundRat c))
    let atLim := decide (code1 = lo ∨ code1 = hi)
    let s1 := (s.modOsc o fun k => { k with cont := c, limited := atLim }).put (F.DSC_OSCx_EFC_CODE o) code1.toNat
    (s1.raiseIf (atLim && !(s.osc o).limited) Ev.DSC_EFC_LIMIT o (if code1 = hi then 1 else 0)).compensate o (code1 - code)
  else s

/-- R130: at a 64-tick boundary the next word is sent to a WORD oscillator. -/
def State.wordWrite (s : State) (o : Nat) : State :=
  if s.oscMode o = 2 ∧ s.tracking ∧ s.atTick ∧ s.curTick % 64 = 0 ∧ (s.osc o).wordTick ≠ some s.curTick ∧ (s.osc o).wordSent = none ∧ s.bit F.DSC_STAT_WORD_FAIL o = false then
    let w := s.get (F.DSC_OSCx_WORD_CFG_WIDTH o)
    let c := s.centre o 64 (s.getI (F.DSC_OSCx_WORD_WORD o)) (-(2 ^ w : Nat)) ((2 ^ w : Nat) - 1)
    s.modOsc o fun k => { k with cont := c, wordSent := some (satI (w + 1) (roundRat c)), wordTick := some s.curTick }
  else s

def execOscWordWrite (o : Fin 3) (s : State) : Host.Outcome State Fault Refusal := .next (s.wordWrite o)

/-- R131: the write was acknowledged, or failed; the fourth failure in a row sets WORD_FAIL. -/
def State.wordResult (s : State) (o : Nat) (ack : Bool) : State :=
  match (s.osc o).wordSent with
  | none => s
  | some w =>
    let old := s.getI (F.DSC_OSCx_WORD_WORD o)
    if ack then
      (((s.modOsc o fun k => { k with wordSent := none, wordFails := 0 }).putI (F.DSC_OSCx_WORD_WORD o) w).compensate o (w - old))
    else
      let s1 := s.modOsc o fun k => { k with wordSent := none, wordFails := k.wordFails + 1, cont := old }
      if 4 ≤ (s1.osc o).wordFails then (s1.putBit F.DSC_STAT_WORD_FAIL o true).raise Ev.DSC_WORD_FAIL o else s1

def execOscWordResult (o : Fin 3) (ack : Bool) (s : State) : Host.Outcome State Fault Refusal := .next (s.wordResult o ack)

/-- R131: a Twivon CLEAR clears WORD_FAIL. -/
def State.wordClear (s : State) (o : Nat) : State :=
  (s.putBit F.DSC_STAT_WORD_FAIL o false).modOsc o fun k => { k with wordFails := 0 }

/-! ### Sensors (R143) -/

/-- R143: a read of an enabled sensor starts at a 64-tick boundary, once. -/
def State.tempStart (s : State) (o : Nat) : State :=
  if s.flag (F.DSC_OSCx_CFG_TEMP_EN o) ∧ s.atTick ∧ s.curTick % 64 = 0 ∧ (s.osc o).tempTick ≠ some s.curTick then
    s.modOsc o fun k => { k with tempRead := true, tempTick := some s.curTick }
  else s

def execTempSensorRead (o : Fin 3) (s : State) : Host.Outcome State Fault Refusal := .next (s.tempStart o)

/-- A sensor fails: T stays frozen. -/
def State.tempFail (s : State) (o cause : Nat) : State :=
  let s1 := s.modOsc o fun k => { k with tempGood := 0 }
  if s.bit F.DSC_STAT_TEMP_FAIL o then s1 else (s1.putBit F.DSC_STAT_TEMP_FAIL o true).raise Ev.DSC_TEMP_FAIL o cause

/-- A valid reading: T follows it, or, while TEMP_FAIL stands, it counts toward the 16 that clear it. -/
def State.tempValid (s : State) (o : Nat) (t : Int) : State :=
  if s.bit F.DSC_STAT_TEMP_FAIL o then
    let s1 := s.modOsc o fun k => { k with tempGood := k.tempGood + 1, tempNaks := 0 }
    if 16 ≤ (s1.osc o).tempGood then
      ((s1.putBit F.DSC_STAT_TEMP_FAIL o false).putI (F.DSC_OSCx_TEMP_T o) t).putB (F.DSC_OSCx_TEMP_VALID o) true
    else s1
  else ((s.modOsc o fun k => { k with tempNaks := 0 }).putI (F.DSC_OSCx_TEMP_T o) t).putB (F.DSC_OSCx_TEMP_VALID o) true

/-- R143: the reading, in 1/256 degree, or none where the sensor did not acknowledge. -/
def State.tempResult (s : State) (o : Nat) (r : Option (BitVec 16)) : State :=
  if (s.osc o).tempRead then
    let s0 := (s.injUse 0x40 o).modOsc o fun k => { k with tempRead := false }
    match if s.injOn 0x40 o then none else r with
    | none =>
      let s1 := s0.modOsc o fun k => { k with tempNaks := k.tempNaks + 1, tempGood := 0 }
      if 3 ≤ (s1.osc o).tempNaks then s1.tempFail o 1 else s1
    | some v =>
      let t := v.toInt
      let s1 := s0.modOsc o fun k => { k with tempNaks := 0 }
      if s1.flag (F.DSC_OSCx_TEMP_VALID o) ∧ 256 < (t - s1.getI (F.DSC_OSCx_TEMP_T o)).natAbs then s1.tempFail o 2
      else if t < -64 * 256 ∨ 127 * 256 < t then s1.tempFail o 3
      else s1.tempValid o t
  else s

def execTempReadResult (o : Fin 3) (r : Option (BitVec 16)) (s : State) : Host.Outcome State Fault Refusal :=
  .next (s.tempResult o r)

/-! ### Trim transfer (R136) -/

/-- At a vote the trims are added up. -/
def State.trimNote (s : State) : State :=
  s.modDsc fun d => { d with trimSum := [0, 1, 2].map (fun x => (d.trimSum[x]?).getD 0 + s.trim x), trimN := d.trimN + 1 }

/-- One keeper's mean trim moves out of its register into its part of W_o; the word is capped as every word is (R137). -/
def State.trimMove (s : State) (x : Nat) : State :=
  let m := roundRat (((s.dsc.trimSum[x]?).getD 0 : Int) / (s.dsc.trimN : Rat))
  let s1 := (s.putWideI (A.KPR_x_TRIM x) 2 (satTrim (s.trim x - m))).modKp x fun k => { k with integ := k.integ - m / two65 }
  (s1.modDsc fun d => { d with moved := listUpd d.moved x (· + m) }).steerKeeper x

/-- R136: every 64 ticks each keeper's mean trim is moved into its steering word, and its trim is less by as much. -/
def State.trimTransfer (s : State) : State :=
  if s.atTick ∧ s.curTick % 64 = 0 ∧ s.dsc.trimTick ≠ some s.curTick ∧ s.dsc.trimN ≠ 0 then
    ([0, 1, 2].foldl (fun (s : State) x => s.trimMove x) s).modDsc fun d => { d with trimSum := [0, 0, 0], trimN := 0, trimTick := some s.curTick }
  else s

def execTrimTransfer (s : State) : Host.Outcome State Fault Refusal := .next s.trimTransfer

/-! ### Commits (R137, R140, R148, R149) -/

/-- The staged model of oscillator `o`, as last written. -/
def State.stagedModel (s : State) (o : Nat) : OscModel where
  f0 := toSigned 56 (s.lastWide (A.DSC_OSCx_M_F0 o) 2)
  a1 := toSigned 32 (s.lastGet (F.DSC_OSCx_M_A1_A1 o))
  kt := toSigned 32 (s.lastGet (F.DSC_OSCx_M_KT_K_T o))
  tref := toSigned 16 (s.lastGet (F.DSC_OSCx_M_TREF_T_REF o))
  span := s.lastGet (F.DSC_OSCx_M_TREF_M_SPAN o)
  tm := s.fullSec (s.lastGet (F.DSC_OSCx_M_EPOCH_T_M o))
  uf := s.lastGet (F.DSC_OSCx_M_UF_U_F o)
  ua := s.lastGet (F.DSC_OSCx_M_UA_U_A o)
  uk := s.lastGet (F.DSC_OSCx_M_UK_U_K o)

/-- The followed slot is DEMOTED or in mutual dispute. -/
def State.followDisputed (s : State) : Bool := match s.followed with
  | some n => s.demoted n || s.mutual n
  | none => false

/-- The model a commit is judged against: the one it replaces, or the one W_o was loaded from (R137). -/
def State.prevModel (s : State) (o : Nat) : OscModel :=
  match (s.osc o).commitNext with
  | some m => m
  | none => ((s.osc o).models.head?).getD (s.osc o).initial

/-- The cause that refuses a commit (R140); 0 for none. -/
def State.commitCause (s : State) (o : Nat) (m : OscModel) : Nat :=
  if s.onModel then 1
  else if s.followDisputed then 2
  else if (match (s.osc o).lastCommit with | some t => decide (s.curTick < t + 1024) | none => false) then 3
  else if (s.get F.DSC_MODEL_STEP_MAX_STEP : Rat) < ratAbs ((s.foAt o m s.now - s.foAt o (s.prevModel o) s.now) * 10 ^ 15) then 4
  else 0

/-- R140: a commit is refused with its cause, or accepted, to take effect at the next tick boundary. -/
def State.modelCommit (s : State) (o : Nat) : State :=
  let m := s.stagedModel o
  let c := s.commitCause o m
  if c ≠ 0 then s.raise Ev.DSC_MODEL_REFUSED o c
  else (s.modOsc o fun k => { k with commitNext := some m, lastCommit := some s.curTick, cellar := some (s.get F.MGT_IMAGE_SERIAL_SERIAL, m) }).raise
    Ev.DSC_MODEL_COMMIT o m.span

def execModelCommit (o : Fin 3) (s : State) : Host.Outcome State Fault Refusal := .next (s.modelCommit o)

/-- The tick's part: an accepted set joins the last 64 (R141). -/
def State.commitTick (s : State) : State :=
  s.modDsc fun d => { d with oscs := d.oscs.map fun o => match o.commitNext with
    | some m => { o with models := (m :: o.models).take 64, commitNext := none }
    | none => o }

/-- R148, R149: the witness model is committed while its conditions hold; else the command changes nothing. -/
def State.witnessCommit (s : State) : State :=
  if (s.dstate == dsTrackPhase || s.dstate == dsTrackFreq) && !s.followDisputed
      && (match s.dsc.witTick with | some t => decide (t + 1024 ≤ s.curTick) | none => true) then
    ((s.modDsc fun d => { d with
        wit := some (toSigned 32 (s.lastGet F.DSC_WIT_W0_W0), toSigned 32 (s.lastGet F.DSC_WIT_W1_W1),
          s.fullSec (s.lastGet F.DSC_WIT_EPOCH_T_W), s.lastGet F.DSC_WIT_U_U),
        witTick := some s.curTick, witAt := s.now }).putB F.DSC_WIT_STAT_VALID true).putB F.DSC_WIT_STAT_STALE false
  else s

def execWitnessCommit (s : State) : Host.Outcome State Fault Refusal := .next s.witnessCommit

/-- R149: no commit for STALE hours. -/
def State.witnessStale (s : State) : State :=
  if s.flag F.DSC_WIT_STAT_STALE = false ∧ s.dsc.witAt + s.get F.DSC_WIT_CFG_STALE * 3600 * lsbPerSec ≤ s.now then
    (s.putB F.DSC_WIT_STAT_STALE true).raise Ev.DSC_WIT_STALE
  else s

def execWitnessStale (s : State) : Host.Outcome State Fault Refusal := .next s.witnessStale

/-! ### Start and tick -/

/-- INIT (R144): each W_o from the Cellar copy of the last committed model where it was made under the loaded image, else
from the Attic's F0. -/
def State.dscStart (s : State) : State :=
  let s1 := [0, 1, 2].foldl (fun (s : State) o =>
    let attic : OscModel := { OscModel.blank with f0 := toSigned 56 (s.wide (A.DSC_OSCx_M_F0 o) 2), tm := s.now / lsbPerSec }
    let m := match (s.osc o).cellar with
      | some (serial, m) => if serial = s.get F.MGT_IMAGE_SERIAL_SERIAL then m else attic
      | none => attic
    s.modOsc o fun k => { k with initial := m, w := -(two65 * s.foAt o m s.now), cont := if s.oscMode o = 1 then s.get (F.DSC_OSCx_EFC_CODE o) else s.getI (F.DSC_OSCx_WORD_WORD o) }) s
  (s1.modDsc fun d => { d with witAt := s1.now }).steerAll

/-- The TRACK_FREQ term for keeper `x`: the slot's 64-tick mean against f_o of the keeper's oscillator, rounded up (R142). -/
def State.freqOnlyTerm (s : State) (x : Nat) : Nat :=
  if s.dstate = dsTrackFreq then
    (match s.followed with
     | some n => ceilNat (ratAbs ((s.meanFreq n).getD 0 - 10 ^ 15 * s.foKeeper x))
     | none => 0) else 0

/-- The coefficients delivered to BND, and their registers, which show the larger among an oscillator's keepers (R142). -/
def State.coeffTick (s : State) : State :=
  let s1 := [0, 1, 2].foldl (fun (s : State) o =>
    ((s.putBit F.DSC_STAT_MODEL_VALID o (s.modelValid o)).putWide (A.DSC_OSCx_C1 o) 2 0).putWide (A.DSC_OSCx_C2 o) 2 0) s
  [0, 1, 2].foldl (fun (s : State) x =>
    let c := s.coeffs x (s.freqOnlyTerm x)
    let o := s.oscOf x
    let c1 := min c.1 (2 ^ 40 - 1)
    let c2 := min c.2 (2 ^ 40 - 1)
    (((s.putWide (A.DSC_OSCx_C1 o) 2 (max c1 (s.wide (A.DSC_OSCx_C1 o) 2))).putWide (A.DSC_OSCx_C2 o) 2
      (max c2 (s.wide (A.DSC_OSCx_C2 o) 2))).deliverCoeffs x c1 c2)) s1

/-- The status register follows. -/
def State.dscStat (s : State) : State :=
  let f := if s.tracking || s.dstate == dsBridge then s.followed else none
  ((((s.putB F.DSC_STAT_FOLLOW_VALID f.isSome).put F.DSC_STAT_FOLLOW (f.getD 0)).putB F.DSC_STAT_RA_PENDING s.dsc.realign.isSome).putI
    F.DSC_LOOP_P_P (satI 32 (roundRat s.dsc.p)))

/-- The tick's measurement of keeper frequency against WCLK, corrected by the witness ageing model, with the model's prediction (R116,
R148). -/
def State.witnessNote (s : State) (f : Int) : State :=
  if !s.clockRuns 8 then s.modDsc fun d => { d with witHist := [], modHist := [] }
  else s.modDsc fun d => { d with witHist := ((f + roundRat (10 ^ 15 * s.witnessAt s.now)) :: d.witHist).take 65, modHist := (roundRat s.fModel :: d.modHist).take 65 }

/-- DSC at a tick boundary, after REF's decisions. -/
def State.dscTick (s : State) : State :=
  let s1 := ((s.commitTick).dscFollow).freeCheck
  let s2 := match s1.followed with
    | some n => if s1.tracking then s1.trackTick n else s1
    | none => s1
  let s3 := if s2.onModel then s2.modelWords else [0, 1, 2].foldl (fun (s : State) o => s.efcStep o) s2
  ((s3.steerAll).coeffTick).dscStat

/-! ### Realign (R150 to R153) -/

/-- A refused realign posts its cause. -/
def State.realignRefuse (s : State) (cause : Nat) : State :=
  (s.post A.DSC_RA_RES (2 * 2 + 8 * cause)).raise Ev.DSC_REALIGN_REFUSED noInst cause

/-- The cause that refuses a command on arrival (R151); 0 for none. -/
def State.realignCause (s : State) (path : Path) : Nat :=
  if path = .spi ∨ (path = .mgt ∧ s.flag F.DSC_CFG_REALIGN_FW = false) then 5
  else if s.dsc.realign.isSome then 4
  else if s.vstate = vSplit ∨ s.vstate = vSolo ∨ s.vstate = vDark then 1 else 0

/-- R150, R151: the command is refused or waits for its instant. `val` is the word of DSC_REALIGN_CMD; step, instant and
uncertainty are those last written, or the ones a Twivon REALIGN carries. -/
def State.realignCommand (s : State) (path : Path) (val : Word) (direct : Option (Nat × Nat × Nat)) : State :=
  let c := s.realignCause path
  if c ≠ 0 then s.realignRefuse c
  else
    let a := direct.getD (s.lastWide (A.DSC_RA_OFS 0) 3, s.lastWide (A.DSC_RA_AT 0) 3, s.lastWide A.DSC_RA_U 2)
    ((s.modDsc fun d => { d with realign := some ⟨val.toNat / 16 % 2 == 1, val.toNat % 16, stepOf a.1, a.2.2 % 2 ^ 48, timeOf a.2.1, false⟩ }).putB
      F.DSC_STAT_RA_PENDING true).unpost A.DSC_RA_RES

def execRealignCommand (path : Path) (val : Word) (direct : Option (Nat × Nat × Nat)) (s : State) : Host.Outcome State Fault Refusal :=
  .next (s.realignCommand path val direct)

/-- The cause that refuses at the application tick (R151). -/
def State.realignLate (s : State) (r : Realign) : Nat :=
  if s.vstate = vSplit ∨ s.vstate = vSolo ∨ s.vstate = vDark then 1
  else if r.explicit then 0
  else if !s.givesPhase r.slot then 6
  else if s.slotState r.slot ≠ rsQualified then 2
  else if s.slotOfs r.slot = 2 ^ 47 - 1 ∨ s.slotOfs r.slot = -(2 ^ 47) then 3 else 0

/-- The application tick: no switch was pending, and the instant lies in the tick that starts, or before it. -/
def State.realignTick (s : State) (switchWas : Bool) : State :=
  match s.dsc.realign with
  | some r =>
    if !switchWas && !r.ready && decide (r.at_ < s.now + lsbPerTick) then
      if s.realignLate r = 0 then s.modDsc fun d => { d with realign := some { r with ready := true } }
      else (s.modDsc fun d => { d with realign := none }).realignRefuse (s.realignLate r)
    else s
  | none => s

/-- The step of a command (R150), in units of 2^-16 ns. -/
def State.realignStep (s : State) (r : Realign) : Int := if r.explicit then r.step else -(s.slotOfs r.slot * 16)

/-- Known offsets after the step (R78, R152): the slot form removes those of its slot and the explicit ones, the explicit
form adds U. -/
def State.realignOffsets (s : State) (r : Realign) : State :=
  if r.explicit then s.offsetJoin 16 (bndAdd (spGet (fun _ => 0) s.bnd.offsets 16) r.u)
  else ((s.offsetLeave r.slot).offsetLeave 16).suspectClear r.slot

/-- The loop after the step: the phase error is the measured post-step value, from which P is formed anew; the integrator keeps its
value, and the word follows at the next tick boundary (R47, R152). -/
def State.dscStep (s : State) : State :=
  match s.followed with
  | some n =>
    let s1 := if s.dstate = dsTrackFreq ∧ s.phaseValid n then s.engage else s
    if s1.dstate = dsTrackPhase then
      let (wn, z, _) := s1.loopGain n (s1.sampleDt n 0)
      (s1.putI F.DSC_LOOP_PERR_PERR (satI 32 (s1.slotOfs n))).setP (-(2 * z * wn * (s1.slotOfs n : Rat) / (4096 * 1000000000)) * 10 ^ 15)
    else s1
  | none => s

/-- Instants that DSC holds move with voted time, and tick numbers with the count of ticks: the spans since them are what has passed
(R133, R140, R148, R149, R157). -/
def State.dscMove (s : State) (d k : Int) : State :=
  let tm (t : Nat) : Nat := ((t : Int) + d).toNat
  let tk (n : Nat) : Nat := ((n : Int) + k).toNat
  s.modDsc fun c =>
    { c with lastUpd := c.lastUpd.map (fun p => (p.1, tm p.2)), acqTick := tk c.acqTick, pullStart := tm c.pullStart,
             witTick := c.witTick.map tk, witAt := tm c.witAt,
             oscs := c.oscs.map fun o => { o with lastCommit := o.lastCommit.map tk } }

/-- The result of an applied step. -/
def State.realignDone (s : State) (r : Realign) (d : Int) : State :=
  ((((s.modDsc fun c => { c with realign := none }).putB F.DSC_STAT_RA_PENDING false).putWide (A.DSC_RA_STEP 0) 3 (stepWords d)).post
    A.DSC_RA_RES (2 * 1)).raise Ev.DSC_REALIGN (if r.explicit then noInst else r.slot) (detI (d / (lsbPerNs : Int)))

end Sys2Proof.Machine
end

