-- ==== Sys2Proof/Machine/Syn.lean ====
section
/-!
DEFINITION. The multiplying loops and output synthesis (06_clock_synthesis.md R158 to R180): band choice, the loop states,
the fractions, clock and PPS outputs. What a lost loop does to its consumers is composed in Tick.lean.
-/
namespace Sys2Proof.Machine

open Sys2Proof

def lpOff : Nat := 0
def lpAcquire : Nat := 1
def lpSettle : Nat := 2
def lpLocked : Nat := 3
def lpLost : Nat := 4

def allLoops : List Nat := List.range 34

def State.loopState (s : State) (l : Nat) : Nat := s.get (F.SYN_LOOPL_STAT_STATE l)
def State.loopLocked (s : State) (l : Nat) : Bool := s.loopState l == lpLocked

/-- The fields that loops 0 to 31 and loops 32, 33 share one bit each of. -/
def loopBit (a l : Nat) : Fld := ⟨a + 4 * (l / 32), 31, 0⟩

def State.setLoop (s : State) (l st : Nat) : State :=
  (s.put (F.SYN_LOOPL_STAT_STATE l) st).putBit (loopBit A.SYN_LOCK l) (l % 32) (st == lpLocked)

/-- The output gate of a loop. -/
def State.setGate (s : State) (l : Nat) (closed : Bool) : State :=
  (s.putB (F.SYN_LOOPL_STAT_GATED l) closed).putBit (loopBit A.SYN_GATE l) (l % 32) closed

/-! ### Targets, bands and fractions (R158, R161, R169, R170) -/

/-- DIV: the smallest integer of at least 2 with FOUT * DIV at least 3,000 MHz (R169). -/
def clkDiv (fout : Nat) : Nat := if fout = 0 then 0 else max 2 ((3000000000 + fout - 1) / fout)

def State.fout (s : State) (k : Nat) : Nat := s.get (F.SYN_CLKOUTk_CFG_FOUT k)

/-- The half-rate lane clock of a port mode, in MHz (R158). -/
def portClock (mode : Nat) : Rat :=
  if mode = 1 ∨ mode = 2 then 12890625 / 1000 else if mode = 3 then 5156250 / 1000 else if mode = 4 ∨ mode = 5 then 625 else 0

/-- The target VCO frequency of loop `l`, in MHz; 0 where the loop is unused. -/
def State.loopTarget (s : State) (l : Nat) : Rat :=
  if l < 3 then 4000
  else if l = 3 then 2400
  else if l = 4 then 3200
  else if l = 5 then
    (let r := s.get F.SYN_CFG_DCLK_RATE
     if r = 0 then 3200 else if r = 1 then 8800 / 3 else if r = 2 then 8000 / 3 else 2400)
  else if l < 26 then portClock (s.get (F.PRT_x_CFG_MODE (l - 6)))
  else ((s.fout (l - 26) * clkDiv (s.fout (l - 26)) : Nat) : Rat) / 1000000

/-- Band table entry `k` names loop `l` and covers `f` MHz (R161). -/
def State.bandCovers (s : State) (k l : Nat) (f : Rat) : Bool :=
  s.get (F.SYN_BANDk_LO_LOOP k) == l && decide ((s.get (F.SYN_BANDk_LO_F_LO k) : Int) ≤ f.floor)
    && decide (f.ceil ≤ (s.get (F.SYN_BANDk_HI_F_HI k) : Int))

def State.bandMargin (s : State) (k : Nat) (f : Rat) : Rat :=
  min (f - s.get (F.SYN_BANDk_LO_F_LO k)) ((s.get (F.SYN_BANDk_HI_F_HI k) : Rat) - f)

/-- The covering entry with the largest margin, the lowest index on a tie (R161). -/
def State.bandFor (s : State) (l : Nat) (f : Rat) : Option Nat :=
  ((List.range 128).filter (fun k => s.bandCovers k l f)).foldl (fun best k => match best with
    | none => some k
    | some b => if s.bandMargin b f < s.bandMargin k f then some k else some b) none

/-- Rounding to the nearest integer unit of 2^-64. -/
def frac64 (q : Rat) : Nat := (roundRat (q * 2 ^ 64)).toNat

/-- N of a port loop or output synthesiser for the time source's applied word (R169, R170), with an aligned output's
correction (R171). -/
def State.loopRatio (s : State) (l : Nat) : Nat :=
  let y : Rat := if s.tsrc < 3 then (s.freqWord s.tsrc : Rat) / two65 else 0
  let c : Rat := if 26 ≤ l then (s.syn.corr[l - 26]?).getD 0 else 0
  frac64 (s.loopTarget l / 500 * (1 + y) * (1 + c))

/-- The registers of CLK_OUTk follow its ratio. -/
def State.showRatio (s : State) (k : Nat) : State :=
  let n := (s.syn.frac[26 + k]?).getD 0
  ((s.put (F.SYN_CLKOUTk_DIV_DIV k) (clkDiv (s.fout k))).put (F.SYN_CLKOUTk_NINT_NINT k) (n / 2 ^ 64)).putWide
    (A.SYN_CLKOUTk_NFRAC k) 2 (n % 2 ^ 64)

/-- R170: port loops and output synthesisers load a new N at the tick. -/
def State.fractionLoad (s : State) : State :=
  (List.range 8).foldl (fun (s : State) k => s.showRatio k)
    (s.modSyn fun c => { c with frac := allLoops.map (fun l => if l < 6 then 0 else s.loopRatio l) })

/-! ### Loop states (R164) -/

/-- The loop's reference is present: its own, or the time source's TCLK (R158, R168). -/
def State.refPresent (s : State) (l : Nat) : Bool :=
  !s.injOn 0x51 l && (if l < 6 then (s.syn.ref[l]?).getD false else decide (s.tsrc < 3))

/-- R164: at load complete a used loop in OFF that no band covers raises SYN_NO_BAND, whatever its reference. -/
def State.noBands (s : State) : State :=
  allLoops.foldl (fun (s : State) l =>
    s.raiseIf (s.loopState l == lpOff && decide (s.loopTarget l ≠ 0) && (s.bandFor l (s.loopTarget l)).isNone) Ev.SYN_NO_BAND l
      (detSat 16 (s.loopTarget l).floor.toNat)) s

/-- An OFF or LOST loop whose reference is present starts acquisition, in the band R161 chooses; one that none covers stays
OFF. A LOST loop keeps its band. -/
def State.loopStart (s : State) (l : Nat) : State :=
  if !s.syn.loaded || !s.refPresent l then s
  else if s.loopState l = lpLost then s.setLoop l lpAcquire
  else if s.loopState l = lpOff ∧ s.loopTarget l ≠ 0 then
    match s.bandFor l (s.loopTarget l) with
    | some b => (s.put (F.SYN_LOOPL_STAT_BAND l) b).setLoop l lpAcquire
    | none => s
  else s

/-- SYN_LOOPL_PERR as last measured, saturating to 16 bits. -/
def State.notePerr (s : State) (l : Nat) (perr : Int) : State := s.putI (F.SYN_LOOPL_PERR_PERR l) (satI 16 perr)

/-- R162: the phase error stayed within LOCK_WIN for LOCK_N consecutive reference cycles. -/
def State.phaseWithin (s : State) (l : Nat) (r : PhaseRun) : Bool :=
  decide (r.most ≤ s.get (F.SYN_LOOPL_CFG_LOCK_WIN l)) && decide (s.get (F.SYN_LOOPL_CFG_LOCK_N l) ≤ r.cycles)

/-- R163: the phase error exceeded twice LOCK_WIN for 4 consecutive reference cycles. -/
def State.phaseBeyond (s : State) (l : Nat) (r : PhaseRun) : Bool :=
  decide (2 * s.get (F.SYN_LOOPL_CFG_LOCK_WIN l) < r.least) && decide (4 ≤ r.cycles)

/-- R162: lock is declared, and the SETTLE timer starts. -/
def State.loopLockDecl (s : State) (l us : Nat) (r : PhaseRun) : State :=
  if s.loopState l = lpAcquire ∧ s.phaseWithin l r = true ∧ ¬ s.injOn 0x50 l then
    ((s.notePerr l r.last).setLoop l lpSettle).raise Ev.SYN_LOCK l (detSat 16 us)
  else s

def execLoopLock (l : Fin 34) (us : Nat) (r : PhaseRun) (s : State) : Host.Outcome State Fault Refusal :=
  .next (s.loopLockDecl l us r)

/-- R164: 5 ms without lock restart the acquisition. -/
def State.loopTimeout (s : State) (l us : Nat) (perr : Int) : State :=
  if s.loopState l = lpAcquire ∧ 5000 ≤ us then
    (s.notePerr l perr).raise Ev.SYN_UNLOCK l (ofSigned 16 (satI 16 perr) + 65536) else s

def execLoopAcquireTimeout (l : Fin 34) (us : Nat) (perr : Int) (s : State) : Host.Outcome State Fault Refusal :=
  .next (s.loopTimeout l us perr)

/-- An output synthesiser's clock output is held low; its edges are placed anew before it runs again (R171). -/
def State.clkStop (s : State) (k : Nat) : State :=
  ((s.putB (F.SYN_CLKOUTk_CTL_RELEASED k) false).putB (F.SYN_CLKOUTk_CTL_ALIGNED k) false).modSyn fun c =>
    { c with aligned := listUpd c.aligned k (fun _ => 0), clkEdge := listUpd c.clkEdge k (fun _ => none),
             restart := listUpd c.restart k (fun _ => none) }

/-- R163: the loop is LOST, its gate closed; `lor` tells loss of reference. A LOST loop of a clock output holds it low. -/
def State.loopLose (s : State) (l : Nat) (lor : Bool) : State :=
  let counted := s.loopState l = lpSettle ∨ s.loopState l = lpLocked
  let s1 := ((s.setLoop l lpLost).setGate l true).putB (F.SYN_LOOPL_STAT_LOR l) lor
  let s2 := if counted then s1.incrSat (F.SYN_LOOPL_STAT_LOSSES l) else s1
  let s3 := if lor then s2.raise Ev.SYN_LOR l else s2.raise Ev.SYN_UNLOCK l (ofSigned 16 (s2.getI (F.SYN_LOOPL_PERR_PERR l)))
  if 26 ≤ l then s3.clkStop (l - 26) else s3

/-- Loss of lock applies in SETTLE and LOCKED, loss of reference in ACQUIRE as well (R164). -/
def State.canLose (s : State) (l : Nat) (lor : Bool) : Bool :=
  s.loopState l == lpSettle || s.loopState l == lpLocked || (lor && s.loopState l == lpAcquire)

/-- R164: SETTLE has elapsed with lock held; the gate opens. -/
def State.loopSettled (s : State) (l : Nat) : State :=
  ((s.setLoop l lpLocked).setGate l false).modXdc fun c => { c with stopped := c.stopped.filter fun d => domainLoop d != some l }

/-- The reference of a loop came back: a LOST loop restarts in its band, an OFF loop starts (R164). -/
def State.refReturn (s : State) (l : Nat) : State :=
  (if l < 6 then s.modSyn fun c => { c with ref := listUpd c.ref l (fun _ => true) } else s).loopStart l

def execLoopReferenceReturn (l : Fin 34) (s : State) : Host.Outcome State Fault Refusal := .next (s.refReturn l)

/-- R167: DCLK is lost while its gate is open: both controllers enter self-refresh before the gate closes. -/
def State.selfRefresh (s : State) (lor : Bool) : State :=
  if s.gateOpen 5 && !s.syn.sref then (s.modSyn fun c => { c with sref := true }).raise Ev.SYN_SREF 5 (if lor then 1 else 0) else s

/-! ### Outputs (R169 to R175) -/

/-- PPS_OUTk drives its pulses: enabled, and not gated (R58, R174). -/
def State.ppsRuns (s : State) (k : Nat) : Bool := s.flag (F.SYN_PPSk_CFG_ENABLE k) && !s.outsOff

/-- The instant, in 2^-12 ns, at which PPS_OUTk's pulse of a second is placed: second + OFS + CAL (R174). -/
def State.ppsInst (s : State) (k sec : Nat) : Int :=
  (sec * 1000000000 * 4096 : Nat) + s.getI (F.SYN_PPSk_OFS_OFS k) + s.getI (F.SYN_PPSk_CAL_CAL k)

/-- R55, R174: PPS_OUTk's pulse of a second: the majority gate over the keepers' pulses, each WIDTH us long. -/
def State.ppsPulseOf (s : State) (k sec : Nat) : PpsPulse :=
  let rise := s.gateEdge (s.ppsInst k sec)
  ⟨rise, rise + (s.get (F.SYN_PPSk_CFG_WIDTH k) * 1000 * 4096 : Nat)⟩

/-- PPS_OUTk emits the pulse of a second: it has run since before the placed instant, and the second has had no pulse yet
(R153, R175). -/
def State.ppsEmit (s : State) (k sec : Nat) : State :=
  let late := match (s.syn.ppsOn[k]?).getD none with
    | some a => decide (s.ppsInst k sec < (a / 16 : Nat))
    | none => true
  let had := match (s.syn.ppsSec[k]?).getD none with
    | some t => decide (sec ≤ t)
    | none => false
  if late || had then s
  else s.modSyn fun c => { c with ppsSec := listUpd c.ppsSec k (fun _ => some sec), pps := listUpd c.pps k (fun _ => some (s.ppsPulseOf k sec)) }

/-- A pulse of an output that stops: one not yet begun is not driven, one that is high falls (R58, R175). -/
def State.ppsHalt (s : State) (k : Nat) : State :=
  let s1 := s.modSyn fun c => { c with ppsOn := listUpd c.ppsOn k fun _ => none }
  match (s.syn.pps[k]?).getD none with
  | none => s1
  | some p =>
    if ((s.now / 16 : Nat) : Int) < p.rise then
      s1.modSyn fun c => { c with pps := listUpd c.pps k (fun _ => none), ppsSec := listUpd c.ppsSec k fun o => o.map (· - 1) }
    else s1.modSyn fun c => { c with pps := listUpd c.pps k fun _ => some ⟨p.rise, min p.fall ((s.now / 16 : Nat) : Int)⟩ }

/-- The PPS outputs as they stand: a running one emits the pulse of the latest second where its placed instant lies ahead or at
the marker; a stopped one halts. -/
def State.ppsFollow (s : State) : State :=
  (List.range 8).foldl (fun (s : State) k =>
    if s.ppsRuns k then
      let s1 := s.modSyn fun c => { c with ppsOn := listUpd c.ppsOn k fun o => o.or (some s.now) }
      match s1.syn.ppsMark with
      | some sec => s1.ppsEmit k sec
      | none => s1
    else s.ppsHalt k) s

/-- A voted second marker: each running PPS output emits the second's pulse, once (R153, R174). -/
def State.ppsMarker (s : State) (sec : Nat) : State := (s.modSyn fun c => { c with ppsMark := some sec }).ppsFollow

/-- A realign step of `d`: the edges placed stand where they fall, read on the new scale; a pulse completes its width (R153). -/
def State.ppsStep (s : State) (d : Int) : State :=
  s.modSyn fun c => { c with pps := c.pps.map (fun o => o.map fun p => ⟨p.rise + d / 16, p.fall + d / 16⟩),
                             ppsOn := c.ppsOn.map (fun o => o.map fun a => ((a : Int) + d).toNat), ppsMark := none }

/-- CLK_OUTk may run: enabled, in use, its loop LOCKED, R58 permits. -/
def State.clkPermit (s : State) (k : Nat) : Bool :=
  s.flag (F.SYN_CLKOUTk_CTL_ENABLE k) && decide (0 < s.fout k) && s.loopLocked (26 + k) && !s.outsOff

/-- The correction of N for an aligned edge late by `e` units of 2^-12 ns: minus the error over a second, at most 10^-10. -/
def clkCorr (e : Int) : Rat := max (-(1 / 10 ^ 10)) (min (1 / 10 ^ 10) (e / (4096 * 1000000000)))

/-- A waiting aligned output places its edge at second + OFS + CAL by a restart of its divider and its fine delay (R171). -/
def State.clkPlace (s : State) (k : Nat) : State := s.modSyn fun c => { c with clkEdge := listUpd c.clkEdge k fun _ => some 0 }

/-- The placed edge measured against a voted second marker: its error is corrected through N, and two good markers set ALIGNED
(R171). -/
def State.clkMeasure (s : State) (k : Nat) (e : Int) : State :=
  let n := if e.natAbs ≤ 8 then (s.syn.aligned[k]?).getD 0 + 1 else 0
  let s1 := s.modSyn fun c => { c with aligned := listUpd c.aligned k (fun _ => n), corr := listUpd c.corr k (fun _ => clkCorr e),
                                       clkEdge := listUpd c.clkEdge k fun _ => some e }
  if 2 ≤ n ∧ s1.flag (F.SYN_CLKOUTk_CTL_ALIGNED k) = false then
    (s1.putB (F.SYN_CLKOUTk_CTL_ALIGNED k) true).raise Ev.SYN_ALIGNED k
  else s1

/-- One output at a marker: an aligned one in use places its edge, then measures it at every later marker (R171). -/
def State.clkAlign (s : State) (k : Nat) (e : Option Int) : State :=
  if s.flag (F.SYN_CLKOUTk_CTL_ALIGN k) && s.flag (F.SYN_CLKOUTk_CTL_ENABLE k) && s.loopLocked (26 + k) then
    match (s.syn.clkEdge[k]?).getD none, e with
    | none, _ => s.clkPlace k
    | some _, some e => s.clkMeasure k e
    | some _, none => s
  else s

/-- The instant at which an output that holds low for a realign step restarts (R172). -/
def State.clkRestart (s : State) (k : Nat) : Option Nat := (s.syn.restart[k]?).getD none

/-- R171: the output is released at the marker where its loop is LOCKED, it is ALIGNED or unaligned, and R58 permits; one that
holds low for a realign step waits for its restart (R172). -/
def State.clkRelease (s : State) (k : Nat) : State :=
  if s.clkPermit k && (s.clkRestart k).isNone && (s.flag (F.SYN_CLKOUTk_CTL_ALIGNED k) || !s.flag (F.SYN_CLKOUTk_CTL_ALIGN k)) then
    s.putB (F.SYN_CLKOUTk_CTL_RELEASED k) true
  else s

/-- Every clock output at a voted second marker, with the measured errors. -/
def State.clkMarker (s : State) (errs : List Int) : State :=
  (List.range 8).foldl (fun (s : State) k => (s.clkAlign k errs[k]?).clkRelease k) s

/-- The clock outputs as they stand: one that runs and may not any more, or is disabled, holds low (R58, R166); one that held
low for a realign step runs again once its restart has come (R172). -/
def State.clkGate (s : State) : State :=
  ((List.range 8).foldl (fun (s : State) k =>
    let on := s.flag (F.SYN_CLKOUTk_CTL_RELEASED k) || (s.clkRestart k).isSome
    if !s.clkPermit k then (if on || !s.flag (F.SYN_CLKOUTk_CTL_ENABLE k) then s.clkStop k else s)
    else match s.clkRestart k with
      | some t =>
        if t ≤ s.now then
          (s.putB (F.SYN_CLKOUTk_CTL_RELEASED k) true).modSyn fun c => { c with restart := listUpd c.restart k fun _ => none }
        else s
      | none => s) s).ppsFollow

/-- An instant of the series base + n * period that is not before `t`. -/
def edgeFrom (base period t : Rat) : Rat := base + ((t - base) / period).ceil * period

/-- R172: a realign step of `d` at `old`: an aligned output that runs holds low from its next falling edge and restarts with the
first edge of the new scale that lies at least a period after the stop. -/
def State.clkStep (s : State) (old : Nat) (d : Int) : State :=
  (List.range 8).foldl (fun (s : State) k =>
    if s.flag (F.SYN_CLKOUTk_CTL_ALIGN k) && s.flag (F.SYN_CLKOUTk_CTL_RELEASED k) && decide (0 < s.fout k) then
      let per : Rat := (lsbPerSec : Rat) / s.fout k
      let base : Rat := ((s.getI (F.SYN_CLKOUTk_OFS_OFS k) + s.getI (F.SYN_CLKOUTk_CAL_CAL k)) * 16 : Int)
      let stop := edgeFrom (base + per / 2) per old + d
      (s.putB (F.SYN_CLKOUTk_CTL_RELEASED k) false).modSyn fun c =>
        { c with restart := listUpd c.restart k fun _ => some (edgeFrom base per (stop + per)).ceil.toNat }
    else s) s

/-! ### Output register writes (R175) -/

/-- A write joins the staging copy (R26). -/
def State.stage (s : State) (path : Path) (a : Nat) (mask val : Word) : State :=
  { s with staged := s.staged ++ [⟨path, a, mask, val, s.now⟩] }

/-- R175: ENABLE is taken; a new WIDTH only while ENABLE was 0, else it is refused. -/
def State.ppsCfgWrite (s : State) (path : Path) (k : Nat) (val : Word) : State :=
  let w := bitsOf val 31 12
  let old := s.lastGet (F.SYN_PPSk_CFG_WIDTH k)
  let a := A.SYN_PPSk_CFG k
  if w = old then s.stage path a 1 val
  else if s.lastGet (F.SYN_PPSk_CFG_ENABLE k) = 1 then (s.stage path a 1 val).raise Ev.SYN_OFS_REFUSED k 1
  else if 1 ≤ w ∧ w ≤ 900000 then s.stage path a 0xFFFFF001 val
  else s.stage path a 1 val

def execPpsCfgWrite (path : Path) (k : Fin 8) (val : Word) (s : State) : Host.Outcome State Fault Refusal :=
  .next (s.ppsCfgWrite path k val)

def State.ppsOfsWrite (s : State) (path : Path) (k : Nat) (val : Word) : State :=
  if s.lastGet (F.SYN_PPSk_CFG_ENABLE k) = 1 then s.raise Ev.SYN_OFS_REFUSED k 1
  else s.stage path (A.SYN_PPSk_OFS k) 0xFFFFFFFF val

def execPpsOfsWrite (path : Path) (k : Fin 8) (val : Word) (s : State) : Host.Outcome State Fault Refusal :=
  .next (s.ppsOfsWrite path k val)

def State.clkCtlWrite (s : State) (path : Path) (k : Nat) (val : Word) : State := s.stage path (A.SYN_CLKOUTk_CTL k) 1 val

def execClkoutCtlWrite (path : Path) (k : Fin 8) (val : Word) (s : State) : Host.Outcome State Fault Refusal :=
  .next (s.clkCtlWrite path k val)

def State.clkOfsWrite (s : State) (path : Path) (k : Nat) (val : Word) : State :=
  if s.lastGet (F.SYN_CLKOUTk_CTL_ENABLE k) = 1 then s.raise Ev.SYN_OFS_REFUSED k 0
  else s.stage path (A.SYN_CLKOUTk_OFS k) 0xFFFFFFFF val

def execClkoutOfsWrite (path : Path) (k : Fin 8) (val : Word) (s : State) : Host.Outcome State Fault Refusal :=
  .next (s.clkOfsWrite path k val)

end Sys2Proof.Machine
end

