-- ==== Sys2Proof/Machine/Xdc.lean ====
section
/-!
DEFINITION. Clock domain crossings (07_domain_crossings.md R181 to R194): merged strobes, the edge monitors, reset
handshakes and the compatibility wake request.
-/
namespace Sys2Proof.Machine

open Sys2Proof

/-! ### Domains (R192) -/

/-- The register of a domain's RUN or HIST bit from the address of its CORE word, with the bit; none for a number no
domain has. -/
def domainBit (core d : Nat) : Option (Fld × Nat) :=
  if d < 10 then some (⟨core, 31, 0⟩, d)
  else if 16 ≤ d ∧ d < 36 then some (⟨core + 4, 31, 0⟩, d - 16)
  else if 48 ≤ d ∧ d < 68 then some (⟨core + 8, 31, 0⟩, d - 48)
  else none

def State.domainRuns (s : State) (d : Nat) : Bool := match domainBit A.XDC_RUN_CORE d with
  | some (f, i) => s.bit f i
  | none => false

/-- R187: a domain is declared stopped. -/
def State.declareStopped (s : State) (d : Nat) : State :=
  match domainBit A.XDC_RUN_CORE d, domainBit A.XDC_STOP_HIST_CORE d with
  | some (f, i), some (g, j) => if s.bit f i then ((s.putBit f i false).putBit g j true).raise Ev.XDC_STOP d else s
  | _, _ => s

/-! ### Merges (R184, R193) -/

def State.mergeCount (s : State) (i : Nat) : Nat := spGet (fun _ => 0) s.xdc.merge i

/-- The merge counter of crossing `i` holds `v`. -/
def State.setMerge (s : State) (i v : Nat) : State :=
  (s.modXdc fun c => { c with merge := spSet (fun _ => 0) c.merge i v }).putBit (F.XDC_MERGE_NZ_NZ (i / 32)) (i % 32) (v != 0)

/-- The destination domain of tick strobe `i` (R193). -/
def strobeDst (i : Nat) : Nat := if i < 20 then 16 + i else if i = 0x14 then 3 else if i = 0x15 then 4 else if i = 0x16 then 5
  else if i = 0x17 then 8 else if i = 0x18 then 6 else 7

/-- The map fields of a crossing: source, destination, block, assigned. A tick strobe comes from the time source's TCLK. -/
def State.crossingMap (s : State) (i : Nat) : Nat × Nat × Nat × Bool :=
  if i < 0x1A then (if s.tsrc < 3 then s.tsrc else 0, strobeDst i, (Config.crossing i).2.2.1 % 16, true) else Config.crossing i

/-- `n` more pulses merged into crossing `i` (R184, R194). -/
def State.mergeAdd (s : State) (i n : Nat) : State :=
  let old := s.mergeCount i
  let m := s.crossingMap i
  let det := m.1 % 128 + 256 * (m.2.1 % 128)
  let v := min 255 (old + n)
  ((s.setMerge i v).raiseIf (old == 0 && v != 0) Ev.XDC_MERGE i det).raiseIf (decide (old < 255 ∧ v = 255)) Ev.XDC_MERGE_SAT i det

/-- No reset handshake closes the crossings between two domains (R189). -/
def State.crossOpen (s : State) (a b : Nat) : Bool := s.xdc.hs.all fun h => !((h.x == a && h.y == b) || (h.x == b && h.y == a))

/-- R184, R186: the tick strobe of crossing `i`; into a stopped domain it stays pending, and a later one merges; a closed
crossing carries none (R189). -/
def State.strobe (s : State) (i : Nat) : State :=
  if !s.crossOpen s.tsrc (strobeDst i) then s
  else if s.clockRuns (strobeDst i) then s.modXdc fun c => { c with strobes := c.strobes.filter (· != i) }
  else if s.xdc.strobes.contains i then s.mergeAdd i 1
  else s.modXdc fun c => { c with strobes := i :: c.strobes }

/-- Every tick strobe at a tick boundary (R193). -/
def State.tickStrobes (s : State) : State := (List.range 0x1A).foldl (fun (s : State) i => s.strobe i) s

/-- The strobes pending into a domain are delivered when it runs (R186). -/
def State.deliverStrobes (s : State) (d : Nat) : State :=
  s.modXdc fun c => { c with strobes := c.strobes.filter (fun i => strobeDst i != d) }

/-- A write of a command register whose strobe cannot cross: it stays pending, and a later write of the register merges with it,
whose value then stands (R184 to R186). -/
def State.pendCmd (s : State) (path : Path) (a : Nat) (v : Word) : State :=
  if s.xdc.cmds.any (fun e => e.2.1 == a) then
    (s.modXdc fun c => { c with cmds := c.cmds.map fun e => if e.2.1 = a then (path, a, v) else e }).mergeAdd (0x1A + Config.cmdCrossing a % 230) 1
  else s.modXdc fun c => { c with cmds := c.cmds ++ [(path, a, v)] }

/-- R187: a domain is declared running again after `us` microseconds. -/
def State.declareRunning (s : State) (d us : Nat) : State :=
  match domainBit A.XDC_RUN_CORE d with
  | some (f, i) => if s.bit f i then s else (s.putBit f i true).raise Ev.XDC_RUN d (detSat 32 us)
  | none => s

/-- The edges of a domain have stopped. -/
def State.edgesStop (s : State) (d : Nat) : State :=
  s.modXdc fun c => { c with stopped := if c.stopped.contains d then c.stopped else c.stopped ++ [d] }

/-- The edges of a domain are back: a pulse that stayed pending into it is delivered once (R186). -/
def State.edgesBack (s : State) (d : Nat) : State :=
  let s1 := s.modXdc fun c => { c with stopped := c.stopped.filter (· != d) }
  if s1.clockRuns d then s1.deliverStrobes d else s1

/-- A monitor's result: while MCLK is stopped it is held; the MCLK monitor runs in WCLK and its results, once running,
bring the held ones in order (R187). Monitors report only: what a crossing does follows the clocks themselves. -/
def State.monitor (s : State) (d : Nat) (us : Option Nat) : State :=
  let one (s : State) (r : Nat × Option Nat) : State := match r.2 with
    | some u => s.declareRunning r.1 u
    | none => s.declareStopped r.1
  if d = 4 then
    let s1 := one s (d, us)
    if s1.clockRuns 4 then (s1.xdc.held.foldl one s1).modXdc fun c => { c with held := [] } else s1
  else if s.clockRuns 4 then one s (d, us)
  else s.modXdc fun c => { c with held := c.held ++ [(d, us)] }

/-- R193: the selected merge counter is cleared. -/
def execMergeClear (s : State) : Host.Outcome State Fault Refusal := .next (s.setMerge (s.lastGet F.XDC_MERGE_SEL_INDEX) 0)

/-- R193: every merge counter is cleared. -/
def State.mergeClearAll (s : State) : State :=
  (List.range 8).foldl (fun (s : State) w => s.setReg (A.XDC_MERGE_NZ w) 0) (s.modXdc fun c => { c with merge := [] })

def execMergeClearAll (s : State) : Host.Outcome State Fault Refusal := .next s.mergeClearAll

/-- XDC_MERGE_VAL for the selected crossing. -/
def State.mergeVal (s : State) : Word :=
  let i := s.lastGet F.XDC_MERGE_SEL_INDEX
  let m := s.crossingMap i
  if m.2.2.2 then BitVec.ofNat 32 (s.mergeCount i + m.1 % 128 * 2 ^ 8 + 2 ^ 15 + m.2.1 % 128 * 2 ^ 16 + m.2.2.1 % 16 * 2 ^ 24) else 0

/-- R183: a twice-sampled crossing found 1,024 disagreeing pairs; the destination keeps its value. -/
def execSampleStall (src dst : Fin 128) (s : State) : Host.Outcome State Fault Refusal :=
  .next (s.raise Ev.XDC_SAMPLE_STALL noInst (src.val + 256 * dst.val))

/-! ### Reset handshakes (R189) -/

def State.handshake (s : State) (x y : Nat) : Option Handshake := s.xdc.hs.find? (fun h => h.x == x && h.y == y)

/-- R189: the block on side `x` enters reset; its crossings with `y` close, in both directions. -/
def State.hsRequest (s : State) (x y : Nat) : State :=
  match s.handshake x y with
  | some _ => s
  | none => s.modXdc fun c => { c with hs := c.hs ++ [⟨x, y, false, 0, 0⟩] }

def execResetHandshakeRequest (x y : Fin 128) (s : State) : Host.Outcome State Fault Refusal := .next (s.hsRequest x y)

/-- Side `y` has emptied the FLUSH queues between it and `x`, which held `entries` in `queues` of them, and acknowledges (R188,
R189). -/
def State.hsAck (s : State) (x y queues entries : Nat) : State :=
  s.modXdc fun c => { c with hs := c.hs.map (fun h => if h.x = x ∧ h.y = y then { h with acked := true, queues := queues, entries := entries } else h) }

/-- The acknowledges that a handshake needs: its own, and that of the other side where that side is in reset too (R189). -/
def State.hsDone (s : State) (x y : Nat) : Bool := match s.handshake y x with
  | some g => g.acked
  | none => true

/-- R189: the acknowledge is seen and the reset has ended; the crossing opens. -/
def State.hsOpen (s : State) (x y : Nat) : State :=
  match s.handshake x y with
  | some h =>
    if h.acked && s.hsDone x y then
      ((((s.modXdc fun c => { c with hs := c.hs.filter (fun g => !(g.x == x && g.y == y)) }).incr F.XDC_FLUSH_CNT_HANDSHAKES).incrSat
        F.XDC_FLUSH_CNT_DISCARDED h.entries).raise Ev.XDC_FLUSH noInst (x % 128 + 256 * detSat 8 h.queues + 65536 * detSat 16 h.entries))
    else s
  | none => s

end Sys2Proof.Machine
end

