-- ==== Sys2Proof/Machine/PrtBase.lean ====
section
/-!
DEFINITION. What the port chapters share: a port's state, its mode, its counters, the frames a squash takes back and the
reports to sources (R199, R213, R221, R234, R243).
-/
namespace Sys2Proof.Machine

open Sys2Proof

def lkDisabled : Nat := 0
def lkAcquire : Nat := 1
def lkVerify : Nat := 2
def lkUp : Nat := 3
def lkGated : Nat := 4

def allPorts : List Nat := List.range 20

def State.port (s : State) (p : Nat) : PortState := (s.prt.ports[p]?).getD PortState.blank
def State.modPort (s : State) (p : Nat) (f : PortState → PortState) : State :=
  s.modPrt fun c => { c with ports := listUpd c.ports p f }

def State.link (s : State) (p : Nat) : Nat := s.get (F.PRT_x_STAT_LINK p)
def State.portUp (s : State) (p : Nat) : Bool := s.link p == lkUp
def State.portMode (s : State) (p : Nat) : Nat := s.get (F.PRT_x_CFG_MODE p)
def State.maxLen (s : State) (p : Nat) : Nat := s.get (F.PRT_x_MAXLEN_MAXLEN p)

/-- The pauses a transmit class is under: its port's, and that of its priority (R211, R212). -/
def State.pauseOf (s : State) (p c : Nat) : List (Nat × Nat) :=
  (s.port p).pause.toList ++ (((s.port p).pfc[s.get (F.PRT_x_TXCc_CFG_PRIO p c)]?).getD none).toList

/-- The link state of a port, with the common masks (R222). -/
def State.setLink (s : State) (p st : Nat) : State :=
  ((s.put (F.PRT_x_STAT_LINK p) st).putBit F.PRT_LINK_UP_UP p (st == lkUp)).putBit F.PRT_GATED_GATED p
    (st == lkGated || st == lkDisabled)

/-- Duration of `n` bytes on the wire, in 2^-16 ns (R211): 80 ps, 320 ps, 800 ps or 8 ns a byte. -/
def byteTime (mode : Nat) : Rat :=
  65536 * (if mode = 1 then 80 / 1000 else if mode = 2 then 320 / 1000 else if mode = 3 then 800 / 1000 else 8)

/-- One grid block of the guard band, in 2^-16 ns (R233). -/
def guardBlock (mode : Nat) : Rat :=
  65536 * (if mode = 1 then 64 / 100 else if mode = 2 then 256 / 100 else if mode = 3 then 64 / 10 else 8)

/-- The launch guard band of a port (R214, R233). -/
def State.guardTime (s : State) (p : Nat) : Rat :=
  guardBlock (s.portMode p) * (s.get (F.TSU_x_GUARD_GUARD p) + s.get (F.TSU_x_GUARD_GUARD_AGE p) : Nat)

/-- Squash causes (R257); 0 stands for CANCEL, which only the source's own cancel gives. -/
def sqCancel : Nat := 0
def sqMissed : Nat := 1
def sqLink : Nat := 2
def sqPause : Nat := 3
def sqHandover : Nat := 4
def sqPhase : Nat := 5
def sqStep : Nat := 6
def sqGuardrail : Nat := 7

def sqEpoch : Nat := 8
def sqKey : Nat := 9
def sqEngine : Nat := 10
def sqMemory : Nat := 11

/-- The TSU counter of a squash cause (R243): MISSED, CANCEL, LINK, PAUSE, HANDOVER, PHASE, STEP, GUARDRAIL; EPOCH and KEY
reach the TSU as cancels of their source. -/
def squashCounter (p cause : Nat) : Fld :=
  if cause = sqMissed then F.TSU_x_SQ_MISSED_COUNT p else if cause = sqCancel ∨ cause = sqEpoch ∨ cause = sqKey then F.TSU_x_SQ_CANCEL_COUNT p
  else if cause = sqLink then F.TSU_x_SQ_LINK_COUNT p else if cause = sqPause then F.TSU_x_SQ_PAUSE_COUNT p
  else if cause = sqHandover then F.TSU_x_SQ_HANDOVER_COUNT p else if cause = sqPhase then F.TSU_x_SQ_PHASE_COUNT p
  else if cause = sqStep then F.TSU_x_SQ_STEP_COUNT p else F.TSU_x_SQ_GUARDRAIL_COUNT p

/-- A report to a source. -/
def State.report (s : State) (r : PinReport) : State := s.modPrt fun c => { c with reports := c.reports ++ [r] }

/-- A pinned frame taken from its port: its interval and its buffer space are free. -/
def State.pinDrop (s : State) (p : Nat) (f : Pinned) : State := s.modPort p fun c => { c with pinned := c.pinned.erase f }

/-- One pinned frame squashed: its interval and buffer space are free, it is counted, its source gets the one report. A
squash before SLOT counts in TX_PINNED_SQUASH (R234). -/
def State.pinSquash (s : State) (p : Nat) (f : Pinned) (cause hint : Nat) : State :=
  let s1 := (s.pinDrop p f).incr (squashCounter p cause)
  (if f.phase = .launching then s1 else s1.countUp (A.PRT_x_TX_PINNED_SQUASH p)).report ⟨f.src, p, f.tag, .squashed cause hint⟩

/-- Every pinned frame of a port that a condition names, squashed. -/
def State.pinSquashIf (s : State) (p cause hint : Nat) (c : Pinned → Bool) : State :=
  ((s.port p).pinned.filter c).foldl (fun (s : State) f => s.pinSquash p f cause hint) s

/-- The pinned frame of a port that a source knows by a tag. -/
def State.pinOf (s : State) (p src tag : Nat) : Option Pinned := (s.port p).pinned.find? (fun f => f.src == src && f.tag == tag)

/-- A frame goes back to its source as not sent (R199). -/
def State.notSent (s : State) (p src : Nat) (d : List Byte) : State :=
  s.modPrt fun c => { c with done := c.done ++ [.notSent p src d] }

end Sys2Proof.Machine
end

