-- ==== Sys2Proof/Machine/Tsu.lean ====
section
/-!
DEFINITION. Timestamping and launch pinning (09_timestamping_and_launch.md R224 to R237, R243, R244): the position rule,
receive stamps, the transmit grid phase, the slot search and the states of a pinned frame.
-/
namespace Sys2Proof.Machine

open Sys2Proof

/-! ### The position rule (R225, R226) -/

/-- The grid of a mode: unit length and bit time in 2^-16 ns, whether units are RS codewords, the marker cycle in units,
and the start-block positions markers occupy. -/
structure Grid where
  unit : Rat
  tbit : Rat
  rs : Bool
  amCycle : Nat
  amPos : Nat
  deriving DecidableEq, Repr

def gridOf (mode : Nat) (fec : Bool) : Grid :=
  if mode = 1 then ⟨65536 * 512 / 10, 65536 * 1000 / 103125, true, 4096, 20⟩
  else if mode = 2 then
    (if fec then ⟨65536 * 2048 / 10, 65536 * 100000 / 2578125, true, 1024, 4⟩
     else ⟨65536 * 256 / 100, 65536 * 100000 / 2578125, false, 0, 0⟩)
  else if mode = 3 then ⟨65536 * 64 / 10, 65536 * 10000 / 103125, false, 0, 0⟩
  else ⟨65536 * 8, 65536 * 8 / 10, false, 0, 0⟩

def State.grid (s : State) (p : Nat) : Grid := gridOf (s.portMode p) (s.flag (F.PRT_x_CFG_FEC p))

/-- The bit in a unit where the start block at position `i` begins. -/
def startBit (g : Grid) (i : Nat) : Nat := if g.rs then 257 * (i / 4) + 1 + 64 * (i % 4) else 0

/-- b of R225: the SFD's bit index. -/
def sfdBit (mode : Nat) (g : Grid) (i : Nat) : Nat :=
  if g.rs then startBit g i + 56 else if mode = 2 ∨ mode = 3 then 58 else 0

/-- Rounding to a stamp: nearest 2^-12 ns, a half up; the result in 2^-16 ns. -/
def roundStamp (t : Rat) : Nat := ((t / 16 + 1 / 2).floor * 16).toNat

/-- TSU_x_DPATH for a mode (R227): D_TX and D_RX in 2^-12 ns. -/
def dpath (mode : Nat) : Nat × Nat :=
  if mode = 1 ∨ mode = 2 then (11776, 13312) else if mode = 3 then (16896, 18432) else if mode = 4 ∨ mode = 5 then (49152, 57344) else (0, 0)

/-- A transmit instant at the MDI from the SerDes boundary (R227): D_TX, the correction for residual skew and CAL_TX added. -/
def State.txMdi (s : State) (p serdes : Nat) (residual : Int) : Rat :=
  serdes + 16 * ((dpath (s.portMode p)).1 : Nat) + 16 * residual + (s.getI (F.TSU_x_CAL_TX_CAL p) : Rat) * 65536 / 1000000

/-- A transmit stamp (R224, R225): t_g + b * T_bit, rounded. -/
def State.txInstant (s : State) (p : Nat) (m : TxMeta) : Nat :=
  roundStamp (s.txMdi p m.serdes m.residual + sfdBit (s.portMode p) (s.grid p) m.pos * (s.grid p).tbit)

/-- A receive stamp (R224, R225, R227): the unit's SerDes instant less D_RX, the lane's skew and CAL_RX, plus b bit
times. -/
def State.rxInstant (s : State) (p : Nat) (m : RxMeta) : Nat :=
  let g := s.grid p
  let d : Rat := 16 * ((dpath (s.portMode p)).2 : Nat)
  let sk : Rat := if p < 2 then 16 * (s.getI (F.TSU_x_SKEW_SKEW p m.lane) : Rat) else 0
  let cal : Rat := (s.getI (F.TSU_x_CAL_RX_CAL p) : Rat) * 65536 / 1000000
  roundStamp (m.serdes - d - sk - cal + sfdBit (s.portMode p) g m.pos * g.tbit)

/-- Voted time existed at an instant of the scale in force: not in DARK, not before the keepers started (R61, R231). -/
def State.votedAt (s : State) (t : Nat) : Bool :=
  s.kpr.started && decide (s.kpr.bornAt ≤ t) && (s.hasVoted || decide (t ≤ s.kpr.lastVoted))

/-- The descriptor of a stamp (R230, R231): the STEP count of the SFD's time scale, `steps` realign steps ago; VALID is 0 where the
SFD fell in DARK, and where the port does not stamp. -/
def State.rxDesc (s : State) (p t steps : Nat) : RxDesc :=
  ⟨ns32Of t, t / 16 % 4096, t / lsbPerNs / 2 ^ 32 % 256, (s.get F.TSU_STAT_STEP + 15 * steps) % 16,
    (s.votedAt t || decide (0 < steps)) && s.flag (F.TSU_x_CFG_RX_STAMP_EN p)⟩

/-- The full nanosecond count a descriptor names, nearest a reference; none where WRAP8 disagrees (R230). -/
def RxDesc.ns (d : RxDesc) (ref : Nat) : Option Nat :=
  let n := ns32Extend d.ns32 ref
  if 0 ≤ n ∧ n.toNat / 2 ^ 32 % 256 = d.wrap8 then some n.toNat else none

/-- The stamp's instant in 2^-16 ns, extended near voted time; none where it is not valid. -/
def State.descTime (s : State) (d : RxDesc) : Option Nat :=
  if d.valid then (d.ns (s.now / lsbPerNs)).map (fun n => n * 65536 + d.frac * 16) else none

/-! ### The transmit grid phase (R228) -/

/-- The move of a measurement from the held phase, in 2^-12 ns: their distance less whole units. -/
def phaseMove (g : Grid) (held new : Nat) : Int :=
  let d : Rat := (new : Rat) - held
  roundRat ((d - g.unit * (d / g.unit + 1 / 2).floor) / 16)

/-- One measurement, its instant at the MDI: posted with its cause. At UP, at a handover and at a step it is the phase from now
on; a tick's replaces the held phase only where it moved by more than 8 units, and then squashes the pinned frames whose slots
lie after it, with TSU_PHASE (R228). -/
def State.gridMeasureOf (s : State) (p cause : Nat) (ph : GridPhase) : State :=
  let s1 := (s.putKt (A.TSU_x_PHASE p 0) ph.at_).post (A.TSU_x_PHASE_RES p) (cause * 65536)
  let hold (s : State) : State := (s.modPort p fun c => { c with phase := some ph }).putBit F.TSU_STAT_PHASE_VALID p true
  match (s1.port p).phase with
  | none => hold s1
  | some h =>
    let mv := phaseMove (s1.grid p) h.at_ ph.at_
    let s1 := s1.ageMove p mv.natAbs
    if cause ≠ 4 then hold s1
    else if mv.natAbs ≤ 8 then s1
    else ((hold s1).pinSquashIf p sqPhase 0 (fun f => f.phase != .launching && decide (s.now < f.slot))).raise Ev.TSU_PHASE p (detI mv)

/-- The phase detector's measurement taken to the MDI (R227). -/
def State.gridMdi (s : State) (p : Nat) (ph : GridPhase) : GridPhase :=
  { ph with at_ := (roundRat (s.txMdi p ph.at_ ph.residual)).toNat, residual := 0 }

/-- The measurement with what an injection adds to it, in 2^-12 ns (R484). -/
def State.gridMeasure (s : State) (p cause : Nat) (ph : GridPhase) : State :=
  let m := s.gridMdi p ph
  (s.injUse 0x81 p).gridMeasureOf p cause { m with at_ := ((m.at_ : Int) + s.injArg 0x81 p * 16).toNat }

/-! ### Slots (R233, R236) -/

/-- The instant of start-block position `i` of the unit `n` units after the phase. -/
def posTime (g : Grid) (ph : GridPhase) (n : Int) (i : Nat) : Rat := ph.at_ + n * g.unit + startBit g i * g.tbit

/-- A frame may start at position `i` of that unit (R226). -/
def posOk (g : Grid) (ph : GridPhase) (n : Int) (i : Nat) : Bool :=
  !(g.rs && ((n + ph.am) % (g.amCycle : Int) == 0) && decide (i < g.amPos))

/-- The position after (n, i). -/
def posNext (g : Grid) (n : Int) (i : Nat) : Int × Nat := if g.rs ∧ i < 79 then (n, i + 1) else (n + 1, 0)

/-- The first start-block position at or after `t`, looking at `k` positions from (n, i). -/
def posFrom (g : Grid) (ph : GridPhase) (t : Rat) : Nat → Int → Nat → Int × Nat
  | 0, n, i => (n, i)
  | k + 1, n, i =>
    if posOk g ph n i ∧ t ≤ posTime g ph n i then (n, i)
    else posFrom g ph t k (posNext g n i).1 (posNext g n i).2

def firstPos (g : Grid) (ph : GridPhase) (t : Rat) : Int × Nat := posFrom g ph t 200 ((t - ph.at_) / g.unit).floor 0

/-- The reserved windows of a port that may touch [a, b) (R236): one for each multiple of RSV_PERIOD. -/
def State.windows (s : State) (p : Nat) (g : Grid) (ph : GridPhase) (a b : Rat) : List (Rat × Rat) :=
  let per : Rat := 65536 * s.get (F.TSU_x_RSV_RSV_PERIOD p)
  if per = 0 then []
  else
    let len := byteTime (s.portMode p) * s.get (F.TSU_x_RSV_RSV_LEN p) + s.guardTime p
    let lo := ((a - len - 2 * g.unit) / per).floor
    let hi := (b / per).floor
    (List.range (hi - lo + 1).toNat).map fun (j : Nat) =>
      let w := firstPos g ph (per * (lo + j : Int))
      let t := posTime g ph w.1 w.2
      (t, t + len)

def State.inWindow (s : State) (p : Nat) (g : Grid) (ph : GridPhase) (a b : Rat) : Bool :=
  (s.windows p g ph a b).any (fun w => decide (w.1 < b ∧ a < w.2))

/-- The interval overlaps that of a granted pinned frame. -/
def State.pinBusy (s : State) (p : Nat) (a b : Rat) : Bool :=
  (s.port p).pinned.any (fun f => decide ((f.slot : Rat) < b ∧ a < (f.stop : Rat)))

/-! ### Class budgets (R214) -/

/-- Tokens of a class at an instant, in bytes: RATE Mb/s up to BURST KiB; none where RATE is 0, which sets no limit. -/
def State.tokens (s : State) (p c : Nat) (t : Rat) : Option Rat :=
  let rate := s.get (F.PRT_x_TXCc_RATE_RATE p c)
  if rate = 0 then none
  else
    let burst : Rat := 1024 * s.get (F.PRT_x_TXCc_CFG_BURST p c)
    match ((s.port p).buckets[c]?).getD none with
    | none => some burst
    | some (tok, t0) => some (if (t0 : Rat) < t then min burst (tok + rate / 524288000 * (t - t0)) else tok)

/-- The class may send `len` bytes at `t`. -/
def State.inBudget (s : State) (p c len : Nat) (t : Rat) : Bool := match s.tokens p c t with
  | none => true
  | some k => decide ((len : Rat) ≤ k)

/-- The bytes of a frame leave the class's bucket. -/
def State.charge (s : State) (p c len t : Nat) : State := match s.tokens p c t with
  | none => s
  | some k => s.modPort p fun st => { st with buckets := listUpd st.buckets c (fun b => some (k - len, match b with
      | some (_, t0) => max t0 t
      | none => t)) }

/-! ### The slot search (R233) -/

/-- slot_search from position (n, i), over `k` positions: the position and whether it lies in a reserved window. -/
def State.slotSearch (s : State) (p c len : Nat) (rsv : Bool) (g : Grid) (ph : GridPhase) (last : Rat) :
    Nat → Int → Nat → Option (Int × Nat × Bool)
  | 0, _, _ => none
  | k + 1, n, i =>
    let a := posTime g ph n i
    if last < a then none
    else
      let nx := posNext g n i
      if !posOk g ph n i then s.slotSearch p c len rsv g ph last k nx.1 nx.2
      else
        let b := a + byteTime (s.portMode p) * (len + 8 : Nat) + s.guardTime p
        let w := s.inWindow p g ph a b
        if s.pinBusy p a b || (w && !rsv) || (!(w && rsv) && !s.inBudget p c len a) then
          s.slotSearch p c len rsv g ph last k nx.1 nx.2
        else some (n, i, w)

/-- The reply of R232. -/
inductive Grant where
  | refused (cause : Nat)
  | granted (slot t3 deadline : Nat)
  deriving DecidableEq, Repr

/-- R213, R234: a reserved frame whose interval a pause in force overlaps is squashed with PAUSE, the pause's end as HINT. -/
def State.pinPaused (s : State) (p : Nat) (f : Pinned) : State :=
  let b := f.slot + (byteTime (s.portMode p) * (f.len + 8 : Nat)).ceil.toNat
  match (s.pauseOf p f.cls).find? (fun w => decide (f.slot < w.2 ∧ w.1 < b)) with
  | some w => s.pinSquash p f sqPause w.2
  | none => s

/-- A reservation judged (R232, R233): the reply, and the state that holds the granted frame. -/
def State.reserve (s : State) (p c src e len : Nat) (rsv : Bool) (tag : Nat) : Grant × State :=
  match (s.port p).phase with
  | none => (.refused 1, s)
  | some ph =>
    let lead := s.get (F.TSU_x_GUARD_LEAD p) * 65536
    if p = 19 ∨ ¬ s.flag (F.TSU_x_CFG_PIN_EN p) ∨ ¬ s.portUp p ∨ ¬ s.hasVoted then (.refused 1, s)
    else if e < s.now + lead then (.refused 2, s)
    else if len < 64 ∨ s.maxLen p < len then (.refused 3, s)
    else
      let g := s.grid p
      let st := firstPos g ph e
      match s.slotSearch p c len rsv g ph ((e : Rat) + 65536 * 1000000) 1700000 st.1 st.2 with
      | none => (.refused 4, s)
      | some (n, i, w) =>
        let a := posTime g ph n i
        let slot := roundStamp a
        let t3 := roundStamp (ph.at_ + n * g.unit + sfdBit (s.portMode p) g i * g.tbit)
        let stop := (a + byteTime (s.portMode p) * (len + 8 : Nat) + s.guardTime p).ceil.toNat
        let s1 := if w && rsv then s else s.charge p c len slot
        let f : Pinned := ⟨tag, src, c, slot, t3, slot - lead, stop, len, rsv, .reserved, []⟩
        (.granted slot t3 (slot - lead), (s1.modPort p fun k => { k with pinned := k.pinned ++ [f] }).pinPaused p f)

/-- What a reservation answers: RESULT, then SLOT, T3 and DEADLINE in KT96 words. -/
def grantWords : Grant → List Word
  | .refused c => [BitVec.ofNat 32 (2 * c)]
  | .granted a b c => [1] ++ ([a, b, c].flatMap fun t => [0, 1, 2].map fun i => BitVec.ofNat 32 (kt96Of t / 2 ^ (32 * i)))

/-! ### A pinned frame's life (R234, R235) -/

def State.setPin (s : State) (p src tag : Nat) (f : Pinned → Pinned) : State :=
  s.modPort p fun c => { c with pinned := c.pinned.map (fun g => if g.src = src ∧ g.tag = tag then f g else g) }

/-- R234: DEADLINE passes with the frame not whole; TSU_MISSED at most once a tick and port. -/
def State.pinMiss (s : State) (p src tag : Nat) : State :=
  match s.pinOf p src tag with
  | some f =>
    if f.phase = .reserved then
      let s1 := ((s.injUse 0x80 p).advanceTo f.deadline).pinSquash p f sqMissed 0
      if (s1.port p).missTick = s1.curTick + 1 then s1
      else (s1.modPort p fun c => { c with missTick := s1.curTick + 1 }).raise Ev.TSU_MISSED p (tag % 65536)
    else s
  | none => s

def execDeadlineMissed (p : Fin 20) (src : Fin 8) (tag : Fin 65536) (s : State) : Host.Outcome State Fault Refusal :=
  .next (s.pinMiss p src tag)

/-- A frame's start block has started, or its SLOT has come (R234, R235). -/
def State.pinGone (s : State) (f : Pinned) : Bool := f.phase == .launching || (f.phase == .armed && decide (f.slot ≤ s.now))

/-- R234, R235: a cancel before SLOT squashes with CANCEL; at SLOT or later it is refused and the frame reported LAUNCHED. -/
def State.pinCancel (s : State) (p src tag : Nat) : State :=
  match s.pinOf p src tag with
  | some f => if s.pinGone f then s.report ⟨f.src, p, tag, .launched⟩ else s.pinSquash p f sqCancel 0
  | none => s

def execPinnedCancel (p : Fin 20) (src : Fin 8) (tag : Fin 65536) (s : State) : Host.Outcome State Fault Refusal :=
  .next (s.pinCancel p src tag)

/-- A handover squashes pinned frames whose slots start within 2 us after it (R168). -/
def State.pinHandover (s : State) : State :=
  allPorts.foldl (fun (s : State) p => s.pinSquashIf p sqHandover 0
    (fun f => f.phase != .launching && decide (f.slot ≤ s.now + 2 * lsbPerUs))) s

/-- A realign step squashes the frames whose SLOT is at or after it, and counts in STEP (R230, R234). -/
def State.tsuStep (s : State) : State :=
  (allPorts.foldl (fun (s : State) p => s.pinSquashIf p sqStep 0 (fun f => f.phase != .launching)) s).incr F.TSU_STAT_STEP

/-- The TSU's transmit-stamp record of R237. -/
def State.stampRecord (s : State) (p tag sfd : Nat) : List Byte :=
  leBytes 6 (sfd / lsbPerSec) ++ leBytes 4 (sfd / lsbPerNs % 1000000000) ++ leBytes 2 (sfd / 16 % 4096 + s.get F.TSU_STAT_STEP * 4096)
    ++ leBytes 2 tag ++ leBytes 1 p ++ leBytes 1 (if s.votedAt sfd then 1 else 0)

/-- Receive stamps become invalid on entry to DARK (R246). -/
def State.stampsInvalid (s : State) : State :=
  allPorts.foldl (fun (s : State) p => s.raiseIf (s.portUp p && s.flag (F.TSU_x_CFG_RX_STAMP_EN p)) Ev.TSU_STAMP_INVALID p) s

end Sys2Proof.Machine
end

