-- ==== Sys2Proof/Machine/Prt.lean ====
section
/-!
DEFINITION. Ports and media access (08_ports_and_macs.md R195 to R223): received frames and their steering, flow control,
the transmit guardrails and scheduler, and the link states.
-/
namespace Sys2Proof.Machine

open Sys2Proof

/-! ### Frames (R201 to R207) -/

/-- The address made of bytes 0, 1 (HI) and 2 to 5 (LO), most significant first. -/
def State.macAddr (s : State) (lo hi : Nat) : Nat := (s.reg hi).toNat % 65536 * 2 ^ 32 + (s.reg lo).toNat

def State.portAddr (s : State) (p : Nat) : Nat := s.macAddr (A.PRT_x_ADDR p) (A.PRT_x_ADDR p + 4)

/-- The VLAN tags of a frame (R206): outer TPID and VID, inner VID, and the offset of the EtherType. -/
structure Tags where
  outer : Option (Nat × Nat)
  inner : Option Nat
  etOfs : Nat
  deriving DecidableEq, Repr

def tagsOf (d : List Byte) : Tags :=
  let t0 := beAt d 12 2
  if t0 = 0x88A8 ∨ t0 = 0x8100 then
    let o := some (t0, beAt d 14 2 % 4096)
    if beAt d 16 2 = 0x8100 then ⟨o, some (beAt d 18 2 % 4096), 20⟩ else ⟨o, none, 16⟩
  else ⟨none, none, 12⟩

def etherType (d : List Byte) : Nat := beAt d (tagsOf d).etOfs 2

/-- Number of tags parsed. -/
def Tags.count (t : Tags) : Nat := if t.outer.isNone then 0 else if t.inner.isNone then 1 else 2

/-- A third tag: the EtherType position holds a TPID (R206). -/
def thirdTag (d : List Byte) : Bool := (tagsOf d).count == 2 && (etherType d == 0x8100 || etherType d == 0x88A8)

/-- Enabled group entries that hold the address. -/
def State.groupHits (s : State) (p da : Nat) : List Nat :=
  (List.range 16).filter fun g =>
    (s.reg (A.PRT_x_GRPg p g + 4)).toNat / 65536 % 2 == 1 && s.macAddr (A.PRT_x_GRPg p g) (A.PRT_x_GRPg p g + 4) == da

def bcast : Nat := 2 ^ 48 - 1
def macControlDa : Nat := 0x0180C2000001

/-- Admitted to steering (R205). -/
def State.admitted (s : State) (p da : Nat) : Bool :=
  da == s.portAddr p || (da == bcast && s.flag (F.PRT_x_CFG_BCAST_EN p)) || !(s.groupHits p da).isEmpty || da == macControlDa

/-- A filter rule matches a frame on every field (R207, R220); OUTER_AD is judged where the rule names a tag count. -/
def State.ruleHit (s : State) (p r : Nat) (d : List Byte) : Bool :=
  let t := tagsOf d
  let da := beAt d 0 6
  let tm := s.get (F.PRT_x_RULEr_CTL_TAG_MODE p r)
  let dc := s.get (F.PRT_x_RULEr_CTL_DA_CLASS p r)
  let tagOk := tm == 0 || (tm == 1 && t.count == 0) || (tm == 2 && t.count == 1) || (tm == 3 && t.count == 2)
  let tpidOk := tm < 2 || (match t.outer with
    | some (x, _) => x == (if s.flag (F.PRT_x_RULEr_CTL_OUTER_AD p r) then 0x88A8 else 0x8100)
    | none => true)
  let voOk := s.flag (F.PRT_x_RULEr_CTL_VO_ANY p r) || (match t.outer with
    | some (_, v) => v == s.get (F.PRT_x_RULEr_VID_VID_OUTER p r)
    | none => false)
  let viOk := s.flag (F.PRT_x_RULEr_CTL_VI_ANY p r) || t.inner == some (s.get (F.PRT_x_RULEr_VID_VID_INNER p r))
  let etOk := s.flag (F.PRT_x_RULEr_CTL_ETYPE_ANY p r) || (!thirdTag d && etherType d == s.get (F.PRT_x_RULEr_CTL_ETYPE p r))
  let daOk := dc == 0 || (dc == 1 && da == s.portAddr p)
    || (dc == 2 && (s.groupHits p da).any (fun g => s.bit (F.PRT_x_RULEr_GRP_GRP_MASK p r) g)) || (dc == 3 && da == bcast)
  s.flag (F.PRT_x_RULEr_CTL_EN p r) && tagOk && tpidOk && voOk && viOk && etOk && daOk && !(thirdTag d && tm != 0)

/-- The lowest-numbered rule that matches. -/
def State.ruleFor (s : State) (p : Nat) (d : List Byte) : Option Nat := (List.range 16).find? fun r => s.ruleHit p r d

/-- The consumer of a queue can be reached from a port (R204). -/
def reaches (consumer p : Nat) : Bool :=
  consumer == 2 || ((consumer == 1 || consumer == 3) && p < 18) || ((consumer == 4 || consumer == 5 || consumer == 7) && 2 ≤ p && p < 18)
    || (consumer == 6 && p == 18)

def State.queue (s : State) (p q : Nat) : List RxFrame := ((s.port p).rxq[q]?).getD []
def queueBytes (l : List RxFrame) : Nat := l.foldl (fun a f => a + f.data.length) 0

/-- FILL of a receive queue, in KiB rounded up. -/
def State.showFill (s : State) (p q : Nat) : State :=
  s.put (F.PRT_x_RXQq_CFG_FILL p q) (min 255 ((queueBytes (s.queue p q) + 1023) / 1024))

/-- R208: a frame joins its queue, or is dropped where the queue is full. -/
def State.enqueue (s : State) (p q : Nat) (f : RxFrame) : State :=
  if s.get (F.PRT_x_RXQq_CFG_DEPTH p q) * 1024 < queueBytes (s.queue p q) + f.data.length then
    let seen := ((s.port p).rxFull[q]?).getD false
    ((s.countUp (A.PRT_x_RX_QFULL_DROP p)).modPort p fun c => { c with rxFull := listUpd c.rxFull q (fun _ => true) }).raiseIf
      (!seen) Ev.PRT_RXQ_FULL p q
  else
    let s1 := (s.modPort p fun c => { c with rxq := listUpd c.rxq q (· ++ [f]) }).showFill p q
    if f.desc.valid then s1.incr (F.TSU_x_RX_STAMPS_COUNT p) else s1

/-- The first frame of a port's queues bound to a consumer that satisfies a condition, taken out. -/
def State.takeRx (s : State) (p consumer : Nat) (c : RxFrame → Bool) : Option RxFrame × State :=
  match (List.range 8).find? (fun q => s.get (F.PRT_x_RXQq_CFG_CONSUMER p q) == consumer && (s.queue p q).any c) with
  | none => (none, s)
  | some q =>
    match (s.queue p q).find? c with
    | none => (none, s)
    | some f =>
      let s1 := (s.modPort p fun k => { k with rxq := listUpd k.rxq q (·.erase f) }).showFill p q
      (some f, if (s1.queue p q).isEmpty then s1.modPort p fun k => { k with rxFull := listUpd k.rxFull q (fun _ => false) } else s1)

/-- R207: an admitted frame goes to the queue of its rule, or as PRT_x_FILT_CFG says. -/
def State.steer (s : State) (p : Nat) (d : List Byte) (desc : RxDesc) : State :=
  let go (s : State) (q : Nat) : State :=
    if reaches (s.get (F.PRT_x_RXQq_CFG_CONSUMER p q)) p then s.enqueue p q ⟨d, desc⟩ else s.countUp (A.PRT_x_RX_FILTER_DROP p)
  match s.ruleFor p d with
  | some r => go (s.incr (F.PRT_x_RULEr_HITS_HITS p r)) (s.get (F.PRT_x_RULEr_CTL_QUEUE p r))
  | none =>
    if s.flag (F.PRT_x_FILT_CFG_UNMATCHED_DROP p) then s.countUp (A.PRT_x_RX_FILTER_DROP p)
    else go s (s.get (F.PRT_x_FILT_CFG_DEFAULT_Q p))

/-! ### Flow control (R209 to R213) -/

/-- Reaction time of a mode in 2^-16 ns (R210), and the pause quantum. -/
def reaction (mode : Nat) : Nat := 65536 * (if mode = 1 then 200 else if mode = 2 then 300 else if mode = 3 then 500 else 2000)
def quantum (mode : Nat) : Rat := byteTime mode * 64

/-- R209: a PAUSE frame is counted and, where the port honours it, waits for its action instant. -/
def State.pauseRx (s : State) (p q last : Nat) : State :=
  let s1 := s.countUp (A.PRT_x_RX_PAUSE p)
  if s1.flag (F.PRT_x_CFG_RX_PAUSE_EN p) && !s1.flag (F.PRT_x_CFG_PFC_EN p) then
    s1.modPort p fun c => { c with pausePend := c.pausePend ++ [(q, last + reaction (s.portMode p))] }
  else s1

/-- R209: a PFC frame likewise; `qs` gives the quanta of the enabled priorities. -/
def State.pfcRx (s : State) (p : Nat) (qs : List (Option Nat)) (last : Nat) : State :=
  let s1 := s.countUp (A.PRT_x_RX_PFC p)
  if s1.flag (F.PRT_x_CFG_PFC_EN p) then
    s1.modPort p fun c => { c with pfcPend := c.pfcPend ++ [(qs, last + reaction (s.portMode p))] }
  else s1

/-- The eight quanta of a class-enable vector. -/
def pfcQuanta (en : Nat) (q : Nat → Nat) : List (Option Nat) :=
  (List.range 8).map fun i => if en / 2 ^ i % 2 = 1 then some (q i) else none

/-- A MAC Control frame (R209). -/
def State.macControl (s : State) (p : Nat) (d : List Byte) (last : Nat) : State :=
  let o := (tagsOf d).etOfs + 2
  if beAt d o 2 = 1 then s.pauseRx p (beAt d (o + 2) 2) last
  else if beAt d o 2 = 0x0101 then s.pfcRx p (pfcQuanta (beAt d (o + 2) 2) (fun i => beAt d (o + 4 + 2 * i) 2)) last
  else s.countUp (A.PRT_x_RX_FILTER_DROP p)

/-- The frame's FCS is good (R202; the CRC-32 of IEEE 802.3, assumption log 7). -/
def fcsGood (f : List Byte) : Bool :=
  crc32 (f.take (f.length - 4)) == leNat (f.drop (f.length - 4))

/-- The physical layer's counts since the last frame (R221, R223). -/
def State.phyCounts (s : State) (p : Nat) (m : RxMeta) : State :=
  let s1 := ((s.countUp (A.PRT_x_FEC_CORR p) m.fecCorr).countUp (A.PRT_x_FEC_UNCORR p) m.fecUncorr).countUp (A.PRT_x_PCS_ERR p) m.pcsErr
  if 0 < m.fecUncorr ∧ (s.port p).fecSeen = false then
    (s1.modPort p fun c => { c with fecSeen := true }).raise Ev.PRT_FEC_UNCORR p m.fecLane
  else s1

/-- MAC_MAXLEN in force as the first byte of a frame stamped `t` arrived (R201). -/
def State.maxLenAt (s : State) (p t : Nat) : Nat := match (s.port p).lenWas with
  | some (old, at_) => if t < at_ then old else s.maxLen p
  | none => s.maxLen p

/-- A frame that was being received as its port left UP: its SFD came before that instant (R199). -/
def State.rxCut (s : State) (p : Nat) (m : RxMeta) : Bool := match (s.port p).leftUp with
  | some t => decide (m.serdes < t)
  | none => false

/-- R202, R205, R207, R209: a frame of a port that is UP, from the destination address to the FCS; one being received as the
port left UP is dropped and counted in RX_FCS_ERR (R199). -/
def State.rxFrame (s : State) (p : Nat) (f : List Byte) (m : RxMeta) : State :=
  if !s.portUp p || !s.clockRuns (48 + p) then (if s.rxCut p m then s.countUp (A.PRT_x_RX_FCS_ERR p) else s)
  else
    let s0 := s.phyCounts p m
    if f.length < 64 then s0.countUp (A.PRT_x_RX_RUNT p)
    else if s.maxLenAt p (s.rxInstant p m) < f.length then s0.countUp (A.PRT_x_RX_OVERSIZE p)
    else if !fcsGood f then s0.countUp (A.PRT_x_RX_FCS_ERR p)
    else
      let s1 := (s0.countUp (A.PRT_x_RX_FRAMES p)).countUp (A.PRT_x_RX_BYTES p) f.length
      let d := f.take (f.length - 4)
      let t := s1.rxInstant p m
      if !s1.admitted p (beAt d 0 6) then s1.countUp (A.PRT_x_RX_FILTER_DROP p)
      else if etherType d = 0x8808 then s1.macControl p d (t + (byteTime (s.portMode p) * (f.length + 1 : Nat)).floor.toNat)
      else s1.steer p d (s1.rxDesc p t m.steps)

def execRxFrame (p : Fin 20) (f : List Byte) (m : RxMeta) (s : State) : Host.Outcome State Fault Refusal :=
  .next (s.rxFrame p f m)

/-- The counts of a valid MAC Control frame of 64 bytes (R202). -/
def State.controlCount (s : State) (p : Nat) : State := (s.countUp (A.PRT_x_RX_FRAMES p)).countUp (A.PRT_x_RX_BYTES p) 64

def execPauseFrame (p : Fin 20) (q : Fin 65536) (last : Nat) (s : State) : Host.Outcome State Fault Refusal :=
  .next (if s.portUp p then (s.controlCount p).pauseRx p q last else s)

def execPfcFrame (p : Fin 20) (en : Fin 256) (qs : List (Fin 65536)) (last : Nat) (s : State) : Host.Outcome State Fault Refusal :=
  .next (if s.portUp p then (s.controlCount p).pfcRx p (pfcQuanta en (fun i => ((qs[i]?).map (·.val)).getD 0)) last else s)

/-- The end of the frame in progress, where one is (R211). -/
def State.busyEnd (s : State) (p : Nat) : Option Nat :=
  let len (f : TxFrame) : Nat := max 64 (f.data.length + 4) + 8
  match (s.port p).pinned.find? (fun f => f.phase == .launching) with
  | some f => some (f.slot + (byteTime (s.portMode p) * (f.len + 8 : Nat)).ceil.toNat)
  | none => (s.port p).busy.map fun f => f.start + (byteTime (s.portMode p) * (len f : Nat)).ceil.toNat

/-- The pause in force shown (R219, R222), and the start of the pause that has not broken since. -/
def State.pauseShow (s : State) (p : Nat) : State :=
  let c := s.port p
  let bits := (List.range 8).foldl (fun a i => a + (if ((c.pfc[i]?).getD none).isSome then 2 ^ i else 0)) 0
  let starts := (c.pause.toList ++ c.pfc.filterMap id).map (·.1)
  let s1 := (((s.putB (F.PRT_x_STAT_PAUSED p) c.pause.isSome).put (F.PRT_x_STAT_PFC_PAUSED p) bits).putBit F.PRT_PAUSED_PAUSED p (!starts.isEmpty))
  s1.modPort p fun k => match starts with
    | [] => { k with pauseSince := none, pauseLong := false }
    | t :: l => { k with pauseSince := some (k.pauseSince.getD (l.foldl min t)) }

/-- The new pause: from S to S + q quanta; quanta of 0 end it. A pause in force keeps its start. -/
def State.pauseSpan (s : State) (p a q : Nat) (old : Option (Nat × Nat)) : Option (Nat × Nat) :=
  if q = 0 then none
  else
    let st := match s.busyEnd p with
      | some e => max a e
      | none => a
    some (match old with | some (b, _) => b | none => st, st + (quantum (s.portMode p) * (q : Nat)).floor.toNat)

/-- Time of an ended pause counts in PAUSE_NS (R221). -/
def State.pauseEnded (s : State) (p : Nat) (old : Option (Nat × Nat)) (t : Nat) : State := match old with
  | some (a, _) => s.countUp (A.PRT_x_PAUSE_NS p) ((t - a) / lsbPerNs)
  | none => s

/-- R213: every pinned frame that overlaps the pause is squashed, with its end as HINT; one in progress finishes. -/
def State.pauseSquash (s : State) (p : Nat) (w : Option (Nat × Nat)) (cls : Nat → Bool) : State := match w with
  | some (_, e) => s.pinSquashIf p sqPause e fun f =>
      f.phase != .launching && cls f.cls && decide (f.slot < e ∧ s.now < f.slot + (byteTime (s.portMode p) * (f.len + 8 : Nat)).ceil.toNat)
  | none => s

/-- The first PCS block boundary at or after `t`, on the port's transmit grid (R210). -/
def State.blockAt (s : State) (p t : Nat) : Nat := match (s.port p).phase with
  | none => t
  | some ph =>
    let g := s.grid p
    let n := (((t : Rat) - ph.at_) / g.unit).floor
    match (List.range (if g.rs then 80 else 1)).find? (fun i => decide ((t : Rat) ≤ posTime g ph n i)) with
    | some i => (posTime g ph n i).ceil.toNat
    | none => (posTime g ph (n + 1) 0).ceil.toNat

/-- R210, R211: the oldest PAUSE that waits acts at its action instant A. -/
def State.pauseAct (s : State) (p : Nat) : State :=
  match (s.port p).pausePend with
  | [] => s
  | (q, reacted) :: rest =>
    let a := s.blockAt p reacted
    let s1 := s.advanceTo a
    let old := (s1.port p).pause
    let w := s1.pauseSpan p a q old
    let s2 := s1.modPort p fun c => { c with pausePend := rest, pause := w }
    let s3 := if w.isNone then s2.pauseEnded p old a else s2
    (s3.pauseSquash p w (fun _ => true)).pauseShow p

def execPauseAction (p : Fin 20) (s : State) : Host.Outcome State Fault Refusal := .next (s.pauseAct p)

/-- The classes whose PRIO is a priority (R212). -/
def State.prioOf (s : State) (p c : Nat) : Nat := s.get (F.PRT_x_TXCc_CFG_PRIO p c)

/-- R210, R212: the oldest PFC frame that waits acts at A on the priorities it enables. -/
def State.pfcAct (s : State) (p : Nat) : State :=
  match (s.port p).pfcPend with
  | [] => s
  | (qs, reacted) :: rest =>
    let a := s.blockAt p reacted
    let s1 := (s.advanceTo a).modPort p fun c => { c with pfcPend := rest }
    ((List.range 8).foldl (fun (s : State) i => match (qs[i]?).getD none with
      | none => s
      | some q =>
        let w := s.pauseSpan p a q (((s.port p).pfc[i]?).getD none)
        (s.modPort p fun c => { c with pfc := listUpd c.pfc i (fun _ => w) }).pauseSquash p w (fun c => s.prioOf p c == i)) s1).pauseShow p

def execPfcAction (p : Fin 20) (s : State) : Host.Outcome State Fault Refusal := .next (s.pfcAct p)

/-- R211, R212: a pause reaches its end instant. -/
def State.pauseStop (s : State) (p : Nat) (prio : Option (Fin 8)) : State :=
  match prio with
  | none => match (s.port p).pause with
    | some (a, e) => ((((s.advanceTo e).modPort p fun c => { c with pause := none }).pauseEnded p (some (a, e)) e)).pauseShow p
    | none => s
  | some i => match ((s.port p).pfc[i.val]?).getD none with
    | some (_, e) => ((s.advanceTo e).modPort p fun c => { c with pfc := listUpd c.pfc i (fun _ => none) }).pauseShow p
    | none => s

def execPauseEnd (p : Fin 20) (prio : Option (Fin 8)) (s : State) : Host.Outcome State Fault Refusal := .next (s.pauseStop p prio)

/-- R213: a pause unbroken for PAUSE_LONG us, once per continuous pause. -/
def State.pauseTooLong (s : State) (p : Nat) : State :=
  let c := s.port p
  match c.pauseSince with
  | some t =>
    if !c.pauseLong && decide (t + s.get (F.PRT_x_TIMERS_PAUSE_LONG p) * lsbPerUs ≤ s.now) then
      (s.modPort p fun k => { k with pauseLong := true }).raise Ev.PRT_PAUSE_LONG p
        ((if c.pause.isSome then 0 else 1) + 256 * s.get (F.PRT_x_STAT_PFC_PAUSED p))
    else s
  | none => s

def execPauseLong (p : Fin 20) (s : State) : Host.Outcome State Fault Refusal := .next (s.pauseTooLong p)

/-! ### Transmit (R203, R214 to R217, R237) -/

/-- A frame's length on the wire, with padding and FCS (R203). -/
def wireLen (d : List Byte) : Nat := max 60 d.length + 4

/-- Padding with zero bytes to 60 bytes (R203). -/
def padded (d : List Byte) : List Byte := d ++ List.replicate (60 - d.length) 0

/-- The frame on the wire: padded, with its FCS (R203; the CRC-32 of IEEE 802.3, assumption log 7). -/
def wireBytes (d : List Byte) : List Byte := padded d ++ leBytes 4 (crc32 (padded d))

/-- A frame that underruns: the bytes sent, then the bitwise inverse of their FCS (R217). -/
def spoiledBytes (d : List Byte) : List Byte := d ++ leBytes 4 (2 ^ 32 - 1 - crc32 d)

/-- The bytes a port sent last. -/
def State.onWire (s : State) (p : Nat) (l : List Byte) : State := s.modPort p fun c => { c with wire := l }

/-- The transmit guardrails of a frame handed over (R215): the cause that refuses it, 0 for none. Its length is judged as its
first byte leaves (R201). -/
def State.txCause (s : State) (p src c : Nat) (d : List Byte) : Nat :=
  if etherType d = 0x8808 then 2
  else if beAt d 6 6 ≠ s.portAddr p then 3
  else if src = 0 ∨ s.get (F.PRT_x_TXCc_CFG_SOURCE p c) ≠ src then 4 else 0

def State.txRefuse (s : State) (p c cause : Nat) : State :=
  (s.countUp (A.PRT_x_TX_REFUSED p)).raise Ev.PRT_TX_REFUSED p (cause + 16 * c)

/-- A frame of a source's queue that is not whole in the buffer yet. -/
def TxFrame.partOf (f : TxFrame) (src c : Nat) (d : List Byte) (stamp : Option Nat) : Bool :=
  f.src == src && f.cls == c && f.data == d && f.stamp == stamp && decide (f.written < d.length)

/-- More bytes of a frame written to the buffer (R216). -/
def TxFrame.grow (f : TxFrame) (w : Nat) : TxFrame := { f with written := max f.written (min w f.data.length) }

/-- R215, R216: an unpinned frame, `written` bytes of it in the buffer, is checked and queued in its class; a refused one returns as
not sent (R237), and so does one for a port that is not UP. A frame of which part was written before has more of it written now. -/
def State.txQueue (s : State) (p src c : Nat) (d : List Byte) (stamp : Option Nat) (written : Nat) (acc : Option (Nat × Nat)) : State :=
  let q := ((s.port p).txq[c]?).getD []
  let cause := s.txCause p src c d
  if (s.port p).busy.any (fun f => f.partOf src c d stamp) then s.modPort p fun k => { k with busy := k.busy.map (·.grow written) }
  else if q.any (fun f => f.partOf src c d stamp) then
    s.modPort p fun k => { k with txq := listUpd k.txq c fun l => l.map fun f => if f.partOf src c d stamp then f.grow written else f }
  else if cause ≠ 0 then (s.txRefuse p c cause).notSent p src d
  else if s.portUp p then
    s.modPort p fun k => { k with txq := listUpd k.txq c (· ++ [⟨src, c, d, stamp, min written d.length, 0, acc⟩]) }
  else s.notSent p src d

/-- A frame that takes nothing as it leaves. -/
def State.txSubmit (s : State) (p src c : Nat) (d : List Byte) (stamp : Option Nat) (written : Nat) : State :=
  s.txQueue p src c d stamp written none

/-- A frame may begin: whole in the buffer, or TX_START bytes of it (R216). -/
def State.txReady (s : State) (p : Nat) (f : TxFrame) : Bool :=
  decide (f.data.length ≤ f.written ∨ s.get (F.PRT_x_TXSTART_TX_START p) ≤ f.written)

/-- A class's pause (R211, R212). -/
def State.classPaused (s : State) (p c : Nat) : Bool :=
  (s.port p).pause.isSome || (((s.port p).pfc[s.prioOf p c]?).getD none).isSome

/-- The last bit leaves a guard band before the next reserved slot (R214). -/
def State.clearOfPins (s : State) (p t len : Nat) : Bool :=
  let e : Rat := t + byteTime (s.portMode p) * (len + 8 : Nat) + s.guardTime p
  (s.port p).pinned.all (fun f => decide (e ≤ (f.slot : Rat)))

/-- The class whose head frame starts at `t`: the lowest that is not paused, is in budget, and stays clear of slots. -/
def State.txClass (s : State) (p t : Nat) : Option Nat :=
  (List.range 8).find? fun c => match (((s.port p).txq[c]?).getD []).head? with
    | some f => s.txReady p f && !s.classPaused p c && s.inBudget p c (wireLen f.data) t && s.clearOfPins p t (wireLen f.data)
    | none => false

/-- What a frame takes as it leaves: an Announce's clockAccuracy, from the bound at its launch on its port (R91, R266). -/
def State.txFill (s : State) (p : Nat) (f : TxFrame) : TxFrame := match f.acc with
  | some (i, o) => { f with data := overlay f.data o [BitVec.ofNat 8 (s.accuracyOf i (s.boundReq p s.now none))] }
  | none => f

/-- The head frame of class `c` starts at `t`; a frame longer than the MAC_MAXLEN in force as its first byte leaves is refused (R201,
R215). -/
def State.txBegin (s : State) (p c t : Nat) (f : TxFrame) (rest : List TxFrame) : State :=
  let s1 := (s.advanceTo t).modPort p fun k => { k with txq := listUpd k.txq c (fun _ => rest) }
  if s1.maxLen p < wireLen f.data then (s1.txRefuse p c 1).notSent p f.src f.data
  else (s1.charge p c (wireLen f.data) s1.now).modPort p fun k => { k with busy := some { s1.txFill p f with start := s1.now } }

/-- R214, R216: at a frame boundary the scheduler starts one frame; while the port receives remote fault it starts none (R196). -/
def State.txStart (s : State) (p t : Nat) : State :=
  if !s.portUp p || !s.clockRuns (16 + p) || (s.busyEnd p).isSome || s.flag (F.PRT_x_STAT_REMOTE_FAULT p) then s
  else
    match s.txClass p (max s.now t) with
    | none => s
    | some c =>
      match ((s.port p).txq[c]?).getD [] with
      | [] => s
      | f :: rest => s.txBegin p c t f rest

def execTxFrameStart (p : Fin 20) (t : Nat) (s : State) : Host.Outcome State Fault Refusal := .next (s.txStart p t)

/-- R217: the frame is spoiled and returned, and TX_START rises by 64 up to MAC_MAXLEN. -/
def State.txSpoil (s : State) (p : Nat) (f : TxFrame) : State :=
  let v := max (s.get (F.PRT_x_TXSTART_TX_START p)) (min (s.get (F.PRT_x_TXSTART_TX_START p) + 64) (s.maxLen p))
  (((((s.modPort p fun k => { k with busy := none, wire := spoiledBytes (f.data.take f.written) }).countUp (A.PRT_x_TX_UNDERRUN p)).notSent p
    f.src f.data).put (F.PRT_x_TXSTART_TX_START p) v).raise Ev.PRT_UNDERRUN p (v + 65536 * f.cls))

/-- R217: the buffer ran dry during a frame that was not written in full; a frame whole in the buffer cannot underrun. -/
def State.txUnderrun (s : State) (p : Nat) : State :=
  match (s.port p).busy with
  | some f => if f.written < f.data.length then s.txSpoil p f else s
  | none => s

/-- R237: the last bit of the unpinned frame left with a good FCS; a STAMP frame returns its record. A frame that an
injection makes underrun does not (R484). -/
def State.txDone (s : State) (p : Nat) (m : TxMeta) : State :=
  match (s.port p).busy with
  | none => s
  | some f =>
    if s.injOn 0x71 p then (s.injUse 0x71 p).txSpoil p f
    else
      let s1 := ((s.modPort p fun k => { k with busy := none, wire := wireBytes f.data }).countUp (A.PRT_x_TX_FRAMES p)).countUp
        (A.PRT_x_TX_BYTES p) (wireLen f.data)
      match f.stamp with
      | some tag =>
        (s1.modPrt fun c => { c with done := c.done ++ [.stamp p f.src (s1.stampRecord p tag (s1.txInstant p m))] }).incr (F.TSU_x_TX_STAMPS_COUNT p)
      | none => s1

def execTxUnderrun (p : Fin 20) (s : State) : Host.Outcome State Fault Refusal := .next (s.txUnderrun p)

/-! ### Pinned frames (R215, R234, R235) -/

/-- A pinned frame's bytes are handed to the port: a guardrail that refuses them squashes it with GUARDRAIL (R215, R234). -/
def State.pinFill (s : State) (p src tag : Nat) (d : List Byte) : State :=
  match s.pinOf p src tag with
  | some f =>
    let cause := s.txCause p src f.cls d
    if cause = 0 then s.setPin p src tag fun f => { f with data := d } else (s.txRefuse p f.cls cause).pinSquash p f sqGuardrail 0
  | none => s

/-- R234: the frame is whole in the buffer before DEADLINE; a frame whose bytes were not handed over before brings them now. -/
def State.pinArm (s : State) (p src tag : Nat) (d : List Byte) : State :=
  match s.pinOf p src tag with
  | some f =>
    if f.phase = .reserved ∧ ¬ s.injOn 0x80 p ∧ s.now < f.deadline ∧ (f.data ≠ [] ∨ wireLen d = f.len) then
      (if f.data = [] then s.pinFill p src tag d else s).setPin p src tag fun f => { f with phase := .armed }
    else s
  | none => s

def execPinnedArmed (p : Fin 20) (src : Fin 8) (tag : Fin 65536) (d : List Byte) (s : State) : Host.Outcome State Fault Refusal :=
  .next (s.pinArm p src tag d)

/-- R234: SLOT is reached and the start block starts; a frame longer than the MAC_MAXLEN in force as its first byte leaves is
refused (R201, R215). -/
def State.pinLaunch (s : State) (p src tag : Nat) : State :=
  match s.pinOf p src tag with
  | some f =>
    if f.phase = .armed then
      (if s.maxLen p < f.len then ((s.advanceTo f.slot).txRefuse p f.cls 1).pinSquash p f sqGuardrail 0
      else (s.advanceTo f.slot).setPin p src tag fun f => { f with phase := .launching })
    else s
  | none => s

def execPinnedLaunch (p : Fin 20) (src : Fin 8) (tag : Fin 65536) (s : State) : Host.Outcome State Fault Refusal :=
  .next (s.pinLaunch p src tag)

/-- R234: the last bit has left with a good FCS; the SFD instant is measured by R225. A pinned frame of source 2 is a one-step
Sync and counts in SYNC_SENT (R266, R275). -/
def State.pinCommit (s : State) (p src tag : Nat) (m : TxMeta) : State :=
  match s.pinOf p src tag with
  | some f =>
    if f.phase = .launching then
      let d := ((s.txInstant p m : Int) - f.t3) / 16
      let mis := decide (1 < d.natAbs)
      let s1 := (((s.pinDrop p f).onWire p (wireBytes f.data)).countUp (A.PRT_x_TX_FRAMES p)).countUp (A.PRT_x_TX_BYTES p) f.len
      let s2 := (if f.src = 2 then s1.countUp (A.SVC_CNT 20) else s1).incr (F.TSU_x_COMMITTED_COUNT p)
      let s3 := if mis then (s2.incr (F.TSU_x_MISMATCH_COUNT p)).raise Ev.TSU_PIN_MISMATCH p (detI d) else s2
      s3.report ⟨f.src, p, tag, .committed mis⟩
    else s
  | none => s

def execPinnedCommit (p : Fin 20) (src : Fin 8) (tag : Fin 65536) (m : TxMeta) (s : State) : Host.Outcome State Fault Refusal :=
  .next (s.pinCommit p src tag m)

/-! ### Link states (R196 to R200) -/

/-- R199: pinned frames are squashed with cause LINK, the frame in progress is cut off, every other frame not yet started
returns to its source as not sent; pauses end with the link. -/
def State.linkDrop (s : State) (p : Nat) : State :=
  let s1 := s.pinSquashIf p sqLink 0 (fun _ => true)
  let back := (match (s1.port p).busy with | some f => [f] | none => []) ++ (s1.port p).txq.flatten
  let s2 := back.foldl (fun (s : State) f => s.notSent p f.src f.data) s1
  let s3 := s2.pauseEnded p (s2.port p).pause s2.now
  (s3.modPort p fun k =>
    { k with busy := none, txq := List.replicate 8 [], pause := none, pfc := List.replicate 8 none, pausePend := [], pfcPend := [],
             phase := none, leftUp := if s.portUp p then some s.now else k.leftUp,
             wire := match (s.port p).busy with | some f => f.data.take f.written | none => k.wire }).pauseShow p
    |>.putBit F.TSU_STAT_PHASE_VALID p false

/-- The Clause 37 base page MP advertises in 1000BASE-X mode: full duplex with PAUSE and ASM_DIR as the image says (R197). The
bits are those of IEEE 802.3 Clause 37 (assumption log 36). -/
def State.advertised (s : State) : Nat :=
  32 + 128 * s.get (F.PRT_x_CFG_AN_PAUSE 19) + 256 * s.get (F.PRT_x_CFG_AN_ASM 19)

/-- PCS acquisition starts, or starts again: on MP the exchange starts with it (R197, R198). -/
def State.acquire (s : State) (p : Nat) : State :=
  let s1 := s.setLink p lkAcquire
  if p = 19 then
    (s1.putB (F.PRT_x_AN_STAT_AN_DONE 19) false).modPort 19 fun k => { k with advert := if s.portMode 19 = 4 then s.advertised else 0 }
  else s1

/-- R196: a BASE-R port's transmitter sends remote fault while it receives local fault, else idle between frames. -/
def State.lineShow (s : State) (p : Nat) : State :=
  s.modPort p fun k => { k with line := if p ≠ 19 ∧ s.flag (F.PRT_x_STAT_LOCAL_FAULT p) then .remoteFault else .idle }

/-- The deskew detector's measured skew of a service port's lanes (R227). -/
def State.laneSkew (s : State) (p : Nat) (skew : List Int) : State :=
  if p < 2 then (List.range 4).foldl (fun (s : State) i => s.putI (F.TSU_x_SKEW_SKEW p i) ((skew[i]?).getD 0)) s else s

/-- R198: every lock is reached; on MP auto-negotiation is complete. A fault reported before has ended (assumption log 77). -/
def State.blockLock (s : State) (p : Nat) (skew : List Int) : State :=
  if s.injOn 0x70 p ∨ s.link p = lkDisabled then s
  else
    let s1 := ((s.modPort p fun k => { k with locked := true }).laneSkew p skew).edgesBack (48 + p)
    if s.link p = lkAcquire ∧ (p ≠ 19 ∨ s.flag (F.PRT_x_AN_STAT_AN_DONE p)) then
      ((((s1.setLink p lkVerify).putB (F.PRT_x_STAT_HI_BER p) false).putB (F.PRT_x_STAT_LOCAL_FAULT p) false).putB (F.PRT_x_STAT_REMOTE_FAULT p)
        false).lineShow p
    else s1

def execLinkBlockLock (p : Fin 20) (skew : List Int) (s : State) : Host.Outcome State Fault Refusal := .next (s.blockLock p skew)

/-- R198: lock held for LINK_HOLD opens the port; the grid phase is measured (R228). -/
def State.linkUp (s : State) (p ms : Nat) (ph : GridPhase) : State :=
  if s.link p = lkVerify ∧ s.get (F.PRT_x_TIMERS_LINK_HOLD p) ≤ ms then
    (((s.setLink p lkUp).modPort p fun k => { k with fecSeen := false }).raise Ev.PRT_LINK_UP p (s.portMode p)).gridMeasure p 1 ph
  else s

/-- The fault bits of a cause: 1 lock lost, 2 hi_ber, 3 local fault, 4 remote fault; and what the transmitter sends (R196). -/
def State.faultBits (s : State) (p cause : Nat) : State :=
  (if cause = 1 then s.modPort p fun k => { k with locked := false }
  else if cause = 2 then s.putB (F.PRT_x_STAT_HI_BER p) true else if cause = 3 then s.putB (F.PRT_x_STAT_LOCAL_FAULT p) true
  else if cause = 4 then s.putB (F.PRT_x_STAT_REMOTE_FAULT p) true else s).lineShow p

/-- R198: lock lost or a fault takes the port out of VERIFY or UP. -/
def State.linkFault (s : State) (p cause : Nat) : State :=
  let s1 := s.faultBits p cause
  if s.link p = lkVerify then (s1.linkDrop p).acquire p
  else if s.link p = lkUp then
    (((s1.linkDrop p).acquire p).countUp (A.PRT_x_LINK_DOWN p)).raise Ev.PRT_LINK_DOWN p cause
  else s1

/-- The port loop is lost: both directions gated (R166, R198). -/
def State.portGate (s : State) (p : Nat) : State :=
  if s.link p = lkDisabled ∨ s.link p = lkGated then s
  else ((s.linkDrop p).setLink p lkGated).raise Ev.PRT_GATED p (detSat 16 (s.port p).pinned.length)

/-- The port loop is LOCKED again, or for the first time with ENABLE set (R198). -/
def State.portUngate (s : State) (p : Nat) : State :=
  if s.link p = lkGated then s.acquire p
  else if s.link p = lkDisabled ∧ s.flag (F.PRT_x_CFG_ENABLE p) then s.acquire p
  else s

/-- ENABLE as it stands at the tick starts or ends the port (R198). -/
def State.portEnable (s : State) (p : Nat) : State :=
  if s.flag (F.PRT_x_CFG_ENABLE p) then
    (if s.link p = lkDisabled ∧ s.loopLocked (6 + p) then s.acquire p else s)
  else if s.link p = lkDisabled then s
  else ((s.linkDrop p).setLink p lkDisabled).modPort p fun k => { k with locked := false }

/-- R197: MP's exchange completes, or fails: the partner must offer full duplex, and in SGMII mode 1000 Mb/s. -/
def State.autoneg (s : State) (w : BitVec 16) : State :=
  let v := w.toNat
  let ok := if s.portMode 19 = 5 then v / 4096 % 2 == 1 && v / 1024 % 4 == 2 else v / 32 % 2 == 1
  let s1 := (s.put (F.PRT_x_AN_STAT_LP_WORD 19) v).putB (F.PRT_x_AN_STAT_AN_DONE 19) ok
  s1.raiseIf (!ok) Ev.PRT_AN_FAIL 19 v

def execAutonegResult (w : BitVec 16) (s : State) : Host.Outcome State Fault Refusal := .next (s.autoneg w)

/-- Frames of a port's FLUSH queues: received frames for the classifier that are not admitted (R188). -/
def State.flushRx (s : State) (p : Nat) : Nat × State :=
  (List.range 8).foldl (fun (a : Nat × State) q =>
    if a.2.get (F.PRT_x_RXQq_CFG_CONSUMER p q) = 1 then
      (a.1 + (a.2.queue p q).length,
        (a.2.modPort p fun k => { k with rxq := listUpd k.rxq q (fun _ => []), rxFull := listUpd k.rxFull q (fun _ => false) }).showFill p q)
    else a) (0, s)

/-- R200: the port's MAC, PCS and FEC are reset: it returns to ACQUIRE, its locks to be reached anew. -/
def State.portClear (s : State) (p : Nat) : State :=
  let s1 := (s.linkDrop p).modPort p fun k => { k with locked := false }
  if s1.link p = lkDisabled ∨ s1.link p = lkGated then s1 else s1.acquire p

/-- R221: every counter of the port latched at one instant; PAUSE_NS with the pause in force up to now. -/
def State.portSnap (s : State) (p : Nat) : State :=
  let s1 := s.snapPairs (A.PRT_x_RX_FRAMES p) 19
  match (s.port p).pause with
  | some (a, _) => s1.putWide (A.PRT_x_PAUSE_NS p) 2 (s.count (A.PRT_x_PAUSE_NS p) + (s.now - a) / lsbPerNs)
  | none => s1

def execPortCntSnap (p : Fin 20) (s : State) : Host.Outcome State Fault Refusal := .next (s.portSnap p)

end Sys2Proof.Machine
end

