-- ==== Sys2Proof/Machine/Trg.lean ====
section
/-!
DEFINITION. The trigger scheduler (09_timestamping_and_launch.md R238 to R242, R245, R246).
-/
namespace Sys2Proof.Machine

open Sys2Proof

def State.trgOut (s : State) (k : Nat) : TrgOut := (s.trg.outs[k]?).getD ⟨[], false, none⟩
def State.modTrgOut (s : State) (k : Nat) (f : TrgOut → TrgOut) : State := s.modTrg fun c => { c with outs := listUpd c.outs k f }

/-- FILL and ACTIVE follow the schedule; an entry is active from its first firing (R241, R245). -/
def State.trgShow (s : State) (k : Nat) : State :=
  let es := (s.trgOut k).entries
  let act := match es with | e :: _ => decide (0 < e.next) | [] => false
  ((s.put (F.TRG_k_STAT_FILL k) es.length).putB (F.TRG_k_STAT_ACTIVE k) act).putBit ⟨0x150000, 15, 0⟩ k act

/-- The cause that refuses a push judged now (R240); 0 for none. -/
def State.trgCause (s : State) (k f w p n : Nat) : Nat :=
  if ¬ s.flag (F.TRG_k_CFG_ENABLE k) then 5
  else if f < s.now + 2 * lsbPerUs then 1
  else if (match (s.trgOut k).entries.getLast? with | some e => decide (f ≤ e.first + e.width * lsbPerNs) | none => false) then 2
  else if 16 ≤ (s.trgOut k).entries.length then 3
  else if w < 2 ∨ 1000000000 < w ∨ (p ≠ 0 ∧ (p < (w + 2) * 4096 ∨ p < 20 * 4096)) ∨ (n = 0 ∧ p = 0) then 4
  else 0

/-- A push of given fields (R239, R240): the cause, and the state after it without its posted result. -/
def State.trgTry (s : State) (k f w p n : Nat) : Nat × State :=
  let c := s.trgCause k f w p n
  if c ≠ 0 then (c, s.raise Ev.TRG_REFUSED k c)
  else (0, (s.modTrgOut k fun o => { o with entries := o.entries ++ [⟨f, w, p, n, 0, 0⟩] }).trgShow k)

/-- The result of a push posted in TRG_k_RES (R11). -/
def State.trgPost (s : State) (k cause : Nat) : State :=
  s.post (A.TRG_k_RES k) (2 * (if cause = 0 then 1 else 2) + 16 * cause + 65536 * (s.trgOut k).entries.length)

/-- R239, R240: PUSH of the fields last written. -/
def State.trgPush (s : State) (k : Nat) : State :=
  let r := s.trgTry k (timeOf (s.lastWide (A.TRG_k_AT k 0) 3)) (s.lastGet (F.TRG_k_WIDTH_WIDTH k))
    (s.lastWide (A.TRG_k_PERIOD k) 2 % 2 ^ 48) (s.lastGet (F.TRG_k_COUNT_N k))
  r.2.trgPost k r.1

def execTrgPush (k : Fin 16) (s : State) : Host.Outcome State Fault Refusal := .next (s.trgPush k)

/-- R241: every entry is removed; a pulse that is high completes. -/
def State.trgCancel (s : State) (k : Nat) : State := (s.modTrgOut k fun o => { o with entries := [] }).trgShow k

def execTrgCancelAll (k : Fin 16) (s : State) : Host.Outcome State Fault Refusal := .next (s.trgCancel k)

/-- The instant of an entry's next firing. -/
def TrgEntry.due (e : TrgEntry) : Nat := e.first + e.next * e.period * 16

/-- Entries whose place the next entry has taken are dropped (R241). -/
def trgHead : List TrgEntry → List TrgEntry
  | e :: f :: r => if f.first ≤ e.due then trgHead (f :: r) else e :: f :: r
  | l => l

/-- An entry after one more firing or skip; none where its count is spent (R241). -/
def TrgEntry.step (e : TrgEntry) (fired : Bool) : TrgEntry := { e with next := e.next + 1, fired := e.fired + (if fired then 1 else 0) }
def TrgEntry.spent (e : TrgEntry) : Bool := decide (e.count ≠ 0 ∧ e.count ≤ e.next)

/-- R55, R238: the pulse of a firing: each in-vote keeper's rising edge at the instant plus CAL, its falling edge WIDTH later,
through the majority gate; POL inverts the output. -/
def State.trgPulse (s : State) (k : Nat) (e : TrgEntry) : TrgPulse :=
  let rise := s.gateEdge ((e.due / 16 : Nat) + s.getI (F.TRG_k_CAL_CAL k))
  ⟨⟨rise, rise + (e.width * 4096 : Nat)⟩, s.flag (F.TRG_k_CFG_POL k)⟩

/-- A firing of the head entry taken as fired or skipped (R241, R242). -/
def State.trgTake (s : State) (k : Nat) (e : TrgEntry) (rest : List TrgEntry) (fired : Bool) : State :=
  let e1 := e.step fired
  let s1 := s.modTrgOut k fun o =>
    { o with entries := if e1.spent then rest else e1 :: rest, skipRun := !fired, pulse := if fired then some (s.trgPulse k e) else o.pulse }
  let s2 := if fired then s1.incr (F.TRG_k_FIRED_COUNT k)
    else (s1.incr (F.TRG_k_SKIPPED_COUNT k)).raiseIf (!(s.trgOut k).skipRun) Ev.TRG_SKIPPED k (e.due / lsbPerNs % 1000000000)
  (s2.raiseIf e1.spent Ev.TRG_DONE k (detSat 32 e1.fired)).trgShow k

/-- R238, R242: the next firing falls due: its pulse is placed, or it is skipped while the outputs are gated. -/
def State.trgFire (s : State) (k : Nat) : State :=
  match trgHead (s.trgOut k).entries with
  | [] => s
  | e :: rest => ((s.advanceTo e.due).modTrgOut k fun o => { o with entries := e :: rest }).trgTake k e rest (!s.outsOff)

def execTrgFire (k : Fin 16) (s : State) : Host.Outcome State Fault Refusal := .next (s.trgFire k)

/-- The firings of an output that a step skips: those due in [t0, t1), in order (R153, R242). -/
def State.trgSkip (s : State) (k t1 : Nat) : Nat → State
  | 0 => s
  | n + 1 =>
    match trgHead (s.trgOut k).entries with
    | [] => s
    | e :: rest =>
      if e.due < t1 then ((s.modTrgOut k fun o => { o with entries := e :: rest }).trgTake k e rest false).trgSkip k t1 n else s

/-- Firings an entry has before an instant. -/
def TrgEntry.before (e : TrgEntry) (t : Nat) : Nat :=
  if t ≤ e.due then 0 else if e.period = 0 then 1 else (t - e.due) / (e.period * 16) + 1

/-- The edges placed of a pulse, read on a scale that a step of `d` has moved (R153). -/
def TrgPulse.step (q : TrgPulse) (d : Int) : TrgPulse := { q with edges := ⟨q.edges.rise + d / 16, q.edges.fall + d / 16⟩ }

/-- A realign step of `d` skips the firings of the interval it leaves out; a repeated interval fires nothing again; a pulse that
is high completes its width (R153). -/
def State.trgStep (s : State) (d : Int) : State :=
  let s1 := if 0 < d then
      let t1 := ((s.now : Int) + d).toNat
      (List.range 16).foldl (fun (s : State) k =>
        s.trgSkip k t1 ((s.trgOut k).entries.foldl (fun a e => a + e.before t1) 0)) s
    else s
  s1.modTrg fun c => { c with outs := c.outs.map fun o => { o with pulse := o.pulse.map (·.step d) } }

/-- ENABLE cleared at the tick cancels every entry (R245). -/
def State.trgTick (s : State) : State :=
  (List.range 16).foldl (fun (s : State) k =>
    if s.flag (F.TRG_k_CFG_ENABLE k) || (s.trgOut k).entries.isEmpty then s else s.trgCancel k) s

end Sys2Proof.Machine
end

