-- ==== Sys2Proof/Machine/Proto.lean ====
section
/-!
DEFINITION. What the service pipeline reads in a request and writes in a response: the layers of a frame (R206, R247), the
request kinds, the NTP and PTP fields (10_service_engines.md R247, R262, R266, R270; 03_error_bound.md R88 to R91).
-/
namespace Sys2Proof.Machine

open Sys2Proof

/-! ### Layers (R247) -/

/-- A frame's layers: IP version (0 for none), source address in 16 bytes, destination UDP port, where the payload and
its end lie, and whether each check of R247 passes. -/
structure Pkt where
  ip : Nat
  src : List Byte
  dport : Nat
  ofs : Nat
  stop : Nat
  plain : Bool
  whole : Bool
  sum : Bool
  deriving DecidableEq, Repr

/-- The one's-complement sum of 16-bit words, an odd last byte padded. -/
def onesSum : List Byte → Nat
  | a :: b :: r => a.toNat * 256 + b.toNat + onesSum r
  | [a] => a.toNat * 256
  | [] => 0

/-- The UDP checksum over a pseudo-header and a datagram is right. -/
def udpSumOk (pseudo dgram : List Byte) : Bool :=
  let t := onesSum pseudo + onesSum dgram
  t != 0 && t % 65535 == 0

def slice (d : List Byte) (o n : Nat) : List Byte := (d.drop o).take n

/-- A UDP datagram of `len` bytes from `o`. -/
def udpPart (d : List Byte) (ip o : Nat) (src pseudo : List Byte) (plain whole zeroOk : Bool) : Pkt :=
  let len := beAt d (o + 4) 2
  let fits := decide (8 ≤ len ∧ o + len ≤ d.length)
  let ck := beAt d (o + 6) 2
  ⟨ip, src, beAt d (o + 2) 2, o + 8, min d.length (o + len), plain, whole && fits,
    (zeroOk && ck == 0) || (ck != 0 && udpSumOk (pseudo ++ beBytes 4 len ++ beBytes 4 17) (slice d o len))⟩

/-- The extension headers of an IPv6 packet skipped, at most `n` of them: the next header, its offset, a fragment seen. -/
def v6skip (d : List Byte) : Nat → Nat → Nat → Bool → Nat × Nat × Bool
  | 0, nh, o, f => (nh, o, f)
  | n + 1, nh, o, f =>
    if nh = 0 ∨ nh = 43 ∨ nh = 60 then v6skip d n (beAt d o 1) (o + 8 * (beAt d (o + 1) 1 + 1)) f
    else if nh = 44 then v6skip d n (beAt d o 1) (o + 8) true
    else (nh, o, f)

/-- An IPv4 address in IPv6 form (R279). -/
def mapped4 (a : List Byte) : List Byte := zeros10 ++ [0xFF, 0xFF] ++ a
where zeros10 : List Byte := List.replicate 10 0

/-- The UDP layer of a frame; none where it carries no UDP. -/
def pktOf (d : List Byte) : Option Pkt :=
  let o := (tagsOf d).etOfs + 2
  if etherType d = 0x0800 then
    let ihl := beAt d o 1 % 16 * 4
    let frag := beAt d (o + 6) 2 % 2 ^ 14
    if beAt d (o + 9) 1 = 17 ∧ beAt d o 1 / 16 = 4 ∧ frag % 2 ^ 13 = 0 then
      some (udpPart d 4 (o + ihl) (mapped4 (slice d (o + 12) 4)) (slice d (o + 12) 8) (ihl == 20) (frag == 0) true)
    else none
  else if etherType d = 0x86DD then
    let r := v6skip d 8 (beAt d (o + 6) 1) (o + 40) false
    if r.1 = 17 ∧ beAt d o 1 / 16 = 6 then
      some (udpPart d 6 r.2.1 (slice d (o + 8) 16) (slice d (o + 8) 32) (r.2.1 == o + 40) (!r.2.2) false)
    else none
  else none

/-- The PTP message of a frame: over Ethernet or UDP; its offset and whether it came over Ethernet. -/
def ptpOf (d : List Byte) : Option (Nat × Bool) :=
  if etherType d = 0x88F7 then some ((tagsOf d).etOfs + 2, true)
  else match pktOf d with
    | some k => if k.dport = 319 ∨ k.dport = 320 then some (k.ofs, false) else none
    | none => none

/-- The extension fields from `o` to `e`: type, offset, length; at most `n`. -/
def ntpFields (d : List Byte) (e : Nat) : Nat → Nat → List (Nat × Nat × Nat)
  | 0, _ => []
  | n + 1, o =>
    let len := beAt d (o + 2) 2
    if o + 4 ≤ e ∧ 4 ≤ len ∧ o + len ≤ e then (beAt d o 2, o, len) :: ntpFields d e n (o + len) else []

/-- The TLVs of a PTP message from `o` to `e`: type and offset. -/
def ptpTlvs (d : List Byte) (e : Nat) : Nat → Nat → List (Nat × Nat)
  | 0, _ => []
  | n + 1, o => if o + 4 ≤ e then (beAt d o 2, o) :: ptpTlvs d e n (o + 4 + beAt d (o + 2) 2) else []

/-! ### Grandmaster instances (R266, R276) -/

def State.gmOn (s : State) (i : Nat) : Bool := s.flag (F.SVC_GMi_CFG_EN i)
def State.gmPort (s : State) (i : Nat) : Nat := s.get (F.SVC_GMi_CFG_PORT i)
def State.gmProfile (s : State) (i : Nat) : Nat := s.get (F.SVC_GMi_CFG_PROFILE i)

/-- The transport a profile uses: G.8275.1 Ethernet, G.8275.2 UDP, the others either (assumption log 17). -/
def profileCarries (profile : Nat) (eth : Bool) : Bool := if profile = 1 then eth else if profile = 2 then !eth else true

/-- The instance a PTP request on a port belongs to. -/
def State.gmFor (s : State) (p domain : Nat) (eth : Bool) : Option Nat :=
  (List.range 8).find? fun i => s.gmOn i && s.gmPort i == p && s.get (F.SVC_GMi_CFG_DOMAIN i) == domain && profileCarries (s.gmProfile i) eth

/-! ### The kinds (R247) -/

/-- The kind of an NTP payload [o, e). -/
def State.ntpKind (s : State) (d : List Byte) (o e : Nat) : Nat :=
  let b := beAt d o 1
  let v := b / 8 % 8
  let types := (ntpFields d e 40 (o + 48)).map (·.1)
  if b % 8 ≠ 3 ∨ e < o + 48 then 0
  else if e = o + 48 then
    (if s.flag F.SVC_CFG_NTP_UNAUTH ∧ (v = 4 ∨ (v = 3 ∧ s.flag F.SVC_CFG_V3_EN)) then 1 else 0)
  else if v = 4 ∧ types.contains 0x0104 ∧ types.contains 0x0204 ∧ types.contains 0x0404 then 2
  else 0

/-- The kind and instance of a PTP message at `o`. -/
def State.ptpKind (s : State) (p : Nat) (d : List Byte) (o : Nat) (eth : Bool) : Nat × Nat :=
  let e := min d.length (o + beAt d (o + 2) 2)
  match s.gmFor p (beAt d (o + 4) 1) eth with
  | none => (0, 0)
  | some i =>
    if beAt d o 1 % 16 = 1 ∧ o + 44 ≤ e then (3, i)
    else if beAt d o 1 % 16 = 12 ∧ s.gmProfile i = 2 ∧ (ptpTlvs d e 40 (o + 44)).any (fun t => t.1 == 4 || t.1 == 6) then (4, i)
    else (0, 0)

/-- R247: kind and instance of a frame; kind 0 matches none. -/
def State.classify (s : State) (p : Nat) (d : List Byte) : Nat × Nat :=
  match ptpOf d with
  | some (o, eth) => s.ptpKind p d o eth
  | none => match pktOf d with
    | some k => if k.dport = 123 then (s.ntpKind d k.ofs k.stop, 0) else (0, 0)
    | none => (0, 0)

/-- The checks of R247 on a frame that matched. -/
def checksOk (d : List Byte) : Bool :=
  decide (d.length ≤ 1536) && (match pktOf d with
    | some k => k.plain && k.whole && k.sum
    | none => true)

/-- The client key of a request (R280): ADDR and KCLASS. -/
def clientKey (d : List Byte) (kind inst : Nat) : List Byte × Nat :=
  match pktOf d with
  | some k => (k.src, if kind ≤ 2 then 1 else 2 + 8 * inst)
  | none => (List.replicate 10 0 ++ slice d 6 6, 3 + 8 * inst)

/-! ### NTP fields (R88, R89, R90) -/

/-- TAI minus UTC in force (R67). -/
def State.taiUtc (s : State) : Int := s.getI F.KPR_UTC_STAT_OFFSET

/-- The NTP timestamp of an instant, rounded to the nearest 2^-32 s, a half up. -/
def State.ntpTime (s : State) (t : Nat) : Nat :=
  let u := (t : Int) + (2208988800 - s.taiUtc) * lsbPerSec
  (((u * 2 ^ 32 + lsbPerSec / 2) / lsbPerSec) % 2 ^ 64).toNat

/-- Root dispersion of a bound in 1/16 ps: ceil((B + 2^-33 s) / 2^-16 s) (R88). -/
def rootDispersion (b : Nat) : Nat :=
  if b ≥ bndUnbounded then 2 ^ 32 - 1
  else
    let q : Rat := ((b : Rat) / 16000000000000 + 1 / 2 ^ 33) * 65536
    min q.ceil.toNat (2 ^ 32 - 1)

/-- Bytes 4 to 11 of the vendor field (R90). DESIGN CHOICE (assumption log 78): TRACE_SEQ before the first record is 0xFFFF_FFFF. -/
def State.efData (s : State) (b : Nat) : List Byte :=
  [BitVec.ofNat 8 (eb8Of b), BitVec.ofNat 8 (s.boundFlags b)]
    ++ (match s.selected with
        | some n => [BitVec.ofNat 8 n, BitVec.ofNat 8 (s.slotQl n)]
        | none => [0xFF, 15])
    ++ beBytes 4 ((s.bnd.traceSeq + (2 ^ 32 - 1)) % 2 ^ 32)

/-- The NTP vendor extension field (R90). -/
def State.ntpEf (s : State) (b : Nat) : List Byte :=
  beBytes 2 (s.get F.BND_NTP_EF_TYPE_TYPE) ++ beBytes 2 16 ++ s.efData b ++ [0, 0, 0, 0]

/-- The ORGANIZATION_EXTENSION TLV (R91). -/
def State.ptpTlv (s : State) (b : Nat) : List Byte :=
  beBytes 2 3 ++ beBytes 2 16 ++ beBytes 3 (s.get F.BND_PTP_ORG_ORG) ++ beBytes 3 (s.get F.BND_PTP_SUBTYPE_SUB) ++ s.efData b ++ [0, 0]

/-! ### Writing into a buffer -/

/-- The originTimestamp of an instant, 10 bytes, and its sub-nanosecond part in 2^-16 ns. -/
def ptpTime (t : Nat) : List Byte := beBytes 6 (t / lsbPerSec) ++ beBytes 4 (t / lsbPerNs % 1000000000)

/-- The sub-nanosecond part added to the correctionField of the PTP message at `o` (R270). -/
def addCorrection (buf : List Byte) (o t : Nat) : List Byte :=
  overlay buf (o + 8) (beBytes 8 ((beAt buf (o + 8) 8 + t % lsbPerNs) % 2 ^ 64))

/-- Insertion kinds (R270). -/
def insLen (kind : Nat) : Nat :=
  if kind = 1 ∨ kind = 2 then 8 else if kind = 3 then 16 else if kind = 4 then 20 else if kind = 5 then 1 else if kind = 6 then 10 else 0

/-- The bytes of an NTP_HDR insertion that lie before its offset: LI 3 and stratum 16 where the bound is unbounded. -/
def hdrUnbounded (buf : List Byte) (o : Nat) : List Byte :=
  overlay buf (o - 4) [((buf[o - 4]?).getD 0) ||| 0xC0, 16]

/-- One insertion at its offset (R270): T3, the bound, the instance. -/
def State.insert (s : State) (buf : List Byte) (kind o t3 b inst : Nat) : List Byte :=
  if kind = 1 then overlay buf o (beBytes 8 (s.ntpTime t3))
  else if kind = 2 then
    let x := overlay buf o (beBytes 4 0 ++ beBytes 4 (rootDispersion b))
    if b ≥ bndUnbounded then hdrUnbounded x o else x
  else if kind = 3 then overlay buf o (s.ntpEf b)
  else if kind = 4 then overlay buf o (s.ptpTlv b)
  else if kind = 5 then overlay buf o [BitVec.ofNat 8 (s.accuracyOf inst b)]
  else if kind = 6 then
    match ptpOf buf with
    | some (h, _) => addCorrection (overlay buf o (ptpTime t3)) h t3
    | none => overlay buf o (ptpTime t3)
  else buf

end Sys2Proof.Machine
end

