-- ==== Sys2Proof/Machine/SvcBase.lean ====
section
/-!
DEFINITION. The ledger, the engines and the journal as data (10_service_engines.md R248 to R261, R268 to R275): what the
client tables and the service commands share.
-/
namespace Sys2Proof.Machine

open Sys2Proof

/-! ### Counters (R275) -/

def svcAdmitted : Nat := 0
def svcRefusedFull : Nat := 1
def svcRefusedClosed : Nat := 2
def svcUnclassified : Nat := 3
def svcMalformed : Nat := 4
def svcCommitted : Nat := 5
def svcCommittedNak : Nat := 6
def svcWithdrawn : Nat := 7
def svcSquashed : Nat := 8
def svcReserved : Nat := 9
def svcSyncSent : Nat := 10
def svcSyncSkip : Nat := 11

def State.svcCount (s : State) (i : Nat) : State := s.countUp (A.SVC_CNT (2 * i))

/-! ### The ledger -/

def ledgerSize : Nat := 65536

def State.entry (s : State) (idx : Nat) : Option Entry := s.svc.ledger.find? (fun e => e.index == idx)

/-- One entry replaced. -/
def State.setEntry (s : State) (idx : Nat) (f : Entry → Entry) : State :=
  s.modSvc fun v => { v with ledger := v.ledger.map (fun e => if e.index = idx then f e else e) }

/-- FILL, FULL and HWM follow the ledger (R274). -/
def State.ledgerShow (s : State) : State :=
  let n := s.svc.ledger.length
  let s1 := ((s.put F.SVC_STAT_FILL n).putB F.SVC_STAT_FULL (ledgerSize ≤ n)).put F.SVC_LEDGER_HWM_HWM (max (s.get F.SVC_LEDGER_HWM_HWM) n)
  if ledgerSize ≤ n then s1 else s1.modSvc fun v => { v with fullSeen := false }

/-- The lowest index no entry holds. -/
def freeIndex (l : List Entry) : Nat :=
  (((List.range (l.length + 1)).find? fun i => l.all fun e => e.index != i)).getD 0

/-- The instant a receive stamp names, whatever its VALID (R251). -/
def State.rxTime (s : State) (d : RxDesc) : Nat :=
  match d.ns (s.now / lsbPerNs) with
  | some n => n * lsbPerNs + d.frac * 16
  | none => s.now

/-- The limit instant of an entry (R251). -/
def State.limitOf (s : State) (e : Entry) : Nat := e.rx + s.get F.SVC_CFG_USE_LIMIT * 1000000 * lsbPerNs

/-- Two entries' responses keep an order (R253, R285): one client; or a guest and another entry with its first bucket. -/
def ordered (e d : Entry) : Bool :=
  (e.addr == d.addr && e.kclass == d.kclass) || ((e.guest || d.guest) && e.bucket == d.bucket)

/-- An earlier entry whose outcome this one's reservation waits for. -/
def State.heldBack (s : State) (e : Entry) : Bool :=
  (s.svc.ledger.takeWhile (fun d => d.index != e.index)).any (ordered e)

/-! ### Engines and contexts -/

def State.engine (s : State) (n : Nat) : Engine := (s.svc.engines[n]?).getD Engine.blank
def State.modEngine (s : State) (n : Nat) (f : Engine → Engine) : State :=
  s.modSvc fun v => { v with engines := listUpd v.engines n f }
def State.ctx (s : State) (n c : Nat) : Ctx := ((s.engine n).ctxs[c]?).getD Ctx.blank
def State.modCtx (s : State) (n c : Nat) (f : Ctx → Ctx) : State := s.modEngine n fun g => { g with ctxs := listUpd g.ctxs c f }

def enOffline : Nat := 0
def enLoading : Nat := 1
def enRun : Nat := 2
def enFault : Nat := 3

def State.engState (s : State) (n : Nat) : Nat := s.get (F.SVC_SEn_STAT_STATE n)
def State.running (s : State) (n : Nat) : Bool := s.engState n == enRun

def State.setEngine (s : State) (n st : Nat) : State :=
  ((s.put (F.SVC_SEn_STAT_STATE n) st).putBit F.SVC_ENG_RUN_RUN n (st == enRun)).putBit F.SVC_ENG_OFFLINE_OFFLINE n (st == enOffline)

/-- CTX_BUSY: which contexts are bound. -/
def State.busyShow (s : State) (n : Nat) : State :=
  s.put (F.SVC_SEn_STAT_CTX_BUSY n)
    ((List.range 4).foldl (fun a c => a + (if (s.ctx n c).bound.isSome then 2 ^ c else 0)) 0)

/-- The entry bound to a context. -/
def State.ctxEntry (s : State) (n c : Nat) : Option Entry := (s.ctx n c).bound.bind s.entry

/-- Queue activity of a context restarts its watchdog (R272). -/
def State.touch (s : State) (n c : Nat) : State := s.modCtx n c fun x => { x with act := s.now }

/-- The ledger, the engines, the crypto cores and the Pantry act while CCLK runs; while it stands what reaches them waits (R166,
R249). -/
def State.onCclk (s : State) (f : State → State) : State := if s.cclkRuns then f s else s

/-- A command of MGT for a block in CCLK, which waits while its strobe cannot cross (R184 to R186, R189). -/
def State.onStrobe (s : State) (a : Nat) (v : Word) (f : State → State) : State :=
  if s.cclkRuns && s.crossOpen 4 3 then f s else s.pendCmd .mgt a v

/-- The word an engine pops from an empty queue (R270). -/
def emptyWord : Word := 1

/-- The head of a queue toward an engine: what its _PEEK port reads, and its _POP removes (R12, R270). -/
def peekWord (l : List Word) : Word := (l.head?).getD emptyWord

def State.notePeek (s : State) (n : Nat) : Word := peekWord (s.engine n).notes
def State.recResPeek (s : State) (n : Nat) : Word := peekWord (s.engine n).recRes
def State.cryptoResPeek (s : State) (n : Nat) : Word := peekWord (s.engine n).cryptoRes
def State.launchResPeek (s : State) (n : Nat) : Word := peekWord (s.engine n).launchRes
def State.sealResPeek (s : State) (n : Nat) : Word := peekWord (s.engine n).sealRes

/-- NOTE_POP word (R270): type 1 squashed, 2 committed, 3 withdrawn. -/
def noteWord (c typ cause restart idx : Nat) : Word :=
  BitVec.ofNat 32 (c * 2 + typ * 8 + cause % 16 * 256 + restart * 4096 + idx * 65536)

def State.note (s : State) (n c typ cause restart idx : Nat) : State :=
  s.modEngine n fun g => { g with notes := g.notes ++ [noteWord c typ cause restart idx] }

/-- A guardrail's refusal (R273): at most one event per engine and tick. -/
def State.guardrail (s : State) (n port code : Nat) : State :=
  if (s.engine n).guardTick = s.curTick + 1 then s
  else (s.modEngine n fun g => { g with guardTick := s.curTick + 1 }).raise Ev.SVC_GUARDRAIL n (port / 16 + 16 * code)

/-! ### The journal (R260, R261) -/

/-- A withdrawal's record. -/
def State.journalRecord (s : State) (e : Entry) (reason : Nat) : List Byte :=
  leBytes 4 (ns32Of s.now) ++ leBytes 4 e.desc.ns32 ++ leBytes 3 (e.record % 2 ^ 23) ++ leBytes 1 reason ++ leBytes 2 e.index
    ++ leBytes 1 (min e.squashes 255) ++ leBytes 1 (e.port + 32 * e.kind)

def journalDepth : Nat := 256

/-- DRAM address of the journal ring. -/
def State.journalBase (s : State) : Nat := s.wide A.SVC_JNL_BASE 2 / 4096 * 4096 % 2 ^ 40

/-- The ring: a full ring overwrites its oldest record and counts in OVR. -/
def State.journalRing (s : State) (r : List Byte) : State :=
  let size := 2 ^ s.get F.SVC_JNL_SIZE_LOG2
  let wr := s.get F.SVC_JNL_STAT_WR
  let s1 := (((s.dramWrite (s.journalBase + 16 * wr) r).put F.SVC_JNL_STAT_WR ((wr + 1) % size))).modSvc fun v => { v with jnlCount := v.jnlCount + 1 }
  if size ≤ s.svc.jnlCount then
    ((s1.incrSat F.SVC_JNL_STAT_OVR).raiseIf (!s.svc.jnlOvr) Ev.SVC_JNL_OVR noInst wr).modSvc fun v => { v with jnlOvr := true }
  else s1

/-- The on-chip queue: a full queue discards its oldest record. -/
def State.journalQueue (s : State) (r : List Byte) : State :=
  let q := s.svc.journal
  if q.length < journalDepth then s.modSvc fun v => { v with journal := q ++ [r] }
  else
    (((s.modSvc fun v => { v with journal := q.drop 1 ++ [r] }).incrSat F.SVC_JNL_STAT_DISC).raiseIf (!s.svc.jnlDisc) Ev.SVC_JNL_DISC noInst
      (leNat ((q.headD []).drop 12 |>.take 2))).modSvc fun v => { v with jnlDisc := true }

/-- R261: one record in both places. -/
def State.journal (s : State) (e : Entry) (reason : Nat) : State :=
  let r := s.journalRecord e reason
  (s.journalRing r).journalQueue r

/-- SVC_JNL_POP as it reads (R274). -/
def State.jnlPopWord (s : State) : Word := match s.svc.journal with
  | [] => 1
  | r :: _ => BitVec.ofNat 32 (2 * s.svc.journal.length + leNat ((r.drop 12).take 2) * 65536)

/-- SVC_JNL_PEEKn: bytes 4n to 4n+3 of the head record. -/
def State.jnlPeek (s : State) (n : Nat) : Word := BitVec.ofNat 32 (leNat (((s.svc.journal.headD []).drop (4 * n)).take 4))

/-- R261: the head record leaves the queue. -/
def execSvcJnlPop (s : State) : Host.Outcome State Fault Refusal :=
  .next ((s.answer (.words [s.jnlPopWord])).modSvc fun v => { v with journal := v.journal.drop 1, jnlDisc := false })

/-- R275: all counters latched at one instant: 12 pairs, the squash causes 1 to 11 and the reasons 1 to 8. -/
def State.svcSnap (s : State) : State := ((s.snapPairs (A.SVC_CNT 0) 12).snapWords (A.SVC_CAUSE 0) 12).snapWords (A.SVC_REASON 0) 9

def execSvcCntSnap (s : State) : Host.Outcome State Fault Refusal := .next (s.onStrobe A.SVC_CMD 1 (·.svcSnap))

end Sys2Proof.Machine
end

