-- ==== Sys2Proof/Machine/Ldr.lean ====
section
/-!
DEFINITION. Client state (11_client_state.md R279 to R296): Larder records in DRAM, Pantry lines, lookup, rate decisions,
outcomes and their write-through, ageing, grants, rebuilds and queries.
-/
namespace Sys2Proof.Machine

open Sys2Proof

/-! ### Records (R279) -/

/-- A Larder record's fields. -/
structure Rec where
  addr : List Byte
  kclass : Nat
  flags : Nat
  ctrl : Nat
  poll : Nat
  firstSeen : Nat
  lastTick : Nat
  tokens : Nat
  rateTick : Nat
  requests : Nat
  kods : Nat
  drops : Nat
  authFail : Nat
  cookieGen : Nat
  logSync : Nat
  logAnn : Nat
  logDresp : Nat
  grantEnd : Nat
  deriving DecidableEq, Repr

def Rec.ofBytes (b : List Byte) : Rec :=
  let n (o k : Nat) := leNat (slice b o k)
  { addr := b.take 16, kclass := n 16 1, flags := n 17 1, ctrl := n 18 1, poll := n 19 1, firstSeen := n 20 4, lastTick := n 24 4,
    tokens := n 28 2, rateTick := n 30 2, requests := n 32 4, kods := n 36 2, drops := n 38 2, authFail := n 40 2,
    cookieGen := n 42 2, logSync := n 44 1, logAnn := n 45 1, logDresp := n 46 1, grantEnd := n 48 4 }

/-- The 64 bytes of a record, with the two view bytes. -/
def Rec.bytes (r : Rec) (decision view : Nat) : List Byte :=
  r.addr ++ leBytes 1 r.kclass ++ leBytes 1 r.flags ++ leBytes 1 r.ctrl ++ leBytes 1 r.poll ++ leBytes 4 r.firstSeen ++ leBytes 4 r.lastTick
    ++ leBytes 2 r.tokens ++ leBytes 2 r.rateTick ++ leBytes 4 r.requests ++ leBytes 2 r.kods ++ leBytes 2 r.drops ++ leBytes 2 r.authFail
    ++ leBytes 2 r.cookieGen ++ leBytes 1 r.logSync ++ leBytes 1 r.logAnn ++ leBytes 1 r.logDresp ++ [0] ++ leBytes 4 r.grantEnd
    ++ leBytes 1 decision ++ leBytes 1 view ++ List.replicate 10 0

def State.larderLog2 (s : State) : Nat := s.get F.LDR_CFG_SIZE + 20
def State.larderBase (s : State) : Nat := s.wide A.LDR_BASE 2 / 4096 * 4096 % 2 ^ 40

/-- The 64 bytes of record `i`. -/
def State.recBytes (s : State) (i : Nat) : List Byte := s.readBytes (s.larderBase + 64 * i) 64
def State.record (s : State) (i : Nat) : Rec := Rec.ofBytes (s.recBytes i)

/-- An all-zero record is empty (R279). -/
def State.recEmpty (s : State) (i : Nat) : Bool := (s.recBytes i).all (· == 0)

/-- A record's bit in the collecting dirty bitmap (R291). -/
def State.markDirty (s : State) (i : Nat) : State :=
  s.modLdr fun l => { l with dirty := if l.dirty.contains i then l.dirty else i :: l.dirty }

/-- Record `i` written, its error gone, its dirty bit set. -/
def State.putRecord (s : State) (i : Nat) (b : List Byte) : State :=
  ((s.writeBytes (s.larderBase + 64 * i) b).modLdr fun l => { l with bad := l.bad.erase i }).markDirty i

def zeroRecord : List Byte := List.replicate 64 0

/-! ### Lines (R281) -/

def Line.blank : Line :=
  { addr := List.replicate 16 0, kclass := 0, flags := 0, ctrl := 0, poll := 0, lastTick := 0, tokens := 0, rateTick := 0, cookieGen := 0,
    logSync := 0, logAnn := 0, logDresp := 0, held := 0, tail := 0, tailValid := false, grantEnd := 0, index := 0, ldirty := false,
    firstSeen := 0, used := 0, err := false }

/-- The line a record compresses to (R281). -/
def Rec.line (r : Rec) (index : Nat) : Line :=
  { Line.blank with addr := r.addr, kclass := r.kclass, flags := r.flags, ctrl := r.ctrl, poll := r.poll, lastTick := r.lastTick,
                    tokens := r.tokens, rateTick := r.rateTick, cookieGen := r.cookieGen, logSync := r.logSync, logAnn := r.logAnn,
                    logDresp := r.logDresp, grantEnd := r.grantEnd, index := index, firstSeen := r.firstSeen }

/-- A record with the fields a line holds laid over it (R282). -/
def Rec.withLine (r : Rec) (l : Line) : Rec :=
  { r with addr := l.addr, kclass := l.kclass, flags := l.flags, ctrl := l.ctrl, poll := l.poll, lastTick := l.lastTick, tokens := l.tokens,
           rateTick := l.rateTick, cookieGen := l.cookieGen, logSync := l.logSync, logAnn := l.logAnn, logDresp := l.logDresp,
           grantEnd := l.grantEnd, firstSeen := l.firstSeen }

def Rec.zero : Rec := Rec.ofBytes zeroRecord

/-- Line number of a resident record. -/
def State.lineOf (s : State) (i : Nat) : Option Nat := (s.ldr.lines.find? (fun p => p.2.index == i)).map (·.1)
def State.line (s : State) (n : Nat) : Line := ((s.ldr.lines.find? (fun p => p.1 == n)).map (·.2)).getD Line.blank
def State.resident (s : State) (i : Nat) : Option Line := (s.lineOf i).map s.line

def State.setLine (s : State) (n : Nat) (l : Line) : State :=
  s.modLdr fun d => { d with lines := (d.lines.filter (fun p => p.1 != n)) ++ [(n, l)] }
def State.modLine (s : State) (n : Nat) (f : Line → Line) : State :=
  s.modLdr fun d => { d with lines := d.lines.map (fun p => if p.1 = n then (n, f p.2) else p) }
def State.dropLine (s : State) (n : Nat) : State := s.modLdr fun d => { d with lines := d.lines.filter (fun p => p.1 != n) }

/-- A record with a line whose TAIL_VALID is 1 is pinned (R284). -/
def State.recPinned (s : State) (i : Nat) : Bool := match s.resident i with
  | some l => l.tailValid
  | none => false

/-- PINNED and COUNT follow the state (R294). -/
def State.ldrShow (s : State) : State :=
  (s.put F.LDR_PINNED_PINNED (s.ldr.lines.filter (fun p => p.2.tailValid)).length).put F.LDR_GRANTS_COUNT s.ldr.grants.length

/-! ### Counters (R295) -/

def ldrLookups : Nat := 0
def ldrPantryHit : Nat := 1
def ldrLarderHit : Nat := 2
def ldrInserted : Nat := 3
def ldrEvicted : Nat := 4
def ldrAgedOut : Nat := 5
def ldrGuests : Nat := 6
def ldrRateKod : Nat := 7
def ldrRateSilent : Nat := 8
def ldrPantryErr : Nat := 9
def ldrLarderErr : Nat := 10
def ldrRebuilds : Nat := 11

def State.ldrCount (s : State) (i : Nat) : State := s.countUp (A.LDR_CNT (2 * i))

/-! ### Time -/

/-- The tick count's low 32 bits, and TAI seconds [31:0]. -/
def State.tick32 (s : State) : Nat := tickOf s.now % 2 ^ 32
def State.sec32 (s : State) : Nat := s.now / lsbPerSec % 2 ^ 32

def since (a b w : Nat) : Nat := (a + 2 ^ w - b % 2 ^ w) % 2 ^ w

/-- FLAGS bits of grants, and a grant that lies in the future (R284, R289). -/
def grantBits (flags : Nat) : Nat := flags / 2 % 8
def State.liveGrant (s : State) (flags grantEnd : Nat) : Bool := grantBits flags != 0 && decide (s.sec32 < grantEnd)

/-! ### The hash (R283) -/

structure Hash where
  b1 : Nat
  b2 : Nat
  set : Nat
  deriving DecidableEq, Repr

/-- Buckets and set of a client key; equality is judged on the bits used (assumption log 18). -/
def State.hash (s : State) (addr : List Byte) (kclass : Nat) : Hash :=
  let h := Config.clientHash s.ldr.hashKey (addr ++ [BitVec.ofNat 8 kclass]) % 2 ^ 64
  let m := 2 ^ (s.larderLog2 - 3)
  let a := h % 2 ^ 20 % m
  let b := h / 2 ^ 20 % 2 ^ 20 % m
  ⟨a, if a = b then (if a % 2 = 0 then a + 1 else a - 1) else b, h / 2 ^ 40 % 2 ^ 14⟩

/-- The 16 records of both buckets, first bucket first, lowest way first. -/
def Hash.records (h : Hash) : List Nat := (List.range 8).map (8 * h.b1 + ·) ++ (List.range 8).map (8 * h.b2 + ·)

/-- The set's lines: numbers set * 16 + way. -/
def Hash.ways (h : Hash) : List Nat := (List.range 16).map (16 * h.set + ·)

/-! ### Rate decisions (R286) -/

/-- decide(rec, now): the decision and the line after it. -/
def State.rateDecide (s : State) (l : Line) (kind : Nat) : Nat × Line :=
  let c := l.ctrl % 8
  let burst := s.get (F.LDR_RCLASSc_BURST c) * 256
  let now := s.tick32
  if l.flags % 2 = 1 then (2, l)
  else if s.flag (F.LDR_RCLASSc_UNLIMITED c) then
    (if l.held < 255 then (0, { l with held := l.held + 1 }) else (2, l))
  else
    let tok := if 65536 ≤ since now l.lastTick 32 then burst
      else min burst (l.tokens + s.get (F.LDR_RCLASSc_RATE c) * since now l.rateTick 16)
    let l1 := { l with tokens := tok, rateTick := now % 2 ^ 16, ldirty := true }
    if l1.held < 255 ∧ 256 * (l1.held + 1) ≤ tok then (0, { l1 with held := l1.held + 1 })
    else (if s.flag (F.LDR_RCLASSc_OVER c) ∧ (kind = 1 ∨ kind = 2) then 1 else 2, l1)

/-! ### The grant list (R289) -/

def grantMax : Nat := 16384

/-- A record's grants after a write: it joins or leaves the list; the flags as they are applied where it is full. -/
def State.grantNote (s : State) (i flags grantEnd : Nat) : Nat × State :=
  if s.liveGrant flags grantEnd then
    if s.ldr.grants.contains i then (flags, s)
    else if s.ldr.grants.length < grantMax then (flags, s.modLdr fun l => { l with grants := l.grants ++ [i] })
    else (flags - 2 * grantBits flags, s.raise Ev.LDR_GRANT_FULL noInst i)
  else (flags, s.modLdr fun l => { l with grants := l.grants.erase i })

/-! ### Outcome writes (R287) -/

def satAdd16 (a n : Nat) : Nat := min (a + n) 65535

/-- A staged write as a full grant list leaves it: its grant bits cleared, the LOG fields those of the record (R289). -/
def keepLogs (b : List Byte) (flags : Nat) (l : Line) : List Byte :=
  overlay (overlay b 17 [BitVec.ofNat 8 flags]) 44 (leBytes 1 l.logSync ++ leBytes 1 l.logAnn ++ leBytes 1 l.logDresp)

/-- The FW fields of a staged write laid over a line. -/
def Line.withFw (l : Line) (b : List Byte) : Line :=
  let r := Rec.ofBytes b
  { l with flags := r.flags % 32, ctrl := l.ctrl / 8 * 8 + r.ctrl % 8, poll := r.poll, cookieGen := r.cookieGen, logSync := r.logSync,
           logAnn := r.logAnn, logDresp := r.logDresp, grantEnd := r.grantEnd }

/-- The counts of an outcome added to a record. -/
def Rec.addCounts (r : Rec) (w : OutWrite) : Rec :=
  { r with requests := (r.requests + w.req) % 2 ^ 32, kods := satAdd16 r.kods w.kods, drops := satAdd16 r.drops w.drops,
           authFail := satAdd16 r.authFail w.auth }

/-- The line as an outcome leaves it: TOKENS and HELD for an ALLOW decision, and the FW fields. -/
def Line.outcome (l : Line) (w : OutWrite) : Line :=
  let l1 := if w.allow then { l with tokens := l.tokens - 256, held := l.held - 1 } else l
  match w.fw with
  | some b => l1.withFw b
  | none => l1

/-- The oldest outcome write performed on its record; `err` where the DRAM copy has an uncorrectable error (R287, R290). -/
def State.writeThrough (s : State) (err : Bool) : State :=
  match s.ldr.writes with
  | [] => s
  | w :: rest =>
    let s1 := s.modLdr fun l => { l with writes := rest }
    let isBad := err || s.ldr.bad.contains w.index
    let base := if isBad then Rec.zero else s1.record w.index
    let s2 := if isBad then (s1.ldrCount ldrLarderErr).raise Ev.LDR_LARDER_ERR noInst (w.index + 3 * 2 ^ 24) else s1
    match s2.lineOf w.index with
    | some n => (s2.putRecord w.index (((base.withLine (s2.line n)).addCounts w).bytes 0 0)).modLine n fun l => { l with ldirty := false }
    | none => s2.putRecord w.index ((((base.withLine ((base.line w.index).outcome w))).addCounts w).bytes 0 0)

/-- Every waiting outcome write performed, in order. -/
def State.writeAll (s : State) : State := (List.range s.ldr.writes.length).foldl (fun (s : State) _ => s.writeThrough false) s


def execLarderWriteThrough (err : Bool) (s : State) : Host.Outcome State Fault Refusal :=
  .next (if s.dramBusy then s else s.onCclk (·.writeThrough err))

/-- R287: the outcome of a non-guest entry; `last` where no later entry of the client is live. -/
def State.clientOutcome (s : State) (e : Entry) (kods drops auth : Nat) (fw : Option (List Byte)) : State :=
  if e.guest ∨ ¬ e.resolved then s
  else
    let r := match fw with
      | some b =>
        let f := (Rec.ofBytes b).flags % 32
        let q := s.grantNote e.record f (Rec.ofBytes b).grantEnd
        (some (if q.1 = f then b else keepLogs b q.1 ((s.resident e.record).getD ((s.record e.record).line e.record))), q.2)
      | none => (none, s)
    let w : OutWrite := ⟨e.record, 1, kods, drops, auth, e.decision == 0, r.1⟩
    let s1 := r.2.modLdr fun l => { l with writes := l.writes ++ [w] }
    let s2 := match s1.lineOf e.record with
      | some n => s1.modLine n fun l =>
          let l1 := l.outcome w
          if l1.tailValid && l1.tail == e.index then { l1 with tailValid := false } else l1
      | none => s1
    s2.ldrShow

/-! ### Lookup (R284, R285, R290) -/

/-- A line written back where LDIRTY, before another takes its place. -/
def State.writeBack (s : State) (n : Nat) : State :=
  let l := s.line n
  if l.ldirty then s.putRecord l.index (((s.record l.index).withLine l).bytes 0 0) else s

/-- The way a fill takes: a free one, else the least recently used unpinned line; none where all 16 are pinned. -/
def State.fillWay (s : State) (h : Hash) : Option Nat :=
  match h.ways.find? (fun n => s.ldr.lines.all (fun p => p.1 != n)) with
  | some n => some n
  | none =>
    (h.ways.filter (fun n => !(s.line n).tailValid)).foldl (fun (a : Option Nat) n => match a with
      | none => some n
      | some m => if (s.line n).used < (s.line m).used then some n else some m) none

/-- Records of a lookup whose DRAM copy cannot be corrected are written as empty (R290). -/
def State.clearBad (s : State) (l : List Nat) : State :=
  l.foldl (fun (s : State) i =>
    let live := !s.recEmpty i
    (((s.putRecord i zeroRecord).ldrCount ldrLarderErr).raise Ev.LDR_LARDER_ERR noInst (i + 2 ^ 24)).put F.LDR_LIVE_LIVE
      (s.get F.LDR_LIVE_LIVE - (if live then 1 else 0))) s

/-- LAST_TICK of a record, from its line where it is resident. -/
def State.lastTickOf (s : State) (i : Nat) : Nat := match s.resident i with
  | some l => l.lastTick
  | none => (s.record i).lastTick

/-- Step 3: the record an insertion takes. -/
def State.victim (s : State) (h : Hash) : Option Nat :=
  match h.records.find? s.recEmpty with
  | some i => some i
  | none =>
    (h.records.filter (fun i =>
      let r := match s.resident i with | some l => (l.flags, l.grantEnd) | none => ((s.record i).flags, (s.record i).grantEnd)
      !s.recPinned i && !s.liveGrant r.1 r.2)).foldl (fun (a : Option Nat) i => match a with
        | none => some i
        | some j => if since s.tick32 (s.lastTickOf j) 32 < since s.tick32 (s.lastTickOf i) 32 then some i else some j) none

/-- The default RCLASS of a key class (R294). -/
def State.defClass (s : State) (kclass : Nat) : Nat :=
  if kclass % 8 = 1 then s.get F.LDR_DEF_CLASS_NTP else if kclass % 8 = 2 then s.get F.LDR_DEF_CLASS_PTP_UDP else s.get F.LDR_DEF_CLASS_PTP_L2

/-- A new record for a key (R284 step 3). -/
def State.newRecord (s : State) (addr : List Byte) (kclass : Nat) : Rec :=
  let c := s.defClass kclass
  { Rec.zero with addr := addr, kclass := kclass, ctrl := c, firstSeen := s.sec32, tokens := s.get (F.LDR_RCLASSc_BURST c) * 256 }

/-- The record written for a new key, displacing what it held. -/
def State.insertRecord (s : State) (i : Nat) (addr : List Byte) (kclass : Nat) : State :=
  let empty := s.recEmpty i
  let s1 := match s.lineOf i with | some n => s.dropLine n | none => s
  let s2 := (s1.putRecord i ((s.newRecord addr kclass).bytes 0 0)).ldrCount ldrInserted
  if empty then s2.put F.LDR_LIVE_LIVE (s2.get F.LDR_LIVE_LIVE + 1)
  else (((s2.ldrCount ldrEvicted).raiseIf (!s2.ldr.evictSeen) Ev.LDR_EVICT noInst i).modLdr fun l =>
    { l with evictSeen := true, grants := l.grants.erase i })

/-- The resolution of a lookup: the resident line, or a guest (cause 1 buckets, 2 Pantry set). -/
inductive Found where
  | line (n : Nat)
  | guest (cause : Nat)
  deriving DecidableEq, Repr

/-- A fill of record `i` into way `n`. -/
def State.fill (s : State) (n i : Nat) : State :=
  let s1 := if s.ldr.lines.any (fun p => p.1 == n) then s.writeBack n else s
  s1.setLine n ((s1.record i).line i)

/-- Step 1 of R284: the line of the set that holds the client. -/
def State.pantryHit (s : State) (h : Hash) (addr : List Byte) (kclass : Nat) : Option Nat :=
  h.ways.find? fun n => s.ldr.lines.any fun p => p.1 == n && !p.2.err && p.2.addr == addr && p.2.kclass == kclass

/-- Steps 1 to 4 of R284. -/
def State.findClient (s : State) (addr : List Byte) (kclass : Nat) : Found × State :=
  let h := s.hash addr kclass
  match s.pantryHit h addr kclass with
  | some n => (.line n, s.ldrCount ldrPantryHit)
  | none =>
    let way := s.fillWay h
    match h.records.find? (fun i => (s.record i).addr == addr && (s.record i).kclass == kclass) with
    | some i => match way with
      | some n => (.line n, (s.ldrCount ldrLarderHit).fill n i)
      | none => (.guest 2, s)
    | none => match s.victim h, way with
      | none, _ => (.guest 1, s)
      | some _, none => (.guest 2, s)
      | some i, some _ =>
        let s1 := s.insertRecord i addr kclass
        match s1.fillWay h with
        | some n => (.line n, s1.fill n i)
        | none => (.guest 2, s1)

/-- An unpinned line with an uncorrectable error is invalidated when a lookup meets it; a pinned one is rebuilt. -/
def State.dropErr (s : State) (h : Hash) : State :=
  h.ways.foldl (fun (s : State) n => match s.ldr.lines.find? (fun p => p.1 == n) with
    | some (_, l) => if l.err && !l.tailValid then ((s.dropLine n).ldrCount ldrPantryErr).raise Ev.LDR_PANTRY_ERR noInst n else s
    | none => s) s

/-- A guest entry (R285): at most one LDR_GUEST a tick. -/
def State.guestNote (s : State) (cause : Nat) : State :=
  let s1 := s.ldrCount ldrGuests
  if s1.ldr.guestTick = s1.curTick + 1 then s1
  else (s1.modLdr fun l => { l with guestTick := s1.curTick + 1 }).raise Ev.LDR_GUEST noInst cause

/-- Counts of a decision (R295). -/
def State.decisionCount (s : State) (d : Nat) : State := if d = 1 then s.ldrCount ldrRateKod else if d = 2 then s.ldrCount ldrRateSilent else s

/-- A pinned line of the client has an error whose rebuild is not complete (R290). -/
def State.rebuilding (s : State) (e : Entry) : Bool :=
  s.ldr.lines.any fun p => p.2.err && p.2.tailValid && p.2.addr == e.addr && p.2.kclass == e.kclass

/-- The oldest entry whose client is not resolved. -/
def State.nextLookup (s : State) : Option Entry := s.svc.ledger.find? (fun e => !e.resolved)

/-- The entry resolved to a guest or to a pinned line, with its rate decision (R284 step 5, R285, R286). -/
def State.resolve (s : State) (e : Entry) (h : Hash) (f : Found) : State := match f with
  | .guest c =>
    let d := if s.flag F.LDR_CFG_GUEST_SILENT then 2 else 0
    ((s.setEntry e.index fun e => { e with resolved := true, guest := true, record := 8 * h.b1, bucket := h.b1, decision := d }).guestNote c).decisionCount d
  | .line n =>
    let l := s.line n
    let q := s.rateDecide l e.kind
    let l1 := { q.2 with tail := e.index, tailValid := true, lastTick := s.tick32, ldirty := true, ctrl := q.2.ctrl % 8 + 8 * e.port, used := s.ldr.uses + 1 }
    ((((s.setLine n l1).modLdr fun d => { d with uses := d.uses + 1 }).setEntry e.index fun e =>
      { e with resolved := true, record := l.index, bucket := h.b1, decision := q.1 }).decisionCount q.1).ldrShow

/-- R284: LDR resolves the client of the oldest unresolved entry; `bad` names its records whose DRAM read is
uncorrectable. Waiting outcome writes are performed first, since operations on a bucket keep their order. While DRAM serves no
request only a Pantry hit is resolved. -/
def State.clientLookup (s : State) (bad : List Nat) : State :=
  match s.nextLookup with
  | none => s
  | some e =>
    let h := s.hash e.addr e.kclass
    if s.rebuilding e then s
    else if s.dramBusy then
      (match s.pantryHit h e.addr e.kclass with
        | some n => ((s.ldrCount ldrLookups).ldrCount ldrPantryHit).resolve e h (.line n)
        | none => s)
    else
      let s1 := (s.writeAll.clearBad (h.records.filter (fun i => bad.contains i || s.ldr.bad.contains i))).dropErr h
      let r := (s1.ldrCount ldrLookups).findClient e.addr e.kclass
      r.2.resolve e h r.1

def execClientLookup (bad : List Nat) (s : State) : Host.Outcome State Fault Refusal := .next (s.onCclk (·.clientLookup bad))

/-! ### Ageing, grants, rebuild, READY (R288 to R293) -/

/-- AGE_OUT in whole ticks, rounded up. -/
def State.ageTicks (s : State) : Nat := (s.get F.LDR_AGE_AGE_OUT * 1000000000 + (2 ^ 20 - 1)) / 2 ^ 20

/-- R288: the sweeper's check of one record. -/
def State.ageOut (s : State) (i : Nat) : State :=
  if s.dramBusy then s
  else
    let s0 := s.writeAll
    let fg := match s0.resident i with | some l => (l.flags, l.grantEnd) | none => ((s0.record i).flags, (s0.record i).grantEnd)
    if s0.recEmpty i ∨ s0.recPinned i ∨ s0.liveGrant fg.1 fg.2 ∨ since s0.tick32 (s0.lastTickOf i) 32 < s0.ageTicks then s0
    else
      let s1 := match s0.lineOf i with | some n => s0.dropLine n | none => s0
      ((((s1.putRecord i zeroRecord).ldrCount ldrAgedOut).put F.LDR_LIVE_LIVE (s1.get F.LDR_LIVE_LIVE - 1)).modLdr fun l =>
        { l with grants := l.grants.erase i }).ldrShow

def execRecordAgeOut (i : Fin 8388608) (s : State) : Host.Outcome State Fault Refusal := .next (s.onCclk (·.ageOut i))

/-- R289: GRANT_END has passed. -/
def State.grantExpire (s : State) (i : Nat) : State :=
  let ge := match s.resident i with | some l => l.grantEnd | none => (s.record i).grantEnd
  if s.ldr.grants.contains i ∧ ge ≤ s.sec32 then (s.modLdr fun l => { l with grants := l.grants.erase i }).ldrShow else s

def execGrantExpire (i : Fin 8388608) (s : State) : Host.Outcome State Fault Refusal := .next (s.onCclk (·.grantExpire i))

/-- R290: a pinned line refilled from the Larder; HELD and TAIL rebuilt from the ledger. -/
def State.rebuild (s : State) (n : Nat) : State :=
  let l := s.line n
  if l.err ∧ l.tailValid ∧ ¬ s.dramBusy then
    let s0 := s.writeAll
    let live := s0.svc.ledger.filter (fun e => e.resolved && !e.guest && e.record == l.index)
    let held := min 255 (live.filter (fun e => e.decision == 0)).length
    let l1 := { ((s0.record l.index).line l.index) with held := held, tail := ((live.getLast?).map (·.index)).getD 0, tailValid := !live.isEmpty, used := l.used }
    (((s0.setLine n l1).ldrCount ldrRebuilds).raise Ev.LDR_REBUILD noInst (detSat 16 live.length)).ldrShow
  else s

def execPantryRebuildDone (n : Fin 262144) (s : State) : Host.Outcome State Fault Refusal := .next (s.onCclk (·.rebuild n))

/-- R293: the VIRGIN fill of the Larder region is complete. -/
def State.ldrReady (s : State) (ms : Nat) : State :=
  if s.flag F.LDR_STAT_READY then s
  else ((s.putB F.LDR_STAT_READY true).putB F.MEM_STAT_LARDER_FILLED true).raise Ev.LDR_READY noInst (ms % 65536)

def execLdrReady (ms : Fin 65536) (s : State) : Host.Outcome State Fault Refusal := .next (s.ldrReady ms)

/-! ### Queries (R294) -/

def State.queryKey (s : State) : List Byte × Nat :=
  ((List.range 4).flatMap fun w => leBytes 4 (s.lastWritten (A.LDR_Q_ADDR w)).toNat, s.lastGet F.LDR_Q_CMD_KCLASS + 8 * s.lastGet F.LDR_Q_CMD_INST)

/-- The record a key names, without filling or inserting. -/
def State.peekClient (s : State) (k : List Byte × Nat) : Option Nat :=
  let h := s.hash k.1 k.2
  match h.ways.find? (fun n => s.ldr.lines.any (fun p => p.1 == n && p.2.addr == k.1 && p.2.kclass == k.2)) with
  | some n => some (s.line n).index
  | none => h.records.find? (fun i => !s.recEmpty i && (s.record i).addr == k.1 && (s.record i).kclass == k.2)

/-- The record with the fields its line holds. -/
def State.overlaid (s : State) (i : Nat) : Rec := match s.resident i with
  | some l => (s.record i).withLine l
  | none => s.record i

/-- The answer of a query posted: FOUND, REFUSED, RESIDENT, the index and the record. -/
def State.queryPost (s : State) (r : Option Nat) (refused : Bool) : State :=
  match r with
  | none => s.post A.LDR_QRES (if refused then 4 else 0)
  | some i =>
    let b := (s.overlaid i).bytes 0 0
    let s1 := (List.range 16).foldl (fun (s : State) w => s.setReg (A.LDR_QREC w) (BitVec.ofNat 32 (leNat (slice b (4 * w) 4)))) s
    (s1.put F.LDR_QRES_INDEX_INDEX i).post A.LDR_QRES (2 + (if (s.lineOf i).isSome then 8 else 0))

/-- R294: FIND, after the outcome writes that came before it. -/
def State.ldrFind (s : State) : State :=
  let s1 := s.writeAll
  s1.queryPost (s1.peekClient s1.queryKey) false

/-- A query waits while its strobe cannot cross or DRAM serves no request (R184, R188). -/
def State.onQuery (s : State) (op : Nat) (f : State → State) : State :=
  if s.dramBusy then s.pendCmd .mgt A.LDR_Q_CMD (queryWord s op) else s.onStrobe A.LDR_Q_CMD (queryWord s op) f
where
  queryWord (s : State) (op : Nat) : Word :=
    BitVec.ofNat 32 ((s.lastWritten A.LDR_Q_CMD).toNat / 2 ^ 10 * 2 ^ 10 % 2 ^ 16 + op * 256 + (s.lastWritten A.LDR_Q_CMD).toNat % 256 + 2 ^ 16)

def execLdrFind (s : State) : Host.Outcome State Fault Refusal := .next (s.onQuery 1 (·.ldrFind))

/-- R294: a SET is judged now and takes effect at the next tick boundary. -/
def State.ldrSet (s0 : State) : State :=
  let s := s0.writeAll
  match s.peekClient s.queryKey with
  | none => s.queryPost none true
  | some i => (s.queryPost (some i) false).modLdr fun l => { l with sets := l.sets ++ [(i, s.lastGet F.LDR_Q_CMD_RCLASS, s.lastGet F.LDR_Q_CMD_DENY == 1)] }

def execLdrSet (s : State) : Host.Outcome State Fault Refusal := .next (s.onQuery 2 (·.ldrSet))

/-- The SETs applied at the tick: RCLASS and DENY in the line and the record. They wait while CCLK or DRAM does. -/
def State.ldrTick (s : State) : State :=
  if !s.cclkRuns || s.dramBusy then s
  else
    let apply (s : State) (x : Nat × Nat × Bool) : State :=
      let r := s.overlaid x.1
      let r1 := { r with ctrl := r.ctrl / 8 * 8 + x.2.1, flags := r.flags / 2 * 2 + (if x.2.2 then 1 else 0) }
      let s1 := match s.lineOf x.1 with
        | some n => s.modLine n fun l => { l with ctrl := r1.ctrl, flags := r1.flags, ldirty := false }
        | none => s
      s1.putRecord x.1 (r1.bytes 0 0)
    let s0 := if s.ldr.sets.isEmpty then s else s.writeAll
    (s0.ldr.sets.foldl apply s0).modLdr fun l => { l with sets := [] }

/-- The dirty bitmaps swap at a vintage boundary; unread bits join the collecting one (R291). -/
def State.dirtySwap (s : State) : State :=
  s.modLdr fun l => { l with dirty := l.closed, closed := l.dirty }

def execLdrCntSnap (s : State) : Host.Outcome State Fault Refusal := .next (s.onStrobe A.LDR_CMD 1 (·.snapPairs (A.LDR_CNT 0) 12))

end Sys2Proof.Machine
end

