-- ==== Sys2Proof/Machine/SvcOut.lean ====
section
/-!
DEFINITION. The outcomes of a ledger entry (10_service_engines.md R250, R251, R255 to R259): withdrawal, squash, commit.
-/
namespace Sys2Proof.Machine

open Sys2Proof

/-! ### Withdrawal reasons (R259) -/

def wdLimit : Nat := 1
def wdAuth : Nat := 2
def wdKey : Nat := 3
def wdMemory : Nat := 4
def wdRate : Nat := 5
def wdGuardrail : Nat := 6
def wdMalformed : Nat := 7
def wdStep : Nat := 8

/-- The transient keys of a context are released (R311). -/
def State.dropTransient (s : State) (n c : Nat) : State :=
  s.modKey fun k => { k with transient := k.transient.filter (fun p => p.1 / 2 != n * 4 + c) }

/-- A context unbound: its pending requests are dropped (R250). -/
def State.unbind (s : State) (n c : Nat) : State :=
  (((s.modCtx n c fun x => { x with bound := none, buf := [], sealed := false, out := [], fetched := [], pick := none }).modEngine n fun g =>
    { g with seals := g.seals.filter (fun r => r.ctx != c), crypto := g.crypto.filter (fun w => bitsOf w 2 1 != c) }).dropTransient n c).busyShow n

/-- An entry at its outcome: it is freed, its context unbound, and the Cellar resolved count advances (R43, R250). -/
def State.freeEntry (s : State) (e : Entry) : State :=
  let s1 := s.modSvc fun v => { v with ledger := v.ledger.filter (fun d => d.index != e.index) }
  let s2 := match e.bind with
    | some (n, c) => if (s1.ctx n c).bound = some e.index then s1.unbind n c else s1
    | none => s1
  (s2.countUp (A.CLR_RESk 0)).ledgerShow

/-- A note to the context an entry is bound to. -/
def State.noteEntry (s : State) (e : Entry) (typ cause restart : Nat) : State := match e.bind with
  | some (n, c) => if e.gone then s else s.note n c typ cause restart e.index
  | none => s

/-- R259 to R261: an entry withdrawn with a reason. -/
def State.withdraw (s : State) (e : Entry) (reason : Nat) : State :=
  let s1 := ((s.journal e reason).svcCount svcWithdrawn).countUp (A.SVC_REASON reason) 1 32
  let s2 := if s1.svc.wdTick = s1.curTick + 1 then s1
    else (s1.modSvc fun v => { v with wdTick := s1.curTick + 1 }).raise Ev.SVC_WITHDRAW noInst (reason + 65536 * e.index)
  let s3 := s2.clientOutcome e 0 (if reason = wdRate then 1 else 0) (if reason = wdAuth then 1 else 0) none
  (s3.noteEntry e 3 reason 0).freeEntry e

/-! ### Squash (R257, R258) -/

/-- RESTART of a squash cause. -/
def restartOf (cause : Nat) : Nat :=
  if cause = sqGuardrail then 3 else if cause = sqKey then 2 else if cause = sqEngine ∨ cause = sqMemory then 1 else 4

/-- The reason a squash withdraws for, where it does (R251, R257); `hint` of cause KEY says whether a successor stands. -/
def State.squashReason (s : State) (e : Entry) (cause hint : Nat) : Option Nat :=
  if cause = sqStep then some wdStep
  else if cause = sqKey ∧ hint = 0 then some wdKey
  else if cause = sqGuardrail ∧ 1 ≤ e.guardrails then some wdGuardrail
  else if s.limitOf e < s.now then some wdLimit
  else none

/-- An entry after a squash that does not withdraw it. A gone entry waits again, before the others (R250, R269). -/
def Entry.squashed (e : Entry) (cause hint : Nat) : Entry :=
  { e with launch := none, slot := 0, t3 := 0, deadline := 0, epoch := 0,
           hint := if cause = sqPause then hint else 0,
           phase := if e.gone then .waiting else .preparing, returned := e.gone, gone := false,
           bind := if e.gone then none else e.bind, restart := if e.gone then 1 else restartOf cause,
           keys := if e.gone || decide (restartOf cause ≤ 2) then [] else e.keys,
           failed := e.failed && decide (2 < restartOf cause), verified := e.verified && !e.gone && decide (2 < restartOf cause) }

/-- R257: the ledger takes one squash. The sealed bytes go: each new slot is sealed with a bound of its own (R37, R254). -/
def State.squash (s : State) (e : Entry) (cause hint : Nat) : State :=
  let s1 := (s.svcCount svcSquashed).countUp (A.SVC_CAUSE cause) 1 32
  let e1 := { e with squashes := e.squashes + 1, guardrails := e.guardrails + (if cause = sqGuardrail then 1 else 0) }
  match s.squashReason e cause hint with
  | some r => (s1.setEntry e.index fun _ => e1).withdraw e1 r
  | none =>
    let e2 := e1.squashed cause hint
    let s2 := s1.setEntry e.index fun _ => e2
    let s3 := match e2.bind with
      | some (n, c) => s2.modCtx n c fun x => { x with sealed := x.sealed && decide (3 < e2.restart), out := [] }
      | none => s2
    s3.noteEntry e2 1 cause e2.restart

/-- The causes ordered by RESTART, then by code; STEP, which withdraws, before all (R257). DESIGN CHOICE (assumption log 80): the
spec gives STEP no RESTART. -/
def causeRank (cause : Nat) : Nat := (if cause = sqStep then 0 else 16 * restartOf cause) + cause

/-- The pinned frame of an entry. -/
def State.pinEntry (s : State) (e : Entry) : Option Pinned := s.pinOf e.tport 1 e.index

/-- A reservation taken back without a report. -/
def State.unpin (s : State) (e : Entry) : State :=
  match s.pinEntry e with
  | some f =>
    let r := s.prt.reports
    (s.pinSquash e.tport f sqCancel 0).modPrt fun c => { c with reports := r }
  | none => s

/-- The report of an entry's frame that waits, of a kind. -/
def State.reportOf (s : State) (idx : Nat) (c : PinResult → Bool) : Option PinReport :=
  s.prt.reports.find? (fun r => r.src == 1 && r.tag == idx && c r.result)

/-- The final report of an entry's frame is taken, and with it a LAUNCHED that a refused cancel left (R234). -/
def State.takeReport (s : State) (r : PinReport) : State :=
  s.modPrt fun c => { c with reports := c.reports.filter fun q => !(q.src == r.src && q.tag == r.tag) }

def isSquashed : PinResult → Bool
  | .squashed _ _ => true
  | _ => false

def isCommitted : PinResult → Bool
  | .committed _ => true
  | _ => false

/-- The ledger squashes a reservation itself: the port frees it and reports the cause (R85, R257). Where the port has squashed it
already and the report waits, the ledger takes the cause with the lower RESTART, then the lower code. A squash that falls with the arrival of SLOT governs (R235). -/
def State.ledgerSquash (s : State) (e : Entry) (cause hint : Nat) : State :=
  match s.pinEntry e, s.reportOf e.index isSquashed with
  | some f, _ => if f.phase = .launching ∨ (f.phase = .armed ∧ f.slot < s.now) then s else s.pinSquash e.tport f cause hint
  | none, some r =>
    (match r.result with
      | .squashed c _ =>
        if causeRank cause < causeRank c then
          s.modPrt fun k => { k with reports := k.reports.map fun q => if q = r then { q with result := .squashed cause hint } else q }
        else s
      | _ => s)
  | none, none => s

/-- R257: the squash report of an entry is taken. CANCEL comes only after an engine reset and is taken as ENGINE. -/
def State.entrySquash (s : State) (idx : Nat) : State :=
  match s.reportOf idx isSquashed, s.entry idx with
  | some r, some e =>
    let s1 := s.takeReport r
    (match r.result with
      | .squashed cause hint => if e.phase = .pinned then s1.squash e (if cause = sqCancel then sqEngine else cause) hint else s1
      | _ => s1)
  | some r, none => s.takeReport r
  | none, _ => s

def execEntrySquash (idx : Fin 65536) (s : State) : Host.Outcome State Fault Refusal := .next (s.onCclk (·.entrySquash idx))

/-! ### Commit (R255) -/

/-- Key uses of a commit (R313). -/
def State.chargeKeys (s : State) (l : List Nat) : State :=
  l.foldl (fun (s : State) k => s.modKey fun c => { c with uses := spSet (fun _ => 0) c.uses k ((spGet (fun _ => 0) c.uses k + 1) % 2 ^ 64) }) s

/-- R255: the commit effects of an entry whose frame the port reports COMMITTED. -/
def State.commitEntry (s : State) (e : Entry) : State :=
  let s1 := ((s.svcCount svcCommitted).chargeKeys e.keys)
  let s2 := if e.kiss = 0 then s1 else s1.svcCount svcCommittedNak
  let s3 := match e.bind with
    | some (n, _) => if e.gone then s2 else s2.incr (F.SVC_SEn_DONE_COUNT n)
    | none => s2
  let s4 := s3.clientOutcome e (if e.kiss = 0 then 0 else 1) 0 (if e.kiss = 2 then 1 else 0) e.staged
  (s4.noteEntry e 2 0 0).freeEntry e

/-- The COMMITTED report of an entry is taken. -/
def State.entryCommit (s : State) (idx : Nat) : State :=
  match s.reportOf idx isCommitted, s.entry idx with
  | some r, some e => if e.phase = .pinned then (s.takeReport r).commitEntry e else s.takeReport r
  | some r, none => s.takeReport r
  | none, _ => s

def execEntryCommit (idx : Fin 65536) (s : State) : Host.Outcome State Fault Refusal := .next (s.onCclk (·.entryCommit idx))

/-! ### Limit (R251) -/

/-- R251: an entry WAITING or PREPARING at its limit instant is withdrawn; a PINNED one keeps its slot. The limit is a
time after the stamp: it is reached where voted time is at or past it. -/
def State.limitExpiry (s : State) (idx : Nat) : State :=
  match s.entry idx with
  | some e => if e.phase = .pinned then s else (s.advanceTo (s.limitOf e)).withdraw e wdLimit
  | none => s

def execUseLimitExpiry (idx : Fin 65536) (s : State) : Host.Outcome State Fault Refusal := .next (s.onCclk (·.limitExpiry idx))

/-- When CCLK returns, every entry whose limit has passed is withdrawn before any pop (R251). -/
def State.limitSweep (s : State) : State :=
  (s.svc.ledger.filter (fun e => e.phase != .pinned && decide (s.limitOf e ≤ s.now))).foldl (fun (s : State) e => s.withdraw e wdLimit) s

end Sys2Proof.Machine
end

