-- ==== Sys2Proof/Machine/Key.lean ====
section
/-!
DEFINITION. Keys (12_keys_and_authentication.md R297 to R329): slots and handles, the derivation tree, the two-phase update
of Cellar keys, invalidation and successors, cookie families, tamper and the random generator.
-/
namespace Sys2Proof.Machine

open Sys2Proof

/-! ### Slots (R297, R299) -/

def ksEmpty : Nat := 0
def ksPending : Nat := 1
def ksValid : Nat := 2
def ksInvalid : Nat := 3
def ksStaged : Nat := 4
def ksStagedErase : Nat := 5

/-- Policy bits (R302). -/
def pbSiv : Nat := 0
def pbHmac : Nat := 1
def pbCookie : Nat := 2
def pbDerive : Nat := 3
def pbWrap : Nat := 4
def pbTwivon : Nat := 5
def pbEngine : Nat := 6

def KeySlot.has (k : KeySlot) (b : Nat) : Bool := k.policy / 2 ^ b % 2 == 1

def asciiLabel (s : String) : List Byte := s.toList.map (fun c => BitVec.ofNat 8 c.toNat)

/-- K_INT (R299). -/
def kInt : List Byte := hkdf (beBytes 32 Config.deviceSecret) (asciiLabel "IZTAGKEY") 0

/-- Bytes 32 to 59 of a slot. -/
def KeySlot.info (k : KeySlot) : List Byte :=
  k.label ++ beBytes 2 k.parent ++ beBytes 2 k.gen ++ beBytes 1 k.depth ++ beBytes 1 k.state
    ++ beBytes 2 (match k.succ with | some j => j + 32768 | none => 0) ++ beBytes 4 k.policy ++ beBytes 4 k.keyid ++ beBytes 4 k.notAfter

/-- The TAG of a slot of a SPACE (R299). -/
def KeySlot.tagOf (k : KeySlot) (space idx : Nat) : List Byte :=
  (hmac kInt (k.material ++ k.info ++ beBytes 1 space ++ beBytes 2 idx)).take 4

def KeySlot.tagged (k : KeySlot) (space idx : Nat) : KeySlot := { k with tag := k.tagOf space idx, tagOk := true }

def blankSlot (_ : Nat) : KeySlot := KeySlot.blank

def State.mainSlot (s : State) (i : Nat) : KeySlot := spGet blankSlot s.key.main i
def State.cellarSlot (s : State) (j : Nat) : KeySlot := spGet blankSlot s.key.cellar j

/-- A slot written with its tag. -/
def State.setMain (s : State) (i : Nat) (k : KeySlot) : State :=
  s.modKey fun c => { c with main := spSet blankSlot c.main i (k.tagged 0 i) }
def State.setCellar (s : State) (j : Nat) (k : KeySlot) : State :=
  s.modKey fun c => { c with cellar := spSet blankSlot c.cellar j (k.tagged 1 j) }

/-- A main slot zeroed; its INCARN stays. -/
def State.zeroMain (s : State) (i : Nat) : State :=
  s.modKey fun c => { c with main := spSet blankSlot c.main i { KeySlot.blank with incarn := (spGet blankSlot c.main i).incarn } }
def State.zeroCellar (s : State) (j : Nat) : State := s.modKey fun c => { c with cellar := spSet blankSlot c.cellar j KeySlot.blank }

/-! ### The commit word (R303) -/

def State.commitOk (s : State) : Bool := s.key.commit.toNat / 65536 + s.key.commit.toNat % 65536 == 65535
def State.selBit (s : State) (n : Nat) : Nat := s.key.commit.toNat / 2 ^ n % 2
def State.keyLive (s : State) (n : Nat) : Bool := s.commitOk && s.key.commit.toNat / 2 ^ (8 + n) % 2 == 1
def commitWord (sel live : Nat) : Word := BitVec.ofNat 32 (sel + live * 256 + (65535 - (sel + live * 256)) * 65536)
def State.liveIdx (s : State) (n : Nat) : Nat := 2 * n + s.selBit n
def State.spareIdx (s : State) (n : Nat) : Nat := 2 * n + (1 - s.selBit n)
def State.keyStaged (s : State) (n : Nat) : Bool := (s.cellarSlot (s.spareIdx n)).state != ksEmpty
def State.anyLive (s : State) : Bool := (List.range 8).any s.keyLive

/-- KEY_STAT follows the Cellar (R327). -/
def State.keyShow (s : State) : State :=
  let mask (f : Nat → Bool) := (List.range 8).foldl (fun a n => a + (if f n then 2 ^ n else 0)) 0
  (((s.put F.KEY_STAT_LIVE (mask s.keyLive)).put F.KEY_STAT_STAGED (mask s.keyStaged)).putB F.KEY_STAT_TAMPERED
    (s.get F.KEY_TAMPER_STAT_CAUSE != 0)).putB F.KEY_STAT_LOCAL_OK (s.flag F.KEY_CFG_LOCAL_PROVISION && !s.anyLive)

/-! ### Counters and random bytes (R323, R328) -/

def State.keyCount (s : State) (i : Nat) (n : Nat := 1) : State := s.countUp (A.KEY_CNT (2 * i)) n

/-- Bytes from the random generator. -/
def State.random (s : State) (n : Nat) : List Byte × State :=
  ((List.range n).map (fun i => Config.randomByte (s.key.draws + i)), s.modKey fun k => { k with draws := k.draws + n, requests := k.requests + 1 })

def State.rngOk (s : State) : Bool := s.flag F.KEY_STAT_RNG_OK

/-- R323: a health test fails. -/
def State.rngFail (s : State) (rep : Bool) : State :=
  (s.putB F.KEY_STAT_RNG_OK false).raise Ev.KEY_RNG_FAIL noInst (if rep then 1 else 0)

def execRngHealthFail (rep : Bool) (s : State) : Host.Outcome State Fault Refusal := .next (s.rngFail rep)

/-- R323: 1,024 consecutive windows have passed. -/
def execRngRecover (s : State) : Host.Outcome State Fault Refusal :=
  .next (if s.injOn 0xB1 0 then s else s.putB F.KEY_STAT_RNG_OK true)

/-- R323: the reseed after 2^20 requests. -/
def execDrbgReseed (s : State) : Host.Outcome State Fault Refusal :=
  .next (if 2 ^ 20 ≤ s.key.requests then s.modKey fun k => { k with requests := 0, reseeds := k.reseeds + 1 } else s)

/-! ### Tag failure (R299) -/

/-- KEY_TAG_FAIL for a slot; a main slot is invalidated at the tick. -/
def State.tagFailMain (s : State) (i : Nat) : State :=
  ((s.modKey fun c => { c with main := spSet blankSlot c.main i { spGet blankSlot c.main i with tagOk := false }, inval := c.inval ++ [(i, 5)] }).keyCount 4).raise
    Ev.KEY_TAG_FAIL noInst i

def State.tagFailCellar (s : State) (j : Nat) : State :=
  ((s.modKey fun c => { c with cellar := spSet blankSlot c.cellar j { spGet blankSlot c.cellar j with tagOk := false } }).keyCount 4).raise
    Ev.KEY_TAG_FAIL (j / 2) (j + 65536)

def State.mainTagOk (s : State) (i : Nat) : Bool := (s.mainSlot i).tag == (s.mainSlot i).tagOf 0 i
def State.cellarTagOk (s : State) (j : Nat) : Bool := (s.cellarSlot j).tag == (s.cellarSlot j).tagOf 1 j

/-- A slot loaded into a crypto core whose tag fails is reported (R299). -/
def State.noteMain (s : State) (i : Nat) : State :=
  if ((s.mainSlot i).state = ksValid ∨ (s.mainSlot i).state = ksPending) ∧ ¬ s.mainTagOk i then s.tagFailMain i else s
def State.noteCellar (s : State) (j : Nat) : State :=
  if (s.cellarSlot j).state ≠ ksEmpty ∧ ¬ s.cellarTagOk j then s.tagFailCellar j else s

/-! ### Squash by key (R308) -/

/-- A key's number: a main slot's own, 4096 + n for Cellar key n. -/
def cellarKey (n : Nat) : Nat := 4096 + n

/-- The VALID successor of an invalidated main slot (R309). -/
def State.succOf (s : State) (i : Nat) : Option Nat :=
  match (s.mainSlot i).succ with
  | some j => if (s.mainSlot j).state = ksValid then some j else none
  | none => none

/-- The slot a handle's operation loads: a main slot, or the successor of an INVALID one; a live Cellar key. -/
def State.tagNote (s : State) (h : Nat) : State :=
  let i := h % 4096
  if h / 2 ^ 22 = 0 then s.noteMain (if (s.mainSlot i).state = ksInvalid then (s.succOf i).getD i else i)
  else if h / 2 ^ 22 = 1 ∧ i < 8 ∧ s.keyLive i then s.noteCellar (s.liveIdx i)
  else s

/-- A squash of the entry by another cause waits to be taken (R257). -/
def State.squashWaits (s : State) (e : Entry) : Bool := match s.reportOf e.index isSquashed with
  | some r => (match r.result with | .squashed c _ => c != sqKey && c != sqStep | _ => false)
  | none => false

/-- Every PINNED entry not yet LAUNCHING that used a key of the set is squashed with cause KEY; how many. `succ` says which
keys have a successor. -/
def State.keySquash (s : State) (set : List Nat) (succ : Nat → Bool) : Nat × State :=
  let hit := s.svc.ledger.filter fun e => e.phase == .pinned && (e.keys.any set.contains)
    && (match s.pinEntry e with | some f => f.phase != .launching | none => s.squashWaits e)
  (hit.length, hit.foldl (fun (s : State) e => s.ledgerSquash e sqKey (if (e.keys.filter set.contains).all succ then 1 else 0)) s)

/-- The children of a parent field. -/
def State.kids (s : State) (parent : Nat) : List Nat :=
  (s.key.main.filter (fun p => p.2.state != ksEmpty && p.2.parent == parent)).map (·.1)

/-- A slot and its descendants; the tree is at most 4 levels deep (R301). -/
def State.subtree (s : State) (i : Nat) : List Nat :=
  let d1 := s.kids i
  let d2 := d1.flatMap s.kids
  i :: (d1 ++ d2 ++ d2.flatMap s.kids)

/-- The subtree of a slot becomes INVALID together (R308). -/
def State.invalidate (s : State) (i cause : Nat) : State :=
  if (s.mainSlot i).state = ksValid then
    let set := (s.subtree i).filter fun j => (s.mainSlot j).state == ksValid
    let s1 := set.foldl (fun (s : State) j => s.setMain j { s.mainSlot j with state := ksInvalid }) s
    let q := s1.keySquash set (fun j => (s1.succOf j).isSome)
    q.2.raise Ev.KEY_INVALIDATE noInst (i + 4096 * cause + 65536 * detSat 16 q.1)
  else s

/-! ### Command results (R325, R326) -/

def opGenerate : Nat := 1
def opImport : Nat := 2
def opImportLocal : Nat := 3
def opErase : Nat := 4
def opCommit : Nat := 5
def opAbort : Nat := 6
def opDerive : Nat := 7
def opInvalidate : Nat := 8
def opSetSucc : Nat := 9
def opFree : Nat := 10
def opRoll : Nat := 11
def opDisarm : Nat := 12

/-- The ARG words of a command. -/
def State.keyArg (s : State) (a : KeyArgs) (i : Nat) : Nat := match a.words with
  | some l => ((l[i]?).getD 0).toNat
  | none => (s.lastWritten (A.KEY_ARG i)).toNat

/-- What a command came to: a refusal cause, or the state it leaves. -/
inductive KeyOut where
  | refused (cause : Nat)
  | done (s : State)
  deriving DecidableEq, Repr

/-- The result posted (R11, R325). -/
def State.keyPost (s : State) (op : Nat) (r : KeyOut) : State := match r with
  | .refused c => (s.post A.KEY_RES (4 + 8 * c + 65536 * op)).raise Ev.KEY_CMD_REFUSED noInst (op + 16 * c)
  | .done t => (t.keyShow).post A.KEY_RES (2 + 65536 * op)

/-- A command's path to KEY_CMD. -/
def keyPath : KeySrc → Path
  | .spi => .spi
  | .twivon => .twv
  | _ => .mgt

/-- A command runs in CCLK, where the crypto cores are (R324); a write of KEY_CMD whose strobe cannot cross waits (R184 to R186), and
a command that carries its own words is not taken. -/
def State.onKey (s : State) (a : KeyArgs) (op : Nat) (f : State → State) : State :=
  if s.cclkRuns && s.crossOpen 4 3 then f s
  else if a.words.isNone then s.pendCmd (keyPath a.src) A.KEY_CMD (BitVec.ofNat 32 op) else s

/-- Commands from the cores and Twivon (R325). -/
def keySrcOk (a : KeyArgs) : Bool := a.src == .mgt || a.src == .twivon

/-! ### Cellar keys (R304, R306) -/

/-- POLICY's reserved bits are 0. -/
def policyOk (p : Nat) : Bool := p / 128 % 512 == 0

/-- New material staged in key n's spare slot. -/
def State.stageKey (s : State) (a : KeyArgs) (n : Nat) (material : List Byte) (erase : Bool) : State :=
  let live := s.cellarSlot (s.liveIdx n)
  let gen := if s.keyLive n then (live.gen + 1) % 65536 else 1
  s.setCellar (s.spareIdx n)
    { KeySlot.blank with material := material, label := if erase then List.replicate 8 0 else beBytes 4 (s.keyArg a 2) ++ beBytes 4 (s.keyArg a 3), parent := 0xFFFF, gen := gen,
                         state := if erase then ksStagedErase else ksStaged, policy := if erase then 0 else s.keyArg a 5,
                         keyid := if erase then 0 else s.keyArg a 6 }

/-- The checks GENERATE and the imports share. -/
def State.stageCause (s : State) (a : KeyArgs) : Nat :=
  if 8 ≤ s.keyArg a 0 then 2 else if !policyOk (s.keyArg a 5) then 10 else if s.keyStaged (s.keyArg a 0) then 7 else 0

def State.keyGenerate (s : State) (a : KeyArgs) : KeyOut :=
  if !keySrcOk a then .refused 1
  else if s.stageCause a ≠ 0 then .refused (s.stageCause a)
  else if !s.rngOk then .refused 6
  else .done ((s.random 32).2.stageKey a (s.keyArg a 0) (s.random 32).1 false)

def execKeyGenerate (a : KeyArgs) (s : State) : Host.Outcome State Fault Refusal := .next (s.onKey a opGenerate fun s => s.keyPost opGenerate (s.keyGenerate a))

/-- KEY_WRAP as bytes: byte 4n in [31:24]. -/
def State.wrapBytes (s : State) (n : Nat) : List Byte := (List.range n).flatMap fun i => beBytes 4 (s.reg (A.KEY_WRAP i)).toNat

/-- The wrapping key a handle names: a LIVE Cellar key that holds WRAP; else the cause that refuses it: 5, or 9 where its tag
fails. -/
def State.wrapKey (s : State) (h : Nat) : Except Nat KeySlot :=
  let n := h % 4096
  if h / 2 ^ 22 = 1 ∧ n < 8 ∧ s.keyLive n ∧ (s.cellarSlot (s.liveIdx n)).has pbWrap then
    (if s.cellarTagOk (s.liveIdx n) then .ok (s.cellarSlot (s.liveIdx n)) else .error 9)
  else .error 5

def State.keyImport (s : State) (a : KeyArgs) : KeyOut :=
  if !keySrcOk a then .refused 1
  else if s.stageCause a ≠ 0 then .refused (s.stageCause a)
  else match s.wrapKey (s.keyArg a 1 % 2 ^ 24) with
    | .error c => .refused c
    | .ok k => match aesUnwrap k.material (s.wrapBytes 10) with
      | none => .refused 5
      | some m => .done (s.stageKey a (s.keyArg a 0) m false)

/-- IMPORT with the report of a wrapping key whose tag fails as it is loaded (R299). -/
def State.importCmd (s : State) (a : KeyArgs) : State :=
  let s1 := if s.stageCause a = 0 then s.tagNote (s.keyArg a 1 % 2 ^ 24) else s
  s1.keyPost opImport (s1.keyImport a)

def execKeyImport (a : KeyArgs) (s : State) : Host.Outcome State Fault Refusal := .next (s.onKey a opImport (·.importCmd a))

def State.keyImportLocal (s : State) (a : KeyArgs) : KeyOut :=
  if a.src ≠ .spi ∨ ¬ s.flag F.KEY_CFG_LOCAL_PROVISION ∨ s.anyLive then .refused 1
  else if s.stageCause a ≠ 0 then .refused (s.stageCause a)
  else .done (s.stageKey a (s.keyArg a 0) (s.wrapBytes 8) false)

def execKeyImportLocal (a : KeyArgs) (s : State) : Host.Outcome State Fault Refusal := .next (s.onKey a opImportLocal fun s => s.keyPost opImportLocal (s.keyImportLocal a))

def State.keyErase (s : State) (a : KeyArgs) : KeyOut :=
  let n := s.keyArg a 0
  if !keySrcOk a then .refused 1
  else if 8 ≤ n ∨ ¬ s.keyLive n then .refused 2
  else if s.keyStaged n then .refused 7
  else .done (s.stageKey a n (List.replicate 32 0) true)

def execKeyErase (a : KeyArgs) (s : State) : Host.Outcome State Fault Refusal := .next (s.onKey a opErase fun s => s.keyPost opErase (s.keyErase a))

/-- The keys a mask names. -/
def maskKeys (m : Nat) : List Nat := (List.range 8).filter fun n => m / 2 ^ n % 2 == 1

/-- The cause that refuses a COMMIT or an ABORT of a mask. -/
def State.maskCause (s : State) (m : Nat) : Nat :=
  if 256 ≤ m then 2 else if (maskKeys m).isEmpty ∨ ¬ (maskKeys m).all s.keyStaged then 7 else 0

/-- COMMIT waits for the tick. -/
def State.keyCommit (s : State) (a : KeyArgs) : KeyOut :=
  let m := s.keyArg a 0
  if !keySrcOk a then .refused 1
  else if s.maskCause m ≠ 0 then .refused (s.maskCause m)
  else .done (s.modKey fun k => { k with commitMask := (maskKeys m).foldl (fun c n => natSetBit c n true) k.commitMask })

def execKeyCommit (a : KeyArgs) (s : State) : Host.Outcome State Fault Refusal := .next (s.onKey a opCommit fun s => s.keyPost opCommit (s.keyCommit a))

/-- A main slot's Cellar ancestor. -/
def State.rootOf (s : State) (i : Nat) : Option Nat :=
  let up (p : Nat) : Nat := if p < 32768 then (s.mainSlot p).parent else p
  let p := up (up (up (s.mainSlot i).parent))
  if 32768 ≤ p ∧ p ≠ 0xFFFF then some (p % 4096) else none

/-- PENDING slots under Cellar key n. -/
def State.pendingUnder (s : State) (n : Nat) : List Nat :=
  (s.key.main.filter (fun p => p.2.state == ksPending && s.rootOf p.1 == some n)).map (·.1)

/-- The spare slot zeroed and the slots PENDING under it emptied. -/
def State.dropStaged (s : State) (n : Nat) : State := ((s.pendingUnder n).foldl State.zeroMain s).zeroCellar (s.spareIdx n)

def State.keyAbort (s : State) (a : KeyArgs) : KeyOut :=
  let m := s.keyArg a 0
  if !keySrcOk a then .refused 1
  else if s.maskCause m ≠ 0 then .refused (s.maskCause m)
  else .done (((maskKeys m).foldl State.dropStaged s).modKey fun k =>
    { k with commitMask := (maskKeys m).foldl (fun c n => natSetBit c n false) k.commitMask })

def execKeyAbort (a : KeyArgs) (s : State) : Host.Outcome State Fault Refusal := .next (s.onKey a opAbort fun s => s.keyPost opAbort (s.keyAbort a))

/-! ### Derived slots (R300, R301, R307) -/

/-- A parent for DERIVE: its slot, the parent field of the child, and whether it is pending; or a refusal cause. -/
def State.parentOf (s : State) (h : Nat) : Except Nat (KeySlot × Nat × Bool) :=
  let i := h % 4096
  if h / 2 ^ 22 = 0 then
    let k := s.mainSlot i
    if h / 4096 % 1024 ≠ k.incarn then .error 3
    else if k.state = ksValid then (if s.mainTagOk i then .ok (k, i, false) else .error 9)
    else if k.state = ksPending then (if s.mainTagOk i then .ok (k, i, true) else .error 9)
    else .error 3
  else if h / 2 ^ 22 = 1 ∧ i < 8 then
    let sp := s.cellarSlot (s.spareIdx i)
    if sp.state = ksStaged then (if s.cellarTagOk (s.spareIdx i) then .ok (sp, 32768 + i, true) else .error 9)
    else if sp.state = ksStagedErase then .error 3
    else if s.keyLive i then (if s.cellarTagOk (s.liveIdx i) then .ok (s.cellarSlot (s.liveIdx i), 32768 + i, false) else .error 9)
    else .error 3
  else .error 3

/-- A successor for a key of a policy (R309): a main slot named by its handle that holds every policy bit of the key. -/
def State.succFit (s : State) (h policy : Nat) : Bool :=
  let k := s.mainSlot (h % 4096)
  h / 2 ^ 22 == 0 && h / 4096 % 1024 == k.incarn && (k.state == ksValid || k.state == ksPending)
    && (List.range 7).all (fun b => policy / 2 ^ b % 2 == 0 || k.has b)

/-- A child derived into a slot; its INCARN advances. -/
def State.deriveInto (s : State) (t : Nat) (p : KeySlot) (parent gen state : Nat) (label : List Byte) (policy keyid notAfter : Nat)
    (succ : Option Nat) : State :=
  s.setMain t { KeySlot.blank with material := hkdf p.material label gen, label := label, parent := parent, gen := gen, depth := p.depth + 1,
                                   state := state, succ := succ, policy := policy, keyid := keyid, notAfter := notAfter,
                                   incarn := ((s.mainSlot t).incarn + 1) % 1024 }

/-- The handle of a main slot as it stands (R298). -/
def State.handleOf (s : State) (i : Nat) : Nat := i + 4096 * (s.mainSlot i).incarn

def State.keyDerive (s : State) (a : KeyArgs) : KeyOut :=
  let t := s.keyArg a 4 / 65536 % 4096
  let pol := s.keyArg a 5
  let sc := s.keyArg a 1
  if a.src = .spi then .refused 1
  else if 4064 ≤ t ∨ (s.mainSlot t).state ≠ ksEmpty then .refused 2
  else if !policyOk pol ∨ pol / 4 % 2 = 1 ∨ pol / 16 % 2 = 1 then .refused 10
  else match s.parentOf (s.keyArg a 0 % 2 ^ 24) with
    | .error c => .refused c
    | .ok (p, pf, pend) =>
      if !p.has pbDerive then .refused 3
      else if 3 ≤ p.depth then .refused 4
      else if sc / 2 ^ 24 % 2 = 1 ∧ ¬ s.succFit (sc % 2 ^ 24) pol then .refused 8
      else
        let s1 := s.deriveInto t p pf (s.keyArg a 4 % 65536) (if pend then ksPending else ksValid)
          (beBytes 4 (s.keyArg a 2) ++ beBytes 4 (s.keyArg a 3)) pol (s.keyArg a 6) (s.keyArg a 7) (if sc / 2 ^ 24 % 2 = 1 then some (sc % 4096) else none)
        .done (s1.put F.KEY_RES_HANDLE_HANDLE (s1.handleOf t))

/-- The report of a parent whose tag fails as it is loaded (R299). -/
def State.parentNote (s : State) (h : Nat) : State :=
  let i := h % 4096
  if h / 2 ^ 22 = 0 then (if h / 4096 % 1024 = (s.mainSlot i).incarn then s.noteMain i else s)
  else if h / 2 ^ 22 = 1 ∧ i < 8 then
    (if (s.cellarSlot (s.spareIdx i)).state = ksStaged then s.noteCellar (s.spareIdx i)
     else if s.keyLive i then s.noteCellar (s.liveIdx i) else s)
  else s

/-- DERIVE, its parent loaded. -/
def State.deriveCmd (s : State) (a : KeyArgs) : State × KeyOut :=
  let s1 := if a.src = .spi then s else s.parentNote (s.keyArg a 0 % 2 ^ 24)
  (s1, s1.keyDerive a)

def State.derivePost (s : State) (a : KeyArgs) : State := (s.deriveCmd a).1.keyPost opDerive (s.deriveCmd a).2

def execKeyDerive (a : KeyArgs) (s : State) : Host.Outcome State Fault Refusal := .next (s.onKey a opDerive (·.derivePost a))

/-- The main slot a SPACE 0 handle names. -/
def State.namedMain (s : State) (h : Nat) : Option Nat :=
  if h / 2 ^ 22 = 0 ∧ h / 4096 % 1024 = (s.mainSlot (h % 4096)).incarn then some (h % 4096) else none

/-- INVALIDATE waits for the tick. -/
def State.keyInvalidate (s : State) (a : KeyArgs) : KeyOut :=
  if !keySrcOk a then .refused 1
  else match s.namedMain (s.keyArg a 0 % 2 ^ 24) with
    | some i => if (s.mainSlot i).state = ksValid then .done (s.modKey fun k => { k with inval := k.inval ++ [(i, 1)] }) else .refused 2
    | none => .refused 2

def execKeyInvalidate (a : KeyArgs) (s : State) : Host.Outcome State Fault Refusal := .next (s.onKey a opInvalidate fun s => s.keyPost opInvalidate (s.keyInvalidate a))

def State.keySetSucc (s : State) (a : KeyArgs) : KeyOut :=
  let sc := s.keyArg a 1
  if !keySrcOk a then .refused 1
  else match s.namedMain (s.keyArg a 0 % 2 ^ 24) with
    | some i =>
      if (s.mainSlot i).state = ksEmpty then .refused 2
      else if sc / 2 ^ 24 % 2 = 0 then .done (s.setMain i { s.mainSlot i with succ := none })
      else if s.succFit (sc % 2 ^ 24) (s.mainSlot i).policy then .done (s.setMain i { s.mainSlot i with succ := some (sc % 4096) })
      else .refused 8
    | none => .refused 2

def execKeySetSucc (a : KeyArgs) (s : State) : Host.Outcome State Fault Refusal := .next (s.onKey a opSetSucc fun s => s.keyPost opSetSucc (s.keySetSucc a))

/-- A slot zeroed and the SUCC links to it cleared (R307). -/
def State.freeSlot (s : State) (i : Nat) : State :=
  (s.key.main.foldl (fun (s : State) p => if p.2.succ = some i then s.setMain p.1 { p.2 with succ := none } else s) s).zeroMain i

def State.keyFree (s : State) (a : KeyArgs) : KeyOut :=
  if !keySrcOk a then .refused 1
  else match s.namedMain (s.keyArg a 0 % 2 ^ 24) with
    | some i => if (s.mainSlot i).state = ksInvalid then .done (s.freeSlot i) else .refused 2
    | none => .refused 2

def execKeyFree (a : KeyArgs) (s : State) : Host.Outcome State Fault Refusal := .next (s.onKey a opFree fun s => s.keyPost opFree (s.keyFree a))

/-! ### Cookie families (R314, R315) -/

def State.ckGen (s : State) (f : Nat) : Nat := s.get (F.KEY_CKf_CFG_GEN f)
def State.ckOn (s : State) (f : Nat) : Bool := s.flag (F.KEY_CKf_CFG_EN f)

/-- Generations GEN - BACK to GEN + AHEAD. -/
def State.ckWindow (s : State) (f : Nat) : List Nat :=
  (List.range (s.get (F.KEY_CKf_CFG_BACK f) + s.get (F.KEY_CKf_CFG_AHEAD f) + 1)).map fun j =>
    (s.ckGen f + 65536 - s.get (F.KEY_CKf_CFG_BACK f) + j) % 65536

def ckSlot (f g : Nat) : Nat := 4064 + 8 * f + g % 8

/-- The generation key of g derived from the family's parent, where that is LIVE with COOKIE and DERIVE. -/
def State.ckDerive (s : State) (f g : Nat) : State :=
  let n := s.get (F.KEY_CKf_CFG_PARENT f)
  let p := s.cellarSlot (s.liveIdx n)
  if s.keyLive n ∧ p.has pbCookie ∧ p.has pbDerive then
    s.deriveInto (ckSlot f g) p (32768 + n) g ksValid (asciiLabel "NTSCKGEN") 0 (s.reg (A.KEY_CKf_ID f)).toNat 0 none
  else s

/-- Every generation key of a family derived (R301, R315). -/
def State.ckDeriveAll (s : State) (f : Nat) : State := if s.ckOn f then (s.ckWindow f).foldl (fun (s : State) g => s.ckDerive f g) s else s

def State.cookieRoll (s : State) (a : KeyArgs) : KeyOut :=
  let f := s.keyArg a 0
  if !keySrcOk a then .refused 1
  else if 4 ≤ f ∨ ¬ s.ckOn f then .refused 2
  else .done (s.modKey fun k => { k with rolls := k.rolls ++ [f] })

def execCookieRoll (a : KeyArgs) (s : State) : Host.Outcome State Fault Refusal := .next (s.onKey a opRoll fun s => s.keyPost opRoll (s.cookieRoll a))

/-- One roll at the tick: GEN advances, the generation that leaves the window is invalidated, the new one derived. -/
def State.rollNow (s : State) (f : Nat) : State :=
  let old := (s.ckWindow f).headD 0
  let s1 := (s.invalidate (ckSlot f old) 6).put (F.KEY_CKf_CFG_GEN f) (s.ckGen f + 1)
  (s1.ckDerive f ((s1.ckGen f + s1.get (F.KEY_CKf_CFG_AHEAD f)) % 65536)).raise Ev.KEY_ROLL f (s1.ckGen f)

/-- A family's keys when its parent commits new material: derived again, each the successor of the old (R315); INVALID where the new
parent may derive none. -/
def State.ckRenew (s : State) (f : Nat) : State :=
  let p := s.cellarSlot (s.liveIdx (s.get (F.KEY_CKf_CFG_PARENT f)))
  let set := ((s.ckWindow f).map (ckSlot f)).filter fun i => (s.mainSlot i).state == ksValid
  if ¬ (p.has pbCookie ∧ p.has pbDerive) then set.foldl (fun (s : State) i => s.invalidate i 3) s
  else (set.foldl (fun (s : State) i =>
    let q := s.keySquash [i] (fun _ => true)
    q.2.raise Ev.KEY_INVALIDATE noInst (i + 4096 * 3 + 65536 * detSat 16 q.1)) s).ckDeriveAll f

/-! ### The tick (R304, R308) -/

/-- One committed key after the commit word is written: the former live slot zeroed, its descendants by R308. -/
def State.commitOne (s : State) (n : Nat) (wasSel : Nat) : State :=
  let new := s.cellarSlot (s.liveIdx n)
  let erase := new.state == ksStagedErase
  let s1 := s.zeroCellar (2 * n + wasSel)
  let s2 := if erase then s1.zeroCellar (s.liveIdx n) else s1.setCellar (s.liveIdx n) { new with state := ksValid }
  let pend := s.pendingUnder n
  let old := (s2.kids (32768 + n)).filter fun i => (s2.mainSlot i).state == ksValid && (decide (i < 4064) || erase)
  let s3 := pend.foldl (fun (s : State) i => if erase then s.zeroMain i else s.setMain i { s.mainSlot i with state := ksValid }) s2
  let s4 := old.foldl (fun (s : State) i => s.invalidate i 3) s3
  let fams := (List.range 4).filter fun f => s4.ckOn f && s4.get (F.KEY_CKf_CFG_PARENT f) == n
  let s5 := if erase then s4 else fams.foldl State.ckRenew s4
  s5.raise Ev.KEY_COMMIT n (new.gen + (if erase then 65536 else 0))

/-- COMMIT_WORD_WRITE (R303, R304): every key of the mask changes in one write of the commit word. -/
def State.commitNow (s : State) : State :=
  let ns := (maskKeys s.key.commitMask).filter s.keyStaged
  if ns.isEmpty then s.modKey fun k => { k with commitMask := 0 }
  else
    let sel0 := if s.commitOk then s.key.commit.toNat % 256 else 0
    let live0 := if s.commitOk then s.key.commit.toNat / 256 % 256 else 0
    let sel := ns.foldl (fun w n => natSetBit w n (sel0 / 2 ^ n % 2 == 0)) sel0
    let live := ns.foldl (fun w n => natSetBit w n ((s.cellarSlot (s.spareIdx n)).state == ksStaged)) live0
    let s1 := s.modKey fun k => { k with commit := commitWord sel live, commitMask := 0 }
    ns.foldl (fun (s : State) n => s.commitOne n (sel0 / 2 ^ n % 2)) s1

/-- What waits for the tick takes effect: commits, invalidations, rolls; none while CCLK stands. -/
def State.keyTick (s : State) : State :=
  if !s.cclkRuns then s else
  let s1 := s.commitNow
  let s2 := (s1.key.inval.foldl (fun (s : State) p => s.invalidate p.1 p.2) s1).modKey fun k => { k with inval := [] }
  ((s2.key.rolls.foldl State.rollNow s2).modKey fun k => { k with rolls := [] }).keyShow

/-- R307: a key expires at the first tick at which TAI seconds less NOT_AFTER lie in 0 to 2^31 - 1 modulo 2^32. -/
def State.expired (s : State) (i : Nat) : Bool :=
  let k := s.mainSlot i
  k.notAfter != 0 && decide (since (s.now / lsbPerSec) k.notAfter 32 < 2 ^ 31)

def execKeyExpiry (i : Fin 4096) (s : State) : Host.Outcome State Fault Refusal :=
  .next (if s.atTick ∧ s.cclkRuns ∧ s.expired i then s.invalidate i 4 else s)

/-- R299: every slot's tag is checked; a main slot whose tag fails is invalidated at the next tick (R307). -/
def State.tagCheck (s : State) : State :=
  let s1 := s.key.main.foldl (fun (s : State) p => if p.2.state != ksEmpty && !s.mainTagOk p.1 then s.tagFailMain p.1 else s) s
  let s2 := s1.key.cellar.foldl (fun (s : State) p => if p.2.state != ksEmpty && !s.cellarTagOk p.1 then s.tagFailCellar p.1 else s) s1
  s2.modKey fun k => { k with checked := s.curTick + 1 }

/-- Once every 1,024 ticks, in CCLK. -/
def execKeyTagCheck (s : State) : Host.Outcome State Fault Refusal :=
  .next (if s.cclkRuns ∧ (s.key.checked = 0 ∨ s.key.checked + 1023 ≤ s.curTick) then s.tagCheck else s)

/-! ### Registers (R327, R328) -/

/-- The slot KEY_SLOT_SEL shows. -/
def State.shownSlot (s : State) : KeySlot :=
  let h := s.get F.KEY_SLOT_SEL_HANDLE
  if h / 2 ^ 22 = 1 then s.cellarSlot (s.liveIdx (h % 8)) else s.mainSlot (h % 4096)

/-- KEY_SLOT_INFO0 to 7. -/
def State.slotInfo (s : State) (w : Nat) : Word :=
  if w < 7 then BitVec.ofNat 32 (beNat (slice s.shownSlot.info (4 * w) 4))
  else BitVec.ofNat 32 (s.shownSlot.incarn + (if s.shownSlot.tagOk then 1024 else 0))

/-- R327: the selection acts at the write and latches the use count. -/
def State.slotSel (s : State) (v : Word) : State :=
  let h := v.toNat % 2 ^ 24
  if h / 2 ^ 23 = 1 then s
  else
    let s1 := s.put F.KEY_SLOT_SEL_HANDLE h
    s1.putWide A.KEY_SLOT_USES 2 (spGet (fun _ => 0) s1.key.uses (if h / 2 ^ 22 = 1 then cellarKey (h % 8) else h % 4096))

def execKeySlotSelWrite (_ : Path) (v : Word) (s : State) : Host.Outcome State Fault Refusal := .next (s.slotSel v)

def execKeyCntSnap (s : State) : Host.Outcome State Fault Refusal := .next (s.onStrobe A.KEY_CTL 1 (·.snapPairs (A.KEY_CNT 0) 8))

/-! ### Tamper (R320 to R322) -/

/-- The armed sources: ARM_IN in bits 3:0, ARM_SENS in bits 10:8. -/
def State.armed (s : State) : Nat := s.get F.KEY_TAMPER_CFG_ARM_IN + 256 * s.get F.KEY_TAMPER_CFG_ARM_SENS

/-- Bits set in both masks. -/
def natAnd (a b : Nat) : Nat := (BitVec.ofNat 32 a &&& BitVec.ofNat 32 b).toNat
def natOr (a b : Nat) : Nat := (BitVec.ofNat 32 a ||| BitVec.ofNat 32 b).toNat

/-- Unlaunched responses that used a key lose it without a successor. -/
def State.squashAllKeys (s : State) : State :=
  (s.svc.ledger.filter (fun e => e.phase == .pinned && !e.keys.isEmpty)).foldl (fun (s : State) e => s.ledgerSquash e sqKey 0) s

/-- R321: the Cellar erases every key. -/
def State.tamper (s : State) (src : Nat) : State :=
  let hit := natAnd src s.armed
  if hit = 0 then s
  else
    let bare := s.key.main.filterMap (fun p => if p.2.incarn = 0 then none else some (p.1, { KeySlot.blank with incarn := p.2.incarn }))
    let s1 := s.modKey fun k => { k with cellar := [], commit := 0, main := if s.mainOff then k.main else bare, transient := if s.mainOff then k.transient else [] }
    let s2 := (List.range 8).foldl (fun (s : State) k => s.putWide (A.KEY_TWVk_HIGH k) 2 0) s1
    let s3 := if s.get F.KEY_TAMPER_STAT_CAUSE = 0 then s2.setReg A.KEY_TAMPER_SEC (BitVec.ofNat 32 s.clrSec) else s2
    let s4 := (s3.put F.KEY_TAMPER_STAT_CAUSE (natOr (s.get F.KEY_TAMPER_STAT_CAUSE) hit)).keyShow
    if s.mainOff then s4.modKey fun k => { k with tamperPend := natOr k.tamperPend hit }
    else s4.squashAllKeys.raise Ev.KEY_TAMPER noInst hit

/-- R322: a write can only set arm bits; DEBOUNCE 0 is out of range. -/
def State.tamperCfg (s : State) (path : Path) (v : Word) : State :=
  let arm := v &&& 0x0000070F
  let deb : Word := if v.toNat / 65536 % 256 = 0 then 0 else 0x00FF0000
  s.stage path A.KEY_TAMPER_CFG (arm ||| 0x000000F0 ||| deb) v

def execTamperCfgWrite (path : Path) (v : Word) (s : State) : Host.Outcome State Fault Refusal := .next (s.tamperCfg path v)

/-- R322: TAMPER_DISARM clears arm bits, from Twivon only. -/
def State.tamperDisarm (s : State) (a : KeyArgs) : KeyOut :=
  let m := s.keyArg a 0
  if a.src ≠ .twivon then .refused 1
  else if 2048 ≤ m ∨ m / 16 % 16 ≠ 0 then .refused 2
  else .done ((s.put F.KEY_TAMPER_CFG_ARM_IN (natAnd (s.get F.KEY_TAMPER_CFG_ARM_IN) (15 - m % 16))).put F.KEY_TAMPER_CFG_ARM_SENS
    (natAnd (s.get F.KEY_TAMPER_CFG_ARM_SENS) (7 - m / 256)))

def execTamperDisarm (a : KeyArgs) (s : State) : Host.Outcome State Fault Refusal := .next (s.onKey a opDisarm fun s => s.keyPost opDisarm (s.tamperDisarm a))

/-! ### The start (R301, R305) -/

/-- R305: the Cellar is checked before any other key work. DESIGN CHOICE (assumption log 81): where the commit word names no live
slot, no slot is a spare, and none is discarded. -/
def State.cellarCheck (s : State) : State :=
  if ¬ s.commitOk then ((s.keyCount 4).raise Ev.KEY_TAG_FAIL noInst 0xFFFF).keyShow
  else ((List.range 8).foldl (fun (s : State) n =>
    let s2 := if s.keyLive n && !s.cellarTagOk (s.liveIdx n) then s.tagFailCellar (s.liveIdx n) else s
    let sp := s2.cellarSlot (s2.spareIdx n)
    if sp.state = ksEmpty then s2 else (s2.zeroCellar (s2.spareIdx n)).raise Ev.KEY_DISCARD n sp.gen) s).keyShow

/-- The derive list of the Attic run in order; a derive that fails raises KEY_DERIVE_FAIL and the list goes on (R301). -/
def State.deriveList (s : State) (l : List (List Word)) : State :=
  l.foldl (fun (s : State) w =>
    let a : KeyArgs := ⟨.attic, some w⟩
    match s.deriveCmd a with
    | (_, .done t) => t
    | (s, .refused c) => s.raise Ev.KEY_DERIVE_FAIL noInst (s.keyArg a 4 / 65536 % 4096 + 4096 * c)) s

/-- The keys rebuilt at a start: the Cellar check, the derive list, the generation keys. -/
def State.keyStart (s : State) (l : List (List Word)) : State :=
  (List.range 4).foldl State.ckDeriveAll ((s.cellarCheck).deriveList l)

end Sys2Proof.Machine
end

