-- ==== Sys2Proof/Machine/Svc.lean ====
section
/-!
DEFINITION. The service pipeline's commands (10_service_engines.md R247 to R273; 12_keys_and_authentication.md R310 to
R317): admission, the engine queue ports, crypto by handle, seals, submission, engine faults, and the messages the
grandmaster instances originate.
-/
namespace Sys2Proof.Machine

open Sys2Proof

/-! ### Admission (R247, R248) -/

/-- The entry of a request admitted now. -/
def State.newEntry (s : State) (p kind inst : Nat) (f : RxFrame) : Entry :=
  let k := clientKey f.data kind inst
  { index := freeIndex s.svc.ledger, port := p, kind := kind, inst := inst, desc := f.desc, rx := s.rxTime f.desc, frame := f.data,
    addr := k.1, kclass := k.2, resolved := false, record := 0, bucket := 0, guest := false, decision := 0, phase := .waiting,
    returned := false, squashes := 0, restart := 1, guardrails := 0, bind := none, launch := none, tport := 0, slot := 0, t3 := 0,
    deadline := 0, hint := 0, cls := 0, epoch := 0, keys := [], staged := none, failed := false, verified := false, kiss := 0, gone := false }

/-- R248: a classified request is written into the ledger, or refused. -/
def State.admitEntry (s : State) (p kind inst : Nat) (f : RxFrame) : State :=
  if !s.flag F.SVC_STAT_OPEN then s.svcCount svcRefusedClosed
  else if ledgerSize ≤ s.svc.ledger.length then
    let s1 := s.svcCount svcRefusedFull
    if s1.svc.fullSeen then s1
    else (s1.modSvc fun v => { v with fullSeen := true }).raise Ev.SVC_LEDGER_FULL noInst (s1.count (A.SVC_CNT (2 * svcRefusedFull)) % 2 ^ 32)
  else
    (((s.modSvc fun v => { v with ledger := v.ledger ++ [s.newEntry p kind inst f] }).svcCount svcAdmitted).countUp (A.CLR_ACCk 0)).ledgerShow

/-- R247, R248: the classifier takes the oldest frame of a port's queues bound to it; none while a reset handshake has closed the
port's crossing (R189). -/
def State.requestAdmit (s : State) (p : Nat) : State :=
  if !s.crossOpen (48 + p) 3 then s else match s.takeRx p 1 (fun _ => true) with
  | (none, _) => s
  | (some f, s1) =>
    let k := s1.classify p f.data
    if k.1 = 0 then s1.svcCount svcUnclassified
    else if !checksOk f.data then s1.svcCount svcMalformed
    else s1.admitEntry p k.1 k.2 f

def execRequestAdmit (p : Fin 20) (s : State) : Host.Outcome State Fault Refusal := .next (s.requestAdmit p)

/-! ### LEDGER_POP and NOTE_POP (R269, R271) -/

/-- Engines run in CCLK (R249). -/
def State.engineUp (s : State) (n : Nat) : Bool := s.running n && s.cclkRuns

/-- An entry LEDGER_POP may serve (R250, R284). -/
def Entry.ready (e : Entry) : Bool := e.phase == .waiting && e.resolved && e.desc.valid

/-- The next entry: those returned by an engine reset first, then in admission order (R269). -/
def State.nextReady (s : State) : Option Entry :=
  match s.svc.ledger.find? (fun e => e.ready && e.returned) with
  | some e => some e
  | none => s.svc.ledger.find? Entry.ready

def State.freeCtx (s : State) (n : Nat) : Option Nat := (List.range 4).find? fun c => (s.ctx n c).bound.isNone

/-- LEDGER_PEEK (R12, R270): the word LEDGER_POP answers next. -/
def State.ledgerPeek (s : State) (n : Nat) : Word := match s.nextReady, s.freeCtx n with
  | some e, some c => BitVec.ofNat 32 (2 * c + 8 * e.kind + 64 * e.restart + 65536 * e.index)
  | _, _ => emptyWord

def State.ledgerPop (s : State) (n : Nat) : State :=
  if !s.engineUp n then s
  else match s.nextReady, s.freeCtx n with
    | some e, some c =>
      let s1 := s.setEntry e.index fun e => { e with phase := .preparing, bind := some (n, c), returned := false }
      let s2 := (s1.modCtx n c fun _ => { Ctx.blank with bound := some e.index, act := s.now }).busyShow n
      s2.answer (.words [s.ledgerPeek n])
    | _, _ => s.answer (.words [s.ledgerPeek n])

def execLedgerPop (n : Fin 32) (s : State) : Host.Outcome State Fault Refusal := .next (s.ledgerPop n)

/-- An engine's queue popped. -/
def State.enginePop (s : State) (n : Nat) (q : Engine → List Word) (set : Engine → List Word → Engine) : State :=
  if !s.engineUp n then s
  else
    let l := q (s.engine n)
    let s1 := (s.answer (.words [peekWord l])).modEngine n fun g => set g (l.drop 1)
    match l with
    | [] => s1
    | w :: _ => s1.touch n (bitsOf w 2 1)

def execNotePop (n : Fin 32) (s : State) : Host.Outcome State Fault Refusal :=
  .next (s.enginePop n Engine.notes fun g l => { g with notes := l })
def execRecResPop (n : Fin 32) (s : State) : Host.Outcome State Fault Refusal :=
  .next (s.enginePop n Engine.recRes fun g l => { g with recRes := l })
def execCryptoResPop (n : Fin 32) (s : State) : Host.Outcome State Fault Refusal :=
  .next (s.enginePop n Engine.cryptoRes fun g l => { g with cryptoRes := l })
def execLaunchResPop (n : Fin 32) (s : State) : Host.Outcome State Fault Refusal :=
  .next (s.enginePop n Engine.launchRes fun g l => { g with launchRes := l })
def execSealResPop (n : Fin 32) (s : State) : Host.Outcome State Fault Refusal :=
  .next (s.enginePop n Engine.sealRes fun g l => { g with sealRes := l })

/-! ### Records (R270, R279, R282, R285, R290) -/

/-- A command of an engine on a context that is bound; else it changes nothing. -/
def State.onCtx (s : State) (n c : Nat) (f : State → Entry → State) : State :=
  if !s.engineUp n then s
  else match s.ctxEntry n c with
    | some e => f (s.touch n c) e
    | none => s

def State.recResult (s : State) (n c status : Nat) (view : List Byte) : State :=
  (s.modCtx n c fun x => { x with fetched := view }).modEngine n fun g => { g with recRes := g.recRes ++ [BitVec.ofNat 32 (2 * c + 8 * status)] }

def guestView : List Byte := Rec.zero.bytes 0 2

/-- A Pantry line found in error (R290). -/
def State.lineError (s : State) (n : Nat) : State :=
  ((s.modLine n fun l => { l with err := true }).ldrCount ldrPantryErr).raise Ev.LDR_PANTRY_ERR noInst n

/-- R290: at STATUS 3 the entry is squashed with cause MEMORY; the engine goes on from the Larder. -/
def State.selfSquash (s : State) (e : Entry) : State := if e.phase = .pinned then s.ledgerSquash e sqMemory 0 else s.squash e sqMemory 0

/-- OP 0 (R282): the view of the Pantry line; STATUS 2 for a guest, 3 where the line has an uncorrectable error. -/
def State.recFetch (s : State) (n c : Nat) (err : Bool) : State :=
  s.onCtx n c fun s e =>
    if e.guest then s.recResult n c 2 guestView
    else match s.lineOf e.record with
      | none => s.recResult n c 2 (zeroRecord)
      | some k =>
        let l := s.line k
        if err || l.err || s.injOn 0xA0 0 then
          (((if l.err then s else s.lineError k).injUse 0xA0 0).recResult n c 3 zeroRecord).selfSquash e
        else s.recResult n c 0 ((Rec.zero.withLine l).bytes e.decision 1)

def execRecFetch (n : Fin 32) (c : Fin 4) (err : Bool) (s : State) : Host.Outcome State Fault Refusal := .next (s.recFetch n c err)

/-- OP 1 (R282): the Larder record, with the fields its line holds; STATUS 4 where the read is uncorrectable. -/
def State.recFetchLarder (s : State) (n c : Nat) (err : Bool) : State :=
  if s.dramBusy then s
  else s.writeAll.onCtx n c fun s e =>
    if e.guest then s.recResult n c 2 guestView
    else if err || s.ldr.bad.contains e.record then
      (((s.ldrCount ldrLarderErr).raise Ev.LDR_LARDER_ERR noInst (e.record + 2 * 2 ^ 24))).recResult n c 4 zeroRecord
    else if s.recEmpty e.record then s.recResult n c 2 zeroRecord
    else s.recResult n c 1 ((s.overlaid e.record).bytes e.decision 0)

def execRecFetchLarder (n : Fin 32) (c : Fin 4) (err : Bool) (s : State) : Host.Outcome State Fault Refusal := .next (s.recFetchLarder n c err)

/-- OP 2: the write at +0x640 is staged for the entry's commit. -/
def State.recStage (s : State) (n c : Nat) (d : List Byte) : State :=
  s.onCtx n c fun s e =>
    ((s.setEntry e.index fun e => { e with staged := some ((d ++ zeroRecord).take 64) }).modEngine n fun g =>
      { g with recRes := g.recRes ++ [BitVec.ofNat 32 (2 * c + 8 * 5)] })

def execRecStage (n : Fin 32) (c : Fin 4) (d : List Byte) (s : State) : Host.Outcome State Fault Refusal := .next (s.recStage n c d)

/-! ### Use by handle (R309 to R312) -/

/-- What a handle comes to: the material and the key charged, or a status. -/
inductive Use where
  | ok (material : List Byte) (key : Option Nat)
  | status (k : Nat)
  deriving DecidableEq, Repr

/-- Entries of kinds 3 and 4 belong to a grandmaster instance, whose INST bit an HMAC key needs; an NTP entry has none (R310). -/
def instOk (k : KeySlot) (e : Entry) : Bool := decide (3 ≤ e.kind) && k.policy / 2 ^ (24 + e.inst) % 2 == 1

/-- A main slot used for an operation: itself where VALID, its successor where INVALID (R309, R310). -/
def State.useMain (s : State) (i bit : Nat) (e : Entry) : Use :=
  let judge (j : Nat) : Use :=
    let k := s.mainSlot j
    if !k.has pbEngine || !k.has bit || (bit == pbHmac && !instOk k e) then .status 2
    else if !s.mainTagOk j then .status 3
    else .ok k.material (some j)
  if (s.mainSlot i).state = ksValid then judge i
  else if (s.mainSlot i).state = ksInvalid then (match s.succOf i with | some j => judge j | none => .status 3)
  else .status 3

/-- A handle named by an engine for an operation whose policy bit is `bit`. -/
def State.useHandle (s : State) (n c h bit : Nat) (e : Entry) : Use :=
  let i := h % 4096
  if h / 2 ^ 22 = 0 then (if h / 4096 % 1024 = (s.mainSlot i).incarn then s.useMain i bit e else .status 3)
  else if h / 2 ^ 22 = 1 then
    (let k := s.cellarSlot (s.liveIdx (i % 8))
     if 8 ≤ i ∨ ¬ s.keyLive (i % 8) then .status 3
     else if !k.has pbEngine || !k.has bit || (bit == pbHmac && !instOk k e) then .status 2
     else if !s.cellarTagOk (s.liveIdx (i % 8)) then .status 3
     else .ok k.material (some (cellarKey (i % 8))))
  else if h / 2 ^ 22 = 2 then
    (if i / 2 = n * 4 + c ∧ bit = pbSiv then
      (match s.key.transient.find? (fun p => p.1 == i) with | some p => .ok p.2 none | none => .status 3)
     else .status 2)
  else .status 2

/-- The key charged to the entry (R308, R313). -/
def State.usedKey (s : State) (e : Entry) (k : Option Nat) : State := match k with
  | some k => s.setEntry e.index fun e => { e with keys := if e.keys.contains k then e.keys else e.keys ++ [k] }
  | none => s

/-- A use the policy refuses (R273, R310, R328): counted, and reported once a tick by KEY and by SVC. -/
def State.policyRefused (s : State) (n port op : Nat) : State :=
  let s1 := (s.keyCount 2).guardrail n port 2
  if s1.key.policyTick = s1.curTick + 1 then s1
  else (s1.modKey fun k => { k with policyTick := s1.curTick + 1 }).raise Ev.KEY_POLICY noInst (n + 32 * op)

/-- An operation issued: its status comes with CRYPTO_RESULT. -/
def State.cryptoIssue (s : State) (n c op status : Nat) : State :=
  let s1 := s.modEngine n fun g => { g with crypto := g.crypto ++ [BitVec.ofNat 32 (2 * c + 8 * status)] }
  if status = 2 then s1.policyRefused n 0x30 op else s1

/-- R270: the oldest operation issued completes. -/
def State.cryptoResult (s : State) (n : Nat) : State :=
  match (s.engine n).crypto with
  | [] => s
  | w :: rest => s.modEngine n fun g => { g with crypto := rest, cryptoRes := g.cryptoRes ++ [w] }

def execCryptoResult (n : Fin 32) (s : State) : Host.Outcome State Fault Refusal := .next (s.onCclk (·.cryptoResult n))

def argAt (l : List Word) (i : Nat) : Nat := ((l[i]?).getD 0).toNat

/-- AES blocks of an AES-SIV over associated data of given lengths and `p` bytes (R328). -/
def sivBlocks (ad : List Nat) (p : Nat) : Nat :=
  1 + ad.foldl (fun a n => a + max 1 ((n + 15) / 16)) 0 + max 1 ((p + 15) / 16) + (p + 15) / 16

/-- Compression blocks of an HMAC over `n` bytes (R324). -/
def hmacBlocks (n : Nat) : Nat := (n + 9 + 63) / 64 + 1

/-! ### COOKIE_OPEN (R316, R317) -/

/-- A cookie sealed under a generation key with a nonce: its 104 bytes. -/
def cookieBytes (key : List Byte) (keyid gen : Nat) (nonce c2s s2c : List Byte) : List Byte :=
  let head := beBytes 4 keyid ++ beBytes 2 gen
  let x := sivSeal key [head, nonce] (beBytes 2 0x000F ++ c2s ++ s2c)
  head ++ nonce ++ x.1 ++ x.2

/-- N cookie extension fields written at an offset, each of type 0x0204 and 108 bytes. -/
def State.newCookies (s : State) (n c f : Nat) (c2s s2c : List Byte) : Nat → Nat → State
  | 0, _ => s
  | k + 1, o =>
    let key := (s.mainSlot (ckSlot f (s.ckGen f))).material
    let (nonce, s1) := s.random 16
    let field := beBytes 2 0x0204 ++ beBytes 2 108 ++ cookieBytes key (s.reg (A.KEY_CKf_ID f)).toNat (s.ckGen f) nonce c2s s2c
    ((s1.keyCount 0 (sivBlocks [6, 16] 66)).modCtx n c fun x => if x.sealed then x else
      { x with buf := (overlay (x.buf ++ List.replicate (o - x.buf.length) 0) o field).take 2048 }).newCookies n c f c2s s2c k (o + 108)

/-- The cookie opened: the algorithm identifier checked, the keys recovered. -/
def openCookie (key ck : List Byte) : Option (List Byte × List Byte) :=
  match sivOpen key [ck.take 6, slice ck 6 16] (slice ck 22 16) (slice ck 38 66) with
  | some p => if beNat (p.take 2) = 0x000F then some (slice p 2 32, slice p 34 32) else none
  | none => none

def State.cookieFail (s : State) (n c : Nat) : State := (s.keyCount 3).cryptoIssue n c 1 1

/-- R317. -/
def State.cookieOpen (s : State) (n c : Nat) (args : List Word) : State :=
  s.onCtx n c fun s e =>
    let num := argAt args 3 / 4096 % 8
    let field := slice e.frame (argAt args 1 % 2048) (argAt args 1 / 65536 % 2048)
    let ck := field.drop 4
    let fam := (List.range 4).find? fun f => s.ckOn f && (s.reg (A.KEY_CKf_ID f)).toNat == beNat (ck.take 4)
    let gen := beNat (slice ck 4 2)
    if argAt args 0 / 256 ≠ 0 ∨ s.get F.SVC_CFG_MAX_COOKIES < num ∨ (0 < num ∧ ¬ s.rngOk) then s.cryptoIssue n c 1 2
    else match fam with
      | none => s.cookieFail n c
      | some f =>
        if ck.length ≠ 104 ∨ ¬ (s.ckWindow f).contains gen then s.cookieFail n c
        else
          let k := s.mainSlot (ckSlot f gen)
          let cur := s.mainSlot (ckSlot f (s.ckGen f))
          if k.state ≠ ksValid ∨ k.gen ≠ gen ∨ ¬ s.mainTagOk (ckSlot f gen) ∨ (0 < num ∧ cur.state ≠ ksValid) then
            (s.tagNote (s.handleOf (ckSlot f gen))).cryptoIssue n c 1 3
          else
            let s1 := s.keyCount 0 (sivBlocks [6, 16] 66)
            match openCookie k.material ck with
            | none => s1.cookieFail n c
            | some (c2s, s2c) =>
              let t := 2 * (n * 4 + c)
              let s2 := (s1.dropTransient n c).modKey fun q => { q with transient := q.transient ++ [(t, c2s), (t + 1, s2c)] }
              let s3 := (s2.usedKey e (some (ckSlot f gen)))
              let s4 := if 0 < num then (match s3.entry e.index with | some e1 => s3.usedKey e1 (some (ckSlot f (s.ckGen f))) | none => s3) else s3
              (s4.newCookies n c f c2s s2c num (argAt args 3 % 2048)).cryptoIssue n c 1 0

def execCookieOpen (n : Fin 32) (c : Fin 4) (args : List Word) (s : State) : Host.Outcome State Fault Refusal := .next (s.cookieOpen n c args)

/-! ### SIV_VERIFY and HMAC_VERIFY (R263, R264, R312) -/

/-- The entry notes a failed verification. -/
def State.verifyFailed (s : State) (e : Entry) : State := s.setEntry e.index fun e => { e with failed := true }

/-- R263: the request's authenticator field at ARG3 gives the nonce and the ciphertext; ARG2 the associated data. -/
def State.sivVerify (s : State) (n c : Nat) (args : List Word) : State :=
  s.onCtx n c fun s e =>
    let h := argAt args 0 / 256
    match s.useHandle n c h pbSiv e with
    | .status k => (s.tagNote h).cryptoIssue n c 2 k
    | .ok m key =>
      let o := argAt args 3 % 2048
      let nl := beAt e.frame (o + 4) 2
      let cl := beAt e.frame (o + 6) 2
      let ad := slice e.frame (argAt args 2 % 2048) (argAt args 2 / 65536 % 2048)
      let ct := slice e.frame (o + 8 + (nl + 3) / 4 * 4) cl
      let s1 := (s.usedKey e key).keyCount 0 (sivBlocks [ad.length, nl] (cl - 16))
      if 16 ≤ ct.length ∧ (sivOpen m [ad, slice e.frame (o + 8) nl] (ct.take 16) (ct.drop 16)).isSome then s1.cryptoIssue n c 2 0
      else (s1.verifyFailed e).cryptoIssue n c 2 1

def execSivVerify (n : Fin 32) (c : Fin 4) (args : List Word) (s : State) : Host.Outcome State Fault Refusal := .next (s.sivVerify n c args)

/-- The slot a SPACE 3 selection names (R312): the lowest VALID slot with HMAC128, the SPP and the KEYID. -/
def State.selectKey (s : State) (spp keyid : Nat) : Option Nat :=
  (s.key.main.find? (fun p => p.2.state == ksValid && p.2.has pbHmac && p.2.policy / 65536 % 256 == spp && p.2.keyid == keyid)).map (·.1)

/-- R312: the ICV at ARG3 over the range of ARG1. -/
def State.hmacVerify (s : State) (n c : Nat) (args : List Word) : State :=
  s.onCtx n c fun s e =>
    let h0 := argAt args 0 / 256
    let o := argAt args 2 % 2048
    let pick := if h0 / 2 ^ 22 = 3 then (s.selectKey (beAt e.frame o 1) (beAt e.frame (o + 2) 4)).map s.handleOf else some h0
    match pick with
    | none => (s.verifyFailed e).cryptoIssue n c 3 1
    | some h =>
      let s0 := if h0 / 2 ^ 22 = 3 then s.modCtx n c fun x => { x with pick := some h } else s
      match s0.useHandle n c h pbHmac e with
      | .status k => (s0.tagNote h).cryptoIssue n c 3 k
      | .ok m key =>
        let d := slice e.frame (argAt args 1 % 2048) (argAt args 1 / 65536 % 2048)
        let s1 := (s0.usedKey e key).keyCount 1 (hmacBlocks d.length)
        if (hmac m d).take 16 = slice e.frame (argAt args 3 % 2048) 16 then
          (s1.setEntry e.index fun e => { e with verified := true }).cryptoIssue n c 3 0
        else (s1.verifyFailed e).cryptoIssue n c 3 1

def execHmacVerify (n : Fin 32) (c : Fin 4) (args : List Word) (s : State) : Host.Outcome State Fault Refusal := .next (s.hmacVerify n c args)

/-! ### Launch (R253, R258) -/

/-- R264: a Delay_Req of an instance with AUTH_REQ whose AUTHENTICATION TLV has not verified. -/
def State.unproved (s : State) (e : Entry) : Bool := e.kind == 3 && s.flag (F.SVC_GMi_CFG_AUTH_REQ e.inst) && !e.verified

/-- R253: the ledger holds the request until the client's earlier entries have reached their outcomes. DESIGN CHOICE (assumption
log 80): R264's withdrawal with AUTH is made here, as the engine asks for the slot of a response it may not send. -/
def State.launchPush (s : State) (n c : Nat) (args : List Word) : State :=
  s.onCtx n c fun s e =>
    if e.phase ≠ .preparing then s
    else if s.unproved e then s.withdraw e wdAuth
    else
      s.setEntry e.index fun e => { e with launch := some ⟨argAt args 0 % 32, argAt args 0 / 256 % 8,
        timeOf (argAt args 1 + argAt args 2 * 2 ^ 32 + argAt args 3 * 2 ^ 64), argAt args 0 / 65536 % 16384⟩ }

def execLaunchPush (n : Fin 32) (c : Fin 4) (args : List Word) (s : State) : Host.Outcome State Fault Refusal := .next (s.launchPush n c args)

/-- LAUNCH_RES of an entry (R270). -/
def State.launchResult (s : State) (e : Entry) (granted : Bool) (cause : Nat) : State := match e.bind with
  | some (n, c) => s.modEngine n fun g => { g with launchRes := g.launchRes ++ [BitVec.ofNat 32 (2 * c + (if granted then 8 else 0) + 16 * cause)] }
  | none => s

/-- A reservation with RESERVED = 1 (R258). -/
def State.reservedNote (s : State) (idx : Nat) : State :=
  let s1 := s.svcCount svcReserved
  if s1.svc.rsvTick = s1.curTick + 1 then s1
  else (s1.modSvc fun v => { v with rsvTick := s1.curTick + 1 }).raise Ev.SVC_RESERVED noInst idx

/-- The exchange of an entry carries its receive stamp beside a time of the scale in force, and the two have different STEP counts:
it is discarded (R231, R257). A Signaling carries no stamp. -/
def State.stepped (s : State) (e : Entry) : Bool := decide (e.kind ≤ 3) && e.desc.step != s.get F.TSU_STAT_STEP % 16

/-- The reservation the ledger issues for an entry once nothing holds it back (R250, R251, R253, R258). -/
def State.launchEntry (s : State) (idx : Nat) : State :=
  match s.entry idx with
  | none => s
  | some e => match e.launch with
    | none => s
    | some r =>
      if ¬ s.cclkRuns ∨ ¬ s.crossOpen 3 (16 + r.port) ∨ e.phase ≠ .preparing ∨ s.heldBack e then s
      else if s.stepped e then s.withdraw e wdStep
      else
        let rsv := decide (4 ≤ e.squashes)
        let s0 := if rsv then s.reservedNote idx else s
        let g := s0.reserve r.port r.cls 1 r.e r.len rsv idx
        match g.1 with
        | .refused c =>
          let s1 := (g.2.setEntry idx fun e => { e with launch := none }).launchResult e false c
          (match e.bind with
            | some (n, _) => if c = 3 then s1.guardrail n 0x50 3 else s1
            | none => s1)
        | .granted slot t3 dl =>
          let s1 := g.2.setEntry idx fun e => { e with launch := none, phase := .pinned, tport := r.port, cls := r.cls, slot := slot, t3 := t3, deadline := dl }
          if s.limitOf e < slot then
            (match s1.entry idx with | some e1 => (s1.unpin e1).withdraw e1 wdLimit | none => s1)
          else s1.launchResult e true 0

/-! ### Seal and submit (R254, R270) -/

/-- R254: the response buffer, with the engine's writes, goes to the insertion unit; a sealed buffer takes no write. -/
def State.sealPush (s : State) (n c : Nat) (args : List Word) (writes : List (Nat × List Byte)) : State :=
  s.onCtx n c fun s _ =>
    let x := s.ctx n c
    let lay (b : List Byte) (w : Nat × List Byte) := (overlay (b ++ List.replicate (w.1 - b.length) 0) w.1 w.2).take 2048
    let buf := if x.sealed then x.buf else writes.foldl lay x.buf
    (s.modCtx n c fun x => { x with buf := buf }).modEngine n fun g => { g with seals := g.seals ++ [⟨c, args⟩] }

def execSealPush (n : Fin 32) (c : Fin 4) (args : List Word) (writes : List (Nat × List Byte)) (s : State) :
    Host.Outcome State Fault Refusal := .next (s.sealPush n c args writes)

/-- The insertions two ARG words name: kind and offset. -/
def insertions (a2 a3 : Nat) : List (Nat × Nat) :=
  ([(a2 / 4096 % 8, a2 % 2048), (a2 / 2 ^ 28 % 8, a2 / 65536 % 2048), (a3 / 4096 % 8, a3 % 2048), (a3 / 2 ^ 28 % 8, a3 / 65536 % 2048)]).filter (·.1 != 0)

/-- The insertions a response must name (R90, R91, R254). -/
def State.requiredIns (s : State) (kind : Nat) (auth : Bool) : List Nat :=
  if kind = 1 ∨ kind = 2 then [1, 2] ++ (if s.flag F.BND_CFG_NTP_EF && (auth || s.flag F.BND_CFG_NTP_EF_UNAUTH) then [3] else [])
  else if kind = 3 then (if s.flag F.BND_CFG_PTP_TLV then [4] else []) else []

/-- No two of a list of ranges overlap. -/
def apart : List (Nat × Nat) → Bool
  | [] => true
  | r :: l => l.all (fun q => decide (r.1 + r.2 ≤ q.1 ∨ q.1 + q.2 ≤ r.1)) && apart l

/-- The insertions are the required ones, do not overlap and lie within LEN. -/
def State.insOk (s : State) (ins : List (Nat × Nat)) (kind len : Nat) (auth : Bool) : Bool :=
  (s.requiredIns kind auth).all (fun k => ins.any (fun i => i.1 == k)) && ins.all (fun i => decide (i.1 ≤ 6 ∧ i.2 + insLen i.1 ≤ len))
    && apart (ins.map fun i => (i.2, insLen i.1))

/-- The authenticator field of ALG 1 over a plaintext (R270): nonce, V and ciphertext, padded to 4 bytes. -/
def ntsAuthField (key nonce ad p : List Byte) : List Byte :=
  let x := sivSeal key [ad, nonce] p
  let ct := x.1 ++ x.2
  let body := beBytes 2 16 ++ beBytes 2 ct.length ++ nonce ++ ct ++ zeros ((4 - ct.length % 4) % 4)
  beBytes 2 0x0404 ++ beBytes 2 (body.length + 4) ++ body

/-- The length after the ALG 1 expansion. -/
def expanded (len ofs : Nat) : Nat := ofs + 8 + 16 + ((len - ofs) + 16 + 3) / 4 * 4

/-- kiss-o'-death of a response (R275, R279): kind 1 or 2 with stratum 0; 2 for NTSN after a failed verification. -/
def kissOf (e : Entry) (out : List Byte) : Nat :=
  if e.kind ≠ 1 ∧ e.kind ≠ 2 then 0
  else match pktOf out with
    | some k => if beAt out (k.ofs + 1) 1 ≠ 0 then 0 else if e.failed && beAt out (k.ofs + 12) 4 == 0x4E54534E then 2 else 1
    | none => 0

/-- A seal that is refused (R254, R273): 1 insertion, 2 handle, 3 length. Refusal 1 squashes with GUARDRAIL. -/
def State.sealRefuse (s : State) (n c code alg : Nat) (e : Entry) : State :=
  let s1 := s.modEngine n fun g => { g with sealRes := g.sealRes ++ [BitVec.ofNat 32 (2 * c + 16 * code)] }
  if code = 2 then s1.policyRefused n 0x70 (3 + alg)
  else if code = 1 ∧ e.phase = .pinned then (s1.guardrail n 0x70 1).ledgerSquash e sqGuardrail 0
  else s1.guardrail n 0x70 code

/-- The key of a seal. A SPACE 3 handle stands for the handle recorded by HMAC_VERIFY (R312). -/
def State.sealKey (s : State) (n c alg h : Nat) (e : Entry) : Use :=
  if alg = 0 then .ok [] none
  else if alg = 1 then (if s.rngOk then s.useHandle n c h pbSiv e else .status 2)
  else if alg = 2 then
    (if h / 2 ^ 22 = 3 then (match (s.ctx n c).pick with | some g => s.useHandle n c g pbHmac e | none => .status 2) else s.useHandle n c h pbHmac e)
  else .status 2

/-- The sealed bytes (R254, R270). -/
def State.sealBytes (s : State) (e : Entry) (buf : List Byte) (ins : List (Nat × Nat)) (alg len ofs b : Nat) (key nonce : List Byte) : List Byte :=
  let x := ins.foldl (fun x i => s.insert x i.1 i.2 e.t3 b e.inst) ((buf ++ zeros (len - buf.length)).take len)
  if alg = 1 then
    let h := match pktOf x with | some k => k.ofs | none => 0
    x.take ofs ++ ntsAuthField key nonce ((x.take ofs).drop h) (x.drop ofs)
  else if alg = 2 then overlay x ofs ((hmac key (x.take ofs)).take 16)
  else x

/-- R254: the oldest seal request is carried out or refused. -/
def State.sealDone (s : State) (n : Nat) : State :=
  match (s.engine n).seals with
  | [] => s
  | r :: rest =>
    let s0 := s.modEngine n fun g => { g with seals := rest }
    match s0.ctxEntry n r.ctx with
    | none => s0
    | some e =>
      let a0 := argAt r.args 0
      let alg := a0 % 4
      let len := argAt r.args 1 % 4096
      let ofs := argAt r.args 1 / 65536 % 2048
      let ins := insertions (argAt r.args 2) (argAt r.args 3)
      let b := s0.boundReq e.tport e.t3 (if e.kind ≤ 3 then some e.rx else none)
      if len < 60 ∨ 2048 < len ∨ (alg = 1 ∧ 2048 < expanded len ofs) ∨ (0 < alg ∧ len < ofs) then s0.sealRefuse n r.ctx 3 alg e
      else if e.phase ≠ .pinned ∨ ¬ s0.insOk ins e.kind len (alg != 0) then s0.sealRefuse n r.ctx 1 alg e
      else match s0.sealKey n r.ctx alg (a0 / 256) e with
        | .status _ => s0.sealRefuse n r.ctx 2 alg e
        | .ok m key =>
          let (nonce, s1) := if alg = 1 then s0.random 16 else ([], s0)
          let out := s1.sealBytes e (s1.ctx n r.ctx).buf ins alg len ofs b m nonce
          let s2 := if alg = 1 then s1.keyCount 0 (sivBlocks [ofs, 16] (len - ofs)) else if alg = 2 then s1.keyCount 1 (hmacBlocks ofs) else s1
          let s3 := s2.usedKey e key
          (s3.modCtx n r.ctx fun x => { x with sealed := true, out := out, epoch := s.get F.BND_EPOCH_EPOCH }).modEngine n fun g =>
            { g with sealRes := g.sealRes ++ [BitVec.ofNat 32 (2 * r.ctx + 8 + 256 * (s0.boundFlags b % 8))] }

def execSealDone (n : Fin 32) (s : State) : Host.Outcome State Fault Refusal := .next (s.onCclk (·.sealDone n))

/-- R252: the sealed response goes to its port's transmit buffer with the bound epoch it carries; a guardrail of R215 squashes
it. -/
def State.submitPush (s : State) (n c : Nat) : State :=
  s.onCtx n c fun s e =>
    let x := s.ctx n c
    match s.pinEntry e with
    | some f =>
      if x.out = [] ∨ f.phase ≠ .reserved ∨ ¬ s.crossOpen 3 (16 + e.tport) then s
      else
        let cause := s.txCause e.tport 1 f.cls x.out
        if cause = 0 then
          (s.setEntry e.index fun e => { e with epoch := x.epoch, kiss := kissOf e x.out }).setPin e.tport 1 e.index fun f => { f with data := x.out }
        else (s.txRefuse e.tport f.cls cause).pinSquash e.tport f sqGuardrail 0
    | none => s

def execSubmitPush (n : Fin 32) (c : Fin 4) (s : State) : Host.Outcome State Fault Refusal := .next (s.submitPush n c)

/-- R259: an engine withdraws an entry it is preparing, with a reason of the table. -/
def State.withdrawPush (s : State) (n c reason : Nat) : State :=
  s.onCtx n c fun s e => if e.phase = .preparing ∧ 1 ≤ reason ∧ reason ≤ 8 then s.withdraw e reason else s

def execWithdrawPush (n : Fin 32) (c : Fin 4) (reason : Fin 16) (s : State) : Host.Outcome State Fault Refusal := .next (s.withdrawPush n c reason)

/-! ### Engine faults and resets (R250, R272, R277) -/

/-- One context of an engine that resets: a PREPARING entry waits again, a PINNED one's reservation is cancelled. -/
def State.resetCtx (s : State) (n c : Nat) : State :=
  match s.ctxEntry n c with
  | none => s.unbind n c
  | some e =>
    if e.phase = .pinned then (((s.setEntry e.index fun e => { e with gone := true }).unbind n c).pinCancel e.tport 1 e.index)
    else (s.setEntry e.index fun e => { e with phase := .waiting, restart := 1, returned := true, bind := none, launch := none, keys := [], hint := 0,
                                                     failed := false, verified := false }).unbind n c

/-- An engine resets: its contexts by R250, its queues emptied, RESETS one higher, IMEM reloading. -/
def State.resetEngine (s : State) (n : Nat) : State :=
  let s1 := (List.range 4).foldl (fun (s : State) c => s.resetCtx n c) s
  ((s1.modEngine n fun g => { Engine.blank with faults := g.faults, guardTick := g.guardTick }).incrSat (F.SVC_SEn_STAT_RESETS n)).setEngine n enLoading
    |>.busyShow n

/-- R272: a fault with its cause; the third within 1 s holds the engine OFFLINE. -/
def State.engineFault (s : State) (n cause : Nat) : State :=
  if !s.running n then s
  else
    let busy := ((List.range 4).filter fun c => (s.ctx n c).bound.isSome).length
    let fs := s.now :: (s.engine n).faults.filter (fun t => decide (s.now < t + lsbPerSec))
    let s1 := ((((s.resetEngine n).put (F.SVC_SEn_STAT_CAUSE n) cause).modEngine n fun g => { g with faults := fs }).raise Ev.SVC_ENG_FAULT n (cause + 16 * busy))
    if 3 ≤ fs.length then (s1.setEngine n enOffline).raise Ev.SVC_ENG_OFFLINE n (s1.get (F.SVC_SEn_STAT_RESETS n)) else s1

def execEngineFault (n : Fin 32) (cause : Fin 16) (pc addr : Word) (s : State) : Host.Outcome State Fault Refusal :=
  .next (if s.engineUp n then ((s.setReg (A.SVC_SEn_FAULT_PC n) pc).setReg (A.SVC_SEn_FAULT_ADDR n)
    (if cause.val = 2 then addr else s.reg (A.SVC_SEn_FAULT_ADDR n))).engineFault n cause else s)

/-- WD_US (R272). -/
def watchdogUs : Nat := 100

/-- R272: a context bound for WD_US with no queue activity faults its engine. -/
def execEngineWatchdog (n : Fin 32) (c : Fin 4) (s : State) : Host.Outcome State Fault Refusal :=
  .next (if s.cclkRuns ∧ (s.ctx n c).bound.isSome ∧ (s.ctx n c).act + watchdogUs * lsbPerUs ≤ s.now then s.engineFault n 4 else s)

/-- R272: IMEM is reloaded and the engine runs. -/
def execEngineRestarted (n : Fin 32) (s : State) : Host.Outcome State Fault Refusal :=
  .next (if s.cclkRuns ∧ s.engState n = enLoading then s.setEngine n enRun else s)

/-- R277: a commanded reset; an OFFLINE engine stays OFFLINE. -/
def State.engineResetCmd (s : State) (n : Nat) : State := if s.running n then s.resetEngine n else s

def execEngineReset (n : Fin 32) (s : State) : Host.Outcome State Fault Refusal :=
  .next (s.onStrobe (A.SVC_SEn_CMD n) 1 (·.engineResetCmd n))

/-- R272: ONLINE returns an OFFLINE engine to service. -/
def State.engineOnline (s : State) (n : Nat) : State :=
  if s.engState n = enOffline then ((s.modEngine n fun g => { g with faults := [] }).setEngine n enRun).raise Ev.SVC_ENG_ONLINE n else s

def execEngineOnline (n : Fin 32) (s : State) : Host.Outcome State Fault Refusal :=
  .next (s.onStrobe (A.SVC_SEn_CMD n) 2 (·.engineOnline n))

/-! ### Messages the grandmaster instances send (R266) -/

/-- Announce (nothing on a STANDBY unit, R403): the quality fields of the instance written into the message (R145, R266); its
clockAccuracy follows as it leaves. -/
def State.announceFields (s : State) (i o : Nat) (d : List Byte) : List Byte :=
  overlay d (o + 47) ([BitVec.ofNat 8 (s.get (F.SVC_GMi_QUAL_PRIO1 i)), BitVec.ofNat 8 s.clockClass, BitVec.ofNat 8 (s.get (F.SVC_GMi_QUAL_ACC i))]
    ++ beBytes 2 (s.get (F.SVC_GMi_VAR_OSLV i)) ++ [BitVec.ofNat 8 (s.get (F.SVC_GMi_QUAL_PRIO2 i))])

/-- Instance `i` originates messages: enabled, on a unit that serves (R266, R403). -/
def State.gmSends (s : State) (i : Nat) : Bool := s.gmOn i && !s.isStandby && !s.draining

def State.announceSend (s : State) (i cls : Nat) (d : List Byte) : State := match ptpOf d with
  | some (o, _) => if s.gmSends i then s.txQueue (s.gmPort i) 2 cls (s.announceFields i o d) none d.length (some (i, o + 49)) else s
  | none => s

def execAnnounceSend (i cls : Fin 8) (d : List Byte) (s : State) : Host.Outcome State Fault Refusal := .next (s.announceSend i cls d)

/-- A Follow_Up of an instance: its instance, the offset of the message, and that of its ORGANIZATION_EXTENSION TLV. -/
def State.followUp (s : State) (p : Nat) (d : List Byte) : Option (Nat × Nat × Option Nat) := match ptpOf d with
  | some (o, eth) =>
    if beAt d o 1 % 16 = 8 then (s.gmFor p (beAt d (o + 4) 1) eth).map fun i =>
      (i, o, ((ptpTlvs d (min d.length (o + beAt d (o + 2) 2)) 40 (o + 44)).find? (fun t => t.1 == 3 && beAt d (t.2 + 2) 2 == 16)).map (·.2))
    else none
  | none => none

/-- R91, R84: a Follow_Up carries the TLV, with the bound at its Sync's t1, the preciseOriginTimestamp. DESIGN CHOICE (assumption
log 80): the insertion unit writes over the TLV the message reserves; one that reserves none is not sent. -/
def State.sendFrame (s : State) (p src c : Nat) (d : List Byte) (stamp : Option Nat) (w : Nat) : State :=
  match if src = 2 ∧ s.flag F.BND_CFG_PTP_TLV then s.followUp p d else none with
  | some (_, o, some t) =>
    s.txSubmit p src c (overlay d t (s.ptpTlv (s.boundReq p (beAt d (o + 34) 6 * lsbPerSec + beAt d (o + 40) 4 * lsbPerNs) none))) stamp w
  | some (_, _, none) => s.notSent p src d
  | none => s.txSubmit p src c d stamp w

def execTxFrameSubmit (p : Fin 20) (src c : Fin 8) (d : List Byte) (stamp : Option (Fin 65536)) (w : Nat) (s : State) :
    Host.Outcome State Fault Refusal := .next (s.sendFrame p src c d (stamp.map (·.val)) w)

/-- 1/16 of a Sync interval in 2^-16 ns. -/
def State.syncGrace (s : State) (i : Nat) : Nat :=
  let l := s.getI (F.SVC_GMi_RATE_LOG_SYNC i)
  if 0 ≤ l then lsbPerSec * 2 ^ l.toNat / 16 else lsbPerSec / 2 ^ (-l).toNat / 16

/-- A Sync skipped: counted, and reported at the first skip in a tick. -/
def State.syncSkip (s : State) (i : Nat) : State :=
  let s1 := s.svcCount svcSyncSkip
  if s1.svc.skipTick = s1.curTick + 1 then s1.modSvc fun v => { v with skips := v.skips + 1 }
  else (s1.modSvc fun v => { v with skipTick := s1.curTick + 1, skips := 1 }).raise Ev.SVC_SYNC_SKIP i 1

/-- The insertions a one-step Sync must name: PTP_T (R266), and PTP_TLV where the TLV is on (R91). -/
def State.syncIns (s : State) (ins : List (Nat × Nat)) (len : Nat) : Bool :=
  ins.any (fun i => i.1 == 6) && (!s.flag F.BND_CFG_PTP_TLV || ins.any (fun i => i.1 == 4)) && s.insOk ins 4 len false

/-- R266: a one-step Sync is pinned, its insertions written for the T3 granted; where no slot within 1/16 of the interval is
granted it is skipped. A two-step Sync is sent unpinned with STAMP. DESIGN CHOICE (assumption log 80): one whose seal lacks an
insertion it must have is squashed with GUARDRAIL, as a response is (R254). -/
def State.syncSend (s : State) (i cls : Nat) (d : List Byte) (ins : List (Nat × Nat)) (due e tag : Nat) : State :=
  let p := s.gmPort i
  if !s.gmSends i then s
  else if !s.flag (F.SVC_GMi_CFG_ONE_STEP i) then s.txSubmit p 2 cls d (some tag) d.length
  else
    let s0 := s.modPrt fun c => { c with reports := c.reports.filter (fun r => !(r.src == 2 && r.port == p && r.tag == tag)) }
    let g := s0.reserve p cls 2 e (wireLen d) false tag
    match g.1 with
    | .refused _ => s0.syncSkip i
    | .granted slot t3 _ =>
      if due + s.syncGrace i < slot then s0.syncSkip i
      else
        let b := g.2.boundReq p t3 none
        let x := ins.foldl (fun x k => g.2.insert x k.1 k.2 t3 b i) d
        if s0.syncIns ins d.length then g.2.pinFill p 2 tag x else g.2.pinSquashIf p sqGuardrail 0 (fun f => f.src == 2 && f.tag == tag)

def execSyncSend (i cls : Fin 8) (d : List Byte) (ins : List (Nat × Nat)) (due e : Nat) (tag : Fin 65536) (s : State) :
    Host.Outcome State Fault Refusal := .next (s.syncSend i cls d ins due e tag)

end Sys2Proof.Machine
end

