-- ==== Sys2Proof/Machine/Tic.lean ====
section
/-!
DEFINITION. The time-interval counter (13_time_interval_measurement.md R330 to R355): edges and stamps, the Pip records, the
interval judgement, frequency gates, calibration, the rings and the export stream, the witness scale.
-/
namespace Sys2Proof.Machine

open Sys2Proof

def State.ch (s : State) (n : Nat) : TicChan := (s.tic.chans[n]?).getD TicChan.blank
def State.modCh (s : State) (n : Nat) (f : TicChan → TicChan) : State := s.modTic fun c => { c with chans := listUpd c.chans n f }

def allCh : List Nat := List.range 32

def tmOff : Nat := 0
def tmStream : Nat := 1
def tmStop : Nat := 2
def tmMonitor : Nat := 3

def State.ticMode (s : State) (n : Nat) : Nat := s.get (F.TIC_CHn_CFG_MODE n)
/-- The channel's base is WCLK. -/
def State.ticWclk (s : State) (n : Nat) : Bool := s.flag (F.TIC_CHn_CFG_BASE n)

/-- Stamp units in a second (R17). -/
def stampsPerSec : Nat := 1000000000 * 4096
def stampsPerTick : Nat := 2 ^ 20 * 4096

/-! ### Losses (R331, R338) -/

def lcDead : Nat := 0
def lcBurst : Nat := 1
def lcQfull : Nat := 2
def lcBase : Nat := 3

def lostCount (n cause : Nat) : Fld :=
  if cause = lcDead then F.TIC_CHn_LOST_DEAD_COUNT n else if cause = lcBurst then F.TIC_CHn_LOST_BURST_COUNT n
  else if cause = lcQfull then F.TIC_CHn_LOST_QFULL_COUNT n else F.TIC_CHn_LOST_BASE_COUNT n

/-- Number of the frequency gate an instant of the base falls in (R345). -/
def State.gateOf (s : State) (n stamp : Nat) : Nat := stamp / stampsPerTick / s.get (F.TIC_CHn_GATE_GATE n)

/-- The gates with one of them changed, or made; the last two are kept. -/
def gateUpd (l : List Gate) (no : Nat) (f : Gate → Gate) : List Gate :=
  if l.any (fun g => g.no == no) then l.map (fun g => if g.no = no then f g else g)
  else (f ⟨no, 0, 0, 0, false⟩ :: l).take 2

/-- An edge near `stamp` is lost with a cause: counted, carried by the next GAP and the feed, its gate marked, and the
channel's first loss of a tick reported. -/
def State.ticLose (s : State) (n stamp cause : Nat) : State :=
  let c := s.ch n
  let s1 := (s.incr (lostCount n cause)).modCh n fun c =>
    { c with lossMask := natSetBit c.lossMask cause true, lossCount := c.lossCount + 1, feedLoss := c.feedLoss + 1,
             gates := gateUpd c.gates (s.gateOf n stamp) (fun g => { g with bad := true }), lossTick := s.nextTick }
  s1.raiseIf (c.lossTick != s.nextTick) Ev.TIC_LOSS n (2 ^ cause)

/-! ### Pips (R338 to R341, R344) -/

/-- The queue of a channel holds 4 KiB (R338). -/
def ticQueueBytes : Nat := 4096
def pipBytes (l : List Pip) : Nat := l.foldl (fun a p => a + p.data.length) 0

/-- QFILL follows the queue. -/
def State.ticFill (s : State) (n : Nat) : State := s.put (F.TIC_CHn_STAT_QFILL n) (pipBytes (s.ch n).q / 2)

/-- A MARK for second `sec` (R339). -/
def State.markBytes (s : State) (n sec : Nat) : List Byte :=
  let wrap := decide (2 ^ 32 ≤ sec * 1000000000 % 2 ^ 32 + 999999999)
  leBytes 2 (5 + (if s.ticWclk n then 8 else 0) + s.get F.TSU_STAT_STEP % 16 * 16 + (if wrap then 256 else 0)
    + s.get (F.TIC_CHn_CFG_Q n) * 512 + s.get (F.TIC_CHn_CFG_EDGE n) * 8192) ++ leBytes 6 sec

def gapBytes (mask count : Nat) : List Byte := leBytes 2 (6 + mask * 16) ++ leBytes 6 (min count (2 ^ 48 - 1))

/-- The records that must precede a Pip of second `sec`: a MARK, then a GAP (R340). -/
def State.ticPrefix (s : State) (n sec : Nat) : List (List Byte) :=
  let c := s.ch n
  (if c.mark = some sec then [] else [s.markBytes n sec]) ++ (if c.lossCount = 0 then [] else [gapBytes c.lossMask c.lossCount])

/-- Records are written to a channel's queue whole, or the stamp is lost with cause QFULL (R338). -/
def State.ticAccept (s : State) (n sec stamp : Nat) (recs : List (List Byte)) (f : TicChan → TicChan) : State :=
  if ticQueueBytes < pipBytes (s.ch n).q + (recs.map List.length).sum ∨ s.injOn 0xC1 n = true then
    (s.putB (F.TIC_CHn_STAT_QFULL n) true).ticLose n stamp lcQfull
  else
    let s1 := s.modCh n fun c => f { c with
      q := c.q ++ recs.map (Pip.mk (s.get (F.TIC_CHn_CFG_DEST n))), mark := some sec, lossMask := 0, lossCount := 0 }
    ((s1.incr (F.TIC_CHn_ACCEPTED_COUNT n) recs.length).countUp (A.CLR_ACCk 1) recs.length).ticFill n

/-- The record of a stamp, rounded down by Q, given the stamp Pip before it (R340, R341). -/
def State.stampBytes (s : State) (n u : Nat) (falling : Bool) (prev : Option Nat) : List Byte :=
  let q := s.get (F.TIC_CHn_CFG_Q n)
  let full (dovf : Nat) : List Byte :=
    leBytes 2 ((if falling then 4 else 3) + dovf * 8 + u % 4096 * 16) ++ leBytes 4 (u / 4096 % 2 ^ 32)
  match prev with
  | none => full 0
  | some v =>
    let d : Int := ((u : Int) - v) / (2 ^ q : Nat)
    if d < 0 ∨ 2 ^ 28 ≤ d then full 1
    else if 0 < q ∧ s.get (F.TIC_CHn_CFG_EDGE n) ≠ 3 ∧ d < 2 ^ 13 then leBytes 2 (1 + d.toNat * 8)
    else leBytes 4 (2 + (if falling then 8 else 0) + d.toNat * 16)

/-- A stamp becomes a stamp Pip. -/
def State.stampPip (s : State) (n stamp : Nat) (falling : Bool) : State :=
  let q := s.get (F.TIC_CHn_CFG_Q n)
  let u := stamp / 2 ^ q * 2 ^ q
  let pre := s.ticPrefix n (u / stampsPerSec)
  let prev := if pre.isEmpty then (s.ch n).prev else none
  s.ticAccept n (u / stampsPerSec) stamp (pre ++ [s.stampBytes n u falling prev]) fun c => { c with prev := some u }

/-- The 16 bytes of an INTERVAL Pip (R344). -/
def intervalBytes (flags start stop : Nat) (falling : Bool) (iv : Int) (others : Nat) : List Byte :=
  leBytes 2 (7 + flags * 8 + start * 64) ++ leBytes 2 (stop % 4096 + (if falling then 4096 else 0)) ++
    leBytes 4 (stop / 4096 % 2 ^ 32) ++ leBytes 6 (ofSigned 48 iv) ++ leBytes 2 (min others 65535)

/-! ### Edges (R331, R332, R336, R337) -/

/-- The stamp of an edge at `t` of the base, its CAL subtracted, rounded to 2^-12 ns (R336). -/
def State.ticStampOf (s : State) (n t : Nat) : Nat :=
  ((t : Rat) / 16 - (s.getI (F.TIC_CHn_CAL_CAL n) : Rat) * 4096 / 1000000 + 1 / 2).floor.toNat

/-- The edge is one the channel selects: 1 rising, 2 falling, 3 both. -/
def State.ticSelects (s : State) (n : Nat) (falling : Bool) : Bool :=
  let e := s.get (F.TIC_CHn_CFG_EDGE n)
  e == 3 || e == (if falling then 2 else 1)

/-- The departure of a stamp taken at `t`: 20 ns after the channel's last and 2.5 ns after any channel's (R331). -/
def State.ticDepart (s : State) (n t : Nat) : Nat :=
  max t (max (((s.ch n).departs.getLastD 0) + 20 * lsbPerNs) (s.tic.depart + 5 * lsbPerNs / 2))

/-- A stamp taken: posted in LAST, kept in the history, counted in its gate and the feed. -/
def State.ticTake (s : State) (n stamp : Nat) (falling : Bool) : State :=
  let s1 := (s.post (A.TIC_CHn_LAST n) (if falling then 2 else 0)).putWide (A.TIC_CHn_LAST n + 4) 3 (kt96Of (stamp * 16))
  s1.modCh n fun c =>
    { c with
      hist := ((stamp, s.tic.serial) :: c.hist).take 64
      gates := gateUpd c.gates (s.gateOf n stamp) fun g =>
        { g with edges := g.edges + 1, first := if g.edges = 0 then stamp else g.first, last := stamp }
      feedRise := if falling then c.feedRise else some stamp
      feedFall := if falling then some stamp else c.feedFall
      feedCount := c.feedCount + 1 }

/-- The stamp as MODE uses it: a stamp Pip, a stop to be judged, or nothing (R337). -/
def State.ticUse (s : State) (n stamp : Nat) (falling : Bool) : State :=
  if s.ticMode n = tmStream then s.stampPip n stamp falling
  else if s.ticMode n = tmStop then s.modCh n fun c => { c with stops := c.stops ++ [(stamp, falling, s.tic.serial)] }
  else s

/-- The base of the channel counts (R332, R333). -/
def State.ticBase (s : State) (n : Nat) : Bool := !s.draining && (if s.ticWclk n then s.flag F.TIC_STAT_WIT_VALID && s.clockRuns 8 else s.hasVoted)

/-- A kept edge: lost without a base, within 1.6 ns of the last stamped edge or with a full burst buffer; else stamped. -/
def State.ticKept (s : State) (n t : Nat) (falling : Bool) : State :=
  let stamp := s.ticStampOf n t
  let c := s.ch n
  let waiting := c.departs.filter (t < ·)
  if !s.ticBase n then s.ticLose n stamp lcBase
  else if (match c.lastT with | some u => decide (u ≤ t ∧ (t - u) * 10 < 16 * lsbPerNs) | none => false) then s.ticLose n stamp lcDead
  else if 64 ≤ waiting.length then s.ticLose n stamp lcBurst
  else
    let d := s.ticDepart n t
    let s1 := (s.modTic fun k => { k with depart := d }).modCh n fun c => { c with lastT := some t, departs := waiting ++ [d] }
    let s2 := (s1.ticTake n stamp falling).ticUse n stamp falling
    if s.injOn 0xC0 n then (s2.injUse 0xC0 n).ticLose n (s.ticStampOf n (t + lsbPerNs)) lcDead else s2

/-- R331: an edge is selected, divided, stamped or lost. -/
def State.ticEdge (s : State) (n : Nat) (falling : Bool) (t : Nat) : State :=
  if s.ticMode n = tmOff ∨ s.ticSelects n falling = false then s
  else
    let k := (s.ch n).div + 1
    if k < s.get (F.TIC_CHn_DIV_DIV n) then s.modCh n fun c => { c with div := k }
    else (s.modCh n fun c => { c with div := 0 }).ticKept n t falling

def execTicEdge (ch : Fin 32) (falling : Bool) (t : Nat) (s : State) : Host.Outcome State Fault Refusal :=
  .next (s.ticEdge ch falling t)

/-! ### Intervals (R342 to R344) -/

/-- A MARK-causing change of either channel fell between two change counts. -/
def State.ticBroken (s : State) (a b : Nat) (x y : Nat) : Bool :=
  ((s.ch x).changes ++ (s.ch y).changes).any fun c => decide (min a b < c ∧ c ≤ max a b)

/-- The latest of the stamps. -/
def latestStamp : List (Nat × Nat) → Option (Nat × Nat)
  | [] => none
  | p :: ps => match latestStamp ps with
    | none => some p
    | some m => if p.1 < m.1 then some m else some p

/-- The instant at which a stop is judged, in 2^-12 ns: stop + max(0, -W_LO) + 64 ns. -/
def State.judgeAt (s : State) (n stop : Nat) : Nat := stop + ((-(s.getI (F.TIC_CHn_WLO_W_LO n))).toNat + 64) * 4096

/-- The result of a stop: flags (ORPHAN, ORDER_AMBIG, NEG as bits 0, 1, 2), interval, OTHERS. -/
def State.judgeStop (s : State) (n stop serial : Nat) : Nat × Int × Nat :=
  let a := s.get (F.TIC_CHn_CFG_START_CH n)
  let lo : Int := stop - s.getI (F.TIC_CHn_WHI_W_HI n) * 4096
  let hi : Int := stop - s.getI (F.TIC_CHn_WLO_W_LO n) * 4096
  let cand := (s.ch a).hist.filter fun p => decide (lo ≤ (p.1 : Int) ∧ (p.1 : Int) ≤ hi)
  match latestStamp cand with
  | none => (1, 0, 0)
  | some (u, g) =>
    if s.ticBroken g serial a n then (1, 0, 0)
    else
      let d : Int := (stop : Int) - u
      ((if d.natAbs ≤ 12 then 2 else 0) + (if d < 0 then 4 else 0), d, cand.length - 1)

/-- R343: the oldest stop is judged; its INTERVAL is posted and recorded. On the TCLK base voted time has reached the
instant of judgement, where no change has parted the stop from the scale in force. -/
def State.intervalJudge (s : State) (n : Nat) : State :=
  match (s.ch n).stops with
  | [] => s
  | (stop, falling, serial) :: rest =>
    let s0 := if s.ticWclk n ∨ serial ≠ s.tic.serial then s else s.advanceTo (s.judgeAt n stop * 16)
    let s1 := s0.modCh n fun c => { c with stops := rest }
    let (flags, iv, others) := s1.judgeStop n stop serial
    let s2 := (s1.post (A.TIC_CHn_IV_RES n) (flags * 2)).putWideI (A.TIC_CHn_IV n) 2 (satI 48 iv)
    let first := flags % 2 == 1 && (s2.ch n).orphanTick != s2.nextTick
    let s3 := if first then (s2.modCh n fun c => { c with orphanTick := s2.nextTick }).raise Ev.TIC_ORPHAN n (stop / 4096 % 2 ^ 32) else s2
    let sec := stop / stampsPerSec
    let pre := s3.ticPrefix n sec
    s3.ticAccept n sec stop
      (pre ++ [intervalBytes flags (s3.get (F.TIC_CHn_CFG_START_CH n)) stop falling (satI 48 iv) others]) fun c => { c with prev := if pre.isEmpty then c.prev else none }

def execIntervalJudge (ch : Fin 32) (s : State) : Host.Outcome State Fault Refusal := .next (s.intervalJudge ch)

/-! ### Frequency (R345, R352) -/

/-- Y of a gate in 10^-15, where R345 gives it: EDGES at least 2, FNOM not 0, a positive SPAN. -/
def State.ticY (s : State) (n : Nat) (g : Gate) : Option Int :=
  let fnom := s.get (F.TIC_CHn_FNOM_FNOM n)
  if 2 ≤ g.edges ∧ 0 < fnom ∧ g.first < g.last then
    let y : Rat := (((g.edges - 1) * s.get (F.TIC_CHn_DIV_DIV n) * 1000000000 : Nat) : Rat) / fnom / (((g.last - g.first : Nat) : Rat) / 4096) - 1
    some (max (-(2 ^ 47 - 1)) (min (2 ^ 47 - 1) (roundRat (y * 10 ^ 15))))
  else none

/-- A value the result has, or a free value of 48 bits where R345 states none (assumption log 3). -/
def State.orFree (s : State) (v : Option Int) : Int × State :=
  match v with
  | some y => (y, s)
  | none => (toSigned 48 s.fresh.1, s.fresh.2)

/-- The common queue of 256 results: a full queue discards its oldest (R345). -/
def State.fqPush (s : State) (e : Nat × Bool × Int) : State :=
  if 256 ≤ s.tic.fq.length then
    (s.modTic fun c => { c with fq := c.fq.drop 1 ++ [e] }).incrSat F.TIC_FQ_STAT_DISC
  else s.modTic fun c => { c with fq := c.fq ++ [e] }

/-- R345: the latest gate that has ended and is not yet posted. -/
def State.freqGateEnd (s : State) (n : Nat) : State :=
  let no := s.curTick / s.get (F.TIC_CHn_GATE_GATE n)
  if s.ticMode n = tmOff ∨ no = 0 ∨ no - 1 < (s.ch n).gateNext then s
  else
    let g := ((s.ch n).gates.find? (fun g => g.no == no - 1)).getD ⟨no - 1, 0, 0, 0, false⟩
    let fnom := s.get (F.TIC_CHn_FNOM_FNOM n)
    let invalid := decide (g.edges < 2) || fnom == 0 || g.bad
    let (y, s1) := s.orFree (s.ticY n g)
    let (span, s2) := s1.orFree (if g.edges = 0 then none else some ((g.last : Int) - g.first))
    let s3 := (((s2.post (A.TIC_CHn_FQ_RES n) (if invalid then 2 else 0)).put (F.TIC_CHn_FQ_EDGES_EDGES n) g.edges).putWideI
      (A.TIC_CHn_FQ_Y n) 2 y).putWide (A.TIC_CHn_FQ_SPAN n) 2 (ofSigned 48 span)
    (s3.modCh n fun c => { c with gateNext := no, gates := c.gates.filter (fun g => decide (no ≤ g.no)) }).fqPush (n, invalid, y)

def execFreqGateEnd (ch : Fin 32) (s : State) : Host.Outcome State Fault Refusal := .next (s.freqGateEnd ch)

/-- The word TIC_FQ_POP answers and TIC_FQ_PEEK shows. -/
def State.fqWord (s : State) : Word := match s.tic.fq with
  | [] => 1
  | (n, inv, _) :: _ => BitVec.ofNat 32 (n * 2 + (if inv then 64 else 0) + s.tic.fq.length * 256)

/-- Y of the head. -/
def State.fqY (s : State) : Int := match s.tic.fq with
  | [] => 0
  | (_, _, y) :: _ => y

/-- R352, R12: the head result is answered and removed. -/
def State.fqPop (s : State) : State := (s.answer (.words [s.fqWord])).modTic fun c => { c with fq := c.fq.drop 1 }

def execTicFqPop (s : State) : Host.Outcome State Fault Refusal := .next s.fqPop

/-! ### Calibration (R335) -/

/-- The interval between recalibrations. -/
def State.calInterval (s : State) : Nat := min (s.get F.TIC_CAL_CFG_INTERVAL) (s.get F.TIC_CAL_CFG_AGE_INTERVAL) * lsbPerSec

/-- The idle interpolator's test starts, where none runs. -/
def State.calStart (s : State) (n : Nat) : State := s.modCh n fun c => { c with calBusy := true, retryAt := none }

/-- R335: the interval since the last calibration, or the second after a failed one, is over. -/
def State.recalTimer (s : State) (n : Nat) : State :=
  let c := s.ch n
  let due := match c.retryAt with
    | some t => decide (t ≤ s.now)
    | none => decide (c.calAt + s.calInterval ≤ s.now)
  if due then s.calStart n else s

def execRecalTimer (ch : Fin 32) (s : State) : Host.Outcome State Fault Refusal := .next (s.recalTimer ch)
def execRecal (ch : Fin 32) (s : State) : Host.Outcome State Fault Refusal := .next (s.calStart ch)
def execRecalAll (s : State) : Host.Outcome State Fault Refusal := .next (allCh.foldl (fun (s : State) n => s.calStart n) s)

/-- R335: a test ends: a code map that is not monotonic is dropped and the test retried after 1 s; a table that moved any
code by more than 2 ps is reported; the tested interpolator takes over at the next tick boundary. -/
def State.calDone (s : State) (n : Nat) (mono : Bool) (move : Nat) : State :=
  let c := s.ch n
  if !c.calBusy then s
  else if !mono || s.injOn 0xC2 n then
    (((s.injUse 0xC2 n).modCh n fun c => { c with calBusy := false, retryAt := some (s.now + lsbPerSec) }).putB (F.TIC_CHn_STAT_CAL_FAIL n) true).raise
      Ev.TIC_CAL_FAIL n (1 - s.get (F.TIC_CHn_STAT_INTERP n))
  else
    (((s.ageDrift move).modCh n fun c => { c with calBusy := false, calReady := true, calAt := s.now, retryAt := none }).putB
      (F.TIC_CHn_STAT_CAL_FAIL n) false).raiseIf (decide (2000 < move)) Ev.TIC_CAL_DRIFT n (detSat 16 move)

def execInterpCalDone (ch : Fin 32) (mono : Bool) (move : Nat) (s : State) : Host.Outcome State Fault Refusal :=
  .next (s.calDone ch mono move)

/-- A calibrated interpolator takes over at a tick boundary. -/
def State.calTakeover (s : State) (n : Nat) : State :=
  if (s.ch n).calReady then
    (s.put (F.TIC_CHn_STAT_INTERP n) (1 - s.get (F.TIC_CHn_STAT_INTERP n))).modCh n fun c => { c with calReady := false }
  else s

/-! ### Rings (R347, R348) -/

def State.ticRingSize (s : State) (n : Nat) : Nat := 2 ^ s.get (F.TIC_CHn_RING_SIZE_LOG2 n)
/-- DRAM address [39:12] of the ring. -/
def State.ticRingBase (s : State) (n : Nat) : Nat := s.wide (A.TIC_CHn_RING_BASE n) 2 / 4096 * 4096
def State.ticRingUsed (s : State) (n : Nat) : Nat :=
  let z := s.ticRingSize n
  (s.get (F.TIC_CHn_RING_WR_WR n) % z + z - s.get (F.TIC_CHn_RING_RD_RD n) % z) % z
/-- A record of `len` bytes fits: the ring holds at most its size less 2. -/
def State.ticRingFits (s : State) (n len : Nat) : Bool := decide (s.ticRingUsed n + len + 2 ≤ s.ticRingSize n)

/-- Bytes written to a ring of `z` bytes at `base`, from offset `o`, wrapping at its end. -/
def State.ringBytes (s : State) (base z o : Nat) : List Byte → State
  | [] => s
  | b :: bs => (s.setByte (base + o % z) b).ringBytes base z (o + 1) bs

/-- The head Pip has left the queue. -/
def State.pipGone (s : State) (n : Nat) : State :=
  ((s.modCh n fun c => { c with q := c.q.drop 1 }).putB (F.TIC_CHn_STAT_QFULL n) (s.injOn 0xC1 n)).ticFill n

/-- R348: the head Pip is written into the ring, or waits for room. -/
def State.ringWrite (s : State) (n : Nat) (d : List Byte) : State :=
  if s.ticRingFits n d.length then
    let z := s.ticRingSize n
    let wr := s.get (F.TIC_CHn_RING_WR_WR n)
    ((((s.ringBytes (s.ticRingBase n) z wr d).put (F.TIC_CHn_RING_WR_WR n) ((wr + d.length) % z)).putB (F.TIC_CHn_STAT_RING_FULL n)
      false).countUp (A.CLR_RESk 1)).pipGone n
  else
    (s.putB (F.TIC_CHn_STAT_RING_FULL n) true).raiseIf (!s.flag (F.TIC_CHn_STAT_RING_FULL n)) Ev.TIC_RING_FULL n
      (s.get (F.TIC_CHn_RING_WR_WR n))

/-- R348: RD moves at once and frees room. -/
def State.ringRd (s : State) (n : Nat) (v : Word) : State :=
  let s1 := s.put (F.TIC_CHn_RING_RD_RD n) v.toNat
  match (s1.ch n).q with
  | p :: _ => if p.dest = 1 ∧ s1.ticRingFits n p.data.length = false then s1 else s1.putB (F.TIC_CHn_STAT_RING_FULL n) false
  | [] => s1.putB (F.TIC_CHn_STAT_RING_FULL n) false

def execRingRdWrite (ch : Fin 32) (v : Word) (s : State) : Host.Outcome State Fault Refusal := .next (s.ringRd ch v)

/-! ### The export stream (R349, R350) -/

def State.expPort (s : State) : Nat := s.get F.TIC_CFG_EXP_PORT
/-- EXP_UP: the export port is UP with EXP_EN set. -/
def State.expUp (s : State) : Bool := s.flag F.TIC_CFG_EXP_EN && s.portUp s.expPort

def segBytes (g : Nat × List Byte) : List Byte := leBytes 1 g.1 ++ leBytes 1 0 ++ leBytes 2 g.2.length ++ g.2

/-- The DATA frame of the segments built, without FCS. -/
def State.expFrame (s : State) : List Byte :=
  beBytes 6 (s.macAddr A.TIC_EXP_DA (A.TIC_EXP_DA + 4)) ++ beBytes 6 (s.portAddr s.expPort) ++ beBytes 2 (s.get F.TIC_CFG_EXP_ETYPE)
    ++ leBytes 1 1 ++ leBytes 1 1 ++ leBytes 2 (s.get F.TIC_EXP_ID_STREAM_ID) ++ leBytes 4 s.tic.seq ++ s.tic.segs.flatMap segBytes

/-- The export class: the lowest with SOURCE 4. -/
def State.expClass (s : State) : Nat :=
  ((List.range 8).find? (fun c => s.get (F.PRT_x_TXCc_CFG_SOURCE s.expPort c) == 4)).getD 0

def State.expSubmit (s : State) (d : List Byte) : State := s.txSubmit s.expPort 4 s.expClass d none d.length

/-- A frame returned as not sent goes out again from its copy, once the port is UP and the stream is not stopped. -/
def State.expResend (s : State) : State :=
  if s.expUp && s.tic.xoffAt.isNone then
    let back := s.prt.done.filter fun r => match r with
      | .notSent _ src _ => src == 4
      | .stamp _ _ _ => false
    back.foldl (fun (s : State) r => match r with
      | .notSent _ _ d => ((s.modPrt fun c => { c with done := c.done.erase r }).incr F.TIC_EXP_RESENT_COUNT).expSubmit d
      | .stamp _ _ _ => s) s
  else s

/-- The frame under way is closed, kept, and submitted. -/
def State.expClose (s : State) : State :=
  if s.tic.segs.isEmpty then s
  else
    let d := s.expFrame
    (s.modTic fun c => { c with kept := c.kept ++ [(d, c.segPips)], segs := [], segPips := 0, seq := (c.seq + 1) % 2 ^ 32 }).expSubmit d

/-- R349: the frame under way is closed EXP_HOLD after its first record; frames returned are resent. -/
def State.expFrameClose (s : State) : State :=
  let s1 := s.expResend
  if s1.tic.segs.isEmpty then s1
  else (s1.advanceTo (s1.tic.segAt + s1.get F.TIC_EXP_ID_EXP_HOLD * lsbPerUs)).expClose

def execExportFrameClose (s : State) : Host.Outcome State Fault Refusal := .next s.expFrameClose

/-- A record joins the frame: the last segment where it is the channel's, else a new one. -/
def segAdd (l : List (Nat × List Byte)) (n : Nat) (d : List Byte) : List (Nat × List Byte) :=
  match l.getLast? with
  | some (m, b) => if m = n then l.dropLast ++ [(n, b ++ d)] else l ++ [(n, d)]
  | none => [(n, d)]

/-- Length of the frame with a record added, with its FCS. -/
def State.expLen (s : State) (n : Nat) (d : List Byte) : Nat :=
  26 + ((segAdd s.tic.segs n d).map (fun g => g.2.length + 4)).sum

/-- The head Pip joins the frame under way, or opens one unless the stream is stopped; a frame it does not fit is closed
first. -/
def State.expWrite (s : State) (n : Nat) (d : List Byte) : State :=
  if !s.flag F.TIC_CFG_EXP_EN then s
  else
    let s1 := if s.maxLen s.expPort < s.expLen n d then s.expClose else s
    if s1.tic.segs.isEmpty && s1.tic.xoffAt.isSome then s1
    else
      (s1.modTic fun c => { c with segs := segAdd c.segs n d, segAt := if c.segs.isEmpty then s1.now else c.segAt,
                                   segPips := c.segPips + 1 }).pipGone n

/-- R348, R349: the head Pip of a channel goes to its destination; one bound for DRAM waits while DRAM serves no request (R186). -/
def State.pipWrite (s : State) (n : Nat) : State :=
  match (s.ch n).q with
  | [] => s
  | p :: _ => if p.dest = 1 then (if s.dramBusy then s else s.ringWrite n p.data) else if p.dest = 2 then s.expWrite n p.data else s

def execPipWrite (ch : Fin 32) (s : State) : Host.Outcome State Fault Refusal := .next (s.pipWrite ch)

/-- The last bit of a DATA frame left: its copy is freed and its Pips are resolved. -/
def State.expDone (s : State) (d : List Byte) : State :=
  match s.tic.kept.find? (fun k => k.1 == d) with
  | some k =>
    ((s.modTic fun c => { c with kept := c.kept.erase k }).incr F.TIC_EXP_FRAMES_COUNT).countUp (A.CLR_RESk 1) k.2
  | none => s

/-- R350: a FLOW message of this stream starts or ends XOFF. -/
def State.flowRx (s : State) (d : List Byte) : State :=
  let o := (tagsOf d).etOfs + 2
  let l := d.drop o
  if etherType d = s.get F.TIC_CFG_EXP_ETYPE ∧ leNat (l.take 1) = 1 ∧ leNat ((l.drop 1).take 1) = 2 ∧
      leNat ((l.drop 2).take 2) = s.get F.TIC_EXP_ID_STREAM_ID then
    if leNat ((l.drop 4).take 1) % 2 = 1 then
      ((s.modTic fun c => { c with xoffAt := some s.now }).putB F.TIC_STAT_EXP_XOFF true).raiseIf s.tic.xoffAt.isNone Ev.TIC_EXP_XOFF
    else (s.modTic fun c => { c with xoffAt := none }).putB F.TIC_STAT_EXP_XOFF false
  else s

/-- R350: the next frame of the queue bound to consumer 7 is taken. -/
def State.flowMessage (s : State) : State :=
  match s.takeRx s.expPort 7 (fun _ => true) with
  | (some f, s1) => if s1.flag F.TIC_CFG_EXP_EN then s1.flowRx f.data else s1
  | (none, s1) => s1

def execFlowMessage (s : State) : Host.Outcome State Fault Refusal := .next s.flowMessage

/-- R350: XOFF ends 100 ms after the latest XOFF. -/
def State.xoffTimeout (s : State) : State :=
  match s.tic.xoffAt with
  | some t =>
    if t + lsbPerSec / 10 ≤ s.now then
      ((s.modTic fun c => { c with xoffAt := none }).putB F.TIC_STAT_EXP_XOFF false).raise Ev.TIC_EXP_TIMEOUT
    else s
  | none => s

def execXoffTimeout (s : State) : Host.Outcome State Fault Refusal := .next s.xoffTimeout

/-! ### The witness scale (R333) -/

/-- The scale advanced by `n` WCLK cycles. DESIGN CHOICE (assumption log 82): w(t) is taken once, at their end. -/
def State.witRun (s : State) (n : Nat) : State :=
  s.modTic fun c => { c with wit := c.wit + (n : Rat) * lsbPerSec / 48000000 * (1 - s.witnessAt s.now) }

/-- A change that forces a MARK on a channel and that no interval spans. -/
def State.ticChange (s : State) (n : Nat) : State :=
  (s.modTic fun c => { c with serial := c.serial + 1 }).modCh n fun c =>
    { c with mark := none, changes := ((s.tic.serial + 1) :: c.changes).take 64,
             gates := gateUpd c.gates (s.curTick / s.get (F.TIC_CHn_GATE_GATE n)) (fun g => { g with bad := true }) }

/-- A voted second marker: the scale is anchored at the first in VOTE3 or VOTE2, and its offset posted (R333). -/
def State.witMarker (s : State) (wclk : Nat) : State :=
  let s1 := s.witRun wclk
  let s2 :=
    if !s1.flag F.TIC_STAT_WIT_VALID && (s1.vstate == vVote3 || s1.vstate == vVote2) then
      let s3 := ((s1.modTic fun c => { c with wit := (s1.now : Rat) }).putB F.TIC_STAT_WIT_VALID true).raise Ev.TIC_WIT_ANCHOR
      allCh.foldl (fun (s : State) n => s.ticChange n) s3
    else s1
  if s2.flag F.TIC_STAT_WIT_VALID then
    (s2.post A.TIC_WIT_RES 0).putWideI A.TIC_WIT_OFS 2 (satI 48 (roundRat ((s2.tic.wit - s2.now) / 16)))
  else s2

/-- The gates of the new scale: none of the old one goes on (R345). -/
def State.ticRegate (s : State) (n : Nat) : State :=
  s.modCh n fun c => { c with gates := [], gateNext := s.curTick / s.get (F.TIC_CHn_GATE_GATE n) }

/-- A realign step in the TIC: the witness scale and the waiting instants move, and every channel marks (R333, R340). -/
def State.ticStep (s : State) (d : Int) : State :=
  let mv (t : Nat) : Nat := ((t : Int) + d).toNat
  let s1 := s.modTic fun c => { c with
    wit := c.wit + d, depart := mv c.depart, segAt := mv c.segAt, xoffAt := c.xoffAt.map mv,
    chans := c.chans.map fun k => { k with lastT := k.lastT.map mv, departs := k.departs.map mv, calAt := mv k.calAt, retryAt := k.retryAt.map mv } }
  allCh.foldl (fun (s : State) n => (s.ticRegate n).ticChange n) s1

/-! ### The tick (R342, R346, R351) -/

/-- A channel's configuration as it would stand breaks R342 or R347. -/
def State.ticBad (s : State) (n : Nat) : Bool :=
  let m := s.ticMode n
  let a := s.get (F.TIC_CHn_CFG_START_CH n)
  ((m == tmStream || m == tmStop) && s.get (F.TIC_CHn_CFG_DEST n) == 0)
    || (m == tmStop && (a == n || s.ticMode a == tmOff || s.ticWclk a != s.ticWclk n))

/-- A channel whose new settings break the rule, or break that of a channel it starts, keeps its previous ones. -/
def State.ticRefuse (s0 s : State) (n : Nat) : State :=
  let a := A.TIC_CHn_CFG n
  if s.reg a = s0.reg a then s
  else if s.ticBad n || allCh.any (fun m => m != n && s.ticMode m == tmStop && s.get (F.TIC_CHn_CFG_START_CH m) == n && s.ticBad m
      && s.reg (A.TIC_CHn_CFG m) == s0.reg (A.TIC_CHn_CFG m)) then
    (s.setReg a (s0.reg a)).raise Ev.TIC_CFG_REFUSED n 1
  else s

/-- RING_BASE and RING_SIZE change only on a channel that is OFF with an empty queue (R348). DESIGN CHOICE (assumption log 82): WR and
RD stay as they are. -/
def State.ringRefuse (s0 s : State) (n : Nat) : State :=
  let b := A.TIC_CHn_RING_BASE n
  let z := A.TIC_CHn_RING_SIZE n
  if s.reg b = s0.reg b ∧ s.reg (b + 4) = s0.reg (b + 4) ∧ s.reg z = s0.reg z then s
  else if s0.ticMode n = tmOff ∧ (s0.ch n).q.isEmpty then s
  else (((s.setReg b (s0.reg b)).setReg (b + 4) (s0.reg (b + 4))).setReg z (s0.reg z)).raise Ev.TIC_CFG_REFUSED n 2

/-- W_LO above W_HI is out of range: both keep their values (R343, R351). -/
def State.windowKeep (s0 s : State) (n : Nat) : State :=
  if s.getI (F.TIC_CHn_WHI_W_HI n) < s.getI (F.TIC_CHn_WLO_W_LO n) then
    (s.setReg (A.TIC_CHn_WLO n) (s0.reg (A.TIC_CHn_WLO n))).setReg (A.TIC_CHn_WHI n) (s0.reg (A.TIC_CHn_WHI n))
  else s

/-- What a change of settings does: BASE, EDGE, Q or DIV force a MARK; GATE, or leaving OFF, starts the gates afresh. -/
def State.ticApply (s0 s : State) (n : Nat) : State :=
  let chg (f : Fld) : Bool := s.get f != s0.get f
  let s1 := if chg (F.TIC_CHn_CFG_BASE n) || chg (F.TIC_CHn_CFG_EDGE n) || chg (F.TIC_CHn_CFG_Q n) || chg (F.TIC_CHn_DIV_DIV n) then s.ticChange n else s
  let g := s.get (F.TIC_CHn_GATE_GATE n)
  if chg (F.TIC_CHn_GATE_GATE n) then s1.modCh n fun c => { c with gates := [], gateNext := (s.curTick + g - 1) / g }
  else if s0.ticMode n = tmOff ∧ s.ticMode n ≠ tmOff then s1.modCh n fun c => { c with gates := [], gateNext := s.curTick / g }
  else s1

/-- The staged writes of a tick, applied from `s0` to `s`, are judged channel by channel. -/
def State.ticConfig (s0 s : State) : State :=
  let s1 := allCh.foldl (fun (s : State) n => s0.ticRefuse s n) s
  let s2 := allCh.foldl (fun (s : State) n => s0.ticRefuse s n) s1
  allCh.foldl (fun (s : State) n => s0.ticApply (s0.windowKeep (s0.ringRefuse s n) n) n) s2

/-- Slots bound to REF_IN pin `p`, by pin kind. -/
def State.pinSlots (s : State) (p kind : Nat) : List Nat := (s.slotsOf 1 p).filter fun n => s.pinKind n == kind

/-- Slots whose companion frequency pin is `p` (R101). -/
def State.compSlots (s : State) (p : Nat) : List Nat :=
  allSlots.filter fun n => s.pinKind n == 1 && s.flag (F.REF_SLOTn_BIND_COMP_EN n) && s.get (F.REF_SLOTn_BIND_COMP_PIN n) == p

/-- The tick's count of a frequency pin, losses included, and its phase against voted time, unwrapped in cycles of its nominal period
(R346, R505). -/
def State.freqPinTick (s : State) (n pin : Nat) : State :=
  let c := s.ch (21 + pin)
  let s1 := s.modSl n fun sl => { sl with edgeCounts := (((c.feedCount + c.feedLoss) * s.get (F.TIC_CHn_DIV_DIV (21 + pin))) :: sl.edgeCounts).take 16 }
  let last := match c.feedRise, c.feedFall with
    | some a, some b => some (max a b)
    | some a, none => some a
    | none, b => b
  match last with
  | some u =>
    if s.get (F.REF_PIN_CFG_FREQ pin) = 0 then s1
    else
      let p : Rat := (stampsPerSec : Rat) / s.get (F.REF_PIN_CFG_FREQ pin)
      let ph := roundRat ((u : Rat) - p * roundRat (((u : Rat) - (s.sl n).phase) / p))
      (s1.measure n ph (u * 16) false).modSl n fun sl => { sl with phase := ph }
  | none => s1

/-- A REF_IN channel's feed reaches the slots of its pin. -/
def State.feedPin (s : State) (pin : Nat) : State :=
  let c := s.ch (21 + pin)
  let edge := if s.flag (F.REF_PIN_CFG_EDGE pin) then c.feedFall else c.feedRise
  let s1 := match edge with
    | some u => (s.pinSlots pin 1).foldl (fun (s : State) n => s.refEdge n (u * 16)) s
    | none => s
  (s1.pinSlots pin 2 ++ s1.compSlots pin).foldl (fun (s : State) n => s.freqPinTick n pin) s1

/-- The feed at a tick boundary, whatever MODE but OFF and DEST hold; then the tick's accumulation starts afresh (R346). -/
def State.ticFeed (s : State) : State :=
  let s1 := (List.range 8).foldl (fun (s : State) pin => s.feedPin pin) s
  s1.modTic fun c => { c with chans := c.chans.map fun k => { k with feedRise := none, feedFall := none, feedCount := 0, feedLoss := 0 } }

/-- Interpolators that are ready take over (R335). -/
def State.ticTakeover (s : State) : State := allCh.foldl (fun (s : State) n => s.calTakeover n) s

end Sys2Proof.Machine
end

