-- ==== Sys2Proof/Machine/Gns.lean ====
section
/-!
DEFINITION. The GNSS baseband (14_gnss_baseband.md R356 to R384): front ends, tracking channels, epochs and the
measurement window, the solution's states and bound, GNSS_PPS with its sawtooth, sleep and wake.
-/
namespace Sys2Proof.Machine

open Sys2Proof

def gcIdle : Nat := 0
def gcSearch : Nat := 1
def gcPullIn : Nat := 2
def gcTrack : Nat := 3
def gcLost : Nat := 4

def gbAwake : Nat := 0
def gbAsleep : Nat := 1
def gbWaking : Nat := 2

def gsNofix : Nat := 0
def gsSurvey : Nat := 1
def gsTiming : Nat := 2

def State.gch (s : State) (c : Nat) : GnssChan := (s.gns.chans[c]?).getD GnssChan.blank
def State.modGch (s : State) (c : Nat) (f : GnssChan → GnssChan) : State := s.modGns fun g => { g with chans := listUpd g.chans c f }
def State.gcState (s : State) (c : Nat) : Nat := s.get (F.GNS_CHc_STAT_STATE c)
def bandOf (c : Nat) : Nat := if c < 120 then 0 else 1
def bandChans (b : Nat) : List Nat := (List.range 120).map (120 * b + ·)
def allGch : List Nat := List.range 240

/-! ### Bands (R356, R357, R379) -/

def State.bandFs (s : State) (b : Nat) : Nat := bitsOf (s.reg (A.GNS_FE_L1_CFG + 8 * b)) 26 0
/-- The band has a sample rate in its range (R356). -/
def State.bandEnabled (s : State) (b : Nat) : Bool :=
  decide ((if b = 0 then 20000000 else 40000000) ≤ s.bandFs b ∧ s.bandFs b ≤ 100000000)
def State.bandState (s : State) (b : Nat) : Nat := nth s.gns.band b
def State.feFail (s : State) (b : Nat) : Bool := s.bit F.GNS_STAT_FE_FAIL b
/-- The band's clock runs and it is awake. -/
def State.bandRuns (s : State) (b : Nat) : Bool :=
  s.bandEnabled b && s.bandState b == gbAwake && !s.feFail b && s.clockRuns (6 + b)

/-- The level of GNSS_Lx_EN: high while the band is enabled, not asleep and not marked FE_FAIL (R357, R379). -/
def State.gnssEn (s : State) (b : Nat) : Bool := s.bandEnabled b && s.bandState b != gbAsleep && !s.feFail b

/-- BAND_RUN, BAND_SLEEP and the counts of channels in TRACK follow (R381). -/
def State.gnsShow (s : State) : State :=
  let count (b : Nat) : Nat := ((bandChans b).filter (fun c => s.gcState c == gcTrack)).length
  let s1 := (s.put F.GNS_STAT_TRACK_L1 (count 0)).put F.GNS_STAT_TRACK_L5 (count 1)
  [0, 1].foldl (fun (s : State) b => (s.putBit F.GNS_STAT_BAND_RUN b (s.bandRuns b)).putBit F.GNS_STAT_BAND_SLEEP b (s.bandState b == gbAsleep)) s1

def State.setGch (s : State) (c st : Nat) : State := (s.put (F.GNS_CHc_STAT_STATE c) st).gnsShow

/-- A channel's assignment is released: IDLE, nothing assigned. -/
def State.gchRelease (s : State) (c : Nat) : State := (s.setReg (A.GNS_CHc_STAT c) 0).gnsShow

/-- A channel at work goes to LOST; one in LOST keeps its 10 s. -/
def State.gchLose (s : State) (c : Nat) : State :=
  if s.gcState c = gcIdle ∨ s.gcState c = gcLost then s else (s.setGch c gcLost).modGch c fun g => { g with lostAt := s.now }

/-! ### Solution states (R371) -/

def State.solState (s : State) : Nat := s.get F.GNS_STAT_SOL_STATE
def State.gnsFixed (s : State) : Bool := s.flag F.GNS_CFG_MODE
/-- Satellites needed: MIN_SATS in fixed mode, 3 more in survey mode. -/
def State.entryCount (s : State) : Nat := s.get F.GNS_CFG_MIN_SATS + (if s.gnsFixed then 0 else 3)

/-- SOL_STATE moves, with its event and the bound's code (R371, R384). -/
def State.setSol (s : State) (st eb8 : Nat) : State :=
  if s.solState = st then s
  else
    let s1 := ((s.put F.GNS_STAT_SOL_STATE st).putB F.GNS_STAT_SOL_VALID (st != gsNofix)).raise Ev.GNS_SOLUTION noInst (s.solState + 4 * st + 16 * eb8)
    if s.solState = gsNofix then s1.modGns fun g => { g with validAt := s.now, low := 0 } else s1

/-- The result of a second (R374, R381). -/
def State.solPost (s : State) (ql eb8 used : Nat) : State :=
  (s.post A.GNS_SOL_RES (s.solState * 2 + ql * 16 + eb8 * 65536 + used % 128 * 2 ^ 24)).put F.GNS_STAT_USED (used % 128)

/-- The solution is invalid: NOFIX, QL 15, unbounded. -/
def State.solLose (s : State) : State :=
  if s.solState = gsNofix then s
  else (((s.setSol gsNofix 0xFF).solPost 15 0xFF 0).putWide A.GNS_SOL_B 2 bndUnbounded)

/-! ### Sleep and wake (R357, R378 to R380) -/

/-- A band goes to sleep: retention written, channels IDLE, the solution invalid. -/
def State.bandSleep (s : State) (b cause : Nat) : State :=
  if s.bandState b = gbAwake ∧ s.bandEnabled b then
    let s1 := s.modGns fun g => { g with ret := g.know, band := listUpd g.band b (fun _ => gbAsleep), sleptAt := listUpd g.sleptAt b (fun _ => s.now) }
    let s2 := (bandChans b).foldl (fun (s : State) c => s.gchRelease c) s1
    (s2.solLose.gnsShow).raise Ev.GNS_SLEEP b cause
  else s

/-- R379: SLEEP puts each band to sleep. -/
def execGnssSleep (s : State) : Host.Outcome State Fault Refusal := .next ((s.bandSleep 0 0).bandSleep 1 0)

/-- The front-end list of a band is written: a second missing acknowledge marks FE_FAIL (R357). DESIGN CHOICE (assumption
log 83): the outcome comes with the command that starts the wake, 10 ms before the list's end counts from. -/
def State.feWrite (s : State) (b : Nat) (nak : Option (Fin 64)) : State :=
  match nak with
  | some e => (s.putBit F.GNS_STAT_FE_FAIL b true).raise Ev.GNS_FE_CFG_FAIL b e.val
  | none => s.putBit F.GNS_STAT_FE_FAIL b false

/-- A band starts to wake: enabled, its list written, its clock awaited. -/
def State.bandWake (s : State) (b : Nat) (compat : Bool) (nak : Option (Fin 64)) : State :=
  if s.bandEnabled b then
    ((s.modGns fun g => { g with band := listUpd g.band b (fun _ => gbWaking), wakeAt := listUpd g.wakeAt b (fun _ => s.now + lsbPerSec / 100),
                                 compat := listUpd g.compat b (fun _ => compat) }).feWrite b nak).gnsShow
  else s

def nakOf (l : List (Option (Fin 64))) (b : Nat) : Option (Fin 64) := (l[b]?).getD none

/-- R379: WAKE wakes a sleeping band, and starts one marked FE_FAIL again. -/
def State.gnssWake (s : State) (nak : List (Option (Fin 64))) : State :=
  [0, 1].foldl (fun (s : State) b =>
    if s.bandState b = gbAsleep ∨ s.feFail b then s.bandWake b false (nakOf nak b) else s) s

def execGnssWake (nak : List (Option (Fin 64))) (s : State) : Host.Outcome State Fault Refusal := .next (s.gnssWake nak)

/-- R378: COLD empties retention and what is known, and restarts both bands. -/
def State.gnssCold (s : State) (nak : List (Option (Fin 64))) : State :=
  let s1 := s.modGns fun g => { g with ret := GnssRet.blank, know := GnssRet.blank, cold := true }
  let s2 := allGch.foldl (fun (s : State) c => s.gchRelease c) s1
  [0, 1].foldl (fun (s : State) b => s.bandWake b false (nakOf nak b)) s2.solLose

def execGnssCold (nak : List (Option (Fin 64))) (s : State) : Host.Outcome State Fault Refusal := .next (s.gnssCold nak)

/-- The slots bound to GNSS (R100). -/
def State.gnssSlots (s : State) : List Nat := allSlots.filter fun n => s.slotType n == 2

/-- The GNSS slot is selected, or the target of a pending switch. -/
def State.gnssInUse (s : State) : Bool :=
  s.gnssSlots.any fun n => s.selected == some n || (match s.ref.pend with | some p => p.target == n | none => false)

/-- R379: after ON seconds of validity the duty cycle puts the bands to sleep. -/
def State.dutySleep (s : State) : State :=
  if s.get F.GNS_SLEEP_CFG_OFF ≠ 0 ∧ s.flag F.GNS_STAT_SOL_VALID ∧ s.gnssInUse = false ∧
      s.gns.validAt + s.get F.GNS_SLEEP_CFG_ON * lsbPerSec ≤ s.now then (s.bandSleep 0 1).bandSleep 1 1 else s

def execDutySleep (s : State) : Host.Outcome State Fault Refusal := .next s.dutySleep

/-- R379: after OFF seconds a sleeping band wakes. -/
def State.dutyWake (s : State) (nak : List (Option (Fin 64))) : State :=
  [0, 1].foldl (fun (s : State) b =>
    if s.bandState b = gbAsleep ∧ s.get F.GNS_SLEEP_CFG_OFF ≠ 0 ∧ nth s.gns.sleptAt b + s.get F.GNS_SLEEP_CFG_OFF * lsbPerSec ≤ s.now then
      s.bandWake b false (nakOf nak b) else s) s

def execDutyWake (nak : List (Option (Fin 64))) (s : State) : Host.Outcome State Fault Refusal := .next (s.dutyWake nak)

/-- Satellites of the retained knowledge whose ephemeris, or almanac, is younger than `age` seconds. -/
def State.knownSats (s : State) (eph : Bool) (age : Nat) : Nat :=
  (s.gns.ret.sats.filter fun p => match (if eph then p.2.2.1 else p.2.2.2) with
    | some t => decide (s.now < t + age * lsbPerSec)
    | none => false).length

/-- A position is known: the Attic's in fixed mode, or a retained one (R380). -/
def State.posKnown (s : State) : Bool := s.gnsFixed || s.gns.ret.pos.isSome

/-- TAI is known at a start: from voted time, or from a Cellar seconds count that has been set (R380). DESIGN CHOICE
(assumption log 83): how the device knows the +-1 s is not stated. -/
def State.taiKnown (s : State) : Bool := (s.hasVoted && s.vstate != vInit) || s.clrSec != 0

/-- The kind of a start: 1 hot, 2 warm, 3 cold (R380), from what is retained. -/
def State.startKind (s : State) : Nat :=
  if s.posKnown && s.taiKnown && decide (s.entryCount ≤ s.knownSats true 14400) then 1
  else if s.posKnown && decide (s.entryCount ≤ s.knownSats false 7776000) then 2 else 3

/-- R379, R380: the band's clock runs; its channels start from retention. -/
def State.bandWakeDone (s : State) (b : Nat) : State :=
  if s.bandState b = gbWaking ∧ s.clockRuns (6 + b) ∧ s.feFail b = false then
    ((s.modGns fun g => { g with band := listUpd g.band b (fun _ => gbAwake), know := g.ret, cold := false,
                                 compat := listUpd g.compat b (fun _ => false) }).gnsShow).raise Ev.GNS_WAKE b
      (s.startKind + (if (s.gns.compat[b]?).getD false then 4 else 0))
  else s

def execBandWakeComplete (b : Fin 2) (s : State) : Host.Outcome State Fault Refusal := .next (s.bandWakeDone b)

/-- R379: no clock within 100 ms of the list write. -/
def State.bandWakeTimeout (s : State) (b : Nat) : State :=
  if s.bandState b = gbWaking ∧ s.feFail b = false ∧ s.clockRuns (6 + b) = false ∧ nth s.gns.wakeAt b + lsbPerSec / 10 ≤ s.now then
    (((s.modGns fun g => { g with band := listUpd g.band b (fun _ => gbAsleep), sleptAt := listUpd g.sleptAt b (fun _ => s.now) }).putBit
      F.GNS_STAT_FE_FAIL b true).gnsShow).raise Ev.GNS_FE_CFG_FAIL b 64
  else s

def execBandWakeTimeout (b : Fin 2) (s : State) : Host.Outcome State Fault Refusal := .next (s.bandWakeTimeout b)

/-- A band's clock declared stopped: by design while it sleeps or wakes, else GNS_BAND_STOP and its channels LOST. -/
def State.bandStop (s : State) (b : Nat) : State :=
  if s.bandState b = gbAwake ∧ s.bandEnabled b then
    ((bandChans b).foldl (fun (s : State) c => s.gchLose c) s).gnsShow.raise Ev.GNS_BAND_STOP b
  else s.gnsShow

/-! ### Channels (R359, R361, R362, R364, R365) -/

def sigSys (sig : Nat) : Nat := (sig - 1) / 2
def sigBand (sig : Nat) : Nat := (sig + 1) % 2

/-- A signal of R359 with one of its satellites, on an enabled system. -/
def State.sigOk (s : State) (sig sv : Nat) : Bool :=
  let y := sigSys sig
  decide (1 ≤ sig ∧ sig ≤ 8) && s.bit F.GNS_CFG_SYS_EN y &&
    (if y = 0 then decide (1 ≤ sv ∧ sv ≤ 32) else if y = 1 then decide (1 ≤ sv ∧ sv ≤ 36) else if y = 2 then decide (19 ≤ sv ∧ sv ≤ 63)
     else decide (1 ≤ sv ∧ sv ≤ 10))

/-- A change of a channel while its loops run: MCLK is not lost (R365). -/
def State.gchIf (s : State) (c : Bool) (f : State → State) : State := if c && !s.mclkLost then f s else s

/-- R364: an IDLE channel of the signal's band is assigned: to a search, or with a hot prediction to PULL_IN. -/
def execChannelAssign (c : Fin 240) (sig : Fin 16) (sv : Fin 64) (hot : Bool) (s : State) : Host.Outcome State Fault Refusal :=
  .next (s.gchIf (s.gcState c == gcIdle && s.sigOk sig sv && sigBand sig == bandOf c && s.bandRuns (bandOf c)) fun s =>
    (((s.put (F.GNS_CHc_STAT_SIG c) sig).put (F.GNS_CHc_STAT_SV c) sv).setGch c (if hot then gcPullIn else gcSearch)).modGch c
      fun g => { g with pullAt := s.now, slip := false })

/-- R361, R364: a cell is handed to the channel. -/
def execCellDetected (c : Fin 240) (s : State) : Host.Outcome State Fault Refusal :=
  .next (s.gchIf (s.gcState c == gcSearch) fun s => (s.setGch c gcPullIn).modGch c fun g => { g with pullAt := s.now })

def execSearchExhausted (c : Fin 240) (s : State) : Host.Outcome State Fault Refusal :=
  .next (s.gchIf (s.gcState c == gcSearch) fun s => s.gchRelease c)

/-- R364: lock has held for 200 ms; for SIG 3 and 5 the VE and VL check confirms the main peak. -/
def execPullInLock (c : Fin 240) (mainPeak : Bool) (s : State) : Host.Outcome State Fault Refusal :=
  .next (s.gchIf (s.gcState c == gcPullIn && decide ((s.gch c).pullAt + lsbPerSec / 5 ≤ s.now) && (mainPeak || !(s.get (F.GNS_CHc_STAT_SIG c) == 3 || s.get (F.GNS_CHc_STAT_SIG c) == 5)))
    fun s => (s.setGch c gcTrack).modGch c fun g => { g with lockAt := s.now })

def execPullInTimeout (c : Fin 240) (s : State) : Host.Outcome State Fault Refusal :=
  .next (s.gchIf (s.gcState c == gcPullIn && decide ((s.gch c).pullAt + 2 * lsbPerSec ≤ s.now)) fun s => s.gchRelease c)

/-- R364: the signal is lost; no event. -/
def execTrackLoss (c : Fin 240) (s : State) : Host.Outcome State Fault Refusal :=
  .next (s.gchIf (s.gcState c == gcTrack) fun s => s.gchLose c)

/-- R364: reacquired within 10 s: LOCK_MS restarts and SLIP sets. -/
def execReacquired (c : Fin 240) (s : State) : Host.Outcome State Fault Refusal :=
  .next (s.gchIf (s.gcState c == gcLost && decide (s.now ≤ (s.gch c).lostAt + 10 * lsbPerSec) && s.bandRuns (bandOf c)) fun s =>
    (s.setGch c gcTrack).modGch c fun g => { g with lockAt := s.now, slip := true })

def execLostTimeout (c : Fin 240) (s : State) : Host.Outcome State Fault Refusal :=
  .next (s.gchIf (s.gcState c == gcLost && decide ((s.gch c).lostAt + 10 * lsbPerSec ≤ s.now)) fun s => s.gchRelease c)

/-- R363, R365: processor k is reset and its 60 channels go to LOST. -/
def State.lpFault (s : State) (k cause : Nat) : State :=
  ((List.range 30).foldl (fun (s : State) i => (s.gchLose (30 * k + i)).gchLose (120 + 30 * k + i)) s).raise Ev.GNS_LP_FAULT k cause

/-- The processors run on MCLK: with it stopped none faults. -/
def execLoopProcessorFault (k : Fin 4) (cause : Fin 16) (s : State) : Host.Outcome State Fault Refusal :=
  .next (if s.mclkLost then s else s.lpFault k cause)

/-- R365: on MCLK's return every channel in TRACK goes to LOST. -/
def State.gnsMclkBack (s : State) : State := allGch.foldl (fun (s : State) c => if s.gcState c = gcTrack then s.gchLose c else s) s

/-! ### Epochs (R358, R366 to R370) -/

/-- JAM of a band: set after 10 epochs above the limit, cleared after 10 at or below it (R358). -/
def State.jamBand (s : State) (b level : Nat) : State :=
  let s0 := s.put (if b = 0 then F.GNS_LEVEL_L1 else F.GNS_LEVEL_L5) (min level 255)
  let isOver := decide (s.get F.GNS_QL_JAM_LIMIT < level)
  let s1 := s0.modGns fun g => { g with
    jam := listUpd g.jam b (fun n => if isOver then n + 1 else 0), calm := listUpd g.calm b (fun n => if isOver then 0 else n + 1) }
  if 10 ≤ nth s1.gns.jam b ∧ s1.bit F.GNS_STAT_JAM b = false then (s1.putBit F.GNS_STAT_JAM b true).raise Ev.GNS_JAM b (min level 255)
  else if 10 ≤ nth s1.gns.calm b then s1.putBit F.GNS_STAT_JAM b false
  else s1

def measOf (e : Epoch) (c : Nat) : Option GnssMeas := e.meas.find? (fun m => m.ch.val == c)

def boolBit (b : Bool) (i : Nat) : Nat := if b then 2 ^ i else 0

/-- The 32 bytes of a channel's record (R367). A channel not in TRACK has SIG 0, its index, and bytes the spec leaves
open, taken from `free` (assumption log 3). -/
def State.measRecord (s : State) (e : Epoch) (free c : Nat) : List Byte :=
  let g := s.gch c
  match s.gcState c == gcTrack, measOf e c with
  | true, some m =>
    leBytes 1 (s.get (F.GNS_CHc_STAT_SIG c)) ++ leBytes 1 (s.get (F.GNS_CHc_STAT_SV c)) ++
      leBytes 1 (boolBit m.codeValid 0 + boolBit m.carrValid 1 + boolBit m.halfOk 2 + boolBit m.dataSync 3 + boolBit g.slip 4 + boolBit g.used 5) ++
      leBytes 1 m.cn0 ++ leBytes 8 m.txTow ++ leBytes 8 (ofSigned 64 m.carrier) ++ leBytes 4 (ofSigned 32 m.doppler) ++
      leBytes 4 (min ((e.at_ - g.lockAt) / (lsbPerUs * 1000)) (2 ^ 32 - 1)) ++ leBytes 1 c ++ leBytes 3 0
  | _, _ => leBytes 1 0 ++ leBytes 27 (free / 256 ^ (27 * c)) ++ leBytes 1 c ++ leBytes 3 0

/-- A channel's code measurement of the epoch is valid. -/
def State.codeOk (s : State) (e : Epoch) (c : Nat) : Bool :=
  s.gcState c == gcTrack && (match measOf e c with | some m => m.codeValid | none => false)

/-- A channel that tracks satellite `sv` of system `y` in band `b` with a valid code. -/
def State.satBand (s : State) (e : Epoch) (y sv b : Nat) : Bool :=
  (bandChans b).any fun c => s.codeOk e c && sigSys (s.get (F.GNS_CHc_STAT_SIG c)) == y && s.get (F.GNS_CHc_STAT_SV c) == sv

/-- A satellite the solution may use (R369, R372): both bands, elevation, ephemeris, not barred. -/
def State.satUsable (s : State) (e : Epoch) (t : GnssSat) : Bool :=
  s.satBand e t.sys t.sv 0 && s.satBand e t.sys t.sv 1 && decide ((s.get F.GNS_CFG_ELEV_MASK : Int) ≤ t.elev) && t.eph.isSome &&
    !s.gns.barred.any (fun b => b.1 == t.sys.val && b.2.1 == t.sv.val && decide (s.now < b.2.2))

def State.usableSats (s : State) (e : Epoch) : List (Nat × Nat) := ((e.sats.filter (s.satUsable e)).map fun t => (t.sys.val, t.sv.val)).eraseDups

/-- What the baseband knows after an epoch (R378). -/
def State.gnsLearn (s : State) (e : Epoch) : State :=
  let dop := allGch.filterMap fun c => match s.gcState c == gcTrack, measOf e c with
    | true, some m => some (s.get (F.GNS_CHc_STAT_SIG c) * 64 + s.get (F.GNS_CHc_STAT_SV c), m.doppler)
    | _, _ => none
  s.modGns fun g => { g with know := { g.know with
    sats := e.sats.map fun t => (t.sys.val, t.sv.val, t.eph, t.alm)
    doppler := dop
    fs := [0, 1].map fun b => if s.bandRuns b then (e.fs[b]?).getD 0 else (g.know.fs[b]?).getD 0 } }

/-! ### The solution (R371 to R374) -/

/-- B_sol of R373 in BND48 units, every product rounded up (R373's words) before the sum. -/
def State.solBound (s : State) (v : GnssSol) (posU : Nat) : Nat :=
  let sigma := if 1 < v.weight then v.sigma * v.weight else v.sigma
  bndSat (ceilNat (16 * s.get F.GNS_CFG_K_SIGMA * sigma) + 16 * (s.get F.GNS_UNC_ANT_U + s.get F.GNS_UNC_FE_U + 25)
    + ceilNat (96 * v.predRms) + ceilNat (16 * 33357 * (posU : Rat) / 1000) + 16)

/-- The receiver clock a system belongs to: GPS and QZSS share one, Galileo and BeiDou have their own (R360). -/
def clockOf (sys : Nat) : Nat := if sys = 1 then 1 else if sys = 2 then 2 else 0

/-- TAI minus the system time of a clock, s (R360). -/
def taiMinus (k : Nat) : Int := if k = 2 then 33 else 19

/-- A clock's offset against TAI: t_S minus S in 2^-12 ns. -/
def clockOffset (v : GnssSol) (k : Nat) : Int := (v.clocks[k]?).getD 0 - taiMinus k * stampsPerSec

/-- The clock the solution's offset is of: that of GPS and QZSS. DESIGN CHOICE (assumption log 83): with none of their
satellites in use, the first further system's. -/
def mainClock (sats : List (Nat × Nat)) : Nat :=
  ([0, 1, 2].find? fun k => sats.any fun y => clockOf y.1 == k).getD 0

/-- The extra offset of each further system in use (R360). -/
def extraClocks (v : GnssSol) (sats : List (Nat × Nat)) : List (Nat × Int) :=
  ([0, 1, 2].filter fun k => k != mainClock sats && sats.any fun y => clockOf y.1 == k).map
    fun k => (k, clockOffset v k - clockOffset v (mainClock sats))

/-- RAIM's exclusions while enough satellites remain: the satellites left, and those excluded (R372). -/
def raimRun (entry : Nat) : List (Fin 16 × Fin 64) → List (Nat × Nat) → List (Nat × Nat) × List (Nat × Nat) × Bool
  | [], l => (l, [], true)
  | x :: xs, l =>
    let y := (sigSys x.1.val, x.2.val)
    let l' := l.filter (· != y)
    if !l.contains y then raimRun entry xs l
    else if l'.length < entry then (l, [], false)
    else
      let r := raimRun entry xs l'
      (r.1, (x.1.val, x.2.val) :: r.2.1, r.2.2)

/-- A satellite is excluded and barred for 600 s. -/
def State.raimExclude (s : State) (sig sv : Nat) : State :=
  (s.modGns fun g => { g with barred := (sigSys sig, sv, s.now + 600 * lsbPerSec) :: g.barred.filter (fun b => decide (s.now < b.2.2)) }).raise
    Ev.GNS_RAIM_EXCLUDE noInst (sig % 16 + sv % 64 * 16)

/-- USED of every channel follows the satellites of the solution. -/
def State.markUsed (s : State) (l : List (Nat × Nat)) : State :=
  allGch.foldl (fun (s : State) c =>
    let u := s.gcState c == gcTrack && l.contains (sigSys (s.get (F.GNS_CHc_STAT_SIG c)), s.get (F.GNS_CHc_STAT_SV c))
    (s.putB (F.GNS_CHc_STAT_USED c) u).modGch c fun g => { g with used := u }) s

/-- The position in use. -/
def State.putPos (s : State) (pos : List Int) (u : Nat) : State :=
  let p (i : Nat) : Int := (pos[i]?).getD 0
  (((s.putWideI A.GNS_POS_X 2 (satI 48 (p 0))).putWideI A.GNS_POS_Y 2 (satI 48 (p 1))).putWideI A.GNS_POS_Z 2 (satI 48 (p 2))).put
    F.GNS_POS_U_POS_U (min u 65535)

/-- QL of a valid solution with `n` satellites (R374). -/
def State.solQl (s : State) (n : Nat) : Nat :=
  if s.solState = gsSurvey then s.get F.GNS_QL_QL_SURVEY
  else if s.flag F.GNS_CFG_RAIM_EN ∧ s.get F.GNS_CFG_MIN_SATS ≤ n then s.get F.GNS_QL_QL_GOOD
  else s.get F.GNS_QL_QL_DEGRADED

/-- The state a solution with enough satellites leads to (R371). -/
def State.solNext (s : State) (v : GnssSol) : Nat :=
  if s.solState = gsNofix then (if s.gnsFixed || s.gns.know.pos.isSome then gsTiming else gsSurvey)
  else if s.solState = gsSurvey ∧ s.gns.surveyAt + s.get F.GNS_SURVEY_CFG_TIME * 60 * lsbPerSec ≤ s.now ∧ v.posU ≤ s.get F.GNS_SURVEY_CFG_ACC then gsTiming
  else s.solState

/-- What entering a state does: a survey starts; a surveyed position is fixed and stored, or a retained one is used. -/
def State.solEnter (s : State) (next : Nat) (v : GnssSol) : State :=
  if s.solState = gsNofix ∧ next = gsSurvey then s.modGns fun g => { g with surveyAt := s.now }
  else if s.solState = gsNofix ∧ s.gnsFixed = false ∧ next = gsTiming then
    match s.gns.know.pos with
    | some p => s.putPos p.1 p.2
    | none => s
  else if s.solState = gsSurvey ∧ next = gsTiming then
    ((s.putPos v.pos v.posU).modGns fun g => { g with
      know := { g.know with pos := some (v.pos, min v.posU 65535) }, ret := { g.ret with pos := some (v.pos, min v.posU 65535) } }).raise
      Ev.GNS_SURVEY_DONE noInst (detSat 16 v.posU)
  else s

/-- A valid solution of a second with its satellites: state, position, bound, quality (R371 to R374). -/
def State.solGood (s : State) (v : GnssSol) (sats : List (Nat × Nat)) : State :=
  let next := s.solNext v
  let s1 := s.solEnter next v
  let s2 := if next = gsSurvey then s1.putPos v.pos v.posU else s1
  let b := s2.solBound v (if next = gsSurvey then v.posU else s2.get F.GNS_POS_U_POS_U)
  let s3 := s2.setSol next (eb8Of b)
  ((((s3.solPost (s3.solQl sats.length) (eb8Of b) sats.length).putWideI A.GNS_SOL_OFS 2 (satI 48 (clockOffset v (mainClock sats)))).putWide A.GNS_SOL_B 2 b).markUsed
    sats).modGns fun g => { g with extra := extraClocks v sats, know := { g.know with lastSol := s.now } }

/-- The solution of the epoch at a whole second (R371, R372). What an injection adds to a pseudorange (R484) is in
the epoch's exclusions. -/
def State.solve (s : State) (e : Epoch) : State :=
  let sats := s.usableSats e
  let entry := s.entryCount
  if sats.length < entry ∨ s.bandState 0 ≠ gbAwake ∨ s.bandState 1 ≠ gbAwake then
    if s.solState = gsNofix then (s.solPost 15 0xFF 0).markUsed [] else s
  else
    let list := if s.flag F.GNS_CFG_RAIM_EN then e.sol.exclude else []
    let (left, out, ok) := raimRun entry list sats
    let s1 := out.foldl (fun (s : State) x => s.raimExclude x.1 x.2) s
    if s.flag F.GNS_CFG_RAIM_EN && (!ok || !e.sol.raimOk) then s1.solLose else s1.solGood e.sol left

/-- Usable satellites below the entry count for three consecutive epochs end the solution (R371). -/
def State.solCount (s : State) (e : Epoch) : State :=
  if (s.usableSats e).length < s.entryCount then
    let s1 := s.modGns fun g => { g with low := g.low + 1 }
    if 3 ≤ s1.gns.low then s1.solLose else s1
  else s.modGns fun g => { g with low := 0 }

/-- The broadcast UTC parameters; a leap newly announced is reported (R374). -/
def State.gnsUtc (s : State) (e : Epoch) : State :=
  match e.utc with
  | none => s
  | some (ofs, leap) =>
    let s1 := ((s.put F.GNS_UTC_OFFSET ofs).putB F.GNS_UTC_LEAP_PENDING leap.isSome).modGns fun g => { g with know := { g.know with utc := ofs } }
    match leap with
    | some (m, del) => (s1.putB F.GNS_UTC_DIR del).raiseIf (!s.flag F.GNS_UTC_LEAP_PENDING) Ev.GNS_LEAP noInst (m % 2 ^ 32)
    | none => s1

/-- An epoch falls at a whole multiple of EPOCH ms within the second, after the last one, and never in DARK (R366). -/
def State.epochDue (s : State) (t : Nat) : Bool :=
  s.hasVoted && decide (t % lsbPerSec % (s.get F.GNS_EPOCH_CFG_EPOCH * 1000 * lsbPerUs) = 0) && decide (s.now ≤ t)
    && !(s.gns.epochSeen && decide (t ≤ s.gns.lastEpoch))

/-- R366 to R368: measurements latched, the window swapped, the epoch posted; at a whole second the solution. -/
def State.gnssEpoch (s : State) (e : Epoch) : State :=
  if !s.epochDue e.at_ || s.mclkLost then s
  else
    let s1 := s.advanceTo e.at_
    let s2 := [0, 1].foldl (fun (s : State) b => if s.bandRuns b then s.jamBand b ((e.levels[b]?).getD 0) else s) s1
    let s3 := allGch.foldl (fun (s : State) c => match s.gcState c == gcTrack, measOf e c with
      | true, some m => s.put (F.GNS_CHc_STAT_CN0 c) m.cn0
      | _, _ => s) s2
    let (v, s4) := s3.fresh
    let s5 := ((s4.gnsLearn e).gnsUtc e).modGns fun g => { g with
      win := allGch.map (s4.measRecord e v), lastEpoch := e.at_, epochSeen := true, chans := g.chans.map fun c => { c with slip := false } }
    let count := (allGch.filter (fun c => s.gcState c == gcTrack && (measOf e c).isSome)).length
    let s6 := (s5.post A.GNS_EPOCH_RES (count * 65536)).putKt (A.GNS_EPOCH_T 0) e.at_
    (if e.at_ % lsbPerSec = 0 then s6.solve e else s6).solCount e

def execGnssEpoch (e : Epoch) (s : State) : Host.Outcome State Fault Refusal := .next (s.gnssEpoch e)

/-- R371: RESURVEY discards the stored position and starts a survey. -/
def State.resurvey (s : State) : State :=
  if s.gnsFixed ∨ s.solState ≠ gsTiming then s
  else
    (s.modGns fun g => { g with know := { g.know with pos := none }, ret := { g.ret with pos := none }, surveyAt := s.now }).setSol gsSurvey
      (bitsOf (s.reg A.GNS_SOL_RES) 23 16)

def execResurvey (s : State) : Host.Outcome State Fault Refusal := .next s.resurvey

/-! ### GNSS_PPS (R375 to R377) -/

/-- t_S minus S of the latest solution, 2^-12 ns. -/
def State.solOfs (s : State) : Int := toSigned 48 (s.wide A.GNS_SOL_OFS 2)

/-- GNSS_PPS may be driven. -/
def State.gnssPpsOn (s : State) : Bool :=
  s.flag F.GNS_STAT_SOL_VALID && s.flag F.GNS_CFG_PPS_EN && s.bandRuns (s.get F.GNS_CFG_PPS_BAND)

/-- The sample period of the PPS band, 2^-12 ns. -/
def State.ppsPeriod (s : State) : Rat := (stampsPerSec : Rat) / s.bandFs (s.get F.GNS_CFG_PPS_BAND)

/-- R375, R376: the edge of second `sec` falls on the first sample edge not before t_S; `edge0` is the predicted ball
instant of one sample edge minus `sec`, in 2^-12 ns. Its correction is posted, with EDGE 0 where it is not driven. -/
def State.gnssPps (s : State) (sec : Nat) (edge0 : Rat) : State :=
  let ts : Rat := s.solOfs
  let on := s.gnssPpsOn
  let per := if on then s.ppsPeriod else 1
  let tb := edge0 + ((ts - edge0) / per).ceil * per
  let q := (ts - tb + 1 / 2).floor
  let (qv, s1) := if on then (q, s) else (toSigned 32 s.fresh.1, s.fresh.2)
  let s2 := (((s1.post A.GNS_SAW_RES (if on then 2 else 0)).put F.GNS_SAW_SEC_SEC sec).putI F.GNS_SAW_Q_Q (satI 32 qv)).modGns
    fun g => { g with saws := (⟨sec, q, tb, on⟩ :: g.saws).take 4 }
  if on then s2.modGns fun g => { g with pulse := some (sec, tb) } else s2

/-- The message goes out at least 500 ms before the second it is of: one later is none (R376). -/
def execGnssPpsEdge (sec : Nat) (edge0 : Rat) (s : State) : Host.Outcome State Fault Refusal :=
  .next (if s.now + lsbPerSec / 2 ≤ sec * lsbPerSec then s.gnssPps sec edge0 else s)

/-- The level of GNSS_PPS at an instant: 100 ms from the edge, low while it may not be driven (R375). -/
def State.gnssPpsLevel (s : State) (t : Nat) : Bool :=
  s.gnssPpsOn && (match s.gns.pulse with
    | some (sec, tb) =>
      let rise : Rat := (sec * lsbPerSec : Nat) + 16 * tb
      decide (rise ≤ (t : Rat) ∧ (t : Rat) < rise + (lsbPerSec / 10 : Nat))
    | none => false)

/-- R377: the sample of a channel 20 stamp: an EDGE = 1 message of its second, and the stamp within 1 us of t_B. -/
def State.gnssSample (s : State) (stamp : Nat) : Option Int :=
  let sec := markedSecond (stamp * 16)
  let d : Int := (stamp : Int) - sec * stampsPerSec
  match s.gns.saws.find? (fun w => w.sec == sec) with
  | some w => if w.edge && decide ((d : Rat) - w.tb ≤ 4096000 ∧ w.tb - (d : Rat) ≤ 4096000) then some (d + w.q) else none
  | none => none

/-- The GNSS slot at a tick boundary: validity, QL, and the corrected sample with the solution's bound as its claim
(R374, R377). -/
def State.gnssTick (s : State) : State :=
  let valid := s.flag F.GNS_STAT_SOL_VALID
  let ql := if valid then s.get F.GNS_SOL_RES_QL else 15
  s.gnssSlots.foldl (fun (s : State) n =>
    let s1 := (s.modSl n fun sl => { sl with active := valid }).setQl n ql
    match (s1.ch 20).feedRise.map (fun u => (u, s1.gnssSample u)) with
    | some (u, some o) =>
      (s1.modSl n fun sl => { sl with seen := true, lastEdge := u * 16 }).refPhase n o (markedSecond (u * 16) * lsbPerSec + o * 16).toNat
        (some (s1.getB A.GNS_SOL_B)) 0xFFFFFFFF 0
    | _ => s1) s

/-- A realign step in GNS: the next epoch carries SLIP on every channel; predicted edges and instants move (R366). -/
def State.gnsStep (s : State) (d : Int) : State :=
  let mv (t : Nat) : Nat := ((t : Int) + d).toNat
  s.modGns fun g => { g with
    chans := g.chans.map fun c => { c with slip := true, pullAt := mv c.pullAt, lockAt := mv c.lockAt, lostAt := mv c.lostAt }
    lastEpoch := mv g.lastEpoch, wakeAt := g.wakeAt.map mv, sleptAt := g.sleptAt.map mv, validAt := mv g.validAt, surveyAt := mv g.surveyAt
    barred := g.barred.map (fun b => (b.1, b.2.1, mv b.2.2))
    know := { g.know with lastSol := mv g.know.lastSol }, ret := { g.ret with lastSol := mv g.ret.lastSol }
    saws := g.saws.map fun w => { w with tb := w.tb + (d : Rat) / 16 } }

end Sys2Proof.Machine
end

