-- ==== Sys2Proof/Machine/Dst.lean ====
section
/-!
DEFINITION. The distribution links (15_distribution_links.md R385 to R401): the messages and their TLVs, the cable model,
the link states, B_link, and the forwarding of trigger entries. The places of the IEEE 1588 fields are PRESUMED
(assumption log 17).
-/
namespace Sys2Proof.Machine

open Sys2Proof

def dlIdle : Nat := 0
def dlMeasure : Nat := 1
def dlLocked : Nat := 2

def State.dl (s : State) (d : Nat) : DstLink := (s.dst.links[d]?).getD DstLink.blank
def State.modDl (s : State) (d : Nat) (f : DstLink → DstLink) : State := s.modDst fun c => { c with links := listUpd c.links d f }

def allDp : List Nat := List.range 16
/-- Port index of DPd (R32). -/
def dpPort (d : Nat) : Nat := 2 + d
def State.dlRole (s : State) (d : Nat) : Nat := s.get (F.DST_LINKd_CFG_ROLE d)
def State.dlDown (s : State) (d : Nat) : Bool := s.dlRole d == 1
def State.dlUp (s : State) (d : Nat) : Bool := s.dlRole d == 2
def State.dlState (s : State) (d : Nat) : Nat := s.get (F.DST_LINKd_STAT_STATE d)
def State.dlPeer (s : State) (d : Nat) : Bool := s.flag (F.DST_LINKd_STAT_PEER_LOCKED d)
/-- The Sync interval, 2^-LOG_RATE s, in 2^-16 ns. -/
def State.syncInterval (s : State) (d : Nat) : Nat := lsbPerSec / 2 ^ s.get (F.DST_LINKd_CFG_LOG_RATE d)

def State.setDl (s : State) (d st : Nat) : State :=
  (s.put (F.DST_LINKd_STAT_STATE d) st).putBit F.DST_STAT_LOCKED d (st == dlLocked)

/-- The device's own depth: 0 where a slot that is not a link is selected, else one more than its UP link's (R387, R394). -/
def State.ownDepth (s : State) : Nat :=
  let up (c : Nat → Bool) : Nat := match allDp.find? (fun d => s.dlUp d && s.dlState d == dlLocked && c d) with
    | some d => min 7 (s.get (F.DST_LINKd_STAT_DEPTH d) + 1)
    | none => 0
  match s.selected with
  | some n => if s.slotType n = 4 then up (fun d => s.get (F.DST_LINKd_CFG_UP_INDEX d) == s.slotIndex n) else 0
  | none => up (fun _ => true)

def State.showDepth (s : State) : State := s.put F.DST_DEPTH_DEPTH s.ownDepth

/-! ### Keys of the block's own (R386, R405) -/

/-- The material of a handle the device itself uses: a main slot or its successor, or a live Cellar key, that holds policy
bit `b` and whose tag is right (R299, R302, R309). -/
def State.ownKey (s : State) (b h : Nat) : Option (List Byte) :=
  let i := h % 4096
  let main (j : Nat) : Option (List Byte) := if (s.mainSlot j).has b && s.mainTagOk j then some (s.mainSlot j).material else none
  if h / 2 ^ 22 = 0 ∧ h / 4096 % 1024 = (s.mainSlot i).incarn then
    (if (s.mainSlot i).state = ksValid then main i
     else if (s.mainSlot i).state = ksInvalid then (match s.succOf i with | some j => main j | none => none) else none)
  else if h / 2 ^ 22 = 1 ∧ i < 8 ∧ s.keyLive i ∧ s.cellarTagOk (s.liveIdx i) ∧ (s.cellarSlot (s.liveIdx i)).has b then
    some (s.cellarSlot (s.liveIdx i)).material
  else none

/-- A key the device uses with HMAC-SHA-256-128. -/
def State.hwKey (s : State) (h : Nat) : Option (List Byte) := s.ownKey pbHmac h

/-! ### Frames (R386, R387) -/

/-- A PTP header of a link message: type, length, domain, correctionField, sequenceId. -/
def State.dstHeader (s : State) (d typ len corr seq : Nat) : List Byte :=
  let a := beBytes 6 (s.portAddr (dpPort d))
  [BitVec.ofNat 8 typ, 0x12] ++ beBytes 2 len ++ [BitVec.ofNat 8 (s.get (F.DST_LINKd_CFG_DOMAIN d)), 0, 0, 0] ++ beBytes 8 corr ++ beBytes 4 0
    ++ a.take 3 ++ [0xFF, 0xFE] ++ a.drop 3 ++ beBytes 2 1 ++ beBytes 2 seq
    ++ [if typ = 0 then 0 else if typ = 1 then 1 else if typ = 9 then 3 else 5,
        if typ = 0 then BitVec.ofNat 8 (256 - s.get (F.DST_LINKd_CFG_LOG_RATE d)) else 0x7F]

/-- The link TLV around its data. -/
def State.linkTlv (s : State) (data : List Byte) : List Byte :=
  beBytes 2 3 ++ beBytes 2 (6 + data.length) ++ beBytes 3 (s.get F.BND_PTP_ORG_ORG) ++ beBytes 3 (s.get F.DST_SUBTYPE_SUB) ++ data

/-- The AUTHENTICATION TLV over a message whose length already counts it; none where the handle gives no key (R386). -/
def State.authTlv (s : State) (d : Nat) (msg : List Byte) : Option (List Byte) :=
  (s.hwKey (s.get (F.DST_LINKd_KEY_HANDLE d))).map fun key =>
    let head := beBytes 2 0x8009 ++ beBytes 2 22 ++ List.replicate 6 0
    head ++ (hmac key (msg ++ head)).take 16

/-- A whole link message as a frame without FCS; none where it cannot be authenticated. -/
def State.dstFrame (s : State) (d typ corr seq : Nat) (body tlv : List Byte) : Option (List Byte) :=
  let auth := s.flag (F.DST_LINKd_CFG_AUTH_EN d)
  let len := 34 + body.length + tlv.length + (if auth then 26 else 0)
  let da := if typ = 2 ∨ typ = 3 then 0x0180C200000E else 0x011B19000000
  let eth := beBytes 6 da ++ beBytes 6 (s.portAddr (dpPort d)) ++ beBytes 2 0x88F7
  let msg := s.dstHeader d typ len corr seq ++ body ++ tlv
  if auth then (s.authTlv d msg).map (fun t => eth ++ msg ++ t) else some (eth ++ msg)

/-- The link class of a port: the lowest with SOURCE 6. -/
def State.dstClass (s : State) (d : Nat) : Nat := ((List.range 8).find? (fun c => s.get (F.PRT_x_TXCc_CFG_SOURCE (dpPort d) c) == 6)).getD 0

/-- A pinned link frame of a given length: the slot asked for from `e`, and the frame `mk` builds for T3 placed in it. -/
def State.dstPin (s : State) (d e len tag : Nat) (mk : State → Nat → Option (List Byte)) : Option (Nat × State) :=
  let p := dpPort d
  let c := s.dstClass d
  let s0 := s.modPrt fun k => { k with reports := k.reports.filter (fun r => !(r.src == 6 && r.port == p && r.tag == tag)) }
  let g := s0.reserve p c 6 e (max 64 (len + 4)) false tag
  match g.1 with
  | .refused _ => none
  | .granted _ t3 _ =>
    match mk g.2 t3 with
    | some x => some (t3, g.2.pinFill p 6 tag x)
    | none => none

/-- Length of a link frame without FCS. -/
def State.dstLen (s : State) (d body tlv : Nat) : Nat := 48 + body + tlv + (if s.flag (F.DST_LINKd_CFG_AUTH_EN d) then 26 else 0)

/-! ### Received messages -/

/-- A link message: its offset in the frame, and the data of the link TLV. -/
structure LinkMsg where
  o : Nat
  seq : Nat
  corr : Nat
  tlv : List Byte
  deriving DecidableEq, Repr

/-- The data of the link TLV of a message whose TLVs start `body` bytes after the header. -/
def State.tlvData (s : State) (x : List Byte) (o body : Nat) : List Byte :=
  let e := min x.length (o + beAt x (o + 2) 2)
  match (ptpTlvs x e 20 (o + 34 + body)).find? (fun t => t.1 == 3 && beAt x (t.2 + 4) 3 == s.get F.BND_PTP_ORG_ORG && beAt x (t.2 + 7) 3 == s.get F.DST_SUBTYPE_SUB) with
  | some t => slice x (t.2 + 10) (beAt x (t.2 + 2) 2 - 6)
  | none => []

/-- The last TLV of a message is an AUTHENTICATION TLV whose ICV is right. -/
def State.dstAuthOk (s : State) (d : Nat) (x : List Byte) (o : Nat) : Bool :=
  let e := min x.length (o + beAt x (o + 2) 2)
  match s.hwKey (s.get (F.DST_LINKd_KEY_HANDLE d)) with
  | some key => decide (o + 60 ≤ e) && beAt x (e - 26) 2 == 0x8009 && slice x (e - 16) 16 == (hmac key (slice x o (e - 16 - o))).take 16
  | none => false

/-- A failed verification: counted, reported at the first of a tick (R386). -/
def State.dstAuthFail (s : State) (d : Nat) : State :=
  let s1 := s.incr (F.DST_LINKd_AUTH_FAIL_COUNT d)
  let first := (s.dl d).authTick != s.nextTick
  (s1.modDl d fun l => { l with authTick := s.nextTick }).raiseIf first Ev.DST_AUTH_FAIL (dpPort d) (s1.get (F.DST_LINKd_AUTH_FAIL_COUNT d))

/-- The outcome of taking a link message: nothing for this link, a failed verification, or the message with its stamp. -/
inductive Taken where
  | nothing (s : State)
  | bad (s : State)
  | msg (x : List Byte) (m : LinkMsg) (desc : RxDesc) (s : State)
  deriving DecidableEq, Repr

/-- The oldest message of the given types in the queue bound to consumer 5, verified where AUTH_EN is set (R385, R386). -/
def State.dstTake (s : State) (d body : Nat) (types : List Nat) : Taken :=
  let isOurs (f : RxFrame) : Bool := etherType f.data == 0x88F7 && types.contains (beAt f.data ((tagsOf f.data).etOfs + 2) 1 % 16)
  match s.takeRx (dpPort d) 5 isOurs with
  | (none, s1) => .nothing s1
  | (some f, s1) =>
    let o := (tagsOf f.data).etOfs + 2
    if f.data.length < o + 34 + body ∨ beAt f.data (o + 4) 1 ≠ s.get (F.DST_LINKd_CFG_DOMAIN d) then .nothing s1
    else if s.flag (F.DST_LINKd_CFG_AUTH_EN d) && !s.dstAuthOk d f.data o then .bad (s1.dstAuthFail d)
    else .msg f.data ⟨o, beAt f.data (o + 30) 2, beAt f.data (o + 8) 8, s.tlvData f.data o body⟩ f.desc s1

/-- The instant a 10-byte timestamp spells, in 2^-16 ns. -/
def ptpInstant (x : List Byte) (o : Nat) : Nat := beAt x o 6 * lsbPerSec + beAt x (o + 6) 4 * lsbPerNs

/-! ### Trigger entries (R387, R396, R397) -/

/-- Bytes 14 to 41 of the Sync TLV for the entry that rides. -/
def trgData (seq : Nat) (e : TrigFwd) : List Byte :=
  beBytes 1 seq ++ beBytes 1 (e.out % 16) ++ beBytes 6 (e.first / lsbPerSec) ++ beBytes 4 (e.first / lsbPerNs % 1000000000) ++
    beBytes 2 (e.first % lsbPerNs) ++ beBytes 4 e.width ++ beBytes 6 e.period ++ beBytes 4 e.count

/-- An entry joins a DOWN link's queue; the head takes the next TRG_SEQ as it comes to the front. -/
def State.trgQueue (s : State) (d : Nat) (e : TrigFwd) : State :=
  s.modDl d fun l => { l with trg := l.trg ++ [e], trgSeq := if l.trg.isEmpty then (l.trgSeq + 1) % 256 else l.trgSeq,
                              carried := if l.trg.isEmpty then 0 else l.carried }

/-- The results are posted once every named port has one (R396). -/
def State.tfwdPost (s : State) : State :=
  if s.dst.waiting = 0 then
    (((s.put F.DST_TFWD_ACK_ACCEPTED s.dst.acc).put F.DST_TFWD_ACK_REFUSED s.dst.ref).putWide A.DST_TFWD_CAUSE 2 s.dst.causes).post A.DST_TFWD_RES 2
  else s

/-- A result for the head entry of a DOWN link: reported, and counted where the entry is this device's own (R396, R397). -/
def State.trgResult (s : State) (d code : Nat) : State :=
  let l := s.dl d
  match l.trg with
  | [] => s
  | e :: rest =>
    let s1 := (s.modDl d fun l => { l with trg := rest, trgSeq := if rest.isEmpty then l.trgSeq else (l.trgSeq + 1) % 256, carried := 0 }).raise
      Ev.DST_TRG_RESULT (dpPort d) (l.trgSeq + 256 * code)
    if e.own then
      (s1.modDst fun c => { c with
        waiting := natSetBit c.waiting d false
        acc := natSetBit c.acc d (code == 0)
        ref := natSetBit c.ref d (code != 0)
        causes := c.causes + code * 16 ^ d }).tfwdPost
    else s1

/-- The local cause that refuses a SEND; 0 for none (R396). DESIGN CHOICE (assumption log 84): of several the lowest number. -/
def State.tfwdCause (s : State) (e : TrigFwd) (ports : Nat) : Nat :=
  let named := allDp.filter fun d => ports / 2 ^ d % 2 == 1
  if e.first < s.now + lsbPerSec / 2 then 1
  else if named.any (fun d => !(s.dl d).trg.isEmpty) then 2
  else if named.any (fun d => !s.dlDown d || !s.dlPeer d) then 3
  else if e.width < 2 ∨ 1000000000 < e.width ∨ (e.period ≠ 0 ∧ (e.period < (e.width + 2) * 4096 ∨ e.period < 20 * 4096)) ∨ (e.count = 0 ∧ e.period = 0) then 4
  else 0

/-- R396: SEND of the fields last written is judged at once; an accepted entry starts on every named port. -/
def State.tfwdSend (s : State) : State :=
  let e : TrigFwd := ⟨timeOf (s.lastWide (A.DST_TFWD_AT 0) 3), s.lastGet F.DST_TFWD_WIDTH_WIDTH, s.lastWide A.DST_TFWD_PERIOD 2 % 2 ^ 48,
    s.lastGet F.DST_TFWD_COUNT_N, s.lastGet F.DST_TFWD_CTL_OUT, s.lastGet F.DST_TFWD_CTL_FWD == 1, true⟩
  let ports := s.lastGet F.DST_TFWD_CTL_PORTS
  let c := s.tfwdCause e ports
  if c ≠ 0 then s.post A.DST_TFWD_RES (4 + 16 * c)
  else
    let s1 := (s.modDst fun k => { k with waiting := ports, acc := 0, ref := 0, causes := 0 }).post A.DST_TFWD_RES 2
    ((allDp.filter fun d => ports / 2 ^ d % 2 == 1).foldl (fun (s : State) d => s.trgQueue d e) s1).tfwdPost

def execTriggerForwardSend (s : State) : Host.Outcome State Fault Refusal := .next s.tfwdSend

/-- R396: 8 Syncs carried the entry without a result: TIMEOUT. -/
def execTriggerForwardTimeout (d : Fin 16) (s : State) : Host.Outcome State Fault Refusal :=
  .next (if 8 ≤ (s.dl d).carried then (s.injUse 0xE1 (dpPort d)).trgResult d 7 else s)

/-- R397: a received entry judged: NOLOCK, or the cause of its push; with FWD an accepted one goes on down. -/
def State.trgReceive (s : State) (d : Nat) (t : List Byte) : State :=
  let seq := beAt t 14 1
  if (s.dl d).judged.map (·.1) = some seq then s
  else
    let first := beAt t 16 6 * lsbPerSec + beAt t 22 4 * lsbPerNs + beAt t 26 2
    let out := beAt t 15 1 % 16
    let (code, s1) := if s.dlState d ≠ dlLocked then (6, s) else s.trgTry out first (beAt t 28 4) (beAt t 32 6) (beAt t 38 4)
    let s2 := s1.modDl d fun l => { l with judged := some (seq, code) }
    if code = 0 ∧ beAt t 3 1 / 4 % 2 = 1 then
      (allDp.filter fun k => s2.dlDown k && s2.dlPeer k).foldl (fun (s : State) k =>
        s.trgQueue k ⟨first, beAt t 28 4, beAt t 32 6, beAt t 38 4, out, true, false⟩) s2
    else s2

/-! ### Down (R386, R387, R393) -/

/-- QL a Sync carries: the selected slot's. DESIGN CHOICE (assumption log 84): the device's own QL at depth 0 is not given a
place by the spec; with no slot selected it is 15. -/
def State.sendQl (s : State) : Nat := match s.selected with
  | some n => s.slotQl n
  | none => 15

/-- The 44 bytes of the Sync TLV for t1. -/
def State.syncData (s : State) (d t1 : Nat) (rPhase : Int) : List Byte :=
  let l := s.dl d
  let b := s.boundReq 31 t1 none
  let (present, fwd, trg) := match l.trg, decide (l.carried < 8) with
    | e :: _, true => (2, if e.fwd then 4 else 0, trgData l.trgSeq e)
    | _, _ => (0, 0, List.replicate 28 0)
  [BitVec.ofNat 8 (eb8Of b), BitVec.ofNat 8 s.sendQl, BitVec.ofNat 8 s.ownDepth,
   BitVec.ofNat 8 ((if b < bndUnbounded && !s.isStandby && !s.draining then 1 else 0) + present + fwd + s.get F.TSU_STAT_STEP % 2 * 8)]
    ++ beBytes 4 ((s.bnd.traceSeq + (2 ^ 32 - 1)) % 2 ^ 32) ++ beBytes 4 (ofSigned 32 rPhase) ++ beBytes 2 l.linkSeq ++ trg ++ [0, 0]

/-- R386: at a whole multiple of the Sync interval a DOWN link whose port is UP asks for a slot and fills its Sync, once. The
accumulator of the lane it receives is measured by the PHY and comes with the command (R388). -/
def State.linkSync (s : State) (d due tag : Nat) (rPhase : Int) : State :=
  if !s.dlDown d || !s.portUp (dpPort d) || due % s.syncInterval d != 0 || (s.dl d).sent == some due then s
  else
    let mk (s : State) (t1 : Nat) : Option (List Byte) := s.dstFrame d 0 (t1 % lsbPerNs) (s.dl d).linkSeq (ptpTime t1) (s.linkTlv (s.syncData d t1 rPhase))
    match s.dstPin d due (s.dstLen d 10 54) tag mk with
    | some (_, s1) => s1.modDl d fun l => { l with sent := some due, linkSeq := (l.linkSeq + 1) % 65536, carried := if l.trg.isEmpty then 0 else l.carried + 1 }
    | none => s

def execLinkSyncSend (d : Fin 16) (due : Nat) (tag : Fin 65536) (rPhase : Int) (s : State) : Host.Outcome State Fault Refusal :=
  .next (s.linkSync d due tag rPhase)

/-- The TLV of a request taken by a DOWN link: PEER_LOCKED, F_PHASE and a trigger result (R387, R393, R396). -/
def State.reqTlv (s : State) (d : Nat) (t : List Byte) : State :=
  if t.length < 8 then s
  else
    let pl := beAt t 1 1 % 2 == 1
    let s1 := (((s.modDl d fun l => { l with fPhase := toSigned 32 (beAt t 4 4) }).putB (F.DST_LINKd_STAT_PEER_LOCKED d) pl).putBit
      F.DST_STAT_PEER_LOCKED d pl).raiseIf (pl != s.dlPeer d) Ev.DST_PEER_LOCK (dpPort d) (if pl then 1 else 0)
    if !s1.injOn 0xE1 (dpPort d) && !(s1.dl d).trg.isEmpty && 0 < (s1.dl d).carried && beAt t 2 1 == (s1.dl d).trgSeq then s1.trgResult d (beAt t 3 1 % 16) else s1

/-- R386: a DOWN link takes a Delay_Req and, with DELAY_MODE 0, answers with its t4. -/
def State.linkDelayReq (s : State) (d : Nat) : State :=
  if !s.dlDown d then s
  else match s.dstTake d 10 [1] with
    | .nothing s1 => s1
    | .bad s1 => s1
    | .msg x m desc s1 =>
      let s2 := s1.reqTlv d m.tlv
      match if s.flag (F.DST_LINKd_CFG_DELAY_MODE d) then none else s2.descTime desc with
      | some t4 =>
        (match s2.dstFrame d 9 ((m.corr + 2 ^ 64 - t4 % lsbPerNs) % 2 ^ 64) m.seq (ptpTime t4 ++ slice x (m.o + 20) 10) [] with
         | some f => s2.txSubmit (dpPort d) 6 (s2.dstClass d) f none f.length
         | none => s2)
      | none => s2

def execLinkDelayReqRx (d : Fin 16) (s : State) : Host.Outcome State Fault Refusal := .next (s.linkDelayReq d)

/-- R386: with DELAY_MODE 1 a DOWN link answers a Pdelay_Req with a pinned Pdelay_Resp whose correctionField holds the
turnaround; stamps of two STEP counts give none (R231). -/
def State.linkPdelayReq (s : State) (d e tag : Nat) : State :=
  if !s.dlDown d then s
  else match s.dstTake d 20 [2] with
    | .nothing s1 => s1
    | .bad s1 => s1
    | .msg x m desc s1 =>
      let s2 := s1.reqTlv d m.tlv
      match if s.flag (F.DST_LINKd_CFG_DELAY_MODE d) && desc.step == s.get F.TSU_STAT_STEP then s2.descTime desc else none with
      | some t4 =>
        let mk (s : State) (t5 : Nat) : Option (List Byte) :=
          s.dstFrame d 3 ((m.corr + t5 - t4) % 2 ^ 64) m.seq (List.replicate 10 0 ++ slice x (m.o + 20) 10) []
        (match s2.dstPin d e (s2.dstLen d 20 0) tag mk with
         | some (_, s3) => s3
         | none => s2)
      | none => s2

def execLinkPdelayReqRx (d : Fin 16) (e : Nat) (tag : Fin 65536) (s : State) : Host.Outcome State Fault Refusal :=
  .next (s.linkPdelayReq d e tag)

/-! ### Up: states (R392) -/

/-- A LOCKED link unlocks with a cause. -/
def State.dstUnlock (s : State) (d cause next : Nat) : State :=
  ((((s.setDl d next).incrSat (F.DST_LINKd_STAT_UNLOCKS d)).put (F.DST_LINKd_STAT_CAUSE d) cause).raise Ev.DST_UNLOCK (dpPort d) cause).modDl d
    fun l => { l with agree := 0, depthSaid := false }

/-- The port of an UP link enters UP: MEASURE, with everything measured before forgotten. -/
def State.dstPortUp (s : State) (p : Nat) : State :=
  if 2 ≤ p ∧ p < 18 ∧ s.dlUp (p - 2) ∧ s.dlState (p - 2) = dlIdle then
    (s.setDl (p - 2) dlMeasure).modDl (p - 2) fun l =>
      { l with sync := none, req := none, agree := 0, anchor := none, dR := [], lastExch := s.now, authRun := 0, depthSaid := false, moved := false }
  else s

/-- The port leaves UP (R392). -/
def State.dstPortDown (s : State) (p : Nat) : State :=
  if 2 ≤ p ∧ p < 18 ∧ s.dlUp (p - 2) ∧ s.dlState (p - 2) ≠ dlIdle then
    if s.dlState (p - 2) = dlLocked then (s.dstUnlock (p - 2) 4 dlIdle).showDepth else s.setDl (p - 2) dlIdle
  else s

/-! ### Up: the cable model (R389 to R391) -/

/-- Femtoseconds in stamp units. DESIGN CHOICE (assumption log 84): R389's quantities are rounded to the nearest 2^-12 ns. -/
def fsUnits (fs : Rat) : Rat := fs * 4096 / 1000000

/-- T - T_CAL in 1/256 degree; 0 with TEMP_EN at 0. DEDUCED (assumption log 50): 0 too before a valid reading. -/
def State.dstTemp (s : State) (d : Nat) : Int :=
  if s.flag (F.DST_LINKd_TCAL_TEMP_EN d) && s.flag (F.DST_LINKd_STAT_TEMP_VALID d) then
    s.getI (F.DST_LINKd_TEMP_T d) - s.getI (F.DST_LINKd_TCAL_T_CAL d) else 0

def State.alphaOf (s : State) (d : Nat) : Rat := (s.getI (F.DST_LINKd_ALPHA_ALPHA d) : Rat) / 10 ^ 12
/-- (1 + ALPHA) / (2 + ALPHA). -/
def State.split (s : State) (d : Nat) : Rat := (1 + s.alphaOf d) / (2 + s.alphaOf d)

/-- A fixed delay at the module's temperature, in stamp units. -/
def State.fixedDelay (s : State) (d : Nat) (fix k : Fld) : Int :=
  roundRat (fsUnits ((s.getI fix : Rat) + (s.getI k : Rat) * s.dstTemp d / 256))

/-- The quantities of R389 from t2 - t1 and t4 - t3 in stamp units: RTT, r, d_ms, theta. -/
def State.cableModel (s : State) (d : Nat) (a b : Int) : Int × Int × Int × Int :=
  let rtt := a + b
  let fms := s.fixedDelay d (F.DST_LINKd_FIX_MS_FIX d) (F.DST_LINKd_KT_K_MS d)
  let fsm := s.fixedDelay d (F.DST_LINKd_FIX_SM_FIX d) (F.DST_LINKd_KT_K_SM d)
  let r := rtt - fms - fsm
  let dms := fms + roundRat (r * s.split d)
  (rtt, r, dms, a - dms)

/-- theta carried from an anchor to given accumulators (R390). -/
def State.thetaAt (s : State) (d : Nat) (a : Int × Int × Int) (f r : Int) : Int :=
  let df := f - a.2.1
  let dr := r - a.2.2
  a.1 + df - roundRat ((df + dr : Int) * s.split d)

/-- B_link of R391. -/
def State.bLink (s : State) (d : Nat) : Nat :=
  let l := s.dl d
  let rps : Rat := (l.fibre.natAbs : Rat) * 1000 / 4096
  let ua : Rat := (s.get (F.DST_LINKd_UALPHA_U_ALPHA d) : Rat) / 10 ^ 12
  let dt0 : Rat := ((s.dstTemp d).natAbs : Rat) / 256
  let dt := if s.flag (F.DST_LINKd_STAT_TEMP_FAIL d) then max dt0 40 else dt0
  let dr := (l.dR.filter (fun p => decide (s.curTick < p.1 + 64))).foldl (fun m p => max m p.2) 0
  bndSat (s.get (F.DST_LINKd_UFIX_U_FIX d) + ceilNat (16 * rps * ua * 2506 / 10000) + ceilNat (16 * (s.get (F.DST_LINKd_UK_U_K d) : Rat) * dt / 1000)
    + 16 + ceilNat (8 * (dr : Rat) * 1000 / 4096))

/-! ### Up: messages -/

/-- A Sync's TLV is taken: parity, validity, depth, R_PHASE change, trigger entry (R387, R390, R392, R397). -/
def State.syncTake (s : State) (d : Nat) (x : List Byte) (m : LinkMsg) (desc : RxDesc) (t2 : Nat) (fwd : Int) : State :=
  let t := m.tlv
  let fl := beAt t 3 1
  let i : SyncInfo := ⟨m.seq, (ptpInstant x (m.o + 34) : Int) + toSigned 64 m.corr, t2, desc.step, fwd, beAt t 0 1, beAt t 1 1, beAt t 2 1, fl % 2 == 1,
    fl / 8 % 2 == 1, beAt t 4 4, toSigned 32 (beAt t 8 4)⟩
  let old := (s.dl d).sync
  let moved := match old with | some o => o.parity != i.parity | none => false
  let dr := match old with | some o => [(s.curTick, (i.rphase - o.rphase).natAbs)] | none => []
  let s1 := (s.modDl d fun l => { l with sync := some i, req := none, asked := false, authRun := 0, moved := l.moved || moved,
                                         dR := dr ++ l.dR.filter (fun p => decide (s.curTick < p.1 + 64)) }).put
    (F.DST_LINKd_STAT_DEPTH d) (min 7 i.depth)
  let s2 := if s1.dlState d = dlLocked ∧ (i.phaseValid = false ∨ i.eb8 = 0xFF) then (s1.dstUnlock d 3 dlMeasure).showDepth else s1
  let s3 := if s2.dlState d = dlMeasure ∧ 4 ≤ i.depth ∧ (s2.dl d).depthSaid = false then
      (s2.modDl d fun l => { l with depthSaid := true }).raise Ev.DST_DEPTH (dpPort d) (min 7 i.depth) else s2
  if fl / 2 % 2 = 1 then s3.trgReceive d t else s3

/-- R386: an UP link takes a Sync; `fwd` is its forward accumulator then. -/
def State.linkSyncTake (s : State) (d : Nat) (fwd : Int) : State :=
  if !s.dlUp d || s.dlState d == dlIdle then s
  else match s.dstTake d 10 [0] with
    | .nothing s1 => s1
    | .bad s1 => s1.modDl d fun l => { l with authRun := l.authRun + 1 }
    | .msg x m desc s1 =>
      match s1.descTime desc with
      | some t2 => if m.tlv.length < 44 then s1 else s1.syncTake d x m desc t2 fwd
      | none => s1

def execLinkSyncRx (d : Fin 16) (fwd : Int) (s : State) : Host.Outcome State Fault Refusal := .next (s.linkSyncTake d fwd)

/-- The 8 bytes of a request's TLV (R387). -/
def State.reqData (s : State) (d : Nat) (fPhase : Int) : List Byte :=
  let j := (s.dl d).judged.getD (0, 0)
  [BitVec.ofNat 8 s.ownDepth, if s.dlState d = dlLocked then 1 else 0, BitVec.ofNat 8 j.1, BitVec.ofNat 8 (j.2 % 16)] ++ beBytes 4 (ofSigned 32 fPhase)

/-- R386: within a quarter of the Sync interval after a Sync an UP link asks for a slot and fills its Delay_Req or
Pdelay_Req, once for each Sync. -/
def State.linkReqSend (s : State) (d e tag : Nat) (fPhase : Int) : State :=
  match (s.dl d).sync with
  | some i =>
    if !s.dlUp d || s.dlState d == dlIdle || (s.dl d).asked then s
    else
      let peer := s.flag (F.DST_LINKd_CFG_DELAY_MODE d)
      let typ := if peer then 2 else 1
      let body (t3 : Nat) : List Byte := ptpTime t3 ++ (if peer then List.replicate 10 0 else [])
      let mk (s : State) (t3 : Nat) : Option (List Byte) := s.dstFrame d typ (t3 % lsbPerNs) i.seq (body t3) (s.linkTlv (s.reqData d fPhase))
      match s.dstPin d e (s.dstLen d (if peer then 20 else 10) 18) tag mk with
      | some (t3, s1) =>
        if t3 ≤ i.t2 + s.syncInterval d / 4 then s1.modDl d fun l => { l with req := some (i.seq, t3, s1.get F.TSU_STAT_STEP), asked := true } else s
      | none => s
  | none => s

def execLinkDelayReqSend (d : Fin 16) (e : Nat) (tag : Fin 65536) (fPhase : Int) (s : State) : Host.Outcome State Fault Refusal :=
  .next (s.linkReqSend d e tag fPhase)

/-- A link may lock on its latest Sync (R392). -/
def lockable (i : SyncInfo) : Bool := i.phaseValid && i.eb8 != 0xFF && decide (i.depth ≤ 3)

/-- A complete exchange: the anchor posted, the states judged (R389, R392). -/
def State.exchange (s : State) (d : Nat) (i : SyncInfo) (a b : Int) : State :=
  let l := s.dl d
  let (rtt, r, dms, theta) := s.cableModel d a b
  let agree := match l.anchor with
    | some an => decide ((theta - s.thetaAt d an i.fwd i.rphase).natAbs * 1000 ≤ s.get (F.DST_LINKd_TRACK_TRACK_LIMIT d) * 4096)
    | none => false
  let s1 := ((((s.post (A.DST_LINKd_RES d) 0).putWideI (A.DST_LINKd_RTT d) 2 (satI 48 rtt)).putWideI (A.DST_LINKd_DMS d) 2 (satI 48 dms)).putWideI
    (A.DST_LINKd_OFS d) 2 (satI 48 theta)).incr (F.DST_LINKd_EXCH_COUNT d)
  let s2 := s1.modDl d fun l => { l with anchor := some (theta, i.fwd, i.rphase), fibre := r, lastExch := s.now, req := none, moved := false,
                                         agree := if agree then l.agree + 1 else 0 }
  if s.dlState d = dlLocked then
    (if agree || l.moved then s2 else (s2.dstUnlock d 1 dlMeasure).showDepth)
  else if s.get (F.DST_LINKd_TRACK_N_ANCHOR d) ≤ (s2.dl d).agree ∧ lockable i then
    let s3 := (s2.setDl d dlLocked).showDepth
    s3.raise Ev.DST_LOCK (dpPort d) s3.ownDepth
  else s2

/-- R389: the answer to the request in flight completes an exchange whose stamps carry one STEP count (R231, R386). -/
def State.linkResp (s : State) (d : Nat) : State :=
  if !s.dlUp d || s.dlState d == dlIdle then s
  else match s.dstTake d 20 [if s.flag (F.DST_LINKd_CFG_DELAY_MODE d) then 3 else 9] with
    | .nothing s1 => s1
    | .bad s1 => s1
    | .msg x m desc s1 =>
      match (s1.dl d).sync, (s1.dl d).req with
      | some i, some (seq, t3, step) =>
        if m.seq ≠ seq ∨ i.seq ≠ seq ∨ i.step ≠ step ∨ (s.flag (F.DST_LINKd_CFG_DELAY_MODE d) ∧ desc.step ≠ step) ∨ s1.get F.TSU_STAT_STEP ≠ step then s1
        else
          let corr := toSigned 64 m.corr - (t3 % lsbPerNs : Nat)
          let i := { i with t2 := ((i.t2 : Int) + s.injArg 0xE0 (dpPort d) * 65536 / 1000).toNat }
          let s1 := s1.injUse 0xE0 (dpPort d)
          let b : Option Int := if s.flag (F.DST_LINKd_CFG_DELAY_MODE d) then
              (s1.descTime desc).map fun t6 => (t6 : Int) - t3 - corr - (i.t2 - i.t1)
            else some ((ptpInstant x (m.o + 34) : Int) - corr - t3)
          match b with
          | some b => s1.exchange d i ((i.t2 - i.t1) / 16) (b / 16)
          | none => s1
      | _, _ => s1

def execLinkDelayRespRx (d : Fin 16) (s : State) : Host.Outcome State Fault Refusal := .next (s.linkResp d)

/-- R392: 16 Sync intervals without a complete exchange. -/
def State.linkQuiet (s : State) (d : Nat) : State :=
  if s.dlUp d && s.dlState d == dlLocked && decide ((s.dl d).lastExch + 16 * s.syncInterval d ≤ s.now) then
    (s.dstUnlock d (if 16 ≤ (s.dl d).authRun then 5 else 2) dlMeasure).showDepth
  else s

def execLinkSilence (d : Fin 16) (s : State) : Host.Outcome State Fault Refusal := .next (s.linkQuiet d)

/-- R389: a reading of the module's temperature, or none acknowledged. DESIGN CHOICE (assumption log 84): a valid reading
clears TEMP_FAIL. -/
def State.linkTemp (s : State) (d : Nat) (r : Option (BitVec 16)) : State :=
  if !s.dlUp d || !s.flag (F.DST_LINKd_TCAL_TEMP_EN d) then s
  else match r with
    | some v => (((s.put (F.DST_LINKd_TEMP_T d) v.toNat).putB (F.DST_LINKd_STAT_TEMP_VALID d) true).putB (F.DST_LINKd_STAT_TEMP_FAIL d) false).modDl d
        fun l => { l with naks := 0 }
    | none =>
      let s1 := s.modDl d fun l => { l with naks := l.naks + 1 }
      if 3 ≤ (s1.dl d).naks then
        (s1.putB (F.DST_LINKd_STAT_TEMP_FAIL d) true).raiseIf (!s.flag (F.DST_LINKd_STAT_TEMP_FAIL d)) Ev.DST_TEMP_FAIL (dpPort d)
      else s1

/-- The reading falls at a boundary of 64 ticks, once. -/
def execLinkTempRead (d : Fin 16) (r : Option (BitVec 16)) (s : State) : Host.Outcome State Fault Refusal :=
  .next (if s.atTick ∧ s.curTick % 64 = 0 ∧ (s.dl d).tempTick ≠ some s.curTick then
    (s.modDl d fun l => { l with tempTick := some s.curTick }).linkTemp d r else s)

/-! ### The tick and the step -/

/-- The forward accumulators measured at a tick boundary, by port index. -/
def laneOf (l : List (Nat × Int)) (p : Nat) : Option Int := (l.find? (fun x => x.1 == p)).map (·.2)

/-- One UP link at a tick boundary: B_link, and to its slot validity, QL and the sample of theta with its claim (R390). -/
def State.dstLinkTick (s : State) (lanes : List (Nat × Int)) (d : Nat) : State :=
  if !s.dlUp d then s
  else
    let locked := s.dlState d == dlLocked
    let b := s.bLink d
    let s1 := s.putWide (A.DST_LINKd_BLINK d) 2 b
    (s1.slotsOf 4 (s.get (F.DST_LINKd_CFG_UP_INDEX d))).foldl (fun (s : State) n =>
      let s2 := s.modSl n fun sl => { sl with active := locked }
      match locked, (s.dl d).sync, (s.dl d).anchor with
      | true, some i, some an =>
        let f := (laneOf lanes (dpPort d)).getD i.fwd
        ((s2.setQl n (min i.ql 15)).modSl n fun sl => { sl with seen := true, lastEdge := s.now }).refPhase n (s.thetaAt d an f i.rphase) s.now
          (some (bndAdd (if i.eb8 = 0xFF then bndUnbounded else eb8Value i.eb8) b)) i.trace 0
      | _, _, _ => s2) s1

def State.dstTick (s : State) (lanes : List (Nat × Int)) : State := (allDp.foldl (fun (s : State) d => s.dstLinkTick lanes d) s).showDepth

/-- A step of this end's voted time is applied to both accumulators: the anchor's offset moves with it (R392). -/
def State.dstOwnStep (s : State) (d : Int) : State :=
  s.modDst fun c => { c with links := c.links.map fun l =>
    { l with anchor := l.anchor.map (fun a => (a.1 + d / 16, a.2)), req := none, lastExch := ((l.lastExch : Int) + d).toNat } }

end Sys2Proof.Machine
end

