-- ==== Sys2Proof/Machine/Par.lean ====
section
/-!
DEFINITION. The pair of units (16_pair_redundancy.md R402 to R421): roles, vintages on the active and the standby side,
the heartbeat, resignation and takeover. The spec names the contents of HELLO, EXCH, OPEN, STATE and SEAL payloads and not
their layout: what such a frame carries comes with the command, and what is sent goes through an opaque layout (assumption
log 19).
-/
namespace Sys2Proof.Machine

open Sys2Proof

def prDiscover : Nat := 0
def prActive : Nat := 1
def prStandby : Nat := 2

def cpEmpty : Nat := 0
def cpCurrent : Nat := 1
def cpStale : Nat := 2

/-- PP's port index (R32). -/
def ppPort : Nat := 18

def State.pairEn (s : State) : Bool := s.flag F.PAR_CFG_PAIR_EN
def State.role (s : State) : Nat := s.get F.PAR_STAT_ROLE
def State.isActive (s : State) : Bool := s.pairEn && s.role == prActive
def State.ppUp (s : State) : Bool := s.portUp ppPort
def State.copy (s : State) : Nat := s.get F.PAR_STAT_COPY

/-- Kind of item of a vintage in the Cellar counts (R43, R410). -/
def kindVintage : Nat := 4

/-! ### Frames (R406) -/

def tyHello : Nat := 1
def tyExch : Nat := 2
def tyOpen : Nat := 3
def tyState : Nat := 4
def tyRecords : Nat := 5
def tySeal : Nat := 6
def tyAck : Nat := 7
def tyResign : Nat := 8

/-- A frame to the peer: the header of R406 and a payload. -/
def State.pairFrame (s : State) (ty gen seq : Nat) (payload : List Byte) : List Byte :=
  beBytes 6 Config.peerAddr ++ beBytes 6 (s.portAddr ppPort) ++ beBytes 2 (s.get F.PAR_ETYPE_ETYPE) ++ leBytes 1 1 ++ leBytes 1 ty ++ leBytes 4 gen
    ++ leBytes 2 seq ++ payload

/-- The PP class of the pair: the lowest with SOURCE 5. -/
def State.pairClass (s : State) : Nat := ((List.range 8).find? (fun c => s.get (F.PRT_x_TXCc_CFG_SOURCE ppPort c) == 5)).getD 0

def State.pairSend (s : State) (ty gen seq : Nat) (payload : List Byte) : State :=
  let f := s.pairFrame ty gen seq payload
  s.txSubmit ppPort 5 s.pairClass f none f.length

/-- A received frame's header and payload. -/
structure PairMsg where
  ty : Nat
  gen : Nat
  seq : Nat
  payload : List Byte
  deriving DecidableEq, Repr

def pairMsgOf (d : List Byte) : PairMsg :=
  let l := d.drop ((tagsOf d).etOfs + 2)
  ⟨leNat (slice l 1 1), leNat (slice l 2 4), leNat (slice l 6 2), l.drop 8⟩

def State.isPair (s : State) (ty : Nat) (f : RxFrame) : Bool :=
  etherType f.data == s.get F.PAR_ETYPE_ETYPE && beAt f.data ((tagsOf f.data).etOfs + 2) 1 == 1 && (pairMsgOf f.data).ty == ty

/-- The first 16 bytes of HMAC-SHA-256 under the pair's key; none without AUTH_EN or without a usable key (R406). -/
def State.pairMac (s : State) (x : List Byte) : List Byte :=
  if s.flag F.PAR_CFG_AUTH_EN then (match s.hwKey (s.get F.PAR_KEY_HANDLE) with | some k => (hmac k x).take 16 | none => []) else []

/-- The MAC of received bytes is right, where AUTH_EN asks for one. -/
def State.pairMacOk (s : State) (x mac : List Byte) : Bool :=
  !s.flag F.PAR_CFG_AUTH_EN || (mac.length == 16 && s.pairMac x == mac)

/-- The bytes of a RESIGN frame that its MAC covers: the header and the payload before it. -/
def resignBody (gen seq : Nat) (payload : List Byte) : List Byte := leBytes 1 1 ++ leBytes 1 tyResign ++ leBytes 4 gen ++ leBytes 2 seq ++ payload

/-- The oldest frame of a type in the queue bound to consumer 6. -/
def State.pairTake (s : State) (ty : Nat) : Option PairMsg × State :=
  match s.takeRx ppPort 6 (s.isPair ty) with
  | (some f, s1) => (some (pairMsgOf f.data), s1)
  | (none, s1) => (none, s1)

/-! ### Roles (R402, R403, R414) -/

/-- PAIR_ROLE_OUT: high while the unit is ACTIVE. -/
def State.pairRoleOut (s : State) : Bool := s.role == prActive

/-- A change of role, with its event. A tamper before the unit became ACTIVE is no cause of a later resignation (DEDUCED,
assumption log 85). -/
def State.setRole (s : State) (r : Nat) : State :=
  if s.role = r then s
  else
    let s1 := (s.put F.PAR_STAT_ROLE r).raise Ev.PAR_ROLE noInst (s.role + 16 * r)
    if r = prActive then s1.modPar fun p => { p with since := s.now, tampered := false }
    else if r = prStandby then (s1.put F.PAR_STAT_COPY cpEmpty).put F.PAR_STAT_MISSED 0
    else s1

/-- R414: the unit resigns: the wire and the frame, its outputs, admission, the event; it follows as STANDBY. DESIGN CHOICE
(assumption log 85): STANDBY begins at once, PAIR_RESIGN_OUT is released 1 s later. -/
def State.resign (s : State) (detail : Nat) : State :=
  let s1 := s.modPar fun p => { p with resignOut := some s.now, openV := none, sealedV := none }
  let gen := s1.get F.PAR_GEN_SEALED_GEN
  let pay := Config.pairPayload tyResign []
  let s2 := if s1.ppUp then s1.pairSend tyResign gen 0 (pay ++ s1.pairMac (resignBody gen 0 pay)) else s1
  let s3 := (((s2.putB F.SVC_STAT_OPEN false).raise Ev.PAR_RESIGN noInst detail).setRole prStandby)
  s3.clkGate

/-- R414: a RESIGN command on an ACTIVE unit of a pair; from the SPI port it is ignored (R420). -/
def execPairResign (path : Path) (s : State) : Host.Outcome State Fault Refusal :=
  .next (if s.isActive && path != .spi then s.resign 7 else s)

/-- R414: PAIR_RESIGN_OUT is released 1 s after the resignation. -/
def execResignRelease (s : State) : Host.Outcome State Fault Refusal :=
  .next (match s.par.resignOut with
    | some t => if t + lsbPerSec ≤ s.now then s.modPar fun p => { p with resignOut := none } else s
    | none => s)

/-- R402: a unit whose PP is UP sends HELLO every 10 ms (in every role: DEDUCED, assumption log 51). -/
def execHelloSend (s : State) : Host.Outcome State Fault Refusal :=
  .next (if s.pairEn && s.ppUp && s.par.helloAt.all (fun t => decide (t + lsbPerSec / 100 ≤ s.now)) then
      (s.modPar fun p => { p with helloAt := some s.now }).pairSend tyHello 0 0 (Config.pairPayload tyHello
        [(s.wide A.PAR_SERIAL 2 : Nat), s.get F.PAR_CFG_PREF, s.role, (s.par.since : Nat), s.get F.PAR_GEN_COMMIT_GEN])
    else s)

/-- Order of PREF: 1, 0, 2. -/
def prefOrder (p : Nat) : Nat := if p = 1 then 0 else if p = 0 then 1 else 2

/-- Every live record's dirty bit set: a full copy (R411). -/
def State.dirtyAll (s : State) : State :=
  s.modLdr fun l => { l with dirty := (List.range (2 ^ s.larderLog2)).filter (fun i => l.dirty.contains i || !s.recEmpty i) }

/-- R402, R411, R416: a HELLO settles the role of a discovering unit, and a contest of two active ones; a peer that has
entered STANDBY gets a full copy. DESIGN CHOICE (assumption log 85): beside a STANDBY peer a discovering unit stays in
DISCOVER, and the DETAIL of a resignation by a lost contest is a free value. -/
def State.hello (s : State) (h : PairHello) : State :=
  let own := s.wide A.PAR_SERIAL 2
  let s1 := (s.putWide A.PAR_PEER_SERIAL 2 h.serial).modPar fun p => { p with peerRole := h.role, peerSince := h.since }
  if s.role = prDiscover then
    if h.role = 1 then s1.setRole prStandby
    else if h.role = 0 then
      let pref := s.get F.PAR_CFG_PREF
      let first := if pref = h.pref.val then decide (own < h.serial) else decide (prefOrder pref < prefOrder h.pref)
      s1.setRole (if first then prActive else prStandby)
    else s1
  else if s.role = prActive ∧ h.role = 1 then
    let lose := decide (h.since < s.par.since) || (h.since == s.par.since && decide (h.serial < own))
    let s2 := s1.raise Ev.PAR_DUAL_ACTIVE noInst (if lose then 1 else 0)
    if lose then s2.fresh.2.resign (s2.fresh.1 % 8) else s2
  else if s.role = prActive ∧ h.role = 2 ∧ s.par.peerRole ≠ prStandby then s1.dirtyAll
  else s1

def execHelloRx (h : PairHello) (s : State) : Host.Outcome State Fault Refusal :=
  .next (if !s.pairEn then s else match s.pairTake tyHello with
    | (some _, s1) => s1.hello h
    | (none, s1) => s1)

/-- R402: PP did not come UP within DISCOVER_WAIT; `arb` is the level of ARB_IN. -/
def State.discoverEnd (s : State) (arb : Bool) : State :=
  if !s.pairEn || s.role != prDiscover || s.ppUp then s
  else if s.flag F.PAR_CFG_ARB_EN then (s.putB F.PAR_STAT_ARB arb).setRole (if arb then prActive else prStandby)
  else if !s.flag F.PAR_STAT_PEER_PPS then s.setRole prActive
  else if s.flag F.PAR_STAT_PEER_ACTIVE then s.setRole prStandby
  else s.setRole (if s.get F.PAR_CFG_PREF = 1 then prActive else prStandby)

def execDiscoverTimeout (arb : Bool) (s : State) : Host.Outcome State Fault Refusal := .next (s.discoverEnd arb)

/-- R411: RESYNC makes an ACTIVE unit send a full copy. -/
def execPairResync (path : Path) (s : State) : Host.Outcome State Fault Refusal :=
  .next (if s.isActive && path != .spi then s.dirtyAll else s)

/-- R415: a TAKEOVER command waits for the tick. -/
def execPairTakeoverCmd (path : Path) (s : State) : Host.Outcome State Fault Refusal :=
  .next (if s.isStandby && path != .spi then s.modPar fun p => { p with takeCmd := true } else s)

/-! ### The active side (R404 to R408, R411) -/

/-- The state sections at this boundary (R405). -/
def State.vintNow (s : State) : VintState :=
  { closing := s.now, core := s.votedCore s.now, offset := s.offsetTerm, epoch := s.get F.BND_EPOCH_EPOCH, traceSeq := s.bnd.traceSeq,
    taiUtc := s.utcOffset, leap := if s.flag F.KPR_UTC_STAT_PENDING then some (s.kpr.leapM, s.flag F.KPR_UTC_STAT_DIR) else none,
    dsc := s.dstate, sel := s.selected, ql := s.sendQl, upSeq := match s.selected with | some n => s.get (F.REF_SLOTn_UPSEQ_UP_SEQ n) | none => 0xFFFFFFFF,
    gens := (List.range 4).map (fun f => s.get (F.KEY_CKf_CFG_GEN f)),
    trg := (List.finRange 16).flatMap fun (k : Fin 16) => (s.trgOut k.val).entries.map fun e => PairTrg.mk k e.first e.width e.period e.count e.next }

/-- The contents of STATE as numbers, for its opaque layout. -/
def vintNumbers (v : VintState) : List Int :=
  ([((v.closing : Nat) : Int), ((v.core : Nat) : Int), ((v.offset : Nat) : Int), ((v.epoch : Nat) : Int), ((v.traceSeq : Nat) : Int), v.taiUtc,
    ((match v.leap with | some (m, d) => 2 * m + (if d then 1 else 0) + 1 | none => 0 : Nat) : Int), ((v.dsc : Nat) : Int),
    ((match v.sel with | some n => n + 1 | none => 0 : Nat) : Int), ((v.ql : Nat) : Int), ((v.upSeq : Nat) : Int)] : List Int) ++ v.gens.map Int.ofNat
    ++ v.trg.flatMap (fun (t : PairTrg) => ([((t.k.val : Nat) : Int), ((t.first : Nat) : Int), ((t.width : Nat) : Int), ((t.period : Nat) : Int), ((t.count : Nat) : Int), ((t.next : Nat) : Int)] : List Int))

/-- A discarded vintage: its records dirty again, counted, reported (R411). -/
def State.discardV (s : State) (v : Vintage) (cause : Nat) : State :=
  let s1 := if v.full then s.dirtyAll else v.log.foldl (fun (s : State) i => s.markDirty i) s
  (((s1.incr F.PAR_DISCARDED_COUNT).post A.PAR_VINT_RES 6).putKt (A.PAR_VINT_T 0) v.st.closing).raise Ev.PAR_VINTAGE_FAIL noInst (cause + 256 * (v.gen % 2 ^ 24))

/-- Both vintages of the active side discarded: the crossing flushed, or PP left UP. -/
def State.discardAll (s : State) : State :=
  let one (s : State) (o : Option Vintage) : State := match o with | some v => s.discardV v 2 | none => s
  (one (one s s.par.sealedV) s.par.openV).modPar fun p => { p with openV := none, sealedV := none }

/-- R404: an exchange over PP: an EXCH frame pinned for `e`. -/
def State.exchSend (s : State) (e tag : Nat) : State :=
  let f (t : Nat) := s.pairFrame tyExch s.par.nextGen 0 (Config.pairPayload tyExch [(t : Nat)])
  let s0 := s.modPrt fun k => { k with reports := k.reports.filter (fun r => !(r.src == 5 && r.port == ppPort && r.tag == tag)) }
  let g := s0.reserve ppPort s.pairClass 5 e (wireLen (f 0)) false tag
  match g.1 with
  | .granted _ t3 _ => g.2.pinFill ppPort 5 tag (f t3)
  | .refused _ => s

/-- R404, R408, R412: a vintage boundary, a tick boundary whose count is a multiple of 64. The active side swaps the bitmaps
and opens a vintage, or goes on with one not drained; the standby side counts a boundary without a commit. DESIGN CHOICE
(assumption log 85): each side pins its own EXCH frame of the exchange at the boundary. -/
def State.vintageBoundary (s : State) (e tag : Nat) : State :=
  if !s.pairEn || !s.atTick || s.curTick % 64 != 0 || s.par.lastTick == s.curTick + 1 then s
  else
    let s0 := s.modPar fun p => { p with lastTick := s.curTick + 1 }
    if s.role = prStandby then (if s.ppUp then s0.exchSend e tag else s0).incrSat F.PAR_STAT_MISSED
    else if s.role = prActive ∧ s.ppUp then
      let s1 := s0.dirtySwap.exchSend e tag
      match s1.par.openV with
      | some v => s1.modPar fun p => { p with openV := some { v with st := s.vintNow } }
      | none =>
        let gen := s1.par.nextGen
        let pay := Config.pairPayload tyOpen [(gen : Nat)]
        (s1.modPar fun p => { p with nextGen := (gen + 1) % 2 ^ 32, openV := some ⟨gen, [pay], [], false, s.vintNow, 0⟩ }).pairSend tyOpen gen 0 pay
    else s0.dirtySwap

def execVintageBoundary (e : Nat) (tag : Fin 65536) (s : State) : Host.Outcome State Fault Refusal := .next (s.vintageBoundary e tag)

/-- A record as it is sent: a 7-byte mask and the non-zero bytes among its first 52 (R407). -/
def packRec (b : List Byte) : List Byte :=
  let l := b.take 52
  leBytes 7 ((List.range 52).foldl (fun a i => a + (if (l[i]?).getD 0 = 0 then 0 else 2 ^ i)) 0) ++ l.filter (· != 0)

/-- The bytes 0 to 51 that a mask and the bytes it marks spell, and the rest. -/
def unpackBytes : Nat → Nat → List Byte → List Byte × List Byte
  | 0, _, l => ([], l)
  | n + 1, m, l =>
    if m % 2 = 1 then
      match l with
      | b :: r => let (x, y) := unpackBytes n (m / 2) r; (b :: x, y)
      | [] => let (x, y) := unpackBytes n (m / 2) []; (0 :: x, y)
    else let (x, y) := unpackBytes n (m / 2) l; (0 :: x, y)

/-- The records of a RECORDS payload, as 64 bytes each with bytes 52 to 63 at 0. -/
def unpackRecs : Nat → List Byte → List (List Byte)
  | 0, _ => []
  | n + 1, l =>
    if l.length < 7 then []
    else
      let (x, y) := unpackBytes 52 (leNat (l.take 7)) (l.drop 7)
      (x ++ List.replicate 12 0) :: unpackRecs n y

/-- Records gathered into payloads of at most `cap` bytes, none split. -/
def recFrames (cap : Nat) (l : List (List Byte)) : List (List Byte) :=
  l.foldl (fun a b => match a.getLast? with
    | some f => if f.length + b.length ≤ cap then a.dropLast ++ [f ++ b] else a ++ [b]
    | none => [b]) []

/-- The PAR_LOG region holds one index per record of the Larder (R420). -/
def State.logCap (s : State) : Nat := 2 ^ s.larderLog2

/-- Indices written to PAR_LOG from position `n` on, 4 bytes each, while it has room (R408). DEDUCED (assumption log 85): an
index is little-endian and the log is full when it cannot take one more. -/
def State.logWrite (s : State) (n : Nat) (l : List Nat) : State :=
  let room := l.take (s.logCap - n)
  if room.isEmpty then s else s.dramWrite (s.wide A.PAR_LOG_BASE 2 + 4 * n) (room.flatMap (leBytes 4))

/-- R408: the closed bitmap is drained: the records not empty, then STATE and SEAL of the open vintage. A log that fills makes
every live record dirty (R411). -/
def State.vintageDrained (s : State) : State :=
  match s.par.openV with
  | none => s
  | some v =>
    if !s.isActive || !s.ppUp then s
    else
      let idx := s.ldr.closed.filter (fun i => !s.recEmpty i)
      let pays := recFrames (s.maxLen ppPort - 26) (idx.map fun i => packRec (s.recBytes i))
      let st := Config.pairPayload tyState (vintNumbers v.st)
      let frames := v.frames ++ pays ++ [st]
      let all := frames.flatten
      let mac := (s.pairMac all).map fun b => (b.toNat : Int)
      let s1 := s.modLdr fun l => { l with closed := [] }
      let s2 := (List.range pays.length).foldl (fun (s : State) i => s.pairSend tyRecords v.gen (v.frames.length + i) ((pays[i]?).getD [])) s1
      let s3 := (s2.pairSend tyState v.gen (frames.length - 1) st).pairSend tySeal v.gen frames.length
        (Config.pairPayload tySeal ([(frames.length : Int), all.length, if s.injOn 0xE3 0 then 2 ^ 32 - 1 - crc32 all else crc32 all] ++ mac))
      let log := v.log ++ idx
      let full := v.full || decide (s.logCap < log.length)
      let v1 := { v with frames := frames, log := log, full := full, sealedAt := s.curTick }
      let s4 := ((s3.logWrite v.log.length idx).injUse 0xE3 0)
      ((((if full ∧ v.full = false then s4.dirtyAll else s4).modPar fun p => { p with openV := none, sealedV := some v1 }).put F.PAR_GEN_SEALED_GEN v.gen).incr F.PAR_SENT_COUNT).incr
        F.PAR_RECORDS_COUNT idx.length

def execVintageDrained (s : State) : Host.Outcome State Fault Refusal := .next s.vintageDrained

/-- R411: ACK for the sealed vintage. -/
def execVintageAckRx (s : State) : Host.Outcome State Fault Refusal :=
  .next (match s.pairTake tyAck with
    | (some m, s1) => (match s1.par.sealedV with
      | some v => if v.gen = m.gen then (s1.modPar fun p => { p with sealedV := none }).put F.PAR_GEN_COMMIT_GEN v.gen else s1
      | none => s1)
    | (none, s1) => s1)

/-- R411: no ACK within 8 ticks of SEAL. -/
def execVintageAckTimeout (s : State) : Host.Outcome State Fault Refusal :=
  .next (match s.par.sealedV with
    | some v => if v.sealedAt + 8 ≤ s.curTick then (s.discardV v 3).modPar fun p => { p with sealedV := none } else s
    | none => s)

/-! ### The standby side (R404, R409, R410, R412) -/

/-- R404: theta of a boundary from the exchange's stamps in 2^-16 ns, to the nearest stamp LSB (DESIGN CHOICE, assumption log
85). -/
def State.pairTheta (s : State) (t1 t2 t3 t4 : Int) : Int :=
  roundRat ((((t2 - t1) - (t4 - t3) : Int) / (16 : Rat) - fsUnits ((s.getI F.PAR_FIX_AS_FIX : Rat) - s.getI F.PAR_FIX_SA_FIX)) / 2)

/-- The exchange of a boundary ends: the active side answers the peer's frame with an EXCH frame of its own (DESIGN CHOICE,
assumption log 85), the standby side holds theta until the vintage of that boundary commits. -/
def execPairExchRx (t1 t2 t3 t4 : Int) (boundary : Nat) (s : State) : Host.Outcome State Fault Refusal :=
  .next (if !s.pairEn then s else match s.pairTake tyExch with
    | (some m, s1) =>
      if s.role = prActive then s1.pairSend tyExch m.gen m.seq (Config.pairPayload tyExch [t3, t4])
      else if s.role ≠ prStandby then s1
      else s1.modPar fun p => { p with thetas := ((boundary, s.pairTheta t1 t2 t3 t4) :: p.thetas).take 64 }
    | (none, s1) => s1)

/-- Client key bytes of a record. -/
def recKey (b : List Byte) : List Byte := b.take 17

/-- A record staged: the newer copy of its key, or a free place in one of its two buckets of 8, else dropped (R409). -/
def State.stageRec (s : State) (b : List Byte) : State :=
  let st := s.par.stage
  if st.any (fun p => recKey p.2 == recKey b) then
    s.modPar fun p => { p with stage := p.stage.map (fun x => if recKey x.2 = recKey b then (x.1, b) else x) }
  else
    let h := s.hash (b.take 16) (leNat (slice b 16 1))
    let n (k : Nat) : Nat := (st.filter (fun p => p.1 == k)).length
    if n h.b1 < 8 then s.modPar fun p => { p with stage := p.stage ++ [(h.b1, b)] }
    else if n h.b2 < 8 then s.modPar fun p => { p with stage := p.stage ++ [(h.b2, b)] }
    else s.incr F.PAR_COPY_DROP_COUNT

/-- The vintage under reception becomes `gen`; what an unfinished earlier one staged is gone. -/
def State.rxGenIs (s : State) (gen : Nat) : State :=
  if s.par.rxGen = gen then s else s.modPar fun p => { p with rxGen := gen, rxFrames := [], stage := [] }

/-- R409: a RECORDS frame is staged. -/
def State.recordsRx (s : State) (m : PairMsg) : State :=
  let s1 := (s.rxGenIs m.gen).modPar fun p => { p with rxFrames := p.rxFrames ++ [(m.seq, m.payload)] }
  (unpackRecs (m.payload.length + 1) m.payload).foldl (fun (s : State) b => s.stageRec b) s1

def execVintageRecordsRx (s : State) : Host.Outcome State Fault Refusal :=
  .next (if !s.isStandby then s else match s.pairTake tyRecords with
    | (some m, s1) => s1.recordsRx m
    | (none, s1) => s1)

/-- A result of a vintage on the standby. -/
def State.vintPost (s : State) (result closing : Nat) : State := (s.post A.PAR_VINT_RES (2 * result)).putKt (A.PAR_VINT_T 0) closing

/-- A frame put before the first of a list that has not a lower FRAME_SEQ. -/
def insFrame (x : Nat × List Byte) : List (Nat × List Byte) → List (Nat × List Byte)
  | [] => [x]
  | y :: l => if x.1 ≤ y.1 then x :: y :: l else y :: insFrame x l

/-- The frames of the vintage in FRAME_SEQ order. -/
def orderFrames (l : List (Nat × List Byte)) : List (List Byte) := (l.foldr insFrame []).map (·.2)

/-- The current vintage has reached its outcome (R410). -/
def State.currentDone (s : State) : State :=
  match s.par.current with
  | some _ => (s.countUp (A.CLR_RESk kindVintage)).modPar fun p => { p with current := none }
  | none => s

/-- The sections of a committed vintage applied (R405). -/
def State.applySections (s : State) (v : VintState) : State :=
  let s1 := match v.leap with
    | some (m, del) => if s.flag F.KPR_UTC_STAT_PENDING && s.kpr.leapM == m && s.flag F.KPR_UTC_STAT_DIR == del then s else s.leapArm (some (m, del)) false
    | none => s
  let s2 := (allSlots.filter (fun n => s1.slotType n == 5)).foldl (fun (s : State) n => s.setQl n (min v.ql 15)) s1
  let rolls := (List.range 4).flatMap fun f => List.replicate (((v.gens[f]?).getD (s1.get (F.KEY_CKf_CFG_GEN f)) + 65536 - s1.get (F.KEY_CKf_CFG_GEN f)) % 65536) f
  s2.modKey fun k => { k with rolls := k.rolls ++ rolls }

/-- R409: the vintage commits. -/
def State.vintCommit (s : State) (gen : Nat) (v : VintState) : State :=
  let th := (s.par.thetas.find? (fun p => p.1 == v.closing)).map (·.2)
  let s1 := ((s.currentDone.pairSend tyAck gen 0 (Config.pairPayload tyAck [])).countUp (A.CLR_ACCk kindVintage)).applySections v
  let s2 := ((((s1.put F.PAR_GEN_COMMIT_GEN gen).put F.PAR_STAT_COPY cpCurrent).put F.PAR_STAT_MISSED 0).putB F.PAR_STAT_APPLYING true).vintPost 1 v.closing
  let s3 := match th with | some t => s2.putWideI A.PAR_OFS 2 (satI 48 t) | none => s2
  s3.modPar fun p => { p with
    current := some (v, th.getD 0), insert := p.insert ++ p.stage.map (·.2), rxFrames := [], stage := [],
    thetas := p.thetas.filter (fun x => decide (v.closing < x.1)),
    sample := match th with | some t => some (t, v.closing, v.core, v.upSeq, v.ql) | none => p.sample }

/-- The vintage fails a check: what it staged is discarded whole. -/
def State.vintFail (s : State) (gen closing cause result : Nat) : State :=
  (((s.modPar fun p => { p with rxFrames := [], stage := [] }).incr F.PAR_DISCARDED_COUNT).vintPost result closing).raise Ev.PAR_VINTAGE_FAIL noInst
    (cause + 256 * (gen % 2 ^ 24))

/-- OPEN and STATE frames of a generation waiting in the queue join what was received. -/
def State.takeOthers (s : State) : Nat → State
  | 0 => s
  | n + 1 =>
    match s.takeRx ppPort 6 (fun f => s.isPair tyOpen f || s.isPair tyState f) with
    | (some f, s1) =>
      let m := pairMsgOf f.data
      ((s1.rxGenIs m.gen).modPar fun p => { p with rxFrames := p.rxFrames ++ [(m.seq, m.payload)] }).takeOthers n
    | (none, s1) => s1

/-- R406, R409: SEAL is checked against what was received. -/
def State.sealRx (s : State) (m : PairMsg) (x : PairSeal) (v : VintState) : State :=
  let s1 := (s.takeOthers 64).rxGenIs m.gen
  let frames := orderFrames s1.par.rxFrames
  let all := frames.flatten
  let macOk := s1.pairMacOk all x.mac
  if frames.length = x.frames ∧ all.length = x.bytes ∧ crc32 all = x.crc ∧ macOk then s1.vintCommit m.gen v
  else s1.vintFail m.gen v.closing 1 2

def execVintageSealRx (x : PairSeal) (v : VintState) (s : State) : Host.Outcome State Fault Refusal :=
  .next (if !s.isStandby then s else match s.pairTake tySeal with
    | (some m, s1) => s1.sealRx m x v
    | (none, s1) => s1)

/-- A record of a committed vintage inserted into the Larder by its key (R283, R409). -/
def State.insertCopy (s : State) (b : List Byte) : State :=
  let addr := b.take 16
  let kclass := leNat (slice b 16 1)
  let h := s.hash addr kclass
  let at_ := match h.records.find? (fun i => !s.recEmpty i && (s.record i).addr == addr && (s.record i).kclass == kclass) with
    | some i => some i
    | none => s.victim h
  match at_ with
  | none => s.incr F.PAR_COPY_DROP_COUNT
  | some i =>
    let empty := s.recEmpty i
    let s1 := match s.lineOf i with | some n => s.dropLine n | none => s
    let s2 := (s1.putRecord i b).incr F.PAR_RECORDS_COUNT
    if empty then s2.put F.LDR_LIVE_LIVE (s2.get F.LDR_LIVE_LIVE + 1) else s2

/-- R409: the committed records are all inserted. -/
def State.insertDone (s : State) : State :=
  ((s.par.insert.foldl (fun (s : State) b => s.insertCopy b) s).modPar fun p => { p with insert := [] }).putB F.PAR_STAT_APPLYING false

def execRecordInsertDone (s : State) : Host.Outcome State Fault Refusal := .next s.insertDone

/-- R412: 16 boundaries without a commit. -/
def execCopyStale (s : State) : Host.Outcome State Fault Refusal :=
  .next (if s.isStandby && s.copy == cpCurrent && decide (16 ≤ s.get F.PAR_STAT_MISSED) then
      (s.put F.PAR_STAT_COPY cpStale).raise Ev.PAR_STALE noInst (s.get F.PAR_GEN_COMMIT_GEN)
    else s)

/-! ### The heartbeat (R413, R416) -/

/-- Width of a pulse: 2 the active one, 1 the standby one, to 20 ms; 0 neither. -/
def widthKind (us : Nat) : Nat := if 180000 ≤ us ∧ us ≤ 220000 then 2 else if 80000 ≤ us ∧ us ≤ 120000 then 1 else 0

/-- Two units active with PP down and the wire showing the active width: the one that took over by cause 4 resigns. -/
def State.dualCheck (s : State) : State :=
  if s.isActive && !s.ppUp && s.flag F.PAR_STAT_PEER_ACTIVE then
    let lose := s.par.tookBy == 4
    let s1 := s.raise Ev.PAR_DUAL_ACTIVE noInst (if lose then 1 else 0)
    if lose then s1.fresh.2.resign (s1.fresh.1 % 8) else s1
  else s

/-- R413: a rising edge on PEER_PPS_IN with the width of its pulse. -/
def State.peerEdge (s : State) (t us : Nat) : State :=
  let paired := match s.par.edge with
    | some u => decide (u ≤ t ∧ t - u ≤ lsbPerSec + lsbPerUs * 1000 ∧ lsbPerSec ≤ t - u + lsbPerUs * 1000)
    | none => false
  let back := paired && !s.flag F.PAR_STAT_PEER_PPS
  let was := s.flag F.PAR_STAT_PEER_ACTIVE
  let s1 := (s.modPar fun p => { p with edge := some t, width := widthKind us }).putB F.PAR_STAT_PEER_ACTIVE (widthKind us == 2)
  let s2 := if back then (s1.putB F.PAR_STAT_PEER_PPS true).raise Ev.PAR_PEER_PPS noInst (if s.ppUp then 2 else 0) else s1
  if was then s2 else s2.dualCheck

def execPeerPpsEdge (t us : Nat) (s : State) : Host.Outcome State Fault Refusal := .next (if s.pairEn then s.peerEdge t us else s)

/-- R413: no rising edge for PPS_TIMEOUT. -/
def State.peerLost (s : State) : State :=
  match s.par.edge with
  | some t =>
    if s.pairEn && s.flag F.PAR_STAT_PEER_PPS && decide (t + s.get F.PAR_TIMERS_PPS_TIMEOUT * 1000 * lsbPerUs ≤ s.now) then
      ((s.putB F.PAR_STAT_PEER_PPS false).putB F.PAR_STAT_PEER_ACTIVE false).raise Ev.PAR_PEER_PPS noInst (1 + (if s.ppUp then 2 else 0))
    else s
  | none => s

def execPeerPpsLost (s : State) : Host.Outcome State Fault Refusal := .next s.peerLost

/-- PEER_PPS_OUT at a second marker of the time source: its width in ms (R413); none without a pair (R402). -/
def State.heartbeat (s : State) : State :=
  s.modPar fun p => { p with pulse := if s.injOn 0xE2 0 || !s.pairEn then 0 else if s.role = prActive then 200 else 100 }

/-! ### Resignation and takeover (R414 to R417) -/

/-- R415: a RESIGN frame; with AUTH_EN its last 16 bytes are an HMAC over what precedes them. -/
def State.resignRx (s : State) (m : PairMsg) : State :=
  let n := m.payload.length - 16
  if s.pairMacOk (resignBody m.gen m.seq (m.payload.take n)) (m.payload.drop n) then s.modPar fun p => { p with takeFrame := true } else s

def execResignFrameRx (s : State) : Host.Outcome State Fault Refusal :=
  .next (if !s.isStandby then s else match s.pairTake tyResign with
    | (some m, s1) => s1.resignRx m
    | (none, s1) => s1)

/-- R415: ARB_IN has held a level for ARB_HOLD: high makes a standby take over at the tick, low makes an active unit resign.
The event's DETAIL for a resignation by the arbiter is not stated: a free value (assumption log 3). -/
def State.arbHeld (s : State) (level : Bool) : State :=
  let s0 := s.putB F.PAR_STAT_ARB level
  if !s.pairEn || !s.flag F.PAR_CFG_ARB_EN then s0
  else if level && s.role == prStandby then s0.modPar fun p => { p with takeArb := true }
  else if !level && s.role == prActive then
    let (v, s1) := s0.fresh
    s1.resign (v % 8)
  else s0

def execArbHoldExpiry (level : Bool) (s : State) : Host.Outcome State Fault Refusal := .next (s.arbHeld level)

/-- takeover_check of R415: the cause, 0 for none. -/
def State.takeCause (s : State) : Nat :=
  if s.flag F.PAR_STAT_RESIGN_IN then 1
  else if s.par.takeFrame then 2
  else if s.flag F.PAR_CFG_ARB_EN && s.par.takeArb then 3
  else if s.flag F.PAR_CFG_ARB_EN then 0
  else if !s.ppUp && !s.flag F.PAR_STAT_PEER_PPS then 4
  else if s.par.takeCmd then 5 else 0

/-- t_s was taken from the vintage the unit takes over with: the last phase-valid sample was the peer slot's (R93, R417). -/
def State.tsOfVintage (s : State) : Bool :=
  s.par.current.isSome && (match s.bnd.lastSlot with | some n => s.slotType n == 5 | none => false)

/-- R417: the takeover. -/
def State.takeover (s : State) (cause : Nat) : State :=
  let age := match s.par.current with
    | some (v, _) => detSat 24 ((s.now - v.closing) / (lsbPerUs * 1000))
    | none => 2 ^ 24 - 1
  let trg := match s.par.current with | some (v, _) => v.trg | none => []
  let s1 := trg.foldl (fun (s : State) t =>
    (s.modTrgOut t.k fun o => { o with entries := o.entries ++ [⟨t.first, t.width, t.period, t.count, t.next, 0⟩] }).trgShow t.k) s
  let s2 := (s1.modBnd fun b => { b with takeover := s.tsOfVintage }).currentDone
  let s3 := (((s2.putB F.KPR_STAT_OUT_GATED true).setRole prActive).put F.PAR_STAT_COPY cpEmpty).modPar fun p =>
    { p with tookBy := cause, takeFrame := false, takeArb := false, takeCmd := false, peerRole := prDiscover, sample := none, rxFrames := [], stage := [] }
  ((s3.post A.PAR_TO_RES (2 * cause)).put F.PAR_TO_GEN_GEN (s.get F.PAR_GEN_COMMIT_GEN)).raise Ev.PAR_TAKEOVER noInst (cause + 256 * age)

/-- The resignation causes that stand, by bit (R414). -/
def State.resignCauses (s : State) : List Nat :=
  let engines := ((List.range 32).filter (fun n => s.bit F.SVC_ENG_OFFLINE_OFFLINE n)).length
  [s.vstate == vSplit || s.vstate == vSolo || s.vstate == vDark,
   (match s.par.spDown with | some t => decide (t + s.get F.PAR_HOLDS_RESIGN_HOLD * 1000 * lsbPerUs ≤ s.now) | none => false),
   s.dstate == dsFree, decide (8 ≤ engines), s.par.tampered,
   (match s.par.pairFault with | some t => decide (t + lsbPerSec ≤ s.now) | none => false)].zipIdx.filterMap fun p => if p.1 then some p.2 else none

/-- R414: an ACTIVE unit resigns on the lowest standing cause of RESIGN_MASK while the wire shows a standby peer. -/
def State.resignCheck (s : State) : State :=
  if s.isActive && s.flag F.PAR_STAT_PEER_PPS && s.par.width == 1 then
    match s.resignCauses.find? (fun i => s.bit F.PAR_CFG_RESIGN_MASK i) with
    | some i => s.resign i
    | none => s
  else s

/-- The pair at a tick boundary, with the levels of PAIR_RESIGN_IN and ARB_IN. -/
def State.parTick (s : State) (resignIn arb : Bool) : State :=
  let down := !s.portUp 0 && !s.portUp 1
  let s0 := ((s.putB F.PAR_STAT_RESIGN_IN resignIn).putB F.PAR_STAT_ARB arb).modPar fun p =>
    { p with spDown := if down then some (p.spDown.getD s.now) else none }
  if !s.pairEn then s0
  else if s.role = prStandby then
    let c := s0.takeCause
    if c ≠ 0 then s0.takeover c else s0.modPar fun p => { p with takeCmd := false }
  else s0.resignCheck

/-- The peer slot at a tick boundary: its activity and the sample of a vintage committed since (R404, R405, R113). -/
def State.peerTick (s : State) : State :=
  let act := s.isStandby && s.ppUp && s.par.peerRole == prActive
  let smp := s.par.sample
  let s0 := s.modPar fun p => { p with sample := none }
  (allSlots.filter (fun n => s.slotType n == 5)).foldl (fun (s : State) n =>
    let s1 := s.modSl n fun sl => { sl with active := act }
    match smp with
    | some (th, at_, core, up, _) =>
      (s1.modSl n fun sl => { sl with seen := true, lastEdge := at_ }).refPhase n th at_ (some (bndAdd core (s1.asymOf ppPort))) up 0
    | none => s1) s0

/-- PP enters or leaves UP (R409, R411, R416). -/
def State.parLink (s : State) (up : Bool) : State :=
  let s1 := s.putB F.PAR_STAT_LINK_UP up
  if up || !s.pairEn then s1
  else
    let s2 := s1.raise Ev.PAR_LINK_DOWN noInst s.role
    if s.role = prActive then s2.discardAll.dualCheck
    else if s.role = prStandby ∧ ¬ s.par.rxFrames.isEmpty then s2.vintFail s.par.rxGen s.now 2 3 else s2

/-- A realign step in PAR: held instants move with voted time, and so do the offsets from the peer that wait (DEDUCED,
assumption log 85). -/
def State.parStep (s : State) (d : Int) : State :=
  let mv (t : Nat) : Nat := ((t : Int) + d).toNat
  s.modPar fun p => { p with
    since := mv p.since, edge := p.edge.map mv, resignOut := p.resignOut.map mv, spDown := p.spDown.map mv
    pairFault := p.pairFault.map mv, helloAt := p.helloAt.map mv, thetas := p.thetas.map (fun x => (x.1, x.2 + d / 16))
    sample := p.sample.map fun x => (x.1 + d / 16, mv x.2.1, x.2.2) }

end Sys2Proof.Machine
end

