-- ==== Sys2Proof/Machine/Mem.lean ====
section
/-!
DEFINITION. Memory protection (17_memory_integrity.md R422 to R433): reads that correct, the trackers, retirement and
remapping, lost devices, uncorrectable words and their requesters, the fill, retraining, raw access. The codes themselves
are in Ecc.lean, the effect of a write on a codeword in Ops.lean.
-/
namespace Sys2Proof.Machine

open Sys2Proof

/-- DETAIL of an address: DRAM address [35:4], or the SRAM location. -/
def memDetail (sram : Bool) (loc : Nat) : Nat := if sram then loc else loc / 16 % 2 ^ 32

/-- INSTANCE of the MEM events. -/
def memInst (sram : Bool) : Nat := if sram then 1 else 0

/-- SRAM location fields: [31:20] MACRO. -/
def macroOf (loc : Nat) : Nat := loc / 2 ^ 20 % 4096

/-- The last error posted (R434): kind, position, address. -/
def State.memPost (s : State) (kind pos loc : Nat) : State := (s.post A.MEM_LAST_RES (2 * kind + 65536 * pos)).putWide A.MEM_LAST_ADDR 2 loc

/-! ### Repeated correction (R428 to R430) -/

/-- Spare rows of each SRAM macro. -/
def spareRows : Nat := 16

/-- R429: no spare is left: reported once per macro, and the address is not repaired again. -/
def State.spareOut (s : State) (sram : Bool) (loc : Nat) : State :=
  let m := if sram then macroOf loc else 0xFFF
  let s1 := s.modMem fun c => { c with unrepaired := (sram, loc) :: c.unrepaired }
  if s.mem.spareOut.contains m then s1
  else (s1.modMem fun c => { c with spareOut := m :: c.spareOut }).raise Ev.MEM_SPARE_OUT (memInst sram) m

/-- R429: a sticky address is repaired: its SRAM row remapped, or its DRAM page retired to the next free spare page, whose
contents every requester goes on seeing at the same addresses. -/
def State.stickyRepair (s : State) (sram : Bool) (loc : Nat) : State :=
  if s.mem.unrepaired.contains (sram, loc) then s
  else if sram then
    let used := spGet (fun _ => 0) s.mem.rows (macroOf loc)
    if used < spareRows then
      ((s.modMem fun c => { c with rows := spSet (fun _ => 0) c.rows (macroOf loc) (used + 1) }).incr F.MEM_REMAPPED_COUNT).raise Ev.MEM_RETIRE 1 (loc / 16 % 2 ^ 28)
    else s.spareOut true loc
  else
    let used := s.get F.MEM_SPARE_USED
    if used < s.get F.MEM_SPARE_SPARES then
      (((s.modMem fun c => { c with retired := c.retired ++ [(loc / 4096, used)] }).put F.MEM_SPARE_USED (used + 1)).incr F.MEM_RETIRED_COUNT).raise
        Ev.MEM_RETIRE 0 (loc / 4096 % 2 ^ 28)
    else s.spareOut false loc

def trackerSize : Nat := 64
/-- FIRST's window in ticks, and the COUNT that makes an address sticky. -/
def trackWindow : Nat := 2 ^ 20
def stickyCount : Nat := 8

/-- The entry with the oldest FIRST. -/
def oldestTrack : List Track → Option Track
  | [] => none
  | t :: ts => match oldestTrack ts with
    | none => some t
    | some u => if u.first < t.first then some u else some t

def State.tracker (s : State) (sram : Bool) : List Track := if sram then s.mem.trackS else s.mem.trackD
def State.setTracker (s : State) (sram : Bool) (l : List Track) : State :=
  s.modMem fun c => if sram then { c with trackS := l } else { c with trackD := l }

/-- R428: a correction enters its tracker. -/
def State.track (s : State) (sram : Bool) (loc : Nat) : State :=
  let l := s.tracker sram
  match l.find? (fun t => t.addr == loc) with
  | some t =>
    if s.curTick < t.first + trackWindow then
      let s1 := s.setTracker sram (l.map fun u => if u.addr = loc then { u with count := u.count + 1 } else u)
      if t.count + 1 = stickyCount then ((s1.incr F.MEM_STICKY_COUNT).raise Ev.MEM_STICKY (memInst sram) (memDetail sram loc)).stickyRepair sram loc else s1
    else s.setTracker sram (l.map fun u => if u.addr = loc then { u with first := s.curTick, count := 1 } else u)
  | none =>
    let new : Track := ⟨loc, s.curTick, 1⟩
    let s1 := if l.length < trackerSize then s.setTracker sram (l ++ [new])
      else match oldestTrack l with
        | some t => (s.setTracker sram (l.erase t ++ [new])).incr F.MEM_TRACK_EVICT_COUNT
        | none => s
    s1.raise Ev.MEM_CORRECT (memInst sram) (memDetail sram loc)

def State.devLost (s : State) (rank pos : Nat) : Bool := s.mem.lost.contains (rank, pos)

/-- Distinct codewords of one rank in one tick that declare a device LOST. -/
def lostCodewords : Nat := 64

/-- R430: a correction at a device position is noted; 64 distinct codewords in one tick declare the device LOST. -/
def State.devNote (s : State) (rank pos loc : Nat) : State :=
  let l := if s.mem.devTick = s.curTick then s.mem.dev else []
  let l1 := if l.contains (rank, pos, loc) then l else (rank, pos, loc) :: l
  let s1 := (s.modMem fun c => { c with dev := l1, devTick := s.curTick }).incr (F.MEM_DEVp_CORR_COUNT (pos + 36 * rank))
  if lostCodewords ≤ (l1.filter (fun e => e.1 == rank && e.2.1 == pos)).length ∧ ¬ s.devLost rank pos then
    ((((s1.modMem fun c => { c with lost := (rank, pos) :: c.lost }).put F.MEM_STAT_LOST_POS pos).putB F.MEM_STAT_LOST_VALID true).put F.MEM_STAT_LOST_RANK
      rank).raise Ev.MEM_DEV_LOST 0 (pos + 64 * rank)
  else s1

/-- R427, R428: a word was corrected at a position. Corrections at a device already LOST do not count toward R428. -/
def State.corrected (s : State) (sram : Bool) (loc rank pos : Nat) : State :=
  if sram then (((s.incr F.MEM_SRAM_CORR_COUNT).memPost 2 pos loc)).track true loc
  else
    let s1 := ((s.incr F.MEM_DRAM_CORR_COUNT).memPost 1 pos loc).devNote rank pos loc
    if s.devLost rank pos then s1 else s1.track false loc

/-! ### Uncorrectable words (R431) -/

/-- MEM_UNCORR is raised at most 16 times a tick. -/
def uncorrLimit : Nat := 16

/-- R431: the ledger entry read in error is withdrawn with reason MEMORY; an entry that holds a slot gives it up. A response that has
started stands: its entry commits (R39). -/
def State.ledgerLost (s : State) (idx : Nat) (lost : Nat) : State := match s.entry idx with
  | none => s
  | some e =>
    let e1 := { e with
      desc := if lost % 2 = 1 then { e.desc with ns32 := 0 } else e.desc,
      record := if lost / 2 % 2 = 1 then 0 else e.record, guest := e.guest || lost / 2 % 2 == 1,
      squashes := if lost / 4 % 2 = 1 then 0 else e.squashes,
      port := if lost / 8 % 2 = 1 then 0 else e.port, kind := if lost / 8 % 2 = 1 then 0 else e.kind }
    if (s.pinEntry e).any s.pinGone ∨ (s.reportOf idx isCommitted).isSome then s
    else ((if e.phase = .pinned then s.unpin e else s).setEntry idx fun _ => e1).withdraw e1 wdMemory

/-- R431: a GAP stands in the place of a lost Pip; the Pip stays an accepted item without its outcome. -/
def State.pipLost (s : State) (ch n : Nat) : State := match (s.ch ch).q[n]? with
  | none => s
  | some p =>
    ((s.modCh ch fun c => { c with q := c.q.set n { p with data := gapBytes 0 1 } }).countUp (A.CLR_ACCk 1)).ticFill ch

/-- R431: a lost event record is delivered as MEM_UNCORR with its SEQ. -/
def State.eventLost (s : State) (n detail : Nat) : State := match s.evt.ring[n]? with
  | none => s
  | some r =>
    (s.modEvt fun e => { e with ring := e.ring.set n ⟨s.now / lsbPerNs % 1000000000, s.now / lsbPerSec % 2 ^ 32, Ev.MEM_UNCORR, 1, r.seq, detail⟩ }).countUp
      (A.CLR_ACCk 2)

/-- R431: what the requester's bus error brings. -/
def State.userLost (s : State) (user : MemUser) (lost detail : Nat) : State := match user with
  | .scrubber => s
  | .vintage i => s.clearBad [i.val]
  | .engine n => s.engineFault n 5
  | .ledger i => s.ledgerLost i lost
  | .pip c n => s.pipLost c n
  | .event n => s.eventLost n detail

/-- The Larder record that a DRAM codeword belongs to. -/
def State.recordAt (s : State) (loc : Nat) : Option Nat :=
  if s.larderBase ≤ loc ∧ loc < s.larderBase + 64 * 2 ^ s.larderLog2 then some ((loc - s.larderBase) / 64) else none

/-- R290: whether a Larder record's copy in DRAM is in error is kept beside it. -/
def State.recordBad (s : State) (loc : Nat) (bad : Bool) : State := match s.recordAt loc with
  | some i => s.modLdr fun l => { l with bad := if bad then (if l.bad.contains i then l.bad else i :: l.bad) else l.bad.erase i }
  | none => s

/-- R431: an uncorrectable word. -/
def State.uncorrectable (s : State) (sram : Bool) (loc : Nat) (user : MemUser) (lost : Nat) : State :=
  let n := if s.mem.uncorrTick = s.curTick then s.mem.uncorr else 0
  let s1 := ((s.incr (if sram then F.MEM_SRAM_UNCORR_COUNT else F.MEM_DRAM_UNCORR_COUNT)).memPost (if sram then 4 else 3) 0 loc).modMem fun c =>
    { c with uncorr := n + 1, uncorrTick := s.curTick }
  ((s1.raiseIf (n < uncorrLimit) Ev.MEM_UNCORR (memInst sram) (memDetail sram loc)).userLost user lost (memDetail sram loc))

/-! ### One read (R425, R427) -/

/-- How a read turned out: VIRGIN status, a position corrected, an uncorrectable word; with the word to leave behind. -/
inductive ReadOut where
  | fine
  | fixed (pos d : Nat)
  | virgin (fix : Option Nat)
  | lost
  deriving DecidableEq, Repr

def readOut : Decoded → ReadOut
  | .virgin f => .virgin f
  | .data d (some p) => .fixed p d
  | .data _ none => .fine
  | .bad => .lost

/-- The read of a word that stands as `chk` over `d`, with errors at the positions of `l`: one position in error is corrected
and two are detected (R422, R424); a VIRGIN word is compared with its pattern; every other case is the decoder's. -/
def Code.read (k : Code) (chk : Chk) (d : Nat) (l : List (Nat × Nat)) : ReadOut :=
  let ps := hitPositions l
  match chk with
  | .coded => match ps with
    | [] => .fine
    | [p] => .fixed p d
    | [_, _] => .lost
    | _ => let w := k.hit (d, k.check d) l; readOut (k.decode w.1 w.2)
  | .virgin => match ps with
    | [] => .virgin none
    | [p] => .virgin (some p)
    | _ => let w := k.hit (0, k.virgin) l; readOut (k.decode w.1 w.2)
  | .raw c => let w := k.hit (d, c) l; readOut (k.decode w.1 w.2)

/-- The stored check bits of a word. -/
def Code.stored (k : Code) (chk : Chk) (d : Nat) : Nat := match chk with
  | .coded => k.check d
  | .virgin => k.virgin
  | .raw c => c

/-- Errors that an injection adds to a read of DRAM codeword `loc` of a rank (R484): the next read of a chosen codeword, and
every read of a corrupted device. The error's value is not stated. -/
def State.injErrors (s : State) (loc rank v : Nat) : List (Nat × Nat) :=
  (match s.injOf 0xF0 0 with
    | some q => if q.arg0 = loc / 16 % 2 ^ 32 then (q.arg1 % 64, v % 15 + 1) :: (if q.arg1 / 64 % 2 = 1 then [(q.arg1 % 64 + 1, v % 15 + 1)] else []) else []
    | none => []) ++
  (match s.injOf 0xF1 rank with
    | some q => [(q.arg0, v % 15 + 1)]
    | none => [])

/-- The injected error of the next read is used up. -/
def State.injRead (s : State) (loc : Nat) : State := match s.injOf 0xF0 0 with
  | some q => if q.arg0 = loc / 16 % 2 ^ 32 then s.injUse 0xF0 0 else s
  | none => s

/-- R427: one read of a DRAM codeword, with the errors of its cells. A corrected word is written back, VIRGIN stays VIRGIN, an
uncorrectable word is left as it stands. -/
def State.dramRead (s : State) (loc rank : Nat) (errs : List (Nat × Nat)) (user : MemUser) (lost : Nat) : State :=
  let w := loc / 16
  let injects := !(s.injErrors loc rank 0).isEmpty
  let (v, s0) := if injects then s.fresh else (0, s)
  let chk := s.chkOf w
  let d := s.dramData w
  let all := errs ++ s.injErrors loc rank v
  let s1 := s0.injRead loc
  match dramCode.read chk d all with
  | .fine => s1
  | .fixed p d1 => (s1.setWord w d1 .coded).corrected false loc rank p
  | .virgin none => s1.incr F.MEM_VIRGIN_READS_COUNT
  | .virgin (some p) => ((s1.setWord w 0 .virgin).incr F.MEM_VIRGIN_READS_COUNT).corrected false loc rank p
  | .lost =>
    let x := dramCode.hit (d, dramCode.stored chk d) errs
    let s2 := if errs.isEmpty then s1 else (s1.setWord w x.1 (.raw x.2)).recordBad loc true
    s2.uncorrectable false loc user lost

/-- An SRAM word: what raw access or an error left at a location; else a word that its block keeps under the code, or VIRGIN.
Where the blocks keep their words is not stated, so the data of such a word are not seen here. -/
def State.sramRead (s : State) (loc : Nat) (errs : List (Nat × Nat)) (virgin : Bool) (user : MemUser) (lost : Nat) : State :=
  let kept := (s.mem.sram.find? (fun e => e.1 == loc)).map Prod.snd
  let drop (s : State) : State := s.modMem fun c => { c with sram := c.sram.filter (fun e => e.1 != loc) }
  let chk := match kept with | some w => Chk.raw w.2 | none => if virgin then .virgin else .coded
  let d := match kept with | some w => w.1 | none => 0
  match sramCode.read chk d errs with
  | .fine => s
  | .fixed p d1 => (if kept.isSome then (drop s).modMem fun c => { c with sram := (loc, (d1, sramCode.check d1)) :: c.sram } else s).corrected true loc 0 p
  | .virgin none => s.incr F.MEM_VIRGIN_READS_COUNT
  | .virgin (some p) => ((drop s).incr F.MEM_VIRGIN_READS_COUNT).corrected true loc 0 p
  | .lost =>
    let x := sramCode.hit (d, sramCode.stored chk d) errs
    ((drop s).modMem fun c => { c with sram := (loc, x) :: c.sram }).uncorrectable true loc user lost

/-- R427: a scrubber or demand read decodes a word. DRAM outside the installed size holds nothing. -/
def execScrubRead (sram : Bool) (loc rank : Nat) (errs : List (Nat × Nat)) (virgin : Bool) (user : MemUser) (lost : Fin 16) (s : State) :
    Host.Outcome State Fault Refusal :=
  if sram then .next (s.sramRead (loc % 2 ^ 32) (errs.filter fun e => e.1 < 72 && e.2 == 1) virgin user lost)
  else if loc < s.mem.size then .next <| if s.dramBusy then s else (s.dramRead (loc / 16 * 16) (rank % 2) (errs.filter fun e => e.1 < 36 && 0 < e.2 && e.2 < 16) user lost)
  else .fault (.dramAbsent loc)

/-! ### The fill and retraining (R426, R432) -/

/-- R426: all of DRAM is VIRGIN-filled, after the Larder. -/
def execDramFillDone (ms : Fin 65536) (s : State) : Host.Outcome State Fault Refusal :=
  .next (if s.flag F.MEM_STAT_DRAM_FILLED || !s.flag F.MEM_STAT_LARDER_FILLED || s.dramBusy then s
    else ((s.putB F.MEM_STAT_DRAM_FILLED true).put F.MEM_FILL_WM_FILLED (s.mem.size / 2 ^ 20)).raise Ev.MEM_FILL_DONE noInst ms)

/-- R432: a rank's training is due: RETRAIN minutes after its last, or at once when the DRAM temperature has moved 10 °C. -/
def State.retrainDue (s : State) (rank : Nat) (moved : Bool) : Bool :=
  moved || decide (nth s.mem.trained rank + s.get F.MEM_CFG_RETRAIN * 60 * lsbPerSec ≤ s.now)

/-- The controllers train a rank: while DCLK runs and no other rank is in training. -/
def State.retrain (s : State) (rank : Nat) (moved : Bool) : State :=
  if ¬ s.flag F.MEM_STAT_RETRAINING ∧ s.clockRuns 5 ∧ ¬ s.syn.sref ∧ rank < s.mem.ranks ∧ s.retrainDue rank moved then
    (s.putB F.MEM_STAT_RETRAINING true).put F.MEM_STAT_RANK rank
  else s

def execDramRetrain (rank : Fin 2) (moved : Bool) (s : State) : Host.Outcome State Fault Refusal := .next (s.retrain rank moved)

/-- R432: the training ends, after at most 40 us, and the waiting requests are served. -/
def State.retrainDone (s : State) (us : Nat) : State :=
  if s.flag F.MEM_STAT_RETRAINING && decide (us ≤ 40) then
    let r := s.get F.MEM_STAT_RANK
    (((s.putB F.MEM_STAT_RETRAINING false).modMem fun c => { c with trained := listUpd c.trained r fun _ => s.now }).raise Ev.MEM_RETRAIN noInst
      (r + 256 * us)).dramServe
  else s


/-! ### Raw access (R433) -/

/-- R433: RAW_EN, a target, and not the SPI port. -/
def State.rawAllowed (s : State) (path : Path) : Bool :=
  s.flag F.MEM_CFG_RAW_EN && path != .spi && (s.lastGet F.MEM_RAW_SEL_TARGET == 1 || s.lastGet F.MEM_RAW_SEL_TARGET == 2)

/-- The address of a raw access. -/
def State.rawAddr (s : State) : Nat := s.lastWide A.MEM_RAW_ADDR 2 % 2 ^ 40

def State.rawPost (s : State) (result : Nat) : State := s.post A.MEM_RAW_RES (2 * result)

/-- A register filled by a result: nothing staged for it is left over. -/
def State.fillReg (s : State) (a : Nat) (w : Word) : State := { s.setReg a w with staged := s.staged.filter fun e => e.addr != a }

/-- A raw read fills DATA and CHECK with `n` words and the check bits. -/
def State.rawFill (s : State) (n d c : Nat) : State :=
  (((List.range n).foldl (fun (s : State) i => s.fillReg (A.MEM_RAW_DATA i) (BitVec.ofNat 32 (d / 2 ^ (32 * i)))) s).fillReg A.MEM_RAW_CHECK (BitVec.ofNat 32 c)).rawPost 1

/-- R433: the stored data and check bits of a word, uncorrected. The data of an SRAM word that its block keeps is a free value. -/
def State.rawRead (s : State) : State :=
  if s.lastGet F.MEM_RAW_SEL_TARGET = 1 then
    let w := s.rawAddr / 16
    s.rawFill 4 (s.dramData w) (dramCode.stored (s.chkOf w) (s.dramData w) % 2 ^ 16)
  else match s.mem.sram.find? (fun e => e.1 == s.rawAddr % 2 ^ 32) with
    | some (_, d, c) => s.rawFill 2 d (c % 256)
    | none =>
      let v := s.fresh
      v.2.rawFill 2 (v.1 % 2 ^ 64) (sramCode.check (v.1 % 2 ^ 64) % 256)

/-- A raw access of DRAM outside the installed size reaches nothing. -/
def State.rawAbsent (s : State) : Bool := s.lastGet F.MEM_RAW_SEL_TARGET == 1 && decide (s.mem.size ≤ s.rawAddr)

/-- A raw access of DRAM takes its place in the controller's order: while DRAM serves no request it waits (R186, R433). -/
def State.rawWaits (s : State) : Bool := s.lastGet F.MEM_RAW_SEL_TARGET == 1 && s.dramBusy

def execRawRead (path : Path) (s : State) : Host.Outcome State Fault Refusal :=
  if !s.rawAllowed path then .next (s.rawPost 2)
  else if s.rawWaits then .next (s.pendCmd path A.MEM_RAW_CMD 1)
  else if s.rawAbsent then .fault (.dramAbsent s.rawAddr)
  else .next s.rawRead

/-- R433: the given data and check bits stored exactly. -/
def State.rawWrite (s : State) : State :=
  let c := s.lastGet F.MEM_RAW_CHECK_CHECK
  if s.lastGet F.MEM_RAW_SEL_TARGET = 1 then
    let w := s.rawAddr / 16
    let s1 := s.setWord w (s.lastWide (A.MEM_RAW_DATA 0) 4) (.raw c)
    (s1.recordBad s.rawAddr ((List.range 4).any fun i => s1.wordBad (s.rawAddr / 64 * 4 + i))).rawPost 1
  else
    let a := s.rawAddr % 2 ^ 32
    (s.modMem fun m => { m with sram := (a, (s.lastWide (A.MEM_RAW_DATA 0) 2, c % 256)) :: m.sram.filter (fun e => e.1 != a) }).rawPost 1

def execRawWrite (path : Path) (s : State) : Host.Outcome State Fault Refusal :=
  if !s.rawAllowed path then .next (s.rawPost 2)
  else if s.rawWaits then .next (s.pendCmd path A.MEM_RAW_CMD 2)
  else if s.rawAbsent then .fault (.dramAbsent s.rawAddr)
  else .next s.rawWrite

end Sys2Proof.Machine
end

