-- ==== Sys2Proof/Machine/Age.lean ====
section
/-!
DEFINITION. Lifetime margins (19_start_sleep_ageing.md R473 to R476): the monitors, equivalent hours, the margin planner and
the supply voltage. Code moves and grid-phase moves are noted where they are measured (Flags.lean).
-/
namespace Sys2Proof.Machine

open Sys2Proof

/-- A period of `n` ticks has come round at this tick boundary, and its action has not run (`last`). -/
def State.ageDue (s : State) (n last : Nat) : Bool := s.atTick && s.curTick % n == 0 && s.curTick != last

/-- R473: the junction temperature read at a tick, in 1/256 degree. -/
def State.ageTj (s : State) (t : Int) : State :=
  let first := s.age.tjMax.isNone && s.get F.AGE_TJ_TJ_MAX == 0 && s.get F.AGE_TJ_TJ == 0
  let s1 := (s.putI F.AGE_TJ_TJ (satI 16 t)).putI F.AGE_TJ_TJ_MAX (if first then satI 16 t else max (s.getI F.AGE_TJ_TJ_MAX) (satI 16 t))
  s1.modAge fun a => { a with tjMax := some (match a.tjMax with | some m => max m t | none => t) }

/-- R473: every 64 ticks the path-delay monitors report the largest slowdown, in 0.001 %. -/
def State.pathDelay (s : State) (slow : Nat) : State :=
  if s.ageDue 64 s.age.pdmTick then
    ((s.put F.AGE_PDM_SLOW slow).put F.AGE_PDM_SLOW_MAX (max slow (s.get F.AGE_PDM_SLOW_MAX))).modAge fun a => { a with pdmTick := s.curTick }
  else s

def execPathDelayMonitor (slow : Fin 65536) (s : State) : Host.Outcome State Fault Refusal := .next (s.pathDelay slow)

/-- Hours in 4,096 ticks. -/
def eqPeriod : Rat := (4096 * 2 ^ 20 : Nat) / (3600 * 1000000000 : Nat)

/-- LIFE_PERMIL of EQ_HOURS (R474), saturating. -/
def lifeOf (h : Rat) : Nat := min (h * 10 / 2628).floor.toNat 4095

/-- R474: every 4,096 ticks EQ_HOURS advances; AGE_LIFE is raised at 800 and at 1,000. -/
def State.eqHours (s : State) : State :=
  if s.ageDue 4096 s.age.eqTick then
    let h := s.age.eq + eqPeriod * Config.ageFactor ((s.age.tjMax).getD (s.getI F.AGE_TJ_TJ))
    let l := lifeOf h
    let mark := if 1000 ≤ l then 1000 else if 800 ≤ l then 800 else 0
    let s1 := ((s.modAge fun a => { a with eq := h, tjMax := none, eqTick := s.curTick, lifeSaid := max a.lifeSaid mark }).setReg A.AGE_EQ_HOURS
      (BitVec.ofNat 32 (h * 16).floor.toNat)).put F.AGE_STAT_LIFE_PERMIL l
    s1.raiseIf (s.age.lifeSaid < mark) Ev.AGE_LIFE noInst l
  else s

def execEqHoursUpdate (s : State) : Host.Outcome State Fault Refusal := .next s.eqHours

/-! ### The margin planner (R475) -/

/-- Highest VID driven (R476). -/
def vidMax : Nat := 200

/-- VID_AGE: ceil(AVS_K × SLOW_MAX / 100), never lowered. -/
def State.vidAge (s : State) : Nat :=
  max (s.get F.AGE_AVS_VID_AGE) (min ((s.get F.AGE_CFG_AVS_K * s.get F.AGE_PDM_SLOW_MAX + 99) / 100) 255)

/-- The VID the rule asks for. -/
def State.vidRule (s : State) : Nat := max (s.get F.AGE_CFG_AVS_FLOOR) (Config.vidT (s.getI F.AGE_TJ_TJ) + s.vidAge)

/-- AVS: the target VID; above 200 the device applies 200 and says so. -/
def State.planAvs (s : State) : Bool × State :=
  let v := s.vidRule
  let t := min v vidMax
  let changed := t != s.age.target || s.vidAge != s.get F.AGE_AVS_VID_AGE
  let s1 := (s.put F.AGE_AVS_VID_AGE s.vidAge).modAge fun a => { a with target := t }
  let s2 := if vidMax < v ∧ ¬ s.flag F.AGE_STAT_AVS_LIMIT then
      (s1.putB F.AGE_STAT_AVS_LIMIT true).raise Ev.AGE_AVS noInst (1 + (if s.flag F.AGE_STAT_AVS_FAIL then 2 else 0) + 256 * vidMax) else s1
  (changed, s2.raiseIf changed Ev.AGE_MARGIN noInst (1 + 256 * t))

/-- The TIC interval: lowered in proportion to the drift (R335). -/
def State.planTic (s : State) : Bool × State :=
  let r := s.get F.AGE_REF_TIC_DRIFT_REF
  let d := max r (s.get F.AGE_TIC_DRIFT_DRIFT)
  let v := max 60 (s.get F.TIC_CAL_CFG_INTERVAL * r / d)
  if v < s.get F.TIC_CAL_CFG_AGE_INTERVAL then
    (true, ((s.put F.TIC_CAL_CFG_AGE_INTERVAL v).raise Ev.TIC_CAL_INTERVAL noInst v).raise Ev.AGE_MARGIN noInst (2 + 256 * v))
  else (false, s)

/-- The launch guard band of one port: ceil(2 × M / block time), raised only (R233). -/
def State.planGuard (s : State) (p : Nat) : Bool × State :=
  let m : Rat := (nth s.age.moves p : Rat) * 65536 / 1000000
  let v := min (2 * m / guardBlock (s.portMode p)).ceil.toNat 255
  if s.get (F.TSU_x_GUARD_GUARD_AGE p) < v then
    (true, ((s.put (F.TSU_x_GUARD_GUARD_AGE p) v).raise Ev.TSU_GUARD p v).raise Ev.AGE_MARGIN p (3 + 256 * v))
  else (false, s)

/-- The hardware bound term: ceil(16 × (D_TIC + D_TSU)) + FWD, in BND48 units, raised only (R75); the bound epoch stands. -/
def State.planHw (s : State) : Bool × State :=
  let fs := s.get F.AGE_TIC_DRIFT_DRIFT + s.get F.AGE_TSU_MOVE_MOVE
  let v := (16 * fs + 999) / 1000 + s.get F.AGE_REF_FWD
  if s.getB A.BND_HW_AGE < v then (true, (s.putWide A.BND_HW_AGE 2 v).raise Ev.AGE_MARGIN noInst (4 + 256 * detSat 24 v)) else (false, s)

/-- R475: every 65,536 ticks the four margins move, always toward safety; the evaluation is posted. -/
def State.marginPlan (s : State) : State :=
  if s.ageDue 65536 s.age.planTick then
    let a := (s.modAge fun a => { a with planTick := s.curTick }).planAvs
    let t := a.2.planTic
    let g := (List.range 20).foldl (fun (x : Bool × State) p => let r := x.2.planGuard p; (x.1 || r.1, r.2)) (false, t.2)
    let h := g.2.planHw
    h.2.post A.AGE_PLAN_RES (65536 * ((if a.1 then 1 else 0) + (if t.1 then 2 else 0) + (if g.1 then 4 else 0) + (if h.1 then 8 else 0)))
  else s

def execMarginPlan (s : State) : Host.Outcome State Fault Refusal := .next s.marginPlan

/-! ### The supply voltage (R476) -/

/-- In PMBus mode the regulator did not answer, or is in no linear mode. -/
def State.avsFail (s : State) : State :=
  (s.putB F.AGE_STAT_AVS_FAIL true).raise Ev.AGE_AVS noInst ((if s.flag F.AGE_STAT_AVS_LIMIT then 1 else 0) + 2 + 256 * s.get F.AGE_AVS_VID)

/-- VOUT_MODE read once at start: the mode in bits 7:5 is linear where 0; the exponent is kept. -/
def State.voutMode (s : State) (answer : Option (Fin 256)) : State :=
  if s.flag F.AGE_CFG_AVS_MODE then
    match answer with
    | some m => if m.val / 32 = 0 then s.modAge fun a => { a with linear := some (m.val % 32) } else s.avsFail
    | none => s.avsFail
  else s

/-- R475: the applied VID moves at most 4 steps per 64 ticks toward its target; over PMBus a write that is not answered leaves
the last value (`ack`). -/
def State.avsMove (s : State) (ack : Bool) : State :=
  let v := s.get F.AGE_AVS_VID
  let t := s.age.target
  let n := if v < t then min t (v + 4) else max t (v - 4)
  if ¬ s.ageDue 64 s.age.avsTick then s
  else
    let s1 := s.modAge fun a => { a with avsTick := s.curTick }
    if n = v then s1
    else if s.flag F.AGE_CFG_AVS_MODE && (s.age.linear.isNone || !ack) then (if s.age.linear.isNone then s1 else s1.avsFail)
    else s1.put F.AGE_AVS_VID n

def execAvsStep (ack : Bool) (s : State) : Host.Outcome State Fault Refusal := .next (s.avsMove ack)

end Sys2Proof.Machine
end

