-- ==== Sys2Proof/Machine/Evt.lean ====
section
/-!
DEFINITION. The event router (18_management_plane.md R458 to R460): acceptance into the ring, the spill to the DRAM
log, the pop, the log's read pointer and the interrupt pins.
-/
namespace Sys2Proof.Machine

open Sys2Proof

def ringCap : Nat := 4096

/-- Order of acceptance: earlier cycle, then event number, then INSTANCE (R458). -/
def evBefore (a b : EvRec) : Bool :=
  a.cyc < b.cyc || (a.cyc == b.cyc && (a.event < b.event || (a.event == b.event && a.inst < b.inst)))

/-- The first record in that order. -/
def evFirst : List EvRec → Option EvRec
  | [] => none
  | r :: rs => match evFirst rs with
    | none => some r
    | some m => if evBefore m r then some m else some r

/-- PEND bit `e` of every interrupt pin set (R460). -/
def State.setPend (s : State) (e : Nat) : State :=
  (List.range 8).foldl (fun (s : State) n => s.putBit (F.EVT_IRQn_PEND_PEND n (e / 32)) (e % 32) true) s

/-- The bytes of a record as the ring holds it, with its SEQ. -/
def EvRec.toRing (r : EvRec) (seq : Nat) : RingRec :=
  ⟨r.time / lsbPerNs % 1000000000, r.time / lsbPerSec % 2 ^ 32, r.event, r.inst, seq, r.detail⟩

/-- A record written into the ring: it takes the next SEQ, is counted as accepted (R43) and pends its event. -/
def State.ringPut (s : State) (r : EvRec) : State :=
  ((s.modEvt fun e => { e with ring := e.ring ++ [r.toRing e.seq], seq := (e.seq + 1) % 65536 }).countUp
    (A.CLR_ACCk 2)).setPend r.event

/-- EVT_LOST for block `b` accepted when the block's queue has drained and losses are unreported (R458, R463). -/
def State.lostReport (s : State) (b : Nat) : State :=
  if s.evtWaiting b = 0 ∧ 0 < s.evtLost b ∧ s.evt.ring.length < ringCap then
    (s.modEvt fun e => { e with lostPend := spSet (fun _ => 0) e.lostPend b 0 }).ringPut
      ⟨s.cyc, s.now, Ev.EVT_LOST, b, detSat 32 (s.evtLost b)⟩
  else s

/-- EVT_STAT follows the ring and the log. -/
def State.evtStat (s : State) : State := s.put F.EVT_STAT_FILL s.evt.ring.length

/-- The router runs: not while MCLK is lost (R166), and not in SAVE (R469). -/
def State.routerRuns (s : State) : Bool := !s.mclkLost && s.get F.CLR_STAT_STATE != 2

/-- R458, R460: the router accepts one record, the first in order, with the loss report of a block whose queue has drained; a
full ring makes the sources hold theirs. -/
def State.evAccept (s : State) : State :=
  if s.evt.ring.length < ringCap ∧ s.routerRuns then
    match evFirst s.evt.q with
    | none => match (List.range 16).find? (fun b => s.evtWaiting b == 0 && decide (0 < s.evtLost b)) with
      | some b => (s.lostReport b).evtStat
      | none => s
    | some r =>
      (((s.modEvt fun e => { e with q := e.q.erase r }).ringPut r).lostReport (evtBlock r.event)).evtStat
  else s

def execEventAccept (s : State) : Host.Outcome State Fault Refusal := .next s.evAccept

/-- Whether pin `n` is driven low (R460). -/
def State.irqLow (s : State) (n : Nat) : Bool :=
  (List.range 8).any (fun w => (s.reg (A.EVT_IRQn_PEND n w) &&& s.reg (A.EVT_IRQn_MASK n w)) != 0)

/-- The 16 bytes of a record (R35). -/
def ringRecBytes (r : RingRec) : List Byte :=
  leBytes 4 r.ns ++ leBytes 4 r.sec ++ leBytes 1 r.event ++ leBytes 1 r.inst ++ leBytes 2 r.seq ++ leBytes 4 r.detail

/-- Word `n` of the head record, 0 where the ring is empty (EVT_PEEK0 to 3). -/
def evtPeek (s : State) (n : Nat) : Word := match s.evt.ring with
  | [] => 0
  | r :: _ => BitVec.ofNat 32 (leNat ((ringRecBytes r).drop (4 * n) |>.take 4))

def State.logBase (s : State) : Nat := s.wide A.EVT_LOG_BASE 2 / 4096 * 4096
def State.logSize (s : State) : Nat := 2 ^ s.get F.EVT_LOG_SIZE_LOG2

/-- A log of 2^LOG2 records holds 2^LOG2 - 1 (R459). -/
def State.logFull (s : State) : Bool := (s.get F.EVT_LOG_WR_WR + 1) % s.logSize == s.get F.EVT_LOG_RD_RD

/-- LOG_NONEMPTY and LOG_FULL follow WR and RD; a log that becomes full raises EVT_LOG_FULL (R459). -/
def State.logStat (s : State) : State :=
  ((s.putB F.EVT_STAT_LOG_NONEMPTY (s.get F.EVT_LOG_WR_WR != s.get F.EVT_LOG_RD_RD)).putB F.EVT_STAT_LOG_FULL s.logFull).raiseIf
    (s.logFull && !s.flag F.EVT_STAT_LOG_FULL) Ev.EVT_LOG_FULL noInst (s.get F.EVT_LOG_WR_WR)

/-- R459: while the log is enabled and the ring holds SPILL records or more, the head record moves to the log, and WR
advances once it is whole in DRAM; a full log stops the moves. -/
def State.logSpill (s : State) : State :=
  if s.routerRuns ∧ ¬ s.dramBusy ∧ s.flag F.EVT_CFG_LOG_EN ∧ s.get F.EVT_CFG_SPILL ≤ s.evt.ring.length then
    match s.evt.ring with
    | [] => s
    | r :: rest =>
      if s.logFull then s
      else
        ((((s.modEvt fun e => { e with ring := rest }).writeBytes (s.logBase + 16 * s.get F.EVT_LOG_WR_WR) (ringRecBytes r)).put
          F.EVT_LOG_WR_WR ((s.get F.EVT_LOG_WR_WR + 1) % s.logSize)).countUp (A.CLR_RESk 2)).evtStat.logStat
  else s

def execLogSpill (s : State) : Host.Outcome State Fault Refusal := .next s.logSpill

/-- The word EVT_POP answers: EMPTY, COUNT before the pop, SEQ of the record popped (R12, R462). -/
def evtPopWord (s : State) : Word := match s.evt.ring with
  | [] => 1
  | r :: _ => BitVec.ofNat 32 (s.evt.ring.length * 2 + r.seq * 65536)

/-- R459, R12: a read of EVT_POP answers the head record's word and removes the record; an empty ring answers EMPTY. -/
def State.evtPop (s : State) : State :=
  match s.evt.ring with
  | [] => s.answer (.words [evtPopWord s])
  | _ :: rest =>
    (((s.modEvt fun e => { e with ring := rest }).answer (.words [evtPopWord s])).countUp (A.CLR_RESk 2)).evtStat

def execEvtPop (s : State) : Host.Outcome State Fault Refusal := .next s.evtPop

/-- R459: RD moves at once and frees log space. -/
def State.evtLogRd (s : State) (v : Word) : State := (s.put F.EVT_LOG_RD_RD v.toNat).logStat

def execEvtLogRdWrite (v : Word) (s : State) : Host.Outcome State Fault Refusal := .next (s.evtLogRd v)

end Sys2Proof.Machine
end

