-- ==== Sys2Proof/Machine/Tick.lean ====
section
/-!
DEFINITION. What runs across blocks at a vote, at a tick boundary, at a voted second marker and at a realign step
(00_scope.md R22, 01_architecture.md R26 to R28, 02_keepers_and_voting.md R50 to R62, 06_clock_synthesis.md R168).
-/
namespace Sys2Proof.Machine

open Sys2Proof

/-! ### Ports that come and go -/

/-- A port left UP: its links and the pair follow (R392, R409, R411, R416). -/
def State.portLost (s : State) (p : Nat) : State :=
  let s1 := s.dstPortDown p
  if p = 18 then s1.parLink false else s1

/-- A port came UP: its links, the pair and the export stream follow (R349, R386, R416). -/
def State.portOpened (s : State) (p : Nat) : State :=
  let s1 := s.dstPortUp p
  let s2 := if p = 18 then s1.parLink true else s1
  if s2.expUp ∧ s2.expPort = p then s2.expResend else s2

/-- What follows where a port was UP in `s0` and is not any more. -/
def State.portLeft (s0 s : State) (p : Nat) : State := if s0.portUp p && !s.portUp p then s.portLost p else s

/-! ### The time source (R168) -/

/-- Grid phases measured for one cause. -/
def State.measureGrids (s : State) (cause : Nat) (l : List (Fin 20 × GridPhase)) : State :=
  l.foldl (fun (s : State) g => if s.portUp g.1.val then s.gridMeasure g.1.val cause g.2 else s) s

/-- A port loop or output synthesiser loses its reference (R163, R166). -/
def State.refLost (s : State) (l : Nat) : State :=
  if s.canLose l true then
    let s1 := s.loopLose l true
    if l < 26 then s.portLeft (s1.portGate (l - 6)) (l - 6) else s1
  else s

def referencedLoops : List Nat := (List.range 28).map (6 + ·)

/-- The lock detectors' mask after a handover: 64 reference cycles, 128 ns (R168). -/
def handoverMask : Nat := 128 * lsbPerNs

/-- TSRC was `old`: a handover, the loss of every reference taken from it, or its return (R168). -/
def State.handover (s : State) (old : Nat) (grid : List (Fin 20 × GridPhase)) : State :=
  if s.tsrc = old then s
  else if 3 ≤ s.tsrc then referencedLoops.foldl (fun (s : State) l => s.refLost l) s
  else if 3 ≤ old then referencedLoops.foldl (fun (s : State) l => s.loopStart l) s
  else
    let s1 := s.modSyn fun c => { c with maskUntil := s.now + handoverMask }
    ((s1.raise Ev.SYN_HANDOVER noInst (old + 4 * s.tsrc)).pinHandover).measureGrids 2 grid

/-- What follows a change of membership or vote state that began in `s0`, but for the bounds: the time source's loops, invalid
stamps in DARK, the gates of the outputs. -/
def State.voteEffects (s0 s : State) (grid : List (Fin 20 × GridPhase)) : State :=
  let s1 := s.handover s0.tsrc grid
  (if s0.vstate != vDark && s1.vstate == vDark then s1.stampsInvalid else s1).clkGate

/-- What follows a change of membership or vote state that began in `s0` (R57, R83); it may be a cause to resign (R414). -/
def State.voteChanged (s0 s : State) (grid : List (Fin 20 × GridPhase)) : State :=
  (((s0.voteEffects s grid).bndVote).freeCheck).resignCheck

/-- R66: a REMOVE command, with what a new time source brings (R54, R168). -/
def execKeeperRemove (x : Fin 3) (grid : List (Fin 20 × GridPhase)) (s : State) : Host.Outcome State Fault Refusal :=
  .next (s.voteChanged (s.keeperRemove x) grid)

/-! ### The vote (R50) -/

/-- The bound epoch a prepared response carries: that of the bytes handed to its port, or of the sealed bytes of its context; none
where no response is sealed (R85, R254). -/
def State.sealedEpoch (s : State) (e : Entry) : Option Nat :=
  if (s.pinEntry e).any (fun f => !f.data.isEmpty) then some e.epoch
  else match e.bind with
    | some (n, c) => if (s.ctx n c).bound = some e.index ∧ (s.ctx n c).out ≠ [] then some (s.ctx n c).epoch else none
    | none => none

/-- R85, R86: a prepared response sealed in an older bound epoch is squashed, where its slot lies at least 2 us ahead. -/
def State.epochSquash (s : State) : State :=
  (s.svc.ledger.filter fun e => (s.sealedEpoch e).any (· != s.get F.BND_EPOCH_EPOCH) && decide (s.now + 2 * lsbPerUs ≤ e.slot)).foldl
    (fun (s : State) e => s.ledgerSquash e sqEpoch 0) s

/-- One vote in every block that acts on it. -/
def State.voteAll (s : State) (m : Nat → Marker) (grid : List (Fin 20 × GridPhase)) : State :=
  if !s.kpr.started || s.lockedKeepers.isEmpty then s
  else
    let s1 := s.voteChanged (s.kprVote m) grid
    s1.trimNote.epochSquash

def execVote (a b c : Marker) (grid : List (Fin 20 × GridPhase)) (s : State) : Host.Outcome State Fault Refusal :=
  .next (s.voteAll (markerOf a b c) grid)

/-- Voted time was set anew: the next boundary is the first after it (R28). -/
def State.retick (s : State) : State := { s with nextTick := tickOf s.now + 1 }

/-- R60: the keepers start, seeded with the Cellar seconds. -/
def State.keepersStart (s : State) (cellar : Nat) : State :=
  if s.kpr.started || s.lockedKeepers.isEmpty then s
  else
    let s1 := (s.kprStart cellar).retick
    ((s.voteChanged s1 []).dscStart).putB F.MEM_STAT_SRAM_FILLED true

def execKeepersStart (kclkSeconds : Nat) (s : State) : Host.Outcome State Fault Refusal := .next (s.keepersStart kclkSeconds)

/-! ### Staged writes (R26, R27) -/

/-- The log is empty: a new base or size may take effect (R459). -/
def State.logEmpty (s : State) : Bool := s.get F.EVT_LOG_WR_WR == s.get F.EVT_LOG_RD_RD

/-- One staged write replaces the live bits. EVT_LOG_BASE and _SIZE change only while the log is empty (R459); TX_START
is not lowered below TX_FLOOR (R217); the launch guard is never lowered (R245). -/
def State.applyStaged (s : State) (e : Staged) : State :=
  let w := (s.reg e.addr &&& ~~~e.mask) ||| (e.val &&& e.mask)
  let s1 := s.setReg e.addr w
  if e.addr = A.EVT_LOG_BASE ∨ e.addr = A.EVT_LOG_BASE + 4 ∨ e.addr = A.EVT_LOG_SIZE then
    (if s.logEmpty then (((s1.put F.EVT_LOG_WR_WR 0).put F.EVT_LOG_RD_RD 0).logStat) else s)
  else if allPorts.any (fun p => e.addr == A.PRT_x_TXSTART p && decide (s1.get (F.PRT_x_TXSTART_TX_START p) < s.get (F.PRT_x_TXSTART_TX_FLOOR p))) then s
  else match allPorts.find? (fun p => e.addr == A.TSU_x_GUARD p) with
  | some p => if s1.get (F.TSU_x_GUARD_GUARD p) < s.get (F.TSU_x_GUARD_GUARD p) then s1.put (F.TSU_x_GUARD_GUARD p) (s.get (F.TSU_x_GUARD_GUARD p)) else s1
  | none => match allPorts.find? (fun p => e.addr == A.PRT_x_MAXLEN p) with
  | some p => if s1.maxLen p = s.maxLen p then s1 else s1.modPort p fun k => { k with lenWas := some (s.maxLen p, s.now) }
  | none =>
  if e.addr = A.KPR_REJOIN_CFG then s1.autoRejoinWritten
  else s1

/-- The record of the tick at which a path's latest staged write took effect (R27). -/
def stageTickAddr (p : Path) : Nat := match p with
  | .mgt => A.MGT_STAGE_TICK_MGT
  | .twv => A.MGT_STAGE_TICK_TWV
  | .spi => A.MGT_STAGE_TICK_SPI

/-- A term of the bound that a write raised advances the epoch (R85). -/
def State.boundRaised (s0 s : State) : State :=
  s.epochIf (decide (s0.margin < s.margin) || allPorts.any (fun p => decide (s0.asymOf p < s.asymOf p))) 4

/-- The staged copy replaces the live one at the boundary at `t`: the writes that arrived at least 2 us before it (R26,
R27). DESIGN CHOICE (assumption log 74): MGT_STAGE_RES keeps VALID while a staged write waits; the swap posts the new result. -/
def State.stagedSwap (s : State) (t : Nat) : State :=
  let due (e : Staged) : Bool := decide (e.at_ + 2 * lsbPerUs ≤ t)
  let l := s.staged.filter due
  if l.isEmpty then s
  else
    let s1 := l.foldl State.applyStaged { s with staged := s.staged.filter fun e => !due e }
    let s2 := l.foldl (fun (s : State) e => s.setReg (stageTickAddr e.path) (BitVec.ofNat 32 (tickOf t))) s1
    s.boundRaised (s.ticConfig (s2.post A.MGT_STAGE_RES 0))

/-! ### The tick boundary (R22) -/

/-- R92: service opens at the first tick at which BELOW_SERVICE and LDR READY hold, on a single or ACTIVE unit that does
not install a copy or drain. -/
def State.serviceOpen (s : State) : State :=
  if !s.flag F.SVC_STAT_OPEN && s.flag F.BND_STAT_BELOW_SERVICE && s.flag F.LDR_STAT_READY && (!s.pairEn || s.isActive)
      && !s.flag F.PAR_STAT_APPLYING && !s.draining then
    (s.putB F.SVC_STAT_OPEN true).raise Ev.SVC_OPEN noInst (s.get F.SVC_STAT_FILL)
  else s

/-- Recovered-frequency slots: active while their lane is locked, the phase of the lane measured at the tick (R101, R113,
R505). -/
def State.laneSlots (s : State) (lanes : List (Nat × Int)) : State :=
  (allSlots.filter (fun n => s.slotType n == 6)).foldl (fun (s : State) n =>
    let p := dpPort (s.slotIndex n)
    let up := (s.port p).locked
    let s1 := s.modSl n fun sl => { sl with active := up, brk := sl.brk || !up }
    match up, laneOf lanes p with
    | true, some f => s1.measure n f s1.now false
    | _, _ => s1) s

/-- The slow plane's decisions of a tick, in the order their inputs come: references, the staged switch, a waiting
realign, discipline. -/
def State.slowTick (s : State) (m : TickIn) : State :=
  let was := s.ref.pend.isSome
  let s1 := ((s.gnssTick).ticFeed.dstTick m.lanes).peerTick.laneSlots m.lanes
  let s2 := match m.wit with | some f => s1.witnessNote f | none => s1
  ((s2.refTick).realignTick was).dscTick.refTickEnd

/-- Every port's ENABLE as it stands. -/
def State.portsTick (s : State) : State := allPorts.foldl (fun (s : State) p => s.portLeft (s.portEnable p) p) s

/-- R22, R26: the boundary. While MCLK is lost the management plane decides nothing and stages nothing (R166). -/
def State.tick (s : State) (m : TickIn) : State :=
  if !s.hasVoted then s
  else
    let b := max s.nextTick (tickOf s.now)
    let s0 := (({ s with nextTick := b + 1, tickAt := some (max s.now (b * lsbPerTick)) } : State).advanceTo (b * lsbPerTick))
    if s0.mclkLost then ((s0.fractionLoad).tickStrobes.ldrTick.keyTick).ticTakeover
    else
      let s1 := ((s0.stagedSwap (b * lsbPerTick)).leapTick.slowTick m).fractionLoad.portsTick
      let s2 := ((s1.measureGrids 4 m.grid).trgTick.clkGate.tickStrobes).ldrTick.keyTick
      ((((s2.parTick m.resignIn m.arb).bndLimits.serviceOpen).ticTakeover).ageTj m.tj).epochSquash

/-! ### The voted second marker (R49) -/

/-- The second marker of TAI second `sec` is emitted: voted time has not passed on to the next second, and no realign step has
skipped it (R153). -/
def State.markerDue (s : State) (sec : Nat) : Bool :=
  s.hasVoted && decide (s.kpr.stepTo ≤ sec * lsbPerSec) && decide (s.now < (sec + 1) * lsbPerSec)

/-- The marker of TAI second `sec`: gated outputs are released (R58), the Cellar seconds follow (R465), and each block
takes its second. -/
def State.secondMarker (s : State) (sec : Nat) (clkErr : List Int) (wclk : Nat) : State :=
  if !s.markerDue sec then s
  else
    let s0 := s.advanceTo (sec * lsbPerSec)
    let s1 := s0.putB F.KPR_STAT_OUT_GATED s0.gateCond
    let s2 := if s1.vstate == vVote3 || (s1.vstate == vVote2 && !s1.unjudged) then s1.putWide A.CLR_SEC 2 (sec % 2 ^ 48) else s1
    (((s2.ppsMarker sec).clkMarker clkErr).traceRecord sec).witMarker wclk |>.heartbeat

def execVotedSecondMarker (second : Nat) (clkErr : List Int) (wclk : Nat) (s : State) : Host.Outcome State Fault Refusal :=
  .next (s.secondMarker second clkErr wclk)

/-! ### The realign step (R62, R150 to R153) -/

/-- Instants held by the staging copy, the management plane and firing injections move with voted time. -/
def State.stageStep (s : State) (d : Int) : State :=
  let mv (t : Nat) : Nat := ((t : Int) + d).toNat
  { s with
    staged := s.staged.map fun e => { e with at_ := mv e.at_ }
    mgt := { s.mgt with coreFault := s.mgt.coreFault.map mv, restartAt := s.mgt.restartAt.map mv }
    inj := { s.inj with points := s.inj.points.map fun q => if q.firing then { q with firedAt := mv q.firedAt } else q } }

/-- The tick after a step ends at the first boundary of the new scale; a tick that this would leave shorter than 2^19 ns is
merged into the next (R28). `old` is the instant before the step. -/
def State.tickStep (s : State) (old : Nat) : State :=
  let next := tickOf s.now + 1
  let elapsed := old - s.curTick * lsbPerTick
  { s with nextTick := if elapsed + (next * lsbPerTick - s.now) < lsbPerTick / 2 then next + 1 else next }

/-- Tick numbers that blocks hold move with the count of ticks, so that what follows so many ticks later keeps its distance. -/
def State.tickCounts (s : State) (k : Int) : State :=
  let mv (n : Nat) : Nat := ((n : Int) + k).toNat
  let s1 := s.modRef fun r => { r with pend := r.pend.map fun p => { p with start := mv p.start } }
  let s2 := s1.modMgt fun m => { m with kick := m.kick.map mv }
  let s3 := s2.modMem fun c =>
    { c with trackS := c.trackS.map (fun t => { t with first := mv t.first }), trackD := c.trackD.map (fun t => { t with first := mv t.first }) }
  let s4 := s3.modPar fun p => { p with sealedV := p.sealedV.map fun v => { v with sealedAt := mv v.sealedAt } }
  let s5 := s4.modKey fun c => { c with checked := if c.checked = 0 then 0 else mv (c.checked - 1) + 1 }
  s5.modDst fun c => { c with links := c.links.map fun l => { l with dR := l.dR.map fun e => (mv e.1, e.2) } }

/-- The step of a realign that waits, at its instant (whole microseconds, the markers): the outputs, the keepers and every
block that holds instants follow. -/
def State.realignApply (s : State) (grid : List (Fin 20 × GridPhase)) : State :=
  match s.dsc.realign with
  | some r =>
    if r.ready && s.hasVoted then
      let t := (max s.now r.at_ + (lsbPerUs - 1)) / lsbPerUs * lsbPerUs
      let s0 := s.advanceTo t
      let d := s0.realignStep r
      let s1 := ((((s0.trgStep d).clkStep t d).ppsStep d).tsuStep).kprStep d
      let s2 := s0.voteEffects s1 []
      let s3 := ((((s2.bndStep d).refStep d).realignOffsets r).dscStep).bndVote.freeCheck
      let s3 := (s3.realignDone r d).tickStep t
      let k : Int := (s3.nextTick : Int) - s0.nextTick
      let s4 := ((s3.dscMove d k).tickCounts k).stageStep d
      (((((s4.ticStep d).gnsStep d).dstOwnStep d).parStep d).measureGrids 3 grid).epochSquash
    else s
  | none => s

def execRealignApply (grid : List (Fin 20 × GridPhase)) (s : State) : Host.Outcome State Fault Refusal := .next (s.realignApply grid)

/-! ### The commit of a staged switch (R119) -/

/-- R119: the switch commits, and DSC follows its new slot (R144). -/
def State.switchCommit (s : State) : State := match s.commitDue with
  | some p => ((s.refCommit p).dscCommit p.target)
  | none => s

def execSwitchCommit (s : State) : Host.Outcome State Fault Refusal := .next s.switchCommit

end Sys2Proof.Machine
end

