-- ==== Sys2Proof/Machine/Link.lean ====
section
/-!
DEFINITION. What a loop, a domain or a port that stops and returns does to the blocks that use it
(06_clock_synthesis.md R163 to R167, 07_domain_crossings.md R186 to R189, 08_ports_and_macs.md R198 to R200), and the end
of a transmitted frame.
-/
namespace Sys2Proof.Machine

open Sys2Proof

/-! ### Loops (R163 to R167) -/

/-- A loop in ACQUIRE, SETTLE or LOCKED is lost, and its consumers act by R166; DCLK's controllers enter self-refresh
before its gate closes (R167). -/
def State.loopLost (s : State) (l : Nat) (lor : Bool) (grid : List (Fin 20 × GridPhase)) : State :=
  let s0 := if lor ∧ l < 6 then s.modSyn fun c => { c with ref := listUpd c.ref l fun _ => false } else s
  if !s0.canLose l lor then s0
  else
    let s1 := (if l = 5 then s0.selfRefresh lor else s0).loopLose l lor
    if l < 3 then s1.voteChanged (s1.kprLost l (s1.injOn 0x50 l || s1.injOn 0x51 l)) grid
    else if 6 ≤ l ∧ l < 26 then s1.portLeft (s1.portGate (l - 6)) (l - 6)
    else s1

/-- R163: lock is lost where the phase error exceeded twice LOCK_WIN for four cycles, once the mask of a handover has ended
(R168). -/
def State.lockLost (s : State) (l : Nat) (r : PhaseRun) (grid : List (Fin 20 × GridPhase)) : State :=
  if s.phaseBeyond l r && (decide (l < 6) || decide (s.syn.maskUntil ≤ s.now)) then (s.notePerr l r.last).loopLost l false grid else s

def execLoopLossOfLock (l : Fin 34) (r : PhaseRun) (grid : List (Fin 20 × GridPhase)) (s : State) : Host.Outcome State Fault Refusal :=
  .next (s.lockLost l r grid)

/-- R163: no reference edge arrived for four periods. -/
def execLoopLossOfReference (l : Fin 34) (grid : List (Fin 20 × GridPhase)) (s : State) : Host.Outcome State Fault Refusal :=
  .next (s.loopLost l true grid)

/-- The controllers leave self-refresh and train again: rank 0 at once, the other is due (R166, R432). With no rank to train
the waiting requests are served. -/
def State.dclkBack (s : State) : State :=
  (((s.modSyn fun c => { c with sref := false }).modMem fun c => { c with trained := c.trained.map fun _ => 0 }).retrain 0 true).dramServe

/-- The time that `n` cycles of WCLK took, corrected by the witness model as it stood when voted time was lost (R59, R148), in
2^-16 ns. -/
def State.darkTime (s : State) (n : Nat) : Nat :=
  ((n : Rat) * lsbPerSec / 48000000 * (1 - s.witnessAt s.kpr.lastVoted)).floor.toNat

/-- R164, R165, R166: SETTLE has elapsed with lock held: the loop is LOCKED and its consumers recover. -/
def State.settleDone (s : State) (l us darkCycles : Nat) : State :=
  if s.loopState l ≠ lpSettle ∨ us < s.get (F.SYN_LOOPL_SETTLE_SETTLE l) then s
  else
    let s1 := s.loopSettled l
    if l < 3 then
      let s2 := s1.kprLocked l (s1.darkTime darkCycles)
      s1.voteChanged (if s1.vstate == vDark && s1.kpr.started then s2.retick else s2) []
    else if l = 3 then (s1.deliverStrobes 3).limitSweep
    else if l = 4 then (s1.deliverStrobes 4).gnsMclkBack
    else if l = 5 then (s1.deliverStrobes 5).dclkBack
    else if l < 26 then (s1.deliverStrobes (l + 10)).portUngate (l - 6)
    else s1

/-! ### Domains (R186 to R189) -/

/-- R187: no edge of a domain for its detection time: a GNSS band whose clock stops loses its channels (R364). -/
def State.domainStop (s : State) (d : Nat) : State :=
  let s0 := (s.edgesStop d).monitor d none
  let s1 := if 48 ≤ d ∧ d < 68 then s0.modPort (d - 48) fun k => { k with locked := false } else s0
  if (d = 6 ∨ d = 7) ∧ s.clockRuns d then s1.bandStop (d - 6) else s1

def execDomainStopped (d : Fin 128) (s : State) : Host.Outcome State Fault Refusal := .next (s.domainStop d)

/-- R187: edges are present again throughout a detection time; a closed gate lets none through. -/
def State.domainRun (s : State) (d us : Nat) : State :=
  let s1 := s.edgesBack d
  if !s1.clockRuns d then s
  else
    let s2 := (s1.monitor d (some us)).gnsShow
    if s.clockRuns d then s2 else if d = 3 then s2.limitSweep else if d = 5 then s2.dramServe else s2

/-- Entries in the received-frame queues of a lane toward CCLK, and those queues emptied; PRT counts the frames (R188). -/
def State.flushFrames (s : State) (p : Nat) : (Nat × Nat) × State :=
  let r := s.flushRx p
  ((((List.range 8).filter fun q => s.get (F.PRT_x_RXQq_CFG_CONSUMER p q) == 1 && !(s.queue p q).isEmpty).length, r.1), r.2)

/-- Prepared responses of CCLK waiting in a transmit lane: each discarded one is a squash (R188). -/
def State.flushResponses (s : State) (p : Nat) : (Nat × Nat) × State :=
  let c (f : Pinned) : Bool := f.src == 1 && f.phase != .launching
  let n := ((s.port p).pinned.filter c).length
  ((if n = 0 then 0 else 1, n), s.pinSquashIf p sqLink 0 c)

/-- A partial vintage of MCLK toward PP is discarded whole (R188). -/
def State.flushVintage (s : State) : (Nat × Nat) × State :=
  let n := ((s.par.openV.toList ++ s.par.sealedV.toList).map fun v => v.frames.length).sum
  ((if n = 0 then 0 else 1, n), s.discardAll)

/-- R188: the FLUSH queues between domains `a` and `b`, in either order: what was in them, and the state without it. -/
def State.flushPair (s : State) (a b : Nat) : (Nat × Nat) × State :=
  let lo := min a b
  let hi := max a b
  if lo = 3 ∧ 48 ≤ hi ∧ hi < 68 then s.flushFrames (hi - 48)
  else if lo = 3 ∧ 16 ≤ hi ∧ hi < 36 then s.flushResponses (hi - 16)
  else if lo = 4 ∧ hi = 34 then s.flushVintage
  else ((0, 0), s)

/-- R189: side `y`, its clock running, delivers the pulses already flipped, empties the FLUSH queues between it and `x`, keeps
the HOLD queues, and acknowledges. -/
def State.handshakeAck (s : State) (x y : Nat) : State :=
  match s.handshake x y with
  | some h =>
    if !h.acked && s.clockRuns y then
      let r := s.flushPair x y
      (r.2.deliverStrobes y).hsAck x y r.1.1 r.1.2
    else s
  | none => s

def execResetHandshakeAck (x y : Fin 128) (s : State) : Host.Outcome State Fault Refusal := .next (s.handshakeAck x y)

/-! ### Ports (R198 to R200, R237) -/

/-- R198: lock was held for LINK_HOLD, `ms` milliseconds by now, without a fault: the port is UP. -/
def State.linkOpen (s : State) (p ms : Nat) (ph : GridPhase) : State :=
  let s1 := s.linkUp p ms ph
  if !s.portUp p && s1.portUp p then s1.portOpened p else s1

def execLinkHoldExpiry (p : Fin 20) (ms : Nat) (ph : GridPhase) (s : State) : Host.Outcome State Fault Refusal := .next (s.linkOpen p ms ph)

/-- R198, R199: lock lost, hi_ber or a fault; the causes are 1 lock, 2 hi_ber, 3 local fault, 4 remote fault. -/
def State.linkFailed (s : State) (p cause : Nat) : State := s.portLeft (s.linkFault p cause) p

def execLinkFault (p : Fin 20) (cause : Fin 4) (s : State) : Host.Outcome State Fault Refusal := .next (s.linkFailed p (cause + 1))

/-- The domain pairs whose crossings a port has: its lanes with the service pipeline, the management plane and the time source
(R24). DESIGN CHOICE (assumption log 77): the spec lists no crossings per port. -/
def State.portPairs (s : State) (p : Nat) : List (Nat × Nat) :=
  [16 + p, 48 + p].flatMap fun x => ([3, 4] ++ (if s.tsrc < 3 then [s.tsrc] else [])).map fun y => (x, y)

/-- R189, R200: one pair of sides runs its handshake; it waits where the other side's clock stands. What was flushed is counted. -/
def State.pairReset (a : Nat × State) (d : Nat × Nat) : Nat × State :=
  let s1 := (a.2.hsRequest d.1 d.2).handshakeAck d.1 d.2
  let n := match s1.handshake d.1 d.2 with
    | some h => h.entries
    | none => 0
  (a.1 + n, s1.hsOpen d.1 d.2)

/-- R200: a port reset: the handshakes of the port's crossings run, its FLUSH queues are emptied (R188), and the device raises
PRT_RESET_DONE. -/
def State.portReset (s : State) (p : Nat) : State :=
  let s1 := s.portLeft (s.portClear p) p
  let r := (s1.portPairs p).foldl State.pairReset (0, s1)
  r.2.raise Ev.PRT_RESET_DONE p (detSat 16 r.1)

def execPortReset (p : Fin 20) (s : State) : Host.Outcome State Fault Refusal := .next (s.portReset p)

/-- R237: an unpinned frame left whole: an export frame resolves its Pips (R350), a two-step Sync counts in SYNC_SENT
(R275). -/
def State.txLeft (s : State) (p : Nat) (m : TxMeta) : State :=
  match (s.port p).busy with
  | none => s
  | some f =>
    let s1 := s.txDone p m
    if s.injOn 0x71 p then s1
    else if f.src = 4 then s1.expDone f.data
    else if f.src = 2 ∧ f.stamp.isSome then s1.svcCount svcSyncSent
    else s1

def execTxFrameDone (p : Fin 20) (m : TxMeta) (s : State) : Host.Outcome State Fault Refusal := .next (s.txLeft p m)

/-- R232, R253: a reservation reaches the TSU: the ledger's for an entry, or another source's with its own fields, whose
reply it answers. -/
def State.reserveFor (s : State) (r : Launch) : State := match r with
  | .entry i => s.launchEntry i
  | .direct p c e len rsv tag =>
    let g := s.reserve p c (s.get (F.PRT_x_TXCc_CFG_SOURCE p c)) e len rsv tag
    g.2.answer (.words (grantWords g.1))

def execLaunchReservation (r : Launch) (s : State) : Host.Outcome State Fault Refusal := .next (s.reserveFor r)

end Sys2Proof.Machine
end

