-- ==== Sys2Proof/Machine/MgtCore.lean ====
section
/-!
DEFINITION. The management core pair, the console and the SPI port's status (18_management_plane.md R446, R447, R452,
R454).
-/
namespace Sys2Proof.Machine

open Sys2Proof

def bootLoading : Nat := 0
def bootLoaded : Nat := 1
def bootFailed : Nat := 2

def State.loaded (s : State) : Bool := s.get F.MGT_BOOT_STATE == bootLoaded

/-! ### The core pair (R447) -/

/-- A pair fault: 1 lockstep, 2 watchdog, 3 memory. The data plane and the Twivon journal go on. -/
def State.coreFault (s : State) (cause : Nat) : State :=
  ((((s.incrSat F.MGT_CORE_STAT_FAULTS).put F.MGT_CORE_STAT_CAUSE cause).modMgt fun m =>
    { m with coreFault := some (m.coreFault.getD s.now), kick := none }).modPar fun p => { p with pairFault := some (p.pairFault.getD s.now) }).raise
    Ev.MGT_CORE_FAULT noInst cause

def execCorePairFault (memory : Bool) (s : State) : Host.Outcome State Fault Refusal := .next (s.coreFault (if memory then 3 else 1))

/-- MGT_WDOG has not been written for WDOG_TICKS ticks. -/
def State.watchdogDue (s : State) : Bool := match s.mgt.kick with
  | some k => decide (k + s.get F.MGT_WDOG_CFG_WDOG_TICKS ≤ s.curTick)
  | none => false

def execWatchdogExpiry (s : State) : Host.Outcome State Fault Refusal := .next (if s.watchdogDue then s.coreFault 2 else s)

/-- The cores run: with MCLK (R29, R166). -/
def State.coresRun (s : State) : Bool := !s.mclkLost

/-- A write of KICK: the watchdog starts again; the first after a fault is the recovery. -/
def State.watchdogKick (s : State) : State :=
  let s1 := s.modMgt fun m => { m with kick := some s.curTick, coreFault := none }
  match s.mgt.coreFault with
  | some t => (s1.modPar fun p => { p with pairFault := none }).raise Ev.MGT_CORE_RECOVERED noInst (detSat 16 ((s.now - t) / (1000000 * lsbPerNs)))
  | none => s1

def execWatchdogKick (s : State) : Host.Outcome State Fault Refusal := .next (if s.coresRun then s.watchdogKick else s)

/-! ### The console (R454) -/

def consoleDepth : Nat := 64

def State.uartShow (s : State) : State := (s.put F.MGT_UART_STAT_TX_FILL s.mgt.uartTx.length).put F.MGT_UART_STAT_RX_FILL s.mgt.uartRx.length

/-- A byte queued by the management cores; the loader owns the console until LOADED. -/
def State.uartWrite (s : State) (b : Byte) : State :=
  if !s.loaded || !s.coresRun then s
  else if consoleDepth ≤ s.mgt.uartTx.length then s.putB F.MGT_UART_STAT_TX_OVR true
  else (s.modMgt fun m => { m with uartTx := m.uartTx ++ [b] }).uartShow

def execUartTxWrite (b : Byte) (s : State) : Host.Outcome State Fault Refusal := .next (s.uartWrite b)

def State.uartReceive (s : State) (b : Byte) (frameErr : Bool) : State :=
  if !s.loaded then s
  else if consoleDepth ≤ s.mgt.uartRx.length then s.putB F.MGT_UART_STAT_RX_OVR true
  else (s.modMgt fun m => { m with uartRx := m.uartRx ++ [(b, frameErr)] }).uartShow

def execUartRxByte (b : Byte) (frameErr : Bool) (s : State) : Host.Outcome State Fault Refusal := .next (s.uartReceive b frameErr)

/-- EMPTY, DATA and FRAME_ERR of the head. -/
def State.uartHead (s : State) : Word := match s.mgt.uartRx with
  | [] => 1
  | (b, e) :: _ => BitVec.ofNat 32 (2 * b.toNat + (if e then 512 else 0))

def State.uartPop (s : State) : State := ((s.answer (.words [s.uartHead])).modMgt fun m => { m with uartRx := m.uartRx.drop 1 }).uartShow

def execUartRxPop (s : State) : Host.Outcome State Fault Refusal := .next (if s.coresRun then s.uartPop else s)

def execUartTxByteSent (s : State) : Host.Outcome State Fault Refusal := .next (s.modMgt fun m => { m with uartTx := m.uartTx.drop 1 }).uartShow

/-! ### The SPI port's status (R452) -/

/-- The status byte: LOADING, LOADED, FAILED, ERR. -/
def State.spiStatusByte (s : State) : Nat :=
  2 ^ min (s.get F.MGT_BOOT_STATE) 2 + (if s.flag F.MGT_SPI_STAT_ERR then 8 else 0)

/-- The port is served: by the loader on SYSCLK, after LOADED in the MCLK domain (R166, R452). -/
def State.spiUp (s : State) : Bool := !s.mainOff && !(s.loaded && s.mclkLost)

def execSpiStatus (s : State) : Host.Outcome State Fault Refusal :=
  .next (if s.spiUp then s.answer (.bytes [BitVec.ofNat 8 s.spiStatusByte]) else s)

/-- An SPI access that failed: ERR and its address; a refused write raises MGT_SPI_REFUSED once per tick. -/
def State.spiErr (s : State) (a : Nat) (refused : Bool) : State :=
  let s1 := (s.putB F.MGT_SPI_STAT_ERR true).put F.MGT_SPI_STAT_ADDR (a / 2)
  if refused ∧ s.mgt.spiTick ≠ s.nextTick then (s1.modMgt fun m => { m with spiTick := s.nextTick }).raise Ev.MGT_SPI_REFUSED noInst (a % 2 ^ 24)
  else s1

end Sys2Proof.Machine
end

