-- ==== Sys2Proof/Machine/Inj.lean ====
section
/-!
DEFINITION. Fault injection (20_fault_injection.md R480 to R485): arming, firing and ending. What a firing point does while
it fires is asked by the detectors themselves (`injOn`, `injArg`, `injUse`).
-/
namespace Sys2Proof.Machine

open Sys2Proof

/-- How a point ends: at once, after its count, after a duration in units of 2^-16 ns for each unit of ARG1. -/
inductive InjLife where
  | once
  | counted
  | lasts (unit : Nat)
  deriving DecidableEq, Repr

/-- The points of R484 and how each ends; none for a code that names no point. A point without ARG1 whose effect waits for
an occasion is counted once. -/
def injLife (pt : Nat) : Option InjLife :=
  if [0x00, 0x61, 0x62, 0x72, 0x90, 0xB0, 0xB2, 0xD0, 0xF2, 0xF3].contains pt then some .once
  else if [0x10, 0x11, 0x31, 0x40, 0x71, 0x80, 0x81, 0xA0, 0xB1, 0xC0, 0xC2, 0xE0, 0xE1, 0xE3, 0xF0].contains pt then some .counted
  else if [0x01, 0x50, 0x51, 0x60, 0x70, 0xC1].contains pt then some (.lasts lsbPerUs)
  else if [0x20, 0x30, 0x32, 0xF1].contains pt then some (.lasts lsbPerTick)
  else if pt = 0xE2 then some (.lasts (1000 * lsbPerUs))
  else if pt = 0xD1 then some (.lasts (60 * lsbPerSec))
  else none

/-- The instances of a point: none where INSTANCE has no meaning. -/
def injInstances (pt : Nat) : Option Nat :=
  if pt = 0x01 then some 16 else if [0x10, 0x11, 0x40].contains pt then some 3 else if [0x30, 0x31, 0x32].contains pt then some 16
  else if [0x50, 0x51].contains pt then some 34 else if pt = 0x60 then some 128 else if [0x61, 0x62].contains pt then some 256
  else if [0x70, 0x71, 0x72, 0x80, 0x81, 0xE0, 0xE1].contains pt then some 20 else if pt = 0x90 then some 32 else if pt = 0xC0 then some 16
  else if [0xC1, 0xC2].contains pt then some 32 else if pt = 0xD0 then some 4 else if pt = 0xF1 then some 2 else none

/-- INSTANCE as the point uses it. -/
def injInst (pt inst : Nat) : Nat := if (injInstances pt).isSome then inst else 0

/-- ARG1 as a count or duration: 0 means 1 (R485); the symbols of 0xF0 and the bias of 0xD1 are no count. -/
def injCount (pt arg1 : Nat) : Nat := if pt = 0xF0 ∨ pt = 0xD1 ∨ pt = 0x81 ∨ pt = 0xC2 ∨ pt = 0xE1 then 1 else max 1 arg1

/-- A crossing index that R193 assigns: a tick strobe's, or one the implementation names. -/
def crossingAssigned (i : Nat) : Bool := decide (i < 0x1A) || (Config.crossing i).2.2.2

/-- POINT, INSTANCE and the arguments lie in range (R484). -/
def injRange (pt inst arg0 arg1 : Nat) : Bool :=
  (injLife pt).isSome
    && (match injInstances pt with | some n => decide (inst < n) | none => true)
    && (if pt = 0x01 then decide (injCount pt arg1 ≤ 1000000)
        else if pt = 0x60 then (domainBit 0 inst).isSome && inst != 9 && decide (injCount pt arg1 ≤ 1000000)
        else if pt = 0x61 then crossingAssigned inst && decide (2 ≤ arg0 ∧ arg0 ≤ 255)
        else if pt = 0x62 then crossingAssigned inst
        else if pt = 0x72 then decide (arg0 < 65536)
        else if pt = 0xB0 then decide (arg0 < 4096)
        else if pt = 0xB2 then decide (arg0 < 11)
        else if pt = 0xD1 then decide (arg0 < 1024)
        else if pt = 0xE0 ∨ pt = 0xE1 then decide (2 ≤ inst ∧ inst < 18)
        else if pt = 0xF0 then decide (arg1 < 128 ∧ arg1 % 64 + arg1 / 64 ≤ 35)
        else if pt = 0xF1 then decide (arg0 ≤ 35)
        else true)

/-- The target can take the injection (R481): port UP, band awake, loop not OFF, keeper not OUT, the role the point
requires. -/
def State.injTarget (s : State) (pt inst arg0 : Nat) : Bool :=
  if pt = 0x10 ∨ pt = 0x11 then s.mstate inst != msOut
  else if pt = 0x50 ∨ pt = 0x51 then s.loopState inst != lpOff
  else if pt = 0x60 then !((inst = 6 ∨ inst = 7) && s.bandState (inst - 6) != gbAwake)
  else if [0x70, 0x71, 0x72, 0x80, 0x81].contains pt then s.portUp inst
  else if pt = 0xD0 then s.bandState 0 == gbAwake || s.bandState 1 == gbAwake
  else if pt = 0xD1 then s.bandState (sigBand (arg0 % 16)) == gbAwake
  else if pt = 0xE0 then s.portUp inst && s.dlUp (inst - 2)
  else if pt = 0xE1 then s.portUp inst && s.dlDown (inst - 2)
  else if pt = 0xE3 then s.isActive
  else true

/-- The cause that refuses an arm (R481), the lowest where several hold; 0 for none. -/
def State.injCause (s : State) (pt inst arg0 arg1 : Nat) : Nat :=
  if !s.bit F.INJ_CFG_CLASS_EN (pt / 16) then 1
  else if (s.inj.points.any fun q => q.point / 16 == pt / 16) && !s.flag F.INJ_CFG_DOUBLE_EN then 2
  else if !injRange pt inst arg0 arg1 then 3
  else if !s.injTarget pt inst arg0 then 4
  else if pt = 0xB2 ∧ ¬ s.flag F.INJ_CFG_TAMPER_EN then 5
  else if s.draining then 6 else 0

/-- INJ_STAT follows the points. -/
def State.injShow (s : State) : State :=
  s.put F.INJ_STAT_ACTIVE ((List.range 16).foldl (fun a c => if s.inj.points.any (fun q => q.point / 16 == c) then a + 2 ^ c else a) 0)

/-- A result posted: 1 armed, 2 fired and ended, 3 refused, 4 disarmed. -/
def State.injPost (s : State) (result cause pt inst : Nat) : State :=
  s.post A.INJ_RES (2 * result + 16 * cause + 65536 * pt + 2 ^ 24 * inst)

/-- The words of INJ_AT complete a KT96 value: one whose nanoseconds are 10^9 or more is refused, and the value last taken stands
(R14, R15). -/
def State.injAt (s : State) (k : Nat) : State := if kt96Ns k < 1000000000 then s.putWide (A.INJ_AT 0) 3 k else s

/-- R481, R482: an arm at the value of INJ_AT last taken; AT 0 or past means the next tick boundary. The word answered to Twivon
is INJ_RES. -/
def State.injArm (s : State) (cmd arg0 arg1 : Nat) : State :=
  let at_ := s.wide (A.INJ_AT 0) 3
  let pt := cmd % 256
  let inst := cmd / 256 % 256
  let c := s.injCause pt inst arg0 arg1
  if c ≠ 0 then s.injPost 3 c pt inst
  else
    let t := timeOf at_
    let t1 := if t ≤ s.now then s.nextTick * lsbPerTick else t
    ((s.modInj fun i => { i with points := i.points ++ [⟨pt, injInst pt inst, arg0, arg1, t1, false, injCount pt arg1, 0⟩] }).injShow).injPost 1 0 pt inst

def execInjArm (cmd arg0 arg1 : Word) (at_ : Fin 79228162514264337593543950336) (s : State) : Host.Outcome State Fault Refusal :=
  .next ((s.injAt at_).injArm cmd.toNat arg0.toNat arg1.toNat)

/-! ### Firing (R482 to R484) -/

/-- The tag of a main slot fails from now on. -/
def State.injTag (s : State) (i : Nat) : State :=
  s.modKey fun c => { c with main := spSet blankSlot c.main i { spGet blankSlot c.main i with tag := (spGet blankSlot c.main i).tag.map (· ^^^ 1) } }

/-- What a point does at its first firing, in its detector. -/
def State.injEffect (s : State) (q : InjPoint) : State :=
  if q.point = 0x00 then s.coreFault 1
  else if q.point = 0x20 then s.epochLater 4
  else if q.point = 0x50 then s.loopLost q.inst false []
  else if q.point = 0x51 then s.loopLost q.inst true []
  else if q.point = 0x60 then s.domainStop q.inst
  else if q.point = 0x61 then s.mergeAdd q.inst (q.arg0 - 1)
  else if q.point = 0x62 then
    (let m := s.crossingMap q.inst
     s.raise Ev.XDC_SAMPLE_STALL noInst (m.1 % 128 + 256 * (m.2.1 % 128)))
  else if q.point = 0x70 then s.linkFailed q.inst 3
  else if q.point = 0x72 then (s.controlCount q.inst).pauseRx q.inst q.arg0 s.now
  else if q.point = 0x90 then s.engineFault q.inst 6
  else if q.point = 0xB0 then s.injTag q.arg0
  else if q.point = 0xB1 then s.rngFail false
  else if q.point = 0xB2 then s.tamper (2 ^ q.arg0)
  else if q.point = 0xC1 then s.putB (F.TIC_CHn_STAT_QFULL q.inst) true
  else if q.point = 0xD0 then s.lpFault q.inst 2
  else if q.point = 0xF2 then s.modClr fun c => { c with snapFail := true }
  else if q.point = 0xF3 then s.ageDrift q.arg0
  else s

/-- The condition a firing point held is taken away. -/
def State.injRelease (s : State) (q : InjPoint) : State :=
  if !q.firing then s
  else if q.point = 0x51 then s.refReturn q.inst
  else if q.point = 0x60 then s.domainRun q.inst (injCount q.point q.arg1)
  else if q.point = 0xC1 then s.putB (F.TIC_CHn_STAT_QFULL q.inst) false
  else s

/-- A point is no longer armed. -/
def State.injDrop (s : State) (q : InjPoint) : State :=
  ((s.modInj fun i => { i with points := i.points.erase q }).injRelease q).injShow

/-- A point has fired and is spent: RESULT 2 with the instant of its first firing. -/
def State.injSpent (s : State) (q : InjPoint) : State :=
  ((s.injDrop q).putKt (A.INJ_FIRE_T 0) q.firedAt).injPost 2 0 q.point q.inst

def State.injPoint (s : State) (pt inst : Nat) (firing : Bool) : Option InjPoint :=
  s.inj.points.find? fun q => q.point == pt && q.inst == injInst pt inst && q.firing == firing

/-- R482: an armed point fires at its instant. -/
def State.injFire (s : State) (pt inst : Nat) : State := match s.injPoint pt inst false with
  | none => s
  | some q =>
    let s1 := s.advanceTo q.at_
    let q1 := { q with firing := true, firedAt := s1.now }
    let s2 := (s1.modInj fun i => { i with points := i.points.map fun x => if x = q then q1 else x }).incr F.INJ_FIRED_COUNT
    let s3 := s2.injEffect q1
    if injLife pt = some .once then s3.injSpent q1 else s3

def execInjFire (point inst : Byte) (s : State) : Host.Outcome State Fault Refusal := .next (s.injFire point.toNat inst.toNat)

/-- R482: the count or the duration of a firing point is spent. -/
def State.injEnd (s : State) (pt inst : Nat) : State := match s.injPoint pt inst true with
  | none => s
  | some q => match injLife pt with
    | some (.lasts u) => (s.advanceTo (q.firedAt + injCount pt q.arg1 * u)).injSpent q
    | _ => if q.left = 0 ∨ pt = 0xB1 then s.injSpent q else s

/-! ### Disarming (R482) -/

def State.injDisarm (s : State) (pt inst : Nat) : State :=
  ((s.inj.points.filter fun q => q.point == pt && q.inst == injInst pt inst).foldl State.injDrop s).injPost 4 0 pt inst

/-- Every point ends. -/
def State.injClear (s : State) : State := s.inj.points.foldl State.injDrop s

/-- The words of a Twivon INJ command (R451, R481): INJ_CMD, ARG0, ARG1 and AT0 to AT2. DEDUCED (assumption log 86): AT is taken
before INJ_CMD is judged, and of several bits DISARM_ALL comes first, then DISARM. -/
def State.injCommand (s0 : State) (w : List Nat) : State :=
  let s := s0.injAt ((w[3]?).getD 0 + (w[4]?).getD 0 * 2 ^ 32 + (w[5]?).getD 0 * 2 ^ 64)
  let cmd := (w[0]?).getD 0
  let pt := cmd % 256
  let inst := cmd / 256 % 256
  if cmd / 2 ^ 18 % 2 = 1 then s.injClear.injPost 4 0 pt inst
  else if cmd / 2 ^ 17 % 2 = 1 then s.injDisarm pt inst
  else if cmd / 2 ^ 16 % 2 = 1 then s.injArm cmd ((w[1]?).getD 0) ((w[2]?).getD 0)
  else s

end Sys2Proof.Machine
end

