-- ==== Sys2Proof/Machine/Twv.lean ====
section
/-!
DEFINITION. Twivon messages (18_management_plane.md R448 to R450, 12_keys_and_authentication.md R318, R319): which received
frame is one, its tag, and how an ACK, a REPLY or BUSY leaves. What a command does is in Mgt.lean.
-/
namespace Sys2Proof.Machine

open Sys2Proof

def twCommand : Nat := 1
def twAck : Nat := 2
def twReply : Nat := 3
def twBusy : Nat := 4

/-- The key of an enabled entry (R318); none where it is not usable. -/
def State.twvKey (s : State) (k : Nat) : Option (List Byte) :=
  if k < 8 ∧ s.flag (F.KEY_TWVk_CFG_EN k) then s.ownKey pbTwivon (s.get (F.KEY_TWVk_CFG_HANDLE k)) else none

/-- A message of R449 with its tag. -/
def twvMsg (key : List Byte) (typ k status seq op : Nat) (payload : List Byte) : List Byte :=
  let m := leBytes 1 1 ++ leBytes 1 typ ++ leBytes 1 k ++ leBytes 1 status ++ leBytes 8 seq ++ leBytes 2 op ++ leBytes 2 payload.length ++ payload
  m ++ hmac key m

/-- The class of a port whose SOURCE is 3 (R448). -/
def State.twvClass (s : State) (p : Nat) : Nat := ((List.range 8).find? (fun c => s.get (F.PRT_x_TXCc_CFG_SOURCE p c) == 3)).getD 0

/-- A message sent on the port and VLAN of its command. -/
def State.twvOut (s : State) (c : TwvCmd) (msg : List Byte) : State :=
  let d := c.da ++ beBytes 6 (s.portAddr c.port) ++ c.vlan ++ beBytes 2 (s.get F.MGT_TWV_CFG_ETYPE) ++ msg
  s.txSubmit c.port 3 (s.twvClass c.port) d none d.length

/-- A message of the device for a command; none leaves without a usable key. -/
def State.twvSend (s : State) (c : TwvCmd) (typ status : Nat) (payload : List Byte) : State := match s.twvKey c.key with
  | some key => s.twvOut c (twvMsg key typ c.key status c.seq c.op payload)
  | none => s

/-- MGT_TWV_STAT follows the journal. -/
def State.journalShow (s : State) : State := s.put F.MGT_TWV_STAT_JOURNAL s.mgt.journal.length

/-- The REPLY of a command: stored for R319, sent, and the command leaves the journal (R450). -/
def State.twvReplied (s : State) (c : TwvCmd) (status : Nat) (payload : List Byte) : State :=
  let msg := match s.twvKey c.key with | some key => twvMsg key twReply c.key status c.seq c.op payload | none => []
  let s1 := s.modMgt fun m => { m with
    journal := m.journal.erase c,
    sent := m.sent.map fun t => if t.key = c.key ∧ t.seq = c.seq then { t with reply := some msg } else t }
  ((if msg.isEmpty then s1 else s1.twvOut c msg).countUp (A.CLR_RESk 3)).journalShow

/-- A received frame is a Twivon message: MP, or SP0 and SP1 on the VLAN where SVC_VLAN_EN is set (R448). -/
def State.isTwivon (s : State) (p : Nat) (f : RxFrame) : Bool :=
  etherType f.data == s.get F.MGT_TWV_CFG_ETYPE &&
    (p == 19 || (decide (p < 2) && s.flag F.MGT_TWV_CFG_SVC_VLAN_EN && (match (tagsOf f.data).outer with
      | some (_, vid) => vid == s.get F.MGT_TWV_CFG_VID
      | none => false)))

/-- The message of a frame as a command, and its bytes up to the tag with the tag. -/
def twvParse (p : Nat) (d : List Byte) : TwvCmd × List Byte × List Byte :=
  let o := (tagsOf d).etOfs + 2
  let m := d.drop o
  let at_ (i n : Nat) := leNat (slice m i n)
  let len := at_ 14 2
  (⟨at_ 2 1, at_ 4 8, at_ 12 2, slice m 16 len, p, slice d 6 6, slice d 12 (o - 14)⟩, m.take (16 + len), slice m (16 + len) 32)

end Sys2Proof.Machine
end

