-- ==== Sys2Proof/Machine/Clr.lean ====
section
/-!
DEFINITION. The Cellar domain (19_start_sleep_ageing.md R464 to R472, R477, R479; 21_pins_package_electrical.md R491, R493):
its supplies, a full-device reset and the full start, the Cellar state and the wake.
-/
namespace Sys2Proof.Machine

open Sys2Proof

def cpAwake : Nat := 0
def cpDrain : Nat := 1
def cpSave : Nat := 2
def cpCellar : Nat := 3
def cpWaking : Nat := 4

/-- An event of the Cellar domain: raised now, or after the next start where the main domain is off (R479). -/
def State.clrRaise (s : State) (ev inst detail : Nat) : State :=
  if s.mainOff then s.modClr fun c => { c with waiting := c.waiting ++ [(ev, inst, detail)] } else s.raise ev inst detail

/-- The events that waited for the start. -/
def State.clrWaiting (s : State) : State :=
  let s1 := (s.clr.waiting.foldl (fun (s : State) e => s.raise e.1 e.2.1 e.2.2) s).modClr fun c => { c with waiting := [] }
  if s1.key.tamperPend = 0 then s1 else (s1.raise Ev.KEY_TAMPER noInst s1.key.tamperPend).modKey fun k => { k with tamperPend := 0 }

/-! ### What outlives a reset (R464) -/

/-- Registers of Cellar content. -/
def cellarRegs : List Nat :=
  [A.KEY_TAMPER_CFG, A.KEY_TAMPER_STAT, A.KEY_TAMPER_SEC, A.AGE_EQ_HOURS, A.CLR_STAT, A.CLR_SEC, A.CLR_SEC + 4, A.CLR_LAST_WAKE]
    ++ (List.range 8).flatMap fun k => [A.KEY_TWVk_HIGH k, A.KEY_TWVk_HIGH k + 4]

/-- Words of `s0` carried into `s`. -/
def State.carry (s0 s : State) (l : List Nat) : State := l.foldl (fun (s : State) a => s.setReg a (s0.reg a)) s

/-- Counters of Cellar content: accepted and resolved, per kind (R43). -/
def cellarCounts : List Nat := (List.range 5).flatMap fun k => [A.CLR_ACCk k, A.CLR_RESk k]

/-- The main domain at its reset state, the Cellar content, the flash, the OTP level and DRAM as they are. -/
def State.mainReset (s : State) : State :=
  let r : State := { State.reset with
    pending := s.pending, dram := s.dram, free := s.free, cyc := s.cyc + 1, reply := s.reply,
    cnt := cellarCounts.foldl (fun l a => spSet (fun _ => 0) l a (s.count a)) [],
    key := { State.reset.key with cellar := s.key.cellar, commit := s.key.commit, draws := s.key.draws, tamperPend := s.key.tamperPend },
    mem := { State.reset.mem with chk := s.mem.chk, retired := s.mem.retired },
    dsc := { State.reset.dsc with oscs := s.dsc.oscs.map fun o => { OscState.blank with cellar := o.cellar } },
    gns := { State.reset.gns with ret := s.gns.ret },
    age := { State.reset.age with eq := s.age.eq, lifeSaid := s.age.lifeSaid },
    clr := { s.clr with phase := cpAwake, enter := none, snapFail := s.clr.snapFail },
    boot := { State.reset.boot with held := true, flash := s.boot.flash, otp := s.boot.otp, console := s.boot.console } }
  ((((s.carry r cellarRegs).put F.CLR_STAT_STATE 0).putB F.AGE_STAT_HIST_LOST (s.flag F.AGE_STAT_HIST_LOST)).put F.AGE_STAT_LIFE_PERMIL
    (s.get F.AGE_STAT_LIFE_PERMIL)).keyShow

/-- The Cellar content is lost with both supplies (R466). -/
def State.cellarLost (s : State) : State :=
  let s1 := { s with
    cnt := cellarCounts.foldl (fun l a => spSet (fun _ => 0) l a 0) s.cnt,
    key := { s.key with cellar := [], commit := State.reset.key.commit },
    mem := { s.mem with retired := [] },
    dsc := { s.dsc with oscs := s.dsc.oscs.map fun o => { o with cellar := none } },
    gns := { s.gns with ret := GnssRet.blank },
    age := { s.age with eq := 0, lifeSaid := 0 },
    clr := { s.clr with bothLost := true, snap := none, snapOk := false } }
  let s2 := ([A.KEY_TAMPER_CFG, A.KEY_TAMPER_STAT, A.KEY_TAMPER_SEC, A.AGE_EQ_HOURS, A.CLR_SEC, A.CLR_SEC + 4, A.CLR_LAST_WAKE]
    ++ (List.range 8).flatMap fun k => [A.KEY_TWVk_HIGH k, A.KEY_TWVk_HIGH k + 4]).foldl (fun (s : State) a => s.setReg a (resetWord a)) s1
  let s3 := (s2.put F.AGE_STAT_LIFE_PERMIL 0).keyShow
  if cpCellar ≤ s3.clr.phase then (s3.modClr fun c => { c with phase := cpAwake }).modBoot fun b => { b with held := true } else s3

/-! ### The full start (R43, R466, R467) -/

/-- The count of a kind that the start drops, saturating. -/
def State.dropOf (s : State) (k : Nat) : Nat := min (s.count (A.CLR_ACCk k) - s.count (A.CLR_RESk k)) 0xFFFFFFFE

/-- R466: the counts are settled, and MGT_RESTART is the first event. -/
def State.settleCounts (s : State) : State :=
  if s.clr.bothLost then
    let s1 := (List.range 5).foldl (fun (s : State) k => s.put (F.CLR_DROPk_COUNT k) 0xFFFFFFFF)
      { s with cnt := cellarCounts.foldl (fun l a => spSet (fun _ => 0) l a 0) s.cnt }
    let s2 := ((s1.putB F.CLR_STAT_BOTH_LOST true).modClr fun c => { c with bothLost := false }).putB F.AGE_STAT_HIST_LOST true
    (s2.raise Ev.MGT_RESTART noInst 0xFFFFFFFF).raise Ev.AGE_HIST_LOST
  else
    let drop := (List.range 5).map s.dropOf
    let s1 := (List.range 5).foldl (fun (s : State) k =>
      { s.put (F.CLR_DROPk_COUNT k) (nth drop k) with cnt := spSet (fun _ => 0) s.cnt (A.CLR_RESk k) (s.count (A.CLR_ACCk k)) }) s
    ((s1.putB F.CLR_STAT_BOTH_LOST false).putB F.AGE_STAT_HIST_LOST false).raise Ev.MGT_RESTART noInst (min drop.sum 0xFFFFFFFE)

/-- The Cellar domain is supplied. -/
def State.cellarPowered (s : State) : Bool := s.clr.vaux || s.flag F.CLR_STAT_VBAT_OK

/-- R467: a device held in reset starts once its Cellar domain is supplied: the counts are settled, memory is VIRGIN, the
Cellar keys are checked (R305), and the loader runs. -/
def State.fullStart (s : State) : State :=
  if !s.boot.held || !s.cellarPowered then s
  else
    let s1 := { s with mainOff := false, dram := [], mem := { s.mem with chk := [] }, boot := { s.boot with held := false, console := [] } }
    let s2 := (s1.put F.MGT_BOOT_STATE 0).put F.MGT_ROLLBACK_OTP s.boot.otp
    let s3 := (s2.settleCounts).putB F.CLR_STAT_ON_VBAT (!s.clr.vaux)
    s3.clrWaiting.cellarCheck

def execFullStart (s : State) : Host.Outcome State Fault Refusal := .next s.fullStart

/-- R42: a full-device reset; the snapshot commit word is cleared (R469). -/
def State.deviceReset (s : State) : State := (s.mainReset.modClr fun c => { c with snapOk := false }).setReg A.CLR_LAST_WAKE 0

def execResetNAssert (s : State) : Host.Outcome State Fault Refusal := .next s.deviceReset

/-- R472, R493: PWRGOOD falling is a full-device reset, but expected while CELLAR_REQ_N is low. -/
def execPwrgoodFall (s : State) : Host.Outcome State Fault Refusal := .next (if s.clr.phase = cpCellar then s else s.deviceReset)

/-! ### Supplies (R464, R479, R491) -/

def State.supplyEvent (s : State) : State :=
  s.clrRaise Ev.CLR_SUPPLY noInst (s.get F.CLR_STAT_VAUX_OK + 2 * s.get F.CLR_STAT_VBAT_OK)

/-- VAUX falls below 2.60 V: the domain moves to VBAT; without it the content is lost. -/
def State.vauxFall (s : State) : State :=
  if !s.clr.vaux then s
  else
    let s1 := s.modClr fun c => { c with vaux := false }
    if s1.flag F.CLR_STAT_VBAT_OK then s1.putB F.CLR_STAT_ON_VBAT true else s1.cellarLost

def execVauxFall (s : State) : Host.Outcome State Fault Refusal := .next s.vauxFall
def execVauxRise (s : State) : Host.Outcome State Fault Refusal := .next (s.modClr fun c => { c with vaux := true })

/-- VAUX leaves or returns to 2.7 V to 5.5 V. -/
def State.vauxRange (s : State) (ok : Bool) : State := if s.flag F.CLR_STAT_VAUX_OK == ok then s else (s.putB F.CLR_STAT_VAUX_OK ok).supplyEvent

def execVauxOutOfRange (s : State) : Host.Outcome State Fault Refusal := .next (s.vauxRange false)
def execVauxInRange (s : State) : Host.Outcome State Fault Refusal := .next (s.vauxRange true)

/-- VBAT falls below 2.0 V; where the domain ran on it, its content is lost. -/
def State.vbatLow (s : State) : State :=
  if !s.flag F.CLR_STAT_VBAT_OK then s
  else
    let s1 := (s.putB F.CLR_STAT_VBAT_OK false).supplyEvent
    if s1.clr.vaux then s1 else s1.cellarLost

def execVbatLow (s : State) : Host.Outcome State Fault Refusal := .next s.vbatLow
def execVbatRestored (s : State) : Host.Outcome State Fault Refusal := .next (s.putB F.CLR_STAT_VBAT_OK true)

/-- R477: the counts per kind are latched at one instant. -/
def execClrCntSnap (s : State) : Host.Outcome State Fault Refusal :=
  .next (cellarCounts.foldl (fun (s : State) a => s.putWide a 2 (s.count a)) s)

/-! ### Into the Cellar state (R469) -/

def State.clrResult (s : State) (result cause : Nat) : State := s.post A.CLR_RESULT (2 * result + 8 * cause)

/-- The cause that refuses an ENTER; 0 for none. -/
def State.enterCause (s : State) : Nat := if s.isActive && s.pairEn then 3 else if s.dsc.realign.isSome then 4 else 0

/-- ENTER: refused, or the drain begins: admission closes and every injection ends (R482). `cmd` is the Twivon WRITE that
carried it. The flag says it was taken. -/
def State.cellarEnter (s : State) (cmd : Option TwvCmd) : Bool × State :=
  if s.clr.phase ≠ cpAwake ∨ ¬ s.loaded then (false, s)
  else if s.enterCause ≠ 0 then (false, s.clrResult 3 s.enterCause)
  else
    let s1 := s.injClear.modClr fun c => { c with phase := cpDrain, drainAt := s.now, wasOpen := s.flag F.SVC_STAT_OPEN, enter := cmd }
    (true, (((s1.put F.CLR_STAT_STATE 1).putB F.SVC_STAT_OPEN false).unpost A.CLR_RESULT).raise Ev.CLR_CELLAR_ENTER noInst s.svc.ledger.length)

/-- ENTER from the management cores, or from the SPI port with WRITE set (R453); Twivon carries it in a WRITE. -/
def execCellarEnter (path : Path) (s : State) : Host.Outcome State Fault Refusal :=
  .next (if path = .spi ∧ ¬ s.flag F.MGT_SPI_CFG_WRITE then s else (s.cellarEnter none).2)

/-- The ENTER that waits is replied to. -/
def State.enterReply (s : State) (status : Nat) : State := match s.clr.enter with
  | some c => (s.twvReplied c status []).modClr fun k => { k with enter := none }
  | none => s

/-- The entry ends before CELLAR: what it closed opens again (cause 1 timeout, 2 wake). -/
def State.drainAbort (s : State) (cause : Nat) : State :=
  let s1 := s.modClr fun c => { c with phase := cpAwake }
  ((((s1.put F.CLR_STAT_STATE 0).putB F.SVC_STAT_OPEN s.clr.wasOpen).raise Ev.CLR_CELLAR_ABORT noInst cause).clrResult 2 cause).enterReply 3

/-- Every accepted item is resolved but the ENTER itself. -/
def State.drained (s : State) : Bool :=
  s.svc.ledger.isEmpty && s.tic.chans.all (fun c => c.q.isEmpty) && s.tic.segs.isEmpty && s.tic.kept.isEmpty
    && s.mgt.journal.all (fun c => s.clr.enter == some c)

/-- Every LDIRTY line written back. -/
def State.flushLines (s : State) : State :=
  let s1 := s.writeAll
  (s1.ldr.lines.foldl (fun (s : State) p => s.writeBack p.1) s1).modLdr fun l => { l with lines := l.lines.map fun p => (p.1, { p.2 with ldirty := false }) }

/-- Trigger entries are discarded and counted as skipped. -/
def State.trgDiscard (s : State) : State :=
  (List.range 16).foldl (fun (s : State) k => (s.incr (F.TRG_k_SKIPPED_COUNT k) (s.trgOut k).entries.length).trgCancel k) s

/-- DRAIN ends with everything resolved: the reply leaves, the router stops, SAVE begins. -/
def State.drainDone (s : State) : State :=
  if s.clr.phase = cpDrain ∧ s.drained then
    (((s.flushLines).enterReply 0).trgDiscard.modClr fun c => { c with phase := cpSave }).put F.CLR_STAT_STATE 2
  else s

def execDrainComplete (s : State) : Host.Outcome State Fault Refusal := .next s.drainDone

/-- DRAIN_MAX has elapsed. -/
def State.drainTimeout (s : State) : State :=
  if s.clr.phase = cpDrain then
    (s.advanceTo (if s.hasVoted then s.clr.drainAt + s.get F.CLR_CFG_DRAIN_MAX * 1000 * lsbPerUs else s.now)).drainAbort 1
  else s

def execDrainTimeout (s : State) : Host.Outcome State Fault Refusal := .next s.drainTimeout

/-! ### The snapshot (R470) -/

/-- The bits of a register that the snapshot holds: RW and Attic fields, and the band table. -/
def savedMask (a : Nat) : Nat :=
  (fieldsAt a).foldl (fun m f => if f.acc = .RW ∨ f.attic then m + (2 ^ (f.hi + 1) - 2 ^ f.lo) else m) 0

/-- A register's word with the fields that are not saved at their reset values. -/
def savedWord (a : Nat) (w : Word) : Word :=
  let m := BitVec.ofNat 32 (savedMask a)
  (w &&& m) ||| (resetWord a &&& ~~~m)

def State.snapshot (s : State) : Snapshot :=
  { regs := s.regs.foldl (fun l p => spSet resetWord l p.1 (savedWord p.1 p.2)) [], ring := s.evt.ring, seq := s.evt.seq,
    traceSeq := s.bnd.traceSeq, prevCrc := s.bnd.prevCrc, sent := s.mgt.sent }

/-- CELLAR_REQ_N: low in the Cellar state (R469). -/
def State.cellarReqN (s : State) : Bool := s.clr.phase != cpCellar

/-- The snapshot and its commit word are written, which takes a DRAM that serves: CELLAR_REQ_N falls and the main clocks
stop. -/
def State.snapshotSaved (s : State) : State :=
  if s.clr.phase = cpSave ∧ s.dramBusy = false then
    let s1 := s.clrResult 1 0
    { s1.modClr fun c => { c with phase := cpCellar, snap := some s.snapshot, snapOk := true } with mainOff := true }
  else s

def execSnapshotSaved (s : State) : Host.Outcome State Fault Refusal := .next s.snapshotSaved

/-! ### Waking (R471, R472) -/

def wkWakeN : Nat := 1
def wkTimer : Nat := 2
def wkTamper : Nat := 3
def wkCompat : Nat := 4

/-- A wake source, while VAUX holds: it aborts the entry, ends CELLAR, and merges with the first in WAKING. -/
def State.wakeSource (s : State) (src : Nat) : State :=
  if !s.clr.vaux then s
  else if s.clr.phase = cpDrain ∨ s.clr.phase = cpSave then s.drainAbort 2
  else if s.clr.phase = cpCellar then s.modClr fun c => { c with phase := cpWaking, source := src }
  else s

def execWakeNAssert (s : State) : Host.Outcome State Fault Refusal := .next (s.wakeSource wkWakeN)

/-- The Cellar seconds have reached CLR_WAKE_AT, with TIMER set. -/
def State.wakeTimer (s : State) : State :=
  let at_ := s.get F.CLR_WAKE_AT_SEC
  if s.flag F.CLR_CFG_TIMER ∧ at_ ≠ 0 then
    let sec := s.clrSec + (at_ + 2 ^ 32 - s.clrSec % 2 ^ 32) % 2 ^ 32
    ((if s.clr.phase = cpCellar then s.putWide A.CLR_SEC 2 sec else s).wakeSource wkTimer)
  else s

def execWakeTimerExpiry (s : State) : Host.Outcome State Fault Refusal := .next s.wakeTimer

/-- R321, R471: an armed tamper source erases every key, and wakes the device where TAMPER is set; a pair resigns on it
(R414). -/
def State.tamperEvent (s : State) (src : Nat) : State :=
  let hit := natAnd src s.armed
  if hit = 0 then s
  else
    let s1 := (s.tamper src).modPar fun p => { p with tampered := true }
    if s1.flag F.CLR_CFG_TAMPER then s1.wakeSource wkTamper else s1

def execTamperTrigger (src : Fin 2048) (s : State) : Host.Outcome State Fault Refusal := .next (s.tamperEvent src)

/-- R190: an item for a domain stopped by design wakes it, with WAKE_COMPAT set: a sleeping GNSS band, or the main domains
of a device in the Cellar state from KCLK. -/
def State.compatWake (s : State) (src dst : Nat) : State :=
  if !s.flag F.XDC_CFG_WAKE_COMPAT then s
  else if s.clr.phase = cpCellar ∧ src = 9 ∧ dst ≠ 9 ∧ dst < 9 then
    (if s.clr.vaux then (s.clrRaise Ev.XDC_WAKE dst (dst + 256 * src)).wakeSource wkCompat else s)
  else if (dst = 6 ∨ dst = 7) ∧ s.bandState (dst - 6) = gbAsleep then
    (s.raise Ev.XDC_WAKE dst (dst + 256 * src)).bandWake (dst - 6) true none
  else s

def execCompatWakeRequest (src dst : Fin 128) (s : State) : Host.Outcome State Fault Refusal := .next (s.compatWake src dst)

/-- Registers beside the saved fields that stand across the Cellar state: the identity of the load, the positions in rings
that stay in DRAM, the margins and maxima of this start (R470, R475), the pair's generations, the result of the entry. -/
def wakeRegs : List Nat :=
  cellarRegs ++ [A.MGT_BOOT, A.MGT_IMAGE_SERIAL, A.MGT_ROLLBACK, A.MGT_LOAD_MS, A.EVT_LOG_WR, A.BND_TRACE_STAT, A.SVC_JNL_STAT, A.CLR_RESULT,
    A.AGE_STAT, A.AGE_TJ, A.AGE_PDM, A.AGE_TIC_DRIFT, A.AGE_TSU_MOVE, A.AGE_AVS, A.BND_HW_AGE, A.BND_HW_AGE + 4, A.TIC_CAL_CFG,
    A.PAR_GEN_COMMIT, A.MEM_STAT, A.MEM_FILL_WM, A.LDR_STAT]
    ++ (List.range 20).map A.TSU_x_GUARD ++ (List.range 32).map A.TIC_CHn_RING_WR
    ++ (List.range 5).map A.CLR_DROPk

/-- Bands that the image enables start their clocks (R357, R379). -/
def State.bandsStart (s : State) (nak : List (Option (Fin 64))) : State :=
  [0, 1].foldl (fun (s : State) b => s.bandWake b false (nakOf nak b)) (s.modGns fun g => { g with band := [gbAsleep, gbAsleep] })

/-- Keepers are OUT after a wake; only the binding of each to its oscillator stands. -/
def State.carryOsc (s s0 : State) : State :=
  [0, 1, 2].foldl (fun (s : State) x =>
    (s.setReg (A.KPR_x_STAT x) (resetWord (A.KPR_x_STAT x))).put (F.KPR_x_STAT_OSC x) (s0.get (F.KPR_x_STAT_OSC x))) s

/-- The restore: the main domain at reset, the snapshot's content, DRAM and its protection as they are, the client records
with the Pantry empty, the derive list run again, the loops started. -/
def State.restore (s : State) (x : Snapshot) (nak : List (Option (Fin 64))) : State :=
  let r := s.mainReset
  let s1 : State := { r with
    regs := x.regs.foldl (fun l p => spSet resetWord l p.1 p.2) [], mainOff := false, evt := { State.reset.evt with ring := x.ring, seq := x.seq },
    bnd := { State.reset.bnd with traceSeq := x.traceSeq, prevCrc := x.prevCrc, ringCount := s.bnd.ringCount, ovrSeen := s.bnd.ovrSeen },
    svc := { State.reset.svc with jnlCount := s.svc.jnlCount, jnlOvr := s.svc.jnlOvr }, mgt := { State.reset.mgt with sent := x.sent },
    mem := { s.mem with sram := [], trackD := [], trackS := [], dev := [] },
    ldr := { State.reset.ldr with hashKey := s.ldr.hashKey, grants := s.ldr.grants },
    par := { State.reset.par with current := s.par.current, nextGen := s.par.nextGen },
    age := s.age, syn := { State.reset.syn with loaded := true }, boot := { s.boot with held := false },
    clr := { s.clr with phase := cpAwake } }
  let s2 := (((s.carry s1 wakeRegs).evtStat.put F.CLR_STAT_STATE 0).putB F.LDR_STAT_READY true).carryOsc s
  let s3 := (List.range 4).foldl State.ckDeriveAll (s2.deriveList s.boot.derive_)
  (([0, 1, 2, 3, 4, 5].foldl (fun (s : State) l => s.loopStart l) s3).noBands).bandsStart nak

/-- The wake ends (R469): with the snapshot committed and intact and DRAM trained the device is AWAKE as it was, otherwise
it runs a full start. `ms` is the time since the source. -/
def State.wakeDone (s : State) (ms : Nat) (intact trained : Bool) (nak : List (Option (Fin 64))) : State :=
  if s.clr.phase ≠ cpWaking then s
  else
    match (if s.clr.snapOk && !s.clr.snapFail && intact && trained then s.clr.snap else none) with
    | some x =>
      let s1 := (s.restore x nak).setReg A.CLR_LAST_WAKE (BitVec.ofNat 32 (s.clr.source + 256 * detSat 8 ms))
      (s1.raise Ev.CLR_WAKE noInst (s.clr.source + 256 * detSat 8 ms)).clrWaiting
    | none =>
      let s1 := s.mainReset.modClr fun c => { c with snapOk := false, snapFail := false }
      (s1.setReg A.CLR_LAST_WAKE (BitVec.ofNat 32 (s.clr.source + 8 + 256 * detSat 8 ms))).fullStart

def execWakeComplete (ms : Nat) (intact trained : Bool) (nak : List (Option (Fin 64))) (s : State) : Host.Outcome State Fault Refusal :=
  .next (s.wakeDone ms intact trained nak)

end Sys2Proof.Machine
end

