-- ==== Sys2Proof/Machine/Boot.lean ====
section
/-!
DEFINITION. The Attic loader (18_management_plane.md R436 to R444): the headers, the checks of a copy and what a load
applies.
-/
namespace Sys2Proof.Machine

open Sys2Proof

/-! ### The flash (R436) -/

def copyBase (c : Nat) : Nat := c * 0x1000000

/-- `n` bytes of copy `c` from `o`; an erased byte reads 0xFF. -/
def State.flashRead (s : State) (c o n : Nat) : List Byte := (List.range n).map fun i => spGet (fun _ => 0xFF) s.boot.flash (copyBase c + o + i)

/-- A little-endian field of a header block or section. -/
def leAt (h : List Byte) (o n : Nat) : Nat := leNat (slice h o n)

def hdrSerial (h : List Byte) : Nat := leAt h 8 4
def hdrRollback (h : List Byte) : Nat := leAt h 12 4
def hdrLength (h : List Byte) : Nat := leAt h 24 4
def hdrPubkey (h : List Byte) : List Byte := slice h 32 64
def hdrSections (h : List Byte) : Nat := leAt h 6 2

/-- The first of causes 1 to 5 that a header block fails, 0 for none (R439). -/
def State.headerCause (s : State) (h : List Byte) : Nat :=
  if crc32 (h.take 4092) ≠ leAt h 4092 4 then 1
  else if leAt h 0 4 ≠ 0x7720A771 ∨ leAt h 4 2 ≠ 1 ∨ leAt h 16 4 ≠ 0x7720 ∨ hdrLength h < 4160 ∨ 16777216 < hdrLength h then 2
  else if (s.reg A.ID_REV).toNat % 256 < leAt h 20 1 then 3
  else if hdrRollback h < s.boot.otp ∨ 63 < hdrRollback h then 4
  else if beNat (sha256 (hdrPubkey h)) ≠ Config.bootKeyHash then 5
  else 0

/-- The cause recorded for copy `c`. -/
def State.setCause (s : State) (c cause : Nat) : State := s.put (if c = 0 then F.MGT_BOOT_CAUSE_A else F.MGT_BOOT_CAUSE_B) cause

/-- A line of the loader on the console (R454). -/
def State.bootLine (s : State) (copy serial cause : Nat) : State := s.modBoot fun b => { b with console := b.console ++ [(copy, serial, cause)] }

/-- No candidate remains: FAILED (R442). -/
def State.loadFailed (s : State) : State := (s.put F.MGT_BOOT_STATE bootFailed).bootLine 2 0 0

/-- The loader runs. -/
def State.booting (s : State) : Bool := s.get F.MGT_BOOT_STATE == bootLoading && !s.boot.held && !s.mainOff

/-- HEADERS: each copy judged, the candidates ordered by SERIAL, copy A first on a tie. -/
def State.headersRead (s : State) (respondA respondB : Bool) : State :=
  if !s.booting || !s.boot.candidates.isEmpty then s
  else
    let hA := s.flashRead 0 0 4096
    let hB := s.flashRead 1 0 4096
    let cA := if respondA then s.headerCause hA else 11
    let cB := if respondB then s.headerCause hB else 11
    let l := match cA, cB with
      | 0, 0 => if hdrSerial hA < hdrSerial hB then [1, 0] else [0, 1]
      | 0, _ => [0]
      | _, 0 => [1]
      | _, _ => []
    let s1 := ((s.setCause 0 cA).setCause 1 cB).modBoot fun b => { b with candidates := l, failedOne := false }
    if l.isEmpty then s1.loadFailed else s1

def execHeadersRead (respondA respondB : Bool) (s : State) : Host.Outcome State Fault Refusal := .next (s.headersRead respondA respondB)

/-! ### Sections (R437) -/

def secRegs : Nat := 1
def secBands : Nat := 2
def secMgtFw : Nat := 3
def secSeFw : Nat := 4
def secLpFw : Nat := 5
def secDerive : Nat := 6
def secFeList : Nat := 7
def secRegions : Nat := 8

/-- The table's entries: type, offset, length. -/
def sections (h : List Byte) : List (Nat × Nat × Nat) :=
  (List.range (hdrSections h)).map fun i => (leAt h (96 + 16 * i) 2, leAt h (100 + 16 * i) 4, leAt h (104 + 16 * i) 4)

/-- The bytes of a section; none where the copy lacks it. -/
def sectionOf (img : List Byte) (t : Nat) : List Byte := match (sections img).find? (fun e => e.1 == t) with
  | some (_, o, n) => slice img o n
  | none => []

/-- The largest length of a section type, and the size of one entry. -/
def sectionLimit (t : Nat) : Nat × Nat :=
  if t = secRegs then (16777216, 8) else if t = secBands then (1024, 8) else if t = secMgtFw then (0x100000, 1)
  else if t = secSeFw ∨ t = secLpFw then (0x10000, 1) else if t = secDerive then (16777216, 32) else if t = secFeList then (512, 4)
  else (16777216, 1)

/-- Pieces of `n` bytes. -/
def pieces (n : Nat) (l : List Byte) : List (List Byte) := (List.range (l.length / n)).map fun i => slice l (n * i) n

/-- The REGS entries: address and value. -/
def regsEntries (img : List Byte) : List (Nat × Word) := (pieces 8 (sectionOf img secRegs)).map fun e => (leAt e 0 4, BitVec.ofNat 32 (leAt e 4 4))

/-- Two ranges share a byte. -/
def overlaps (o n o2 n2 : Nat) : Bool := decide (o < o2 + n2 ∧ o2 < o + n)

/-- Cause 7: a section is missing, outside the copy, overlapping, repeated or oversized. -/
def sectionsBad (img : List Byte) (gnss : Bool) : Bool :=
  let l := sections img
  let need := [secRegs, secBands, secMgtFw, secSeFw, secRegions] ++ (if gnss then [secLpFw, secFeList] else [])
  hdrSections img == 0 || decide (32 < hdrSections img)
    || l.any (fun (t, o, n) => decide (o < 4096 ∨ hdrLength img - 64 < o + n) || decide ((sectionLimit t).1 < n) || n % (sectionLimit t).2 != 0)
    || (List.range l.length).any (fun i => (l.drop (i + 1)).any fun (t, o, n) => match l[i]? with
        | some (t0, o0, n0) => t0 == t || overlaps o0 n0 o n
        | none => false)
    || need.any (fun t => !l.any fun e => e.1 == t)
    || [0, 1].any (fun b => decide (64 < ((pieces 4 (sectionOf img secFeList)).filter fun e => leAt e 0 1 == b).length))

/-! ### REGS (R438) -/

/-- A value lies in a field's stated range; the ranges that are no interval stand here by register. -/
def fieldOk (a : Nat) (f : FieldDef) (v : Nat) : Bool :=
  if (List.range 20).any (fun p => a == A.TSU_x_RSV p) && f.lo == 0 then v == 0 || decide (200 ≤ v)
  else if (List.range 16).any (fun d => a == A.DST_LINKd_ALPHA d) then decide ((toSigned 32 v).natAbs ≤ 1000000000)
  else if a == A.GNS_EPOCH_CFG then [10, 20, 50, 100, 200, 500, 1000].contains v
  else if a == A.BND_QUERY_CMD && f.lo == 0 then decide (v < 20) || v == 31
  else match f.rng with
    | some (lo, hi) => decide (lo ≤ v ∧ v ≤ hi)
    | none => true

/-- A field of REGS: RW, or loaded by the Attic. -/
def FieldDef.loads (f : FieldDef) : Bool := f.acc == .RW || f.attic

/-- An entry is refused. -/
def entryBad (e : Nat × Word) : Bool :=
  let m := BitVec.ofNat 32 (savedMask e.1)
  m == 0 || (e.2 &&& ~~~m) != 0 || (fieldsAt e.1).any fun f => f.loads && !fieldOk e.1 f (bitsOf e.2 f.hi f.lo)

/-- An entry applied: the Attic and RW fields of its register; tamper arms only add (R322). -/
def State.applyEntry (s : State) (e : Nat × Word) : State :=
  let m := BitVec.ofNat 32 (savedMask e.1)
  let w := (s.reg e.1 &&& ~~~m) ||| (e.2 &&& m)
  s.setReg e.1 (if e.1 = A.KEY_TAMPER_CFG then w ||| (s.reg e.1 &&& 0x0000070F) else w)

/-- The type-dependent defaults of slot `n` (R124): FREQ_LIMIT, FDIS_LIMIT, QUAL_TIME, JUMP_LIMIT, LOS. -/
def State.slotDefault (s : State) (n : Nat) : State :=
  let t := s.slotType n
  let freqPin := t == 6 || (t == 1 && s.get (F.REF_PIN_CFG_KIND (s.slotIndex n % 8)) == 2)
  if t = 0 ∨ 6 < t then s
  else
    let s1 := (s.put (F.REF_SLOTn_FLIM_FREQ_LIMIT n) 1000000000).put (F.REF_SLOTn_FDIS_FDIS_LIMIT n) (if t = 3 ∨ t = 6 then 1000000 else 10000)
    let s2 := s1.put (F.REF_SLOTn_TIME_QUAL_TIME n) (if t = 2 ∨ t = 3 then 60 else if t = 1 ∧ freqPin = false then 30 else 10)
    (s2.put (F.REF_SLOTn_JUMP_JUMP_LIMIT n) (if freqPin then 0 else if t = 3 then 1000 else 100)).put (F.REF_SLOTn_LOS_LOS n) (if t = 3 then 2862 else 0)

/-- The entries applied in order, over the defaults of the slots they bind. -/
def State.applyRegs (s : State) (l : List (Nat × Word)) : State :=
  l.foldl State.applyEntry (allSlots.foldl State.slotDefault (l.foldl State.applyEntry s))

/-! ### Checks of other chapters (cause 9) -/

/-- FOUT above its output's limit (R169). -/
def State.foutBad (s : State) : Bool :=
  (List.range 8).any fun k => decide ((if k < 4 then 1500000000 else 250000000) < s.get (F.SYN_CLKOUTk_CFG_FOUT k))

/-- An oscillator frequency that does not divide 500 MHz with a ratio of 4 to 500 (R159). -/
def oscBad (digest : List Byte) : Bool :=
  [0, 1, 2].any fun x =>
    let f := (Config.oscBind digest x).2
    f == 0 || 500000000 % f != 0 || decide (500000000 / f < 4 ∨ 500 < 500000000 / f) || decide (2 < (Config.oscBind digest x).1)

/-- A band's FS outside its range (R356). -/
def State.fsBad (s : State) : Bool := [0, 1].any fun b => s.bandFs b != 0 && !s.bandEnabled b

/-- Two UP links with one UP_INDEX (R385). -/
def State.upBad (s : State) : Bool :=
  [0, 1].any fun i => decide (1 < ((List.range 16).filter fun d =>
    s.get (F.DST_LINKd_CFG_ROLE d) == 2 && s.get (F.DST_LINKd_CFG_UP_INDEX d) == i).length)

/-- A type 3 slot without one port for its instance (R506). -/
def State.packetBad (s : State) : Bool :=
  allSlots.any fun n => s.slotType n == 3 &&
    ((List.range 20).filter fun x => (List.range 8).any fun q =>
      s.get (F.PRT_x_RXQq_CFG_CONSUMER x q) == 3 && s.get (F.PRT_x_RXQq_CFG_INDEX x q) == s.slotIndex n).length != 1

/-! ### Regions (R444) -/

/-- A region of an owner covers `n` bytes from `a`. -/
def regionCovers (l : List (Nat × Nat × Nat)) (owner a n : Nat) : Bool :=
  l.any fun (b, pages, o) => o == owner && decide (b ≤ a ∧ a + n ≤ b + 4096 * pages)

def ownLdr : Nat := 1
def ownPar : Nat := 2
def ownMem : Nat := 3
def ownMgt : Nat := 4
def ownBnd : Nat := 5
def ownSvc : Nat := 6
def ownTic : Nat := 7

/-- Cause 10. -/
def State.regionsBad (s : State) (r : Nat × Nat × List (Nat × Nat × Nat)) : Bool :=
  let size := r.1
  let l := r.2.2
  let lar := 2 ^ (20 + s.get F.LDR_CFG_SIZE) * 64
  !([8, 16, 32, 64] : List Nat).contains (size / 2 ^ 30) || size % 2 ^ 30 != 0 || decide (16 < l.length)
    || l.any (fun (b, pages, _) => decide (size < b + 4096 * pages) || b % 4096 != 0)
    || (List.range l.length).any (fun i => (l.drop (i + 1)).any fun (b, p, _) => match l[i]? with
        | some (b0, p0, _) => overlaps b0 (4096 * p0) b (4096 * p)
        | none => false)
    || !regionCovers l ownLdr (s.wide A.LDR_BASE 2) lar || s.wide A.LDR_BASE 2 % lar != 0
    || !regionCovers l ownPar (s.wide A.PAR_STAGE_BASE 2) (2 * lar) || !regionCovers l ownPar (s.wide A.PAR_LOG_BASE 2) (lar / 16)
    || (s.get F.MEM_SPARE_SPARES != 0 && !regionCovers l ownMem (s.wide A.MEM_SPARE_BASE 2) (4096 * s.get F.MEM_SPARE_SPARES))

/-! ### The load (R439, R440) -/

/-- The cause that refuses a copy read in full, 0 for none: the signature, then the checks in order. -/
def State.copyCause (s : State) (img : List Byte) : Nat :=
  let n := hdrLength img
  let body := img.take (n - 64)
  let t := s.applyRegs (regsEntries img)
  if !ecdsaOk (hdrPubkey img) (sha256 body) (slice img (n - 64) 64) then 6
  else if sectionsBad img ([0, 1].any t.bandEnabled) then 7
  else if (regsEntries img).any entryBad then 8
  else if t.foutBad || oscBad (sha256 body) || t.fsBad || t.upBad || t.packetBad then 9
  else if t.regionsBad (Config.regionsOf (sectionOf img secRegions)) then 10
  else 0

/-- The band table (R161, R178). -/
def State.applyBands (s : State) (img : List Byte) : State :=
  let l := pieces 8 (sectionOf img secBands)
  (List.range l.length).foldl (fun (s : State) k =>
    let e := (l[k]?).getD []
    (s.setReg (A.SYN_BANDk_LO k) (BitVec.ofNat 32 (leAt e 0 4) &&& 0xFFFFFF3F)).setReg (A.SYN_BANDk_HI k) (BitVec.ofNat 32 (leAt e 4 2))) s

/-- The region table and the installed DRAM. -/
def State.applyRegions (s : State) (r : Nat × Nat × List (Nat × Nat × Nat)) : State :=
  let s1 := s.modMem fun m => { m with size := r.1, ranks := r.2.1, trained := (List.range r.2.1).map fun _ => s.now }
  (List.range r.2.2.length).foldl (fun (s : State) i =>
    let e := (r.2.2[i]?).getD (0, 0, 0)
    ((s.putWide (A.MGT_REGIONr_BASE i) 2 e.1).put (F.MGT_REGIONr_SIZE_PAGES i) e.2.1).put (F.MGT_REGIONr_OWNER_OWNER i) e.2.2) s1

/-- Registers whose reset value another field of the image gives: TX_START, EFC and VID; FEC is always on at SP0 and SP1 (R195,
R219). -/
def State.applyDerived (s : State) : State :=
  let s0 := [0, 1].foldl (fun (s : State) p => s.putB (F.PRT_x_CFG_FEC p) true) s
  let s1 := allPorts.foldl (fun (s : State) p =>
    s.put (F.PRT_x_TXSTART_TX_START p) (max (s.get (F.PRT_x_TXSTART_TX_START p)) (s.get (F.PRT_x_TXSTART_TX_FLOOR p)))) s0
  ([0, 1, 2].foldl (fun (s : State) x => s.put (F.DSC_OSCx_EFC_CODE x) (s.get (F.DSC_OSCx_EFC_PARK_PARK x))) s1).put F.AGE_AVS_VID
    (s.get F.AGE_CFG_AVS_FLOOR)

/-- LDR's hash key of this start (R283). -/
def State.drawHashKey (s : State) : State :=
  let r := s.random 16
  r.2.modLdr fun l => { l with hashKey := beNat r.1 }

/-- Everything a copy configures. -/
def State.applyImage (s : State) (img : List Byte) : State :=
  let digest := sha256 (img.take (hdrLength img - 64))
  let s1 := ((s.applyRegs (regsEntries img)).applyBands img).applyRegions (Config.regionsOf (sectionOf img secRegions))
  let s2 := [0, 1, 2].foldl (fun (s : State) x => s.put (F.KPR_x_STAT_OSC x) (Config.oscBind digest x).1) s1.applyDerived
  (s2.modBoot fun b => { b with
    derive_ := (pieces 32 (sectionOf img secDerive)).map fun e => (List.range 8).map fun i => BitVec.ofNat 32 (leAt e (4 * i) 4),
    feList := (pieces 4 (sectionOf img secFeList)).map fun e => (leAt e 0 1, leAt e 1 1, leAt e 2 1, leAt e 3 1),
    mgtFw := sectionOf img secMgtFw, seFw := sectionOf img secSeFw, lpFw := sectionOf img secLpFw }).modSyn fun c => { c with loaded := true }

/-- LOADED: the identity of the load, its event, the derive list and cookie windows, the first loops, the bands, the regulator,
and the role of a unit without a pair. -/
def State.loadDone (s : State) (c ms : Nat) (img : List Byte) (vout : Option (Fin 256)) (nak : List (Option (Fin 64))) : State :=
  let fb := s.boot.failedOne
  let s1 := ((((s.applyImage img).put F.MGT_BOOT_STATE bootLoaded).put F.MGT_BOOT_COPY c).putB F.MGT_BOOT_FALLBACK fb)
  let s2 := ((s1.setReg A.MGT_IMAGE_SERIAL (BitVec.ofNat 32 (hdrSerial img))).put F.MGT_ROLLBACK_IMAGE (hdrRollback img)).put F.MGT_LOAD_MS_MS (detSat 16 ms)
  let s3 := ((s2.bootLine c (hdrSerial img) 0).bootLine c (hdrSerial img) 0).raise Ev.MGT_LOADED noInst (c + (if fb then 2 else 0) + 256 * (hdrSerial img % 2 ^ 24))
  let s4 := ((List.range 4).foldl State.ckDeriveAll (s3.deriveList s3.boot.derive_)).drawHashKey
  let s5 := (([0, 1, 2, 3, 4, 5].foldl (fun (s : State) l => s.loopStart l) s4).noBands.bandsStart nak).voutMode vout
  (if s5.flag F.PAR_CFG_PAIR_EN then s5 else s5.setRole prActive).modBoot fun b => { b with candidates := [] }

/-- A copy, as its header gives its length. -/
def State.copyImage (s : State) (c : Nat) : List Byte := s.flashRead c 0 (hdrLength (s.flashRead c 0 4096))

/-- LOAD and CHECK of the first candidate. -/
def State.copyVerify (s : State) (respond : Bool) (ms : Nat) (vout : Option (Fin 256)) (nak : List (Option (Fin 64))) : State :=
  match s.booting, s.boot.candidates with
  | true, c :: rest =>
    let cause := if respond then s.copyCause (s.copyImage c) else 11
    if cause = 0 then (s.setCause c 0).loadDone c ms (s.copyImage c) vout nak
    else
      let s1 := ((s.setCause c cause).bootLine c (hdrSerial (s.flashRead c 0 4096)) cause).modBoot fun b => { b with candidates := rest, failedOne := true }
      if rest.isEmpty then s1.loadFailed else s1
  | _, _ => s

def execCopyVerify (respond : Bool) (ms : Nat) (vout : Option (Fin 256)) (nak : List (Option (Fin 64))) (s : State) :
    Host.Outcome State Fault Refusal := .next (s.copyVerify respond ms vout nak)

end Sys2Proof.Machine
end

