-- ==== Sys2Proof/Machine/Window.lean ====
section
/-!
DEFINITION. The register window (00_scope.md R7 to R15, 01_architecture.md R26, R33, 18_management_plane.md R445, R453 to
R456): what a read answers, what a write does, and which path may write what.
-/
namespace Sys2Proof.Machine

open Sys2Proof

/-! ### Access (R8) -/

/-- An access that is no aligned word inside the window. -/
def busBad (a size : Nat) : Bool := size != 4 || a % 4 != 0 || decide (0x160000 ≤ a)

/-- The window is served: the image is loaded, the main domain runs, and so does MCLK (R166). -/
def State.served (s : State) : Bool := s.loaded && !s.mainOff && !s.mclkLost

/-! ### Reads -/

def idxOf (f : Nat → Nat) (n a : Nat) : Option Nat := (List.range n).find? fun i => f i == a

/-- The mask of a field's bits. -/
def FieldDef.mask (f : FieldDef) : Nat := 2 ^ (f.hi + 1) - 2 ^ f.lo

/-- The bits of a register whose field satisfies a condition. -/
def maskWhere (a : Nat) (c : FieldDef → Bool) : Word := BitVec.ofNat 32 ((fieldsAt a).foldl (fun m f => if c f then m + f.mask else m) 0)

/-- A register without meaning for its port reads 0 and ignores writes (R33): auto-negotiation is MP's, which pins no frame, and
lane skew is the service ports'. -/
def meaningless (a : Nat) : Bool :=
  ((List.range 19).any fun p => a == A.PRT_x_AN_STAT p) || a == A.TSU_x_RSV 19 || a == A.TSU_x_GUARD 19
    || (allPorts.any fun p => decide (2 ≤ p) && (List.range 4).any fun i => a == (F.TSU_x_SKEW_SKEW p i).addr)

/-- One word of a value held elsewhere. -/
def wordOf (v i : Nat) : Word := BitVec.ofNat 32 (v / 2 ^ (32 * i))

/-- Words formed at the read: live time, heads of queues, the selected slot and crossing, bound terms, the GNSS measurement
window; none for a register that holds its word. -/
def State.liveAt (s : State) (a : Nat) : Option Word :=
  let kt : Option Word := ((idxOf A.KPR_VT 3 a).map fun i => wordOf s.liveVoted i).or
    ((List.range 3).findSome? fun x => (idxOf (A.KPR_x_TIME x) 3 a).map fun i => wordOf (s.liveKeeper x) i)
  let peeks : Option Word := ((idxOf A.EVT_PEEK 4 a).map (evtPeek s)).or (((idxOf A.BND_TRACE_PEEK 16 a).map s.tracePeek).or
    (((idxOf A.SVC_JNL_PEEK 4 a).map s.jnlPeek).or ((idxOf A.KEY_SLOT_INFO 7 a).map s.slotInfo)))
  let terms : Option Word := (List.range 3).findSome? fun x => (idxOf (fun w => A.BND_x_REF x + 4 * w) 10 a).map (s.termWord x)
  let one : Option Word :=
    if a = A.KEY_SLOT_INFO7 then some (s.slotInfo 7)
    else if a = A.TIC_FQ_PEEK then some s.fqWord
    else if a = A.TIC_FQ_PEEK_Y then some (wordOf (ofSigned 64 s.fqY) 0)
    else if a = A.TIC_FQ_PEEK_Y + 4 then some (wordOf (ofSigned 64 s.fqY) 1)
    else if a = A.MGT_UART_RX_PEEK then some s.uartHead
    else if (idxOf A.TSU_x_DPATH 20 a).isSome then
      (idxOf A.TSU_x_DPATH 20 a).map fun p => BitVec.ofNat 32 ((dpath (s.portMode p)).1 + 65536 * (dpath (s.portMode p)).2)
    else if a = A.XDC_MERGE_VAL then some s.mergeVal
    else if (idxOf (fun o => A.DSC_OSCx_M_F0 o + 4) 3 a).isSome then some (wordOf (ofSigned 32 (toSigned 24 ((s.lastWritten a).toNat % 2 ^ 24))) 0)
    else if a = A.TIC_STAT then some (withBits (s.reg a) F.TIC_STAT_EXP_UP.hi F.TIC_STAT_EXP_UP.lo (if s.expUp then 1 else 0))
    else if 0xE8000 ≤ a ∧ a < 0xE9E00 then
      some (BitVec.ofNat 32 (leNat (slice ((s.gns.win[(a - 0xE8000) / 32]?).getD []) ((a - 0xE8000) % 32) 4)))
    else none
  one.or (kt.or (peeks.or terms))

/-- What the register at `a` reads as: the words formed at the read, else the value last written or held (R10, R15); WO fields
and registers without meaning read 0. -/
def State.liveWord (s : State) (a : Nat) : Word :=
  if meaningless a then 0 else (s.liveAt a).getD (s.lastWritten a &&& ~~~(maskWhere a fun f => f.acc == .WO))

/-- A destructive read (R12): the word, and the queue without its head. -/
def State.popRead (s : State) (a : Nat) : Option (Word × State) :=
  if a = A.EVT_POP then some (evtPopWord s, s.evtPop)
  else if a = A.BND_TRACE_POP then some (s.tracePopWord, s.modBnd fun b => { b with queue := b.queue.drop 1, discSeen := false })
  else if a = A.SVC_JNL_POP then some (s.jnlPopWord, s.modSvc fun v => { v with journal := v.journal.drop 1, jnlDisc := false })
  else if a = A.TIC_FQ_POP then some (s.fqWord, s.fqPop)
  else if a = A.MGT_UART_RX_POP then some (s.uartHead, s.uartPop)
  else none

/-- R13: the lowest word of a wide value latches its higher words. -/
def State.latchWide (s : State) (low n : Nat) : State :=
  let l := (List.range (n - 1)).map fun i => (low + 4 * (i + 1), s.liveWord (low + 4 * (i + 1)))
  { s with latch := (s.latch.filter fun e => !(l.any fun x => x.1 == e.1)) ++ l }

/-- The console's registers, the management cores' alone (R454). -/
def consoleReg (a : Nat) : Bool := a == A.MGT_UART_TX || a == A.MGT_UART_RX_POP || a == A.MGT_UART_RX_PEEK || a == A.MGT_UART_STAT

/-- A read of one word, with what it leaves. The console queue is the management cores' alone (R454). -/
def State.readReg (s : State) (path : Path) (a : Nat) : Word × State :=
  if consoleReg a ∧ path ≠ .mgt then (0, s)
  else match s.popRead a with
    | some r => r
    | none => match wideAt a with
      | some (low, n) =>
        if a = low then (s.liveWord a, s.latchWide low n)
        else (((s.latch.find? (fun e => e.1 == a)).map (·.2)).getD (s.liveWord a), s)
      | none => (s.liveWord a, s)

def execWideValueLatch (path : Path) (addr : Nat) (s : State) : Host.Outcome State Fault Refusal :=
  .next (match s.served, wideAt addr with
    | true, some (low, _) => if addr = low then (s.readReg path addr).2.answer (.words [(s.readReg path addr).1]) else s
    | _, _ => s)

/-! ### Writes of whole KT96 values (R14, R15) -/

/-- The lowest register of the written KT96 value that `a` belongs to. -/
def ktBase (a : Nat) : Option Nat :=
  ([A.BND_QUERY_T 0, A.DSC_RA_OFS 0, A.DSC_RA_AT 0, A.DST_TFWD_AT 0] ++ (List.range 16).map fun k => A.TRG_k_AT k 0).find? fun b =>
    a == b || a == b + 4 || a == b + 8

/-- A word of the holding copy; a word not written since stands as it was. -/
def State.heldWord (s : State) (a : Nat) : Word := ((s.hold.find? (fun e => e.1 == a)).map (·.2)).getD (s.lastWritten a)

/-- A word joins the holding copy. -/
def State.holdPut (s : State) (a : Nat) (v : Word) : State := { s with hold := (s.hold.filter fun e => e.1 != a) ++ [(a, v)] }

/-- Word +0x8 completes the value: taken whole where its nanoseconds are below 10^9, else refused and the holding copy
discarded. The query registers are not staged (R98). -/
def State.ktComplete (s : State) (path : Path) (b : Nat) (v : Word) : State :=
  let w0 := s.heldWord b
  let w1 := s.heldWord (b + 4)
  let k := w0.toNat + w1.toNat * 2 ^ 32 + v.toNat * 2 ^ 64
  let s1 := { s with hold := s.hold.filter fun e => e.1 != b && e.1 != b + 4 }
  if 1000000000 ≤ kt96Ns k then s1
  else if b = A.BND_QUERY_T 0 then s1.putWide b 3 k
  else ((s1.stage path b 0xFFFFFFFF w0).stage path (b + 4) 0xFFFFFFFF w1).stage path (b + 8) 0xFFFFFFFF v

def State.ktWrite (s : State) (path : Path) (b a : Nat) (v : Word) : State := if a = b + 8 then s.ktComplete path b v else s.holdPut a v

/-! ### The guardrail on ring bases and sizes (R445) -/

/-- The region table as the registers show it. -/
def State.regionList (s : State) : List (Nat × Nat × Nat) :=
  (List.range 16).map fun r => (s.wide (A.MGT_REGIONr_BASE r) 2, s.get (F.MGT_REGIONr_SIZE_PAGES r), s.get (F.MGT_REGIONr_OWNER_OWNER r))

/-- A guarded ring: its base and size registers, the bytes of one record, its owner. -/
def ringOf (a : Nat) : Option (Nat × Nat × Nat × Nat) :=
  let l := [(A.BND_TRACE_BASE, A.BND_TRACE_SIZE, 64, ownBnd), (A.SVC_JNL_BASE, A.SVC_JNL_SIZE, 16, ownSvc), (A.EVT_LOG_BASE, A.EVT_LOG_SIZE, 16, ownMgt)]
    ++ (List.range 32).map fun n => (A.TIC_CHn_RING_BASE n, A.TIC_CHn_RING_SIZE n, 1, ownTic)
  l.find? fun (b, z, _, _) => a == b || a == b + 4 || a == z

/-- The ring that a write would give lies outside its owner's regions. -/
def State.ringBad (s : State) (a : Nat) (v : Word) : Bool := match ringOf a with
  | none => false
  | some (b, z, n, o) =>
    let w (x : Nat) : Nat := (if x = a then v else s.lastWritten x).toNat
    !regionCovers s.regionList o (w b / 4096 * 4096 + w (b + 4) % 256 * 2 ^ 32) (2 ^ (w z % 32) * n)

/-! ### Registers that act by rules of their own -/

def vbit (v : Word) (i : Nat) : Bool := v.toNat / 2 ^ i % 2 == 1

/-- The source a path stands for (R325). -/
def keySrcOf (p : Path) : KeySrc := match p with
  | .mgt => .mgt
  | .twv => .twivon
  | .spi => .spi

/-- KEY_CMD (R326); OP 0 and 13 to 15 name no command. -/
def State.keyCommand (s : State) (a : KeyArgs) (op : Nat) : State := match op with
  | 1 => s.keyPost opGenerate (s.keyGenerate a)
  | 2 => s.importCmd a
  | 3 => s.keyPost opImportLocal (s.keyImportLocal a)
  | 4 => s.keyPost opErase (s.keyErase a)
  | 5 => s.keyPost opCommit (s.keyCommit a)
  | 6 => s.keyPost opAbort (s.keyAbort a)
  | 7 => s.derivePost a
  | 8 => s.keyPost opInvalidate (s.keyInvalidate a)
  | 9 => s.keyPost opSetSucc (s.keySetSucc a)
  | 10 => s.keyPost opFree (s.keyFree a)
  | 11 => s.keyPost opRoll (s.cookieRoll a)
  | 12 => s.keyPost opDisarm (s.tamperDisarm a)
  | _ => s

/-- REF_CMD (R123). -/
def State.refWrite (s : State) (op n : Nat) : State :=
  if 7 ≤ op then s.raise Ev.REF_CMD_REFUSED noInst (op + 256 * n) else s.refCmd op n

/-- PAR_CMD; ignored from the SPI port and without a pair (R402, R420). -/
def State.pairCommand (s : State) (path : Path) (op : Nat) : State :=
  if path = .spi then s
  else match op with
    | 0 => if s.isActive && s.pairEn then s.resign 7 else s
    | 1 => if s.isStandby then s.modPar fun p => { p with takeCmd := true } else s
    | _ => if s.isActive && s.pairEn then s.dirtyAll else s

/-- The RW fields of a value that lie in their ranges. -/
def rwMask (a : Nat) (v : Word) : Word := maskWhere a fun f => f.acc == .RW && fieldOk a f (bitsOf v f.hi f.lo)

/-- The RW part of a write joins the staging copy (R26); a value outside a field's range leaves that field as it is. -/
def State.stageRw (s : State) (path : Path) (a : Nat) (v : Word) : State :=
  if rwMask a v = 0 then s else s.stage path a (rwMask a v) v

/-- GNS_CMD (R378, R379); front-end writes are acknowledged. -/
def State.gnsCommand (s : State) (v : Word) : State :=
  let s1 := if vbit v 0 then (s.bandSleep 0 0).bandSleep 1 0 else s
  let s2 := if vbit v 1 then s1.gnssWake [] else s1
  let s3 := if vbit v 2 then s2.gnssCold [] else s2
  if vbit v 3 then s3.resurvey else s3

/-- The registers of one instance that act at the write or judge it. -/
def State.writeSingle (s : State) (path : Path) (a : Nat) (v : Word) : Option State :=
  if a = A.EVT_LOG_RD then some (s.evtLogRd v)
  else if a = A.KPR_SNAP_CMD then some (if vbit v 0 then s.snapTake else s)
  else if a = A.KPR_LEAP_CMD then some (if vbit v 0 then s.leapArm none (vbit v 1) else if vbit v 1 then s.leapCancel else s)
  else if a = A.BND_QUERY_CMD then
    some (if rwMask a v = 0 then s else if vbit v 8 then s.bndQuery (v.toNat % 32) else s.put F.BND_QUERY_CMD_PORT v.toNat)
  else if a = A.REF_CMD then some (s.refWrite (v.toNat % 16) (v.toNat / 256 % 16))
  else if a = A.DSC_REALIGN_CMD then
    some (if vbit v 8 then (s.stageRw path a v).realignCommand path v none else s.stageRw path a v)
  else if a = A.DSC_WIT_CMD then some (if vbit v 0 then s.witnessCommit else s)
  else if a = A.XDC_MERGE_CLR then
    some (if vbit v 1 then s.mergeClearAll else if vbit v 0 then s.setMerge (s.lastGet F.XDC_MERGE_SEL_INDEX) 0 else s)
  else if a = A.SVC_CMD then
    some (if vbit v 0 then s.svcSnap else s)
  else if a = A.LDR_CMD then some (if vbit v 0 then s.snapPairs (A.LDR_CNT 0) 12 else s)
  else if a = A.LDR_Q_CMD then
    let s1 := s.stageRw path a v
    some (if vbit v 16 then (if bitsOf v 9 8 = 1 then s1.ldrFind else if bitsOf v 9 8 = 2 then s1.ldrSet else s1) else s1)
  else if a = A.KEY_CMD then some (s.keyCommand ⟨keySrcOf path, none⟩ (v.toNat % 16))
  else if a = A.KEY_CTL then some (if vbit v 0 then s.snapPairs (A.KEY_CNT 0) 8 else s)
  else if a = A.KEY_SLOT_SEL then some (s.slotSel v)
  else if a = A.KEY_TAMPER_CFG then some (s.tamperCfg path v)
  else if a = A.TIC_CMD then some (if vbit v 0 then allCh.foldl (fun (s : State) n => s.calStart n) s else s)
  else if a = A.GNS_CMD then some (s.gnsCommand v)
  else if a = A.DST_TFWD_CMD then some (if vbit v 0 then s.tfwdSend else s)
  else if a = A.PAR_CMD then
    let s1 := if vbit v 0 then s.pairCommand path 0 else s
    let s2 := if vbit v 1 then s1.pairCommand path 1 else s1
    some (if vbit v 2 then s2.pairCommand path 2 else s2)
  else if a = A.MGT_WDOG then some (if vbit v 0 then s.watchdogKick else s)
  else if a = A.MGT_UART_TX then some (s.uartWrite (BitVec.ofNat 8 v.toNat))
  else if a = A.CLR_CMD then
    let s1 := if vbit v 1 then cellarCounts.foldl (fun (s : State) a => s.putWide a 2 (s.count a)) s else s
    some (if vbit v 0 then (s1.cellarEnter none).2 else s1)
  else none

/-- The registers that repeat and act at the write or judge it. -/
def State.writeIndexed (s : State) (path : Path) (a : Nat) (v : Word) : Option State :=
  let at_ (f : Nat → Nat) (n : Nat) (g : Nat → State) : Option State := (idxOf f n a).map g
  (at_ A.KPR_x_CMD 3 fun x =>
      let s1 := if vbit v 0 then s.voteChanged (s.keeperRemove x) [] else s
      if vbit v 1 then s1.keeperRejoin x else s1).or <|
  (at_ A.BND_PORTk_ASYM 20 fun k => s.asymWrite path k false v).or <|
  (at_ (fun k => A.BND_PORTk_ASYM k + 4) 20 fun k => s.asymWrite path k true v).or <|
  (at_ A.DSC_OSCx_M_CMD 3 fun o => if vbit v 0 then s.modelCommit o else s).or <|
  (at_ A.SYN_PPSk_CFG 8 fun k => s.ppsCfgWrite path k v).or <|
  (at_ A.SYN_PPSk_OFS 8 fun k => s.ppsOfsWrite path k v).or <|
  (at_ A.SYN_CLKOUTk_CTL 8 fun k => s.clkCtlWrite path k v).or <|
  (at_ A.SYN_CLKOUTk_OFS 8 fun k => s.clkOfsWrite path k v).or <|
  (at_ A.PRT_x_CMD 20 fun p =>
      let s1 := if vbit v 1 then s.portSnap p else s
      if vbit v 0 then s1.portReset p else s1).or <|
  (at_ A.TRG_k_CMD 16 fun k =>
      let s1 := if vbit v 1 then s.trgCancel k else s
      if vbit v 0 then s1.trgPush k else s1).or <|
  (at_ A.SVC_SEn_CMD 32 fun n =>
      let s1 := if vbit v 0 then s.engineResetCmd n else s
      if vbit v 1 then s1.engineOnline n else s1).or <|
  (at_ A.TIC_CHn_CMD 32 fun n => if vbit v 0 then s.calStart n else s).or <|
  (at_ A.TIC_CHn_RING_RD 32 fun n => s.ringRd n v).or <|
  at_ A.KEY_WRAP 10 fun _ => s.setReg a v

/-- The domain into which a command register's strobe crosses from MCLK (R182, R185): the service pipeline, the client state and
the keys work in CCLK. DESIGN CHOICE (assumption log 76): the spec names no domain per register. -/
def cmdDomain (a : Nat) : Option Nat :=
  if a = A.SVC_CMD ∨ a = A.LDR_CMD ∨ a = A.LDR_Q_CMD ∨ a = A.KEY_CMD ∨ a = A.KEY_CTL ∨ (idxOf A.SVC_SEn_CMD 32 a).isSome then some 3
  else if a = A.MEM_RAW_CMD then some 5 else none

/-- A strobe of the register cannot cross now: its destination's clock stands, or a reset handshake has closed the crossing. -/
def State.cmdWaits (s : State) (a : Nat) : Bool := match cmdDomain a with
  | some d =>
    if d = 5 then s.rawWaits || !s.crossOpen 4 5
    else !s.clockRuns d || !s.crossOpen 4 d || (a == A.LDR_Q_CMD && s.dramBusy)
  | none => false

/-- A write that a path may make (R10): a register with a rule of its own, a word of a KT96 value, else W1C bits at once and
RW fields staged; a ring outside its owner's regions is refused with MGT_GUARDRAIL (R445). -/
def State.writeReg (s : State) (path : Path) (a : Nat) (v : Word) : State :=
  if meaningless a then s
  else if s.cmdWaits a then s.pendCmd path a v
  else match (s.writeSingle path a v).or (s.writeIndexed path a v) with
    | some t => t
    | none => match ktBase a with
      | some b => s.ktWrite path b a v
      | none =>
        let c := maskWhere a fun f => f.acc == .W1C
        let s1 := if c = 0 then s else s.setReg a (s.reg a &&& ~~~(v &&& c))
        if rwMask a v ≠ 0 ∧ s1.ringBad a v then s1.raise Ev.MGT_GUARDRAIL noInst (a % 2 ^ 24) else s1.stageRw path a v

/-! ### Who may write what (R453, R455, R456) -/

/-- The command registers of fault injection. -/
def injReg (a : Nat) : Bool := a == A.INJ_CMD || a == A.INJ_ARG0 || a == A.INJ_ARG1 || (idxOf A.INJ_AT 3 a).isSome

/-- The command paths of R456. -/
def commandPath (a : Nat) : Bool := a == A.KEY_CMD || a == A.DSC_REALIGN_CMD || a == A.PAR_CMD || a == A.MEM_RAW_CMD || injReg a

/-- A path may write an address. The SPI port writes only the IMPORT_LOCAL path while WRITE is 0. -/
def State.mayWrite (s : State) (path : Path) (a : Nat) (v : Word) : Bool := match path with
  | .mgt => !injReg a
  | .twv => !commandPath a && !consoleReg a
  | .spi =>
    if a = A.KEY_CMD then v.toNat % 16 == opImportLocal
    else if (idxOf A.KEY_WRAP 8 a).isSome || (idxOf A.KEY_ARG 8 a).isSome then true
    else s.flag F.MGT_SPI_CFG_WRITE && !commandPath a && !consoleReg a

/-- A write of DSC_REALIGN_CMD.GO from the SPI port is a realign command refused with cause 5 (R150, R151). -/
def State.refusedWrite (s : State) (path : Path) (a : Nat) (v : Word) : State :=
  if path = .spi ∧ a = A.DSC_REALIGN_CMD ∧ vbit v 8 then s.realignCommand .spi v none else s

/-- The reply of an access: a bus error, or the write as it is. -/
def execRegisterWrite (path : Path) (addr size : Nat) (val : Word) (s : State) : Host.Outcome State Fault Refusal :=
  if !s.served then .next s
  else if busBad addr size then .next (s.answer .busError)
  else if !s.mayWrite path addr val then .next ((s.refusedWrite path addr val).answer (.refused 3))
  else if addr = A.MEM_RAW_CMD then
    (if vbit val 0 then execRawRead path s else if vbit val 1 then execRawWrite path s else .next s)
  else .next (s.writeReg path addr val)

def execKt96ValueComplete (path : Path) (addr : Nat) (val : Word) (s : State) : Host.Outcome State Fault Refusal :=
  .next (match s.served && s.mayWrite path addr val, ktBase addr with
    | true, some b => if addr = b + 8 then s.ktComplete path b val else s
    | _, _ => s)

end Sys2Proof.Machine
end

