-- ==== Sys2Proof/Machine/Mgt.lean ====
section
/-!
DEFINITION. Twivon commands and sessions, the flash, the SPI port's accesses and the tick as a whole
(18_management_plane.md R443, R449 to R453, 12_keys_and_authentication.md R319, 01_architecture.md R22, R42).
-/
namespace Sys2Proof.Machine

open Sys2Proof

/-! ### Payloads -/

/-- A payload as 32-bit little-endian words. -/
def payloadWords (l : List Byte) : List Nat := (List.range (l.length / 4)).map fun i => leNat (slice l (4 * i) 4)

def wordsPayload (l : List Word) : List Byte := l.flatMap fun w => leBytes 4 w.toNat

/-- Word i of a command's payload. -/
def TwvCmd.word (c : TwvCmd) (i : Nat) : Nat := ((payloadWords c.payload)[i]?).getD 0

/-- Words i to i + n - 1 as one value, lowest first. -/
def TwvCmd.wide (c : TwvCmd) (i n : Nat) : Nat := leNat (slice c.payload (4 * i) (4 * n))

def TwvCmd.regWord (c : TwvCmd) (i : Nat) : Word := BitVec.ofNat 32 (c.word i)

/-- The payload bytes each command takes (R451); none where its own row judges them. -/
def twvLength (op : Nat) : Option Nat := match op with
  | 3 => some 76
  | 4 => some 4
  | 5 => some 36
  | 6 => some 16
  | 7 => some 4
  | 8 => some 8
  | 10 => some 36
  | 11 => some 24
  | 16 => some 0
  | _ => none

/-! ### Sessions (R449, R450) -/

/-- The entry's OPS mask permits a command. -/
def State.twvPermits (s : State) (c : TwvCmd) : Bool :=
  decide (1 ≤ c.op) && decide (c.op ≤ 16) && s.bit (F.MGT_TWVk_OPS_OPS c.key) (c.op - 1)

/-- A command whose reply something later brings: a tick, the Cellar entry, an erase. -/
def State.twvWaits (s : State) (c : TwvCmd) : Bool :=
  s.mgt.wait.any (fun w => w.cmd == c) || s.clr.enter == some c || (c.op == 12 && s.mgt.erasing == some c.key)

/-- A command whose strobe cannot cross into its block's clock, or that DRAM does not serve, waits at the head (R186). -/
def State.twvHeld (s : State) (c : TwvCmd) : Bool :=
  if c.op = 3 then s.cmdWaits A.KEY_CMD
  else if c.op = 8 then s.cmdWaits (A.SVC_SEn_CMD 0)
  else if c.op = 10 then c.word 0 % 4 == 1 && (s.dramBusy || !s.crossOpen 4 5)
  else false

/-- The command at the head of its session. -/
def State.twvFirst (s : State) (k : Nat) : Option TwvCmd := s.mgt.journal.find? fun c => c.key == k

/-- The head of session k, where it is command `op` and has not begun. -/
def State.twvHead (s : State) (k op : Nat) : Option TwvCmd := match s.twvFirst k with
  | some c => if c.op = op ∧ ¬ s.twvWaits c then some c else none
  | none => none

/-- Commands that run when they reach the head; the others have rows of their own. -/
def twvAuto (op : Nat) : Bool := [3, 4, 5, 6, 7, 8, 10, 11, 16].contains op

/-- A command that waits for the tick with the answer its target gives there. -/
def State.twvWait (s : State) (w : TwvWait) : State := s.modMgt fun m => { m with wait := m.wait ++ [w] }

/-- STATUS of a command that its target took or refused. -/
def twvStatus (ok : Bool) : Nat := if ok then 0 else 3

/-- KEY (R326): the words it carries stand in KEY_WRAP. COMMIT, INVALIDATE and COOKIE_ROLL reply after the tick. -/
def State.twvKeyCmd (s : State) (c : TwvCmd) : State :=
  let op := c.word 8
  if op = 0 ∨ 12 < op then s.twvReplied c 3 []
  else
    let s1 := (List.range 10).foldl (fun (s : State) i => s.setReg (A.KEY_WRAP i) (c.regWord (9 + i))) s
    let s2 := s1.keyCommand ⟨.twivon, some ((List.range 8).map c.regWord)⟩ op
    let ok := s2.get F.KEY_RES_RESULT == 1
    let pay := wordsPayload [s2.reg A.KEY_RES, s2.reg A.KEY_RES_HANDLE]
    if ok ∧ (op = opCommit ∨ op = opInvalidate ∨ op = opRoll) then s2.twvWait ⟨c, none, 0, pay⟩ else s2.twvReplied c (twvStatus ok) pay

/-- REF (R123): judged at the tick. -/
def State.twvRef (s : State) (c : TwvCmd) : State :=
  let op := c.word 0 % 16
  let n := c.word 0 / 256 % 16
  if 7 ≤ op then (s.refWrite op n).twvReplied c 3 []
  else if op = 0 then s.twvReplied c 0 []
  else (s.refWrite op n).twvWait ⟨c, some s.ref.cmds.length, 0, []⟩

/-- REALIGN (R150). -/
def State.twvRealign (s : State) (c : TwvCmd) : State :=
  let ok := s.realignCause .twv == 0
  let s1 := s.realignCommand .twv (c.regWord 0) (some (c.wide 1 3, c.wide 4 3, c.wide 7 2))
  s1.twvReplied c (twvStatus ok) (wordsPayload [s1.reg A.DSC_RA_RES])

/-- LEAP (R68): M, DIR, then 1 ARM and 2 CANCEL. -/
def State.twvLeap (s : State) (c : TwvCmd) : State :=
  let cmd := c.word 3
  let a := some (c.wide 0 2 % 2 ^ 48, c.word 2 % 2 == 1)
  if cmd % 2 = 1 then
    (s.leapArm a (cmd / 2 % 2 == 1)).twvReplied c (twvStatus (s.leapCause a (cmd / 2 % 2 == 1) == 0)) []
  else if cmd / 2 % 2 = 1 then s.leapCancel.twvReplied c 0 []
  else s.twvReplied c 0 []

/-- PAIR in the bits of PAR_CMD; refused whole where R402 refuses one of its bits. -/
def State.twvPair (s : State) (c : TwvCmd) : State :=
  let b (i : Nat) : Bool := c.word 0 / 2 ^ i % 2 == 1
  if !s.pairEn || ((b 0 || b 2) && !s.isActive) || (b 1 && !s.isStandby) then s.twvReplied c 3 []
  else
    let s1 := if b 0 then s.pairCommand .twv 0 else s
    let s2 := if b 1 then s1.pairCommand .twv 1 else s1
    (if b 2 then s2.pairCommand .twv 2 else s2).twvReplied c 0 []

/-- ENGINE in the bits of SVC_SEn_CMD. -/
def State.twvEngine (s : State) (c : TwvCmd) : State :=
  let n := c.word 0
  if 32 ≤ n then s.twvReplied c 3 []
  else
    let s1 := if c.word 1 % 2 = 1 then s.engineResetCmd n else s
    (if c.word 1 / 2 % 2 = 1 then s1.engineOnline n else s1).twvReplied c 0 []

/-- RAW_MEM: SEL, ADDR, DATA0 to 3, CHECK, CMD (R433). -/
def State.twvRaw (s : State) (c : TwvCmd) : Host.Outcome State Fault Refusal :=
  let regs := [A.MEM_RAW_SEL, A.MEM_RAW_ADDR, A.MEM_RAW_ADDR + 4] ++ (List.range 4).map A.MEM_RAW_DATA ++ [A.MEM_RAW_CHECK]
  let s1 := regs.zipIdx.foldl (fun (s : State) p => s.fillReg p.1 (c.regWord p.2)) s
  let reply (t : State) : State :=
    t.twvReplied c (twvStatus (t.get F.MEM_RAW_RES_RESULT == 1))
      (wordsPayload ([t.reg A.MEM_RAW_RES] ++ (List.range 4).map (fun i => t.reg (A.MEM_RAW_DATA i)) ++ [t.reg A.MEM_RAW_CHECK]))
  match if c.word 8 % 2 = 1 then execRawRead .twv s1 else if c.word 8 / 2 % 2 = 1 then execRawWrite .twv s1 else .next s1 with
  | .next t => .next (reply t)
  | .fault f => .fault f
  | .refused r => .refused r

/-- INJ: the result is INJ_RES (R481). -/
def State.twvInj (s : State) (c : TwvCmd) : State :=
  let s1 := s.injCommand (payloadWords c.payload)
  s1.twvReplied c (twvStatus (s1.get F.INJ_RES_RESULT != 3)) (wordsPayload [s1.reg A.INJ_RES])

/-- RESTART: the reset comes 10 ms after the reply. -/
def State.twvRestart (s : State) (c : TwvCmd) : State :=
  (s.twvReplied c 0 []).modMgt fun m => { m with restartAt := some (s.now + 10000000 * lsbPerNs) }

/-- One command at its head. -/
def State.twvRun (s : State) (c : TwvCmd) : Host.Outcome State Fault Refusal :=
  if twvLength c.op ≠ some c.payload.length then .next (s.twvReplied c 4 [])
  else match c.op with
    | 3 => .next (s.twvKeyCmd c)
    | 4 => .next (s.twvRef c)
    | 5 => .next (s.twvRealign c)
    | 6 => .next (s.twvLeap c)
    | 7 => .next (s.twvPair c)
    | 8 => .next (s.twvEngine c)
    | 10 => s.twvRaw c
    | 11 => .next (s.twvInj c)
    | _ => .next (s.twvRestart c)

/-- A command its entry does not permit changes nothing (R450). -/
def State.twvRefuse (s : State) (c : TwvCmd) : State := (s.twvReplied c 1 []).raise Ev.MGT_TWV_REFUSED c.key (c.op % 65536)

/-- The oldest head that can go on without a row of its own. -/
def State.twvReady (s : State) : Option TwvCmd :=
  s.mgt.journal.find? fun c => s.twvFirst c.key == some c && !s.twvWaits c && (!s.twvPermits c || (twvAuto c.op && !s.twvHeld c))

/-- Every session goes on as far as it can; each round replies to a command or sets one waiting. -/
def State.twvAdvance : Nat → State → Host.Outcome State Fault Refusal
  | 0, s => .next s
  | n + 1, s => match s.twvReady with
    | none => .next s
    | some c =>
      if !s.twvPermits c then State.twvAdvance n (s.twvRefuse c)
      else match s.twvRun c with
        | .next t => State.twvAdvance n t
        | .fault f => .fault f
        | .refused r => .refused r

/-- The sessions go on. -/
def State.twvGo (s : State) : Host.Outcome State Fault Refusal := State.twvAdvance (s.mgt.journal.length + 1) s

/-! ### TWIVON_MESSAGE (R319, R450) -/

/-- A message dropped by R319: counted, the first in each tick raises its event. -/
def State.twvDrop (s : State) (k : Nat) : State :=
  let s1 := s.keyCount 6
  if s1.key.failTick = s.nextTick then s1
  else (s1.modKey fun x => { x with failTick := s.nextTick }).raise Ev.KEY_TWV_AUTH_FAIL (k % 256) (s1.count (A.KEY_CNT 12) % 2 ^ 32)

/-- The journal is full: BUSY. -/
def State.twvBusyReply (s : State) (c : TwvCmd) : State :=
  let s1 := (s.incr F.MGT_TWV_BUSY_COUNT).twvSend c twBusy 0 []
  if s1.mgt.busyTick = s.nextTick then s1
  else (s1.modMgt fun m => { m with busyTick := s.nextTick }).raise Ev.MGT_TWV_BUSY c.key s.mgt.journal.length

/-- A new command is journalled and acknowledged; its entry's HIGH moves. -/
def State.twvAccept (s : State) (c : TwvCmd) : State :=
  let same := (s.mgt.sent.filter fun t => t.key == c.key).take 63
  let s1 := s.modMgt fun m => { m with
    journal := m.journal ++ [c],
    sent := ⟨c.key, c.seq, none⟩ :: m.sent.filter fun t => t.key != c.key || same.contains t }
  (((s1.putWide (A.KEY_TWVk_HIGH c.key) 2 c.seq).keyCount 5).countUp (A.CLR_ACCk 3)).journalShow.twvSend c twAck 0 []

/-- A sequence at or below HIGH. -/
def State.twvOld (s : State) (c : TwvCmd) : State :=
  match s.mgt.sent.find? fun t => t.key == c.key && t.seq == c.seq with
  | some t => (match t.reply with
    | some m => if m.isEmpty then s else s.twvOut c m
    | none => s.twvSend c twAck 0 [])
  | none => (s.keyCount 7).raise Ev.KEY_TWV_REPLAY c.key (c.seq % 2 ^ 32)

/-- The tag, the entry, VERSION and TYPE of a message pass. -/
def State.twvGood (s : State) (d : List Byte) (c : TwvCmd) (m tag : List Byte) : Bool :=
  let o := (tagsOf d).etOfs + 2
  let at_ (i n : Nat) := leNat (slice (d.drop o) i n)
  match s.twvKey c.key with
  | none => false
  | some key => decide (at_ 14 2 ≤ 1024) && decide (m.length = 16 + at_ 14 2) && decide (tag.length = 32) && hmac key m == tag
      && at_ 0 1 == 1 && at_ 1 1 == twCommand

def State.twvArrive (s : State) (p : Nat) (d : List Byte) : State :=
  let (c, m, tag) := twvParse p d
  if !s.twvGood d c m tag then s.twvDrop c.key
  else if c.seq ≤ s.wide (A.KEY_TWVk_HIGH c.key) 2 then s.twvOld c
  else if 64 ≤ s.mgt.journal.length then s.twvBusyReply c
  else s.twvAccept c

def execTwivonMessage (p : Fin 20) (s : State) : Host.Outcome State Fault Refusal :=
  if !s.served then .next s
  else match s.takeRx p 2 (s.isTwivon p) with
    | (some f, t) => (t.twvArrive p f.data).twvGo
    | (none, _) => .next s

/-! ### READ, WRITE, CLEAR -/

/-- What a row does with the command at the head of session k. -/
def State.twvRow (s : State) (k op : Nat) (f : TwvCmd → State) : Host.Outcome State Fault Refusal :=
  if !s.served then .next s
  else match s.twvHead k op with
    | some c => (f c).twvGo
    | none => .next s

/-- Addresses of n words from a. -/
def wordAddrs (a n : Nat) : List Nat := (List.range n).map fun i => a + 4 * i

/-- READ: the words in ascending order, each as a read of its register. -/
def State.twvReadCmd (s : State) (c : TwvCmd) : State :=
  let n := c.word 1
  if c.payload.length ≠ 8 ∨ n = 0 ∨ 64 < n then s.twvReplied c 4 []
  else if (wordAddrs (c.word 0) n).any fun a => busBad a 4 then s.twvReplied c 2 []
  else
    let r := (wordAddrs (c.word 0) n).foldl (fun (p : State × List Word) a =>
      let q := p.1.readReg .twv a
      (q.2, p.2 ++ [q.1])) (s, [])
    r.1.twvReplied c 0 (wordsPayload r.2)

def execTwivonRead (k : Fin 8) (s : State) : Host.Outcome State Fault Refusal := s.twvRow k 1 s.twvReadCmd

/-- WRITE: refused whole where a word is a command path (R456); ENTER's reply comes when the device has drained (R469). -/
def State.twvWriteCmd (s : State) (c : TwvCmd) : State :=
  let n := c.word 1
  let at_ := wordAddrs (c.word 0) n
  if c.payload.length < 8 ∨ n = 0 ∨ 64 < n ∨ c.payload.length ≠ 8 + 4 * n then s.twvReplied c 4 []
  else if at_.any fun a => busBad a 4 then s.twvReplied c 2 []
  else if at_.any fun a => !s.mayWrite .twv a 0 then s.twvReplied c 3 []
  else
    let enter (p : Nat × Nat) : Bool := p.1 == A.CLR_CMD && c.word (2 + p.2) % 2 == 1
    let s1 := at_.zipIdx.foldl (fun (s : State) p =>
      s.writeReg .twv p.1 (if enter p then c.regWord (2 + p.2) &&& ~~~1 else c.regWord (2 + p.2))) s
    if at_.zipIdx.any enter then
      let r := s1.cellarEnter (some c)
      if r.1 then r.2 else r.2.twvReplied c 3 []
    else s1.twvReplied c 0 []

def execTwivonWrite (k : Fin 8) (s : State) : Host.Outcome State Fault Refusal := s.twvRow k 2 s.twvWriteCmd

/-- CLEAR: WORD_FAIL of an oscillator (R131). -/
def State.twvClearCmd (s : State) (c : TwvCmd) : State :=
  if c.payload.length ≠ 4 then s.twvReplied c 4 []
  else if 3 ≤ c.word 0 then s.twvReplied c 3 []
  else (s.wordClear (c.word 0)).twvReplied c 0 []

def execTwivonClear (k : Fin 8) (s : State) : Host.Outcome State Fault Refusal := s.twvRow k 9 s.twvClearCmd

/-- R42: the full-device reset, 10 ms after the reply left. -/
def execTwivonRestart (s : State) : Host.Outcome State Fault Refusal :=
  .next (match s.mgt.restartAt with
    | some t => (s.advanceTo t).deviceReset
    | none => s)

/-! ### The flash (R443, R451) -/

def copySize : Nat := 0x1000000

/-- The copy that the running image came from. -/
def State.copyInUse (s : State) : Nat := s.get F.MGT_BOOT_COPY

/-- The copy not in use is being erased. -/
def State.flashBusy (s : State) (c : Nat) : Bool := s.mgt.erasing.isSome && c != s.copyInUse

/-- The bytes of a copy from `o`. -/
def State.flashPut (s : State) (c o : Nat) (l : List Byte) : State :=
  s.modBoot fun b => { b with flash := l.zipIdx.foldl (fun m p => spSet (fun _ => 0xFF) m (copyBase c + o + p.2) p.1) b.flash }

/-- A copy reads 0xFF throughout. -/
def State.flashClear (s : State) (c : Nat) : State :=
  s.modBoot fun b => { b with flash := b.flash.filter fun e => decide (e.1 < copyBase c) || decide (copyBase c + copySize ≤ e.1) }

/-- FLASH_ERASE begins; one copy is erased at a time. -/
def State.flashEraseCmd (s : State) (c : TwvCmd) : State :=
  if c.payload.length ≠ 4 then s.twvReplied c 4 []
  else if 2 ≤ c.word 0 ∨ c.word 0 = s.copyInUse then s.twvReplied c 3 []
  else if s.mgt.erasing.isSome then s
  else s.modMgt fun m => { m with erasing := some c.key }

def execFlashErase (k : Fin 8) (s : State) : Host.Outcome State Fault Refusal := s.twvRow k 12 s.flashEraseCmd

/-- The erase completes. -/
def State.flashErased (s : State) (c : TwvCmd) : State :=
  (((s.flashClear (c.word 0)).modMgt fun m => { m with erasing := none }).raise Ev.MGT_FLASH_DONE noInst (c.word 0)).twvReplied c 0 []

def execFlashEraseDone (s : State) : Host.Outcome State Fault Refusal :=
  if !s.served then .next s
  else match s.mgt.erasing with
    | none => .next s
    | some k => match s.twvFirst k with
      | some c => (s.flashErased c).twvGo
      | none => .next s

/-- FLASH_WRITE: bytes into the copy not in use; behind an erase of it, the command waits. -/
def State.flashWriteCmd (s : State) (c : TwvCmd) : State :=
  let n := c.payload.length - 8
  if c.payload.length < 8 ∨ 1000 < n then s.twvReplied c 4 []
  else if 2 ≤ c.word 0 ∨ c.word 0 = s.copyInUse ∨ copySize < c.word 1 + n then s.twvReplied c 3 []
  else if s.flashBusy (c.word 0) then s
  else (s.flashPut (c.word 0) (c.word 1) (c.payload.drop 8)).twvReplied c 0 []

def execFlashWrite (k : Fin 8) (s : State) : Host.Outcome State Fault Refusal := s.twvRow k 13 s.flashWriteCmd

/-- FLASH_READ: the bytes of a copy. -/
def State.flashReadCmd (s : State) (c : TwvCmd) : State :=
  let n := c.word 2
  if c.payload.length ≠ 12 ∨ 1000 < n then s.twvReplied c 4 []
  else if 2 ≤ c.word 0 ∨ copySize < c.word 1 + n then s.twvReplied c 3 []
  else if s.flashBusy (c.word 0) then s
  else s.twvReplied c 0 (s.flashRead (c.word 0) (c.word 1) n)

def execFlashRead (k : Fin 8) (s : State) : Host.Outcome State Fault Refusal := s.twvRow k 14 s.flashReadCmd

/-- ROLLBACK_BURN raises the OTP level to the loaded image's; it never lowers it. -/
def State.rollbackBurnCmd (s : State) (c : TwvCmd) : State :=
  if c.payload ≠ [] then s.twvReplied c 4 []
  else
    let v := max s.boot.otp (s.get F.MGT_ROLLBACK_IMAGE)
    (((s.modBoot fun b => { b with otp := v }).put F.MGT_ROLLBACK_OTP v).raise Ev.MGT_FLASH_DONE noInst (s.copyInUse + 2)).twvReplied c 0 []

def execRollbackBurn (k : Fin 8) (s : State) : Host.Outcome State Fault Refusal := s.twvRow k 15 s.rollbackBurnCmd

/-! ### The tick boundary (R22, R450) -/

/-- Commands that waited for the tick reply with their targets' judgement. -/
def State.twvJudged (s : State) : State :=
  s.mgt.wait.foldl (fun (s : State) w =>
    let status := match w.ref with
      | some i => twvStatus ((s.ref.judged[i]?).getD true)
      | none => w.status
    (s.modMgt fun m => { m with wait := m.wait.erase w }).twvReplied w.cmd status w.payload) s

def execTickBoundary (m : TickIn) (s : State) : Host.Outcome State Fault Refusal :=
  if !s.hasVoted then .next s
  else
    let t := s.tick m
    if t.mclkLost ∨ ¬ t.loaded then .next t else t.twvJudged.twvGo

/-! ### The SPI register port (R442, R452, R453) -/

/-- Registers that the loader answers before LOADED (R442). -/
def loaderReg (a : Nat) : Bool := a == A.ID_VENDOR || a == A.ID_PART || a == A.ID_REV || a == A.MGT_BOOT

/-- One word of a read: a bus error or a refused access answers 0 and records its address. -/
def State.spiReadWord (s : State) (a : Nat) : Word × State :=
  if busBad a 4 || (!s.loaded && !loaderReg a) || consoleReg a then (0, s.spiErr a false) else s.readReg .spi a

def execSpiRead (addr : Fin (2 ^ 24)) (n : Nat) (s : State) : Host.Outcome State Fault Refusal :=
  .next (if !s.spiUp then s
    else
      let r := (List.range n).foldl (fun (p : State × List Word) i =>
        let q := p.1.spiReadWord ((addr + 4 * i) % 2 ^ 24)
        (q.2, p.2 ++ [q.1])) (s, [])
      r.1.answer (.words r.2))

/-- One word of a write. MEM_RAW_CMD and the other command paths are refused to the port. -/
def State.spiWriteWord (s : State) (a : Nat) (v : Word) : State :=
  if busBad a 4 || !s.loaded then s.spiErr a false
  else if !s.mayWrite .spi a v then (s.refusedWrite .spi a v).spiErr a true
  else s.writeReg .spi a v

def execSpiWrite (addr : Fin (2 ^ 24)) (vals : List Word) (s : State) : Host.Outcome State Fault Refusal :=
  .next (if !s.spiUp then s
    else vals.zipIdx.foldl (fun (s : State) p => s.spiWriteWord ((addr + 4 * p.2) % 2 ^ 24) p.1) s)

end Sys2Proof.Machine
end

