-- ==== Sys2Proof/Machine/Return.lean ====
section
/-!
DEFINITION. What comes back: command writes that waited for a stopped clock, a closed crossing or a training are delivered
when it ends (07_domain_crossings.md R184 to R189, 06_clock_synthesis.md R166, 17_memory_integrity.md R432, R433).
-/
namespace Sys2Proof.Machine

open Sys2Proof

/-- A pending command write is performed. -/
def State.deliverOne (s : State) (e : Path × Nat × Word) : Host.Outcome State Fault Refusal :=
  if e.2.1 = A.MEM_RAW_CMD then
    (if vbit e.2.2 0 then execRawRead e.1 s else if vbit e.2.2 1 then execRawWrite e.1 s else .next s)
  else .next (s.writeReg e.1 e.2.1 e.2.2)

/-- Command writes in order, each taken from those pending and performed. -/
def State.deliverList (s : State) : List (Path × Nat × Word) → Host.Outcome State Fault Refusal
  | [] => .next s
  | e :: l => match ({ s with xdc := { s.xdc with cmds := s.xdc.cmds.erase e } } : State).deliverOne e with
    | .next t => t.deliverList l
    | o => o

/-- The command writes whose strobe can cross now are delivered, each once, in their order; then the Twivon sessions go on. -/
def State.deliverCmds (s : State) : Host.Outcome State Fault Refusal := match s.deliverList (s.xdc.cmds.filter fun e => !s.cmdWaits e.2.1) with
  | .next t => if t.served then t.twvGo else .next t
  | o => o

/-- R164, R166: SETTLE has elapsed; commands that waited for the clock are delivered. -/
def execLoopSettleDone (l : Fin 34) (us darkCycles : Nat) (s : State) : Host.Outcome State Fault Refusal :=
  (s.settleDone l us darkCycles).deliverCmds

/-- R187: an edge monitor declares a stopped domain running again. -/
def execDomainRunning (d : Fin 128) (us : Nat) (s : State) : Host.Outcome State Fault Refusal := (s.domainRun d us).deliverCmds

/-- R189: the crossing opens, and what the HOLD queues kept is executed. -/
def execResetHandshakeOpen (x y : Fin 128) (s : State) : Host.Outcome State Fault Refusal := (s.hsOpen x y).deliverCmds

/-- R432: the training ends and the waiting requests are served. -/
def execRetrainDone (us : Fin 256) (s : State) : Host.Outcome State Fault Refusal := (s.retrainDone us).deliverCmds

def execInjEnd (point inst : Byte) (s : State) : Host.Outcome State Fault Refusal := (s.injEnd point.toNat inst.toNat).deliverCmds

def execInjDisarm (point inst : Byte) (s : State) : Host.Outcome State Fault Refusal := (s.injDisarm point.toNat inst.toNat).deliverCmds

def execInjDisarmAll (point inst : Byte) (s : State) : Host.Outcome State Fault Refusal :=
  (s.injClear.injPost 4 0 point.toNat inst.toNat).deliverCmds

end Sys2Proof.Machine
end

