-- ==== Sys2Proof/Machine/Dispatch.lean ====
section
/-!
DEFINITION. The dispatcher: one arm per command of the table (spec/opcode_table.json), each one call of that command's
meaning. A command not modelled yet is rejected by name.
-/
namespace Sys2Proof.Machine

open Sys2Proof

def exec (i : Instr) (s : State) : Host.Outcome State Fault Refusal :=
  match i with
  | .tickBoundary a => Sys2Proof.Machine.execTickBoundary a s
  | .registerWrite a b c d => Sys2Proof.Machine.execRegisterWrite a b c d s
  | .kt96ValueComplete a b c => Sys2Proof.Machine.execKt96ValueComplete a b c s
  | .wideValueLatch a b => Sys2Proof.Machine.execWideValueLatch a b s
  | .eventAccept => Sys2Proof.Machine.execEventAccept s
  | .logSpill => Sys2Proof.Machine.execLogSpill s
  | .evtPop => Sys2Proof.Machine.execEvtPop s
  | .evtLogRdWrite a => Sys2Proof.Machine.execEvtLogRdWrite a s
  | .vote a b c d => Sys2Proof.Machine.execVote a b c d s
  | .keepersStart a => Sys2Proof.Machine.execKeepersStart a s
  | .keeperSeed a b => Sys2Proof.Machine.execKeeperSeed a b s
  | .keeperRemove a b => Sys2Proof.Machine.execKeeperRemove a b s
  | .keeperRejoinCmd a => Sys2Proof.Machine.execKeeperRejoinCmd a s
  | .snapshotTake => Sys2Proof.Machine.execSnapshotTake s
  | .snapshotComplete => Sys2Proof.Machine.execSnapshotComplete s
  | .leapArm a b => Sys2Proof.Machine.execLeapArm a b s
  | .leapCancel => Sys2Proof.Machine.execLeapCancel s
  | .leapApply => Sys2Proof.Machine.execLeapApply s
  | .leapWindowOpen => Sys2Proof.Machine.execLeapWindowOpen s
  | .realignCommand a b c => Sys2Proof.Machine.execRealignCommand a b c s
  | .realignApply a => Sys2Proof.Machine.execRealignApply a s
  | .votedSecondMarker a b c => Sys2Proof.Machine.execVotedSecondMarker a b c s
  | .boundRequest a b c => Sys2Proof.Machine.execBoundRequest a b c s
  | .bndQueryGo a => Sys2Proof.Machine.execBndQueryGo a s
  | .asymWrite a b c d => Sys2Proof.Machine.execAsymWrite a b c d s
  | .sampleTimeout a => Sys2Proof.Machine.execSampleTimeout a s
  | .bndTracePop => Sys2Proof.Machine.execBndTracePop s
  | .todFrame a b c => Sys2Proof.Machine.execTodFrame a b c s
  | .todStale a => Sys2Proof.Machine.execTodStale a s
  | .ppsEdgeTimeout a => Sys2Proof.Machine.execPpsEdgeTimeout a s
  | .packetExchange a b => Sys2Proof.Machine.execPacketExchange a b s
  | .announceTimeout a => Sys2Proof.Machine.execAnnounceTimeout a s
  | .packetLos a => Sys2Proof.Machine.execPacketLos a s
  | .esmcPdu a b c d => Sys2Proof.Machine.execEsmcPdu a b c d s
  | .esmcTimeout a => Sys2Proof.Machine.execEsmcTimeout a s
  | .qualificationComplete a => Sys2Proof.Machine.execQualificationComplete a s
  | .wtrComplete a => Sys2Proof.Machine.execWtrComplete a s
  | .disputeClear a => Sys2Proof.Machine.execDisputeClear a s
  | .switchCommit => Sys2Proof.Machine.execSwitchCommit s
  | .refForce a => Sys2Proof.Machine.execRefForce a s
  | .refLockout a => Sys2Proof.Machine.execRefLockout a s
  | .refUnlock a => Sys2Proof.Machine.execRefUnlock a s
  | .refClearForce => Sys2Proof.Machine.execRefClearForce s
  | .refForceHoldover => Sys2Proof.Machine.execRefForceHoldover s
  | .refClearHoldover => Sys2Proof.Machine.execRefClearHoldover s
  | .refCmdInvalidOp a b => Sys2Proof.Machine.execRefCmdInvalidOp a b s
  | .oscWordWrite a => Sys2Proof.Machine.execOscWordWrite a s
  | .oscWordResult a b => Sys2Proof.Machine.execOscWordResult a b s
  | .tempSensorRead a => Sys2Proof.Machine.execTempSensorRead a s
  | .tempReadResult a b => Sys2Proof.Machine.execTempReadResult a b s
  | .trimTransfer => Sys2Proof.Machine.execTrimTransfer s
  | .dscFreqLock => Sys2Proof.Machine.execDscFreqLock s
  | .dscPhaseLock => Sys2Proof.Machine.execDscPhaseLock s
  | .modelCommit a => Sys2Proof.Machine.execModelCommit a s
  | .witnessCommit => Sys2Proof.Machine.execWitnessCommit s
  | .witnessStale => Sys2Proof.Machine.execWitnessStale s
  | .loopLock a b c => Sys2Proof.Machine.execLoopLock a b c s
  | .loopAcquireTimeout a b c => Sys2Proof.Machine.execLoopAcquireTimeout a b c s
  | .loopSettleDone a b c => Sys2Proof.Machine.execLoopSettleDone a b c s
  | .loopLossOfLock a b c => Sys2Proof.Machine.execLoopLossOfLock a b c s
  | .loopLossOfReference a b => Sys2Proof.Machine.execLoopLossOfReference a b s
  | .loopReferenceReturn a => Sys2Proof.Machine.execLoopReferenceReturn a s
  | .ppsCfgWrite a b c => Sys2Proof.Machine.execPpsCfgWrite a b c s
  | .ppsOfsWrite a b c => Sys2Proof.Machine.execPpsOfsWrite a b c s
  | .clkoutCtlWrite a b c => Sys2Proof.Machine.execClkoutCtlWrite a b c s
  | .clkoutOfsWrite a b c => Sys2Proof.Machine.execClkoutOfsWrite a b c s
  | .domainStopped a => Sys2Proof.Machine.execDomainStopped a s
  | .domainRunning a b => Sys2Proof.Machine.execDomainRunning a b s
  | .sampleStall a b => Sys2Proof.Machine.execSampleStall a b s
  | .resetHandshakeRequest a b => Sys2Proof.Machine.execResetHandshakeRequest a b s
  | .resetHandshakeAck a b => Sys2Proof.Machine.execResetHandshakeAck a b s
  | .resetHandshakeOpen a b => Sys2Proof.Machine.execResetHandshakeOpen a b s
  | .compatWakeRequest a b => Sys2Proof.Machine.execCompatWakeRequest a b s
  | .mergeClear => Sys2Proof.Machine.execMergeClear s
  | .mergeClearAll => Sys2Proof.Machine.execMergeClearAll s
  | .rxFrame a b c => Sys2Proof.Machine.execRxFrame a b c s
  | .pauseFrame a b c => Sys2Proof.Machine.execPauseFrame a b c s
  | .pfcFrame a b c d => Sys2Proof.Machine.execPfcFrame a b c d s
  | .pauseAction a => Sys2Proof.Machine.execPauseAction a s
  | .pfcAction a => Sys2Proof.Machine.execPfcAction a s
  | .pauseEnd a b => Sys2Proof.Machine.execPauseEnd a b s
  | .pauseLong a => Sys2Proof.Machine.execPauseLong a s
  | .linkBlockLock a b => Sys2Proof.Machine.execLinkBlockLock a b s
  | .linkHoldExpiry a b c => Sys2Proof.Machine.execLinkHoldExpiry a b c s
  | .linkFault a b => Sys2Proof.Machine.execLinkFault a b s
  | .autonegResult a => Sys2Proof.Machine.execAutonegResult a s
  | .portReset a => Sys2Proof.Machine.execPortReset a s
  | .portCntSnap a => Sys2Proof.Machine.execPortCntSnap a s
  | .txFrameSubmit a b c d e f => Sys2Proof.Machine.execTxFrameSubmit a b c d e f s
  | .txFrameStart a b => Sys2Proof.Machine.execTxFrameStart a b s
  | .txFrameDone a b => Sys2Proof.Machine.execTxFrameDone a b s
  | .txUnderrun a => Sys2Proof.Machine.execTxUnderrun a s
  | .launchReservation a => Sys2Proof.Machine.execLaunchReservation a s
  | .pinnedArmed a b c d => Sys2Proof.Machine.execPinnedArmed a b c d s
  | .deadlineMissed a b c => Sys2Proof.Machine.execDeadlineMissed a b c s
  | .pinnedCancel a b c => Sys2Proof.Machine.execPinnedCancel a b c s
  | .pinnedLaunch a b c => Sys2Proof.Machine.execPinnedLaunch a b c s
  | .pinnedCommit a b c d => Sys2Proof.Machine.execPinnedCommit a b c d s
  | .trgPush a => Sys2Proof.Machine.execTrgPush a s
  | .trgCancelAll a => Sys2Proof.Machine.execTrgCancelAll a s
  | .trgFire a => Sys2Proof.Machine.execTrgFire a s
  | .requestAdmit a => Sys2Proof.Machine.execRequestAdmit a s
  | .clientLookup a => Sys2Proof.Machine.execClientLookup a s
  | .ledgerPop a => Sys2Proof.Machine.execLedgerPop a s
  | .notePop a => Sys2Proof.Machine.execNotePop a s
  | .recFetch a b c => Sys2Proof.Machine.execRecFetch a b c s
  | .recFetchLarder a b c => Sys2Proof.Machine.execRecFetchLarder a b c s
  | .recStage a b c => Sys2Proof.Machine.execRecStage a b c s
  | .recResPop a => Sys2Proof.Machine.execRecResPop a s
  | .cookieOpen a b c => Sys2Proof.Machine.execCookieOpen a b c s
  | .sivVerify a b c => Sys2Proof.Machine.execSivVerify a b c s
  | .hmacVerify a b c => Sys2Proof.Machine.execHmacVerify a b c s
  | .cryptoResult a => Sys2Proof.Machine.execCryptoResult a s
  | .cryptoResPop a => Sys2Proof.Machine.execCryptoResPop a s
  | .launchPush a b c => Sys2Proof.Machine.execLaunchPush a b c s
  | .launchResPop a => Sys2Proof.Machine.execLaunchResPop a s
  | .sealPush a b c d => Sys2Proof.Machine.execSealPush a b c d s
  | .sealDone a => Sys2Proof.Machine.execSealDone a s
  | .sealResPop a => Sys2Proof.Machine.execSealResPop a s
  | .submitPush a b => Sys2Proof.Machine.execSubmitPush a b s
  | .withdrawPush a b c => Sys2Proof.Machine.execWithdrawPush a b c s
  | .entryCommit a => Sys2Proof.Machine.execEntryCommit a s
  | .entrySquash a => Sys2Proof.Machine.execEntrySquash a s
  | .useLimitExpiry a => Sys2Proof.Machine.execUseLimitExpiry a s
  | .engineFault a b c d => Sys2Proof.Machine.execEngineFault a b c d s
  | .engineWatchdog a b => Sys2Proof.Machine.execEngineWatchdog a b s
  | .engineRestarted a => Sys2Proof.Machine.execEngineRestarted a s
  | .engineReset a => Sys2Proof.Machine.execEngineReset a s
  | .engineOnline a => Sys2Proof.Machine.execEngineOnline a s
  | .svcCntSnap => Sys2Proof.Machine.execSvcCntSnap s
  | .svcJnlPop => Sys2Proof.Machine.execSvcJnlPop s
  | .announceSend a b c => Sys2Proof.Machine.execAnnounceSend a b c s
  | .syncSend a b c d e f g => Sys2Proof.Machine.execSyncSend a b c d e f g s
  | .larderWriteThrough a => Sys2Proof.Machine.execLarderWriteThrough a s
  | .recordAgeOut a => Sys2Proof.Machine.execRecordAgeOut a s
  | .grantExpire a => Sys2Proof.Machine.execGrantExpire a s
  | .pantryRebuildDone a => Sys2Proof.Machine.execPantryRebuildDone a s
  | .ldrReady a => Sys2Proof.Machine.execLdrReady a s
  | .ldrFind => Sys2Proof.Machine.execLdrFind s
  | .ldrSet => Sys2Proof.Machine.execLdrSet s
  | .ldrCntSnap => Sys2Proof.Machine.execLdrCntSnap s
  | .keyGenerate a => Sys2Proof.Machine.execKeyGenerate a s
  | .keyImport a => Sys2Proof.Machine.execKeyImport a s
  | .keyImportLocal a => Sys2Proof.Machine.execKeyImportLocal a s
  | .keyErase a => Sys2Proof.Machine.execKeyErase a s
  | .keyCommit a => Sys2Proof.Machine.execKeyCommit a s
  | .keyAbort a => Sys2Proof.Machine.execKeyAbort a s
  | .keyDerive a => Sys2Proof.Machine.execKeyDerive a s
  | .keyInvalidate a => Sys2Proof.Machine.execKeyInvalidate a s
  | .keySetSucc a => Sys2Proof.Machine.execKeySetSucc a s
  | .keyFree a => Sys2Proof.Machine.execKeyFree a s
  | .cookieRoll a => Sys2Proof.Machine.execCookieRoll a s
  | .tamperDisarm a => Sys2Proof.Machine.execTamperDisarm a s
  | .keyExpiry a => Sys2Proof.Machine.execKeyExpiry a s
  | .keyTagCheck => Sys2Proof.Machine.execKeyTagCheck s
  | .keyCntSnap => Sys2Proof.Machine.execKeyCntSnap s
  | .keySlotSelWrite a b => Sys2Proof.Machine.execKeySlotSelWrite a b s
  | .tamperTrigger a => Sys2Proof.Machine.execTamperTrigger a s
  | .tamperCfgWrite a b => Sys2Proof.Machine.execTamperCfgWrite a b s
  | .rngHealthFail a => Sys2Proof.Machine.execRngHealthFail a s
  | .rngRecover => Sys2Proof.Machine.execRngRecover s
  | .drbgReseed => Sys2Proof.Machine.execDrbgReseed s
  | .ticEdge a b c => Sys2Proof.Machine.execTicEdge a b c s
  | .pipWrite a => Sys2Proof.Machine.execPipWrite a s
  | .intervalJudge a => Sys2Proof.Machine.execIntervalJudge a s
  | .freqGateEnd a => Sys2Proof.Machine.execFreqGateEnd a s
  | .interpCalDone a b c => Sys2Proof.Machine.execInterpCalDone a b c s
  | .recalTimer a => Sys2Proof.Machine.execRecalTimer a s
  | .recal a => Sys2Proof.Machine.execRecal a s
  | .recalAll => Sys2Proof.Machine.execRecalAll s
  | .exportFrameClose => Sys2Proof.Machine.execExportFrameClose s
  | .flowMessage => Sys2Proof.Machine.execFlowMessage s
  | .xoffTimeout => Sys2Proof.Machine.execXoffTimeout s
  | .ringRdWrite a b => Sys2Proof.Machine.execRingRdWrite a b s
  | .ticFqPop => Sys2Proof.Machine.execTicFqPop s
  | .gnssEpoch a => Sys2Proof.Machine.execGnssEpoch a s
  | .gnssPpsEdge a b => Sys2Proof.Machine.execGnssPpsEdge a b s
  | .channelAssign a b c d => Sys2Proof.Machine.execChannelAssign a b c d s
  | .cellDetected a => Sys2Proof.Machine.execCellDetected a s
  | .searchExhausted a => Sys2Proof.Machine.execSearchExhausted a s
  | .pullInLock a b => Sys2Proof.Machine.execPullInLock a b s
  | .pullInTimeout a => Sys2Proof.Machine.execPullInTimeout a s
  | .trackLoss a => Sys2Proof.Machine.execTrackLoss a s
  | .reacquired a => Sys2Proof.Machine.execReacquired a s
  | .lostTimeout a => Sys2Proof.Machine.execLostTimeout a s
  | .loopProcessorFault a b => Sys2Proof.Machine.execLoopProcessorFault a b s
  | .gnssSleep => Sys2Proof.Machine.execGnssSleep s
  | .gnssWake a => Sys2Proof.Machine.execGnssWake a s
  | .gnssCold a => Sys2Proof.Machine.execGnssCold a s
  | .resurvey => Sys2Proof.Machine.execResurvey s
  | .dutySleep => Sys2Proof.Machine.execDutySleep s
  | .dutyWake a => Sys2Proof.Machine.execDutyWake a s
  | .bandWakeComplete a => Sys2Proof.Machine.execBandWakeComplete a s
  | .bandWakeTimeout a => Sys2Proof.Machine.execBandWakeTimeout a s
  | .linkSyncSend a b c d => Sys2Proof.Machine.execLinkSyncSend a b c d s
  | .triggerForwardTimeout a => Sys2Proof.Machine.execTriggerForwardTimeout a s
  | .linkSyncRx a b => Sys2Proof.Machine.execLinkSyncRx a b s
  | .linkDelayReqSend a b c d => Sys2Proof.Machine.execLinkDelayReqSend a b c d s
  | .linkDelayReqRx a => Sys2Proof.Machine.execLinkDelayReqRx a s
  | .linkPdelayReqRx a b c => Sys2Proof.Machine.execLinkPdelayReqRx a b c s
  | .linkDelayRespRx a => Sys2Proof.Machine.execLinkDelayRespRx a s
  | .linkTempRead a b => Sys2Proof.Machine.execLinkTempRead a b s
  | .linkSilence a => Sys2Proof.Machine.execLinkSilence a s
  | .triggerForwardSend => Sys2Proof.Machine.execTriggerForwardSend s
  | .helloSend => Sys2Proof.Machine.execHelloSend s
  | .helloRx a => Sys2Proof.Machine.execHelloRx a s
  | .discoverTimeout a => Sys2Proof.Machine.execDiscoverTimeout a s
  | .vintageBoundary a b => Sys2Proof.Machine.execVintageBoundary a b s
  | .pairExchRx a b c d e => Sys2Proof.Machine.execPairExchRx a b c d e s
  | .vintageDrained => Sys2Proof.Machine.execVintageDrained s
  | .vintageRecordsRx => Sys2Proof.Machine.execVintageRecordsRx s
  | .vintageSealRx a b => Sys2Proof.Machine.execVintageSealRx a b s
  | .vintageAckRx => Sys2Proof.Machine.execVintageAckRx s
  | .vintageAckTimeout => Sys2Proof.Machine.execVintageAckTimeout s
  | .recordInsertDone => Sys2Proof.Machine.execRecordInsertDone s
  | .copyStale => Sys2Proof.Machine.execCopyStale s
  | .peerPpsEdge a b => Sys2Proof.Machine.execPeerPpsEdge a b s
  | .peerPpsLost => Sys2Proof.Machine.execPeerPpsLost s
  | .pairResign a => Sys2Proof.Machine.execPairResign a s
  | .resignRelease => Sys2Proof.Machine.execResignRelease s
  | .resignFrameRx => Sys2Proof.Machine.execResignFrameRx s
  | .pairTakeoverCmd a => Sys2Proof.Machine.execPairTakeoverCmd a s
  | .pairResync a => Sys2Proof.Machine.execPairResync a s
  | .arbHoldExpiry a => Sys2Proof.Machine.execArbHoldExpiry a s
  | .scrubRead a b c d e f g => Sys2Proof.Machine.execScrubRead a b c d e f g s
  | .dramFillDone a => Sys2Proof.Machine.execDramFillDone a s
  | .dramRetrain a b => Sys2Proof.Machine.execDramRetrain a b s
  | .retrainDone a => Sys2Proof.Machine.execRetrainDone a s
  | .rawRead a => Sys2Proof.Machine.execRawRead a s
  | .rawWrite a => Sys2Proof.Machine.execRawWrite a s
  | .fullStart => Sys2Proof.Machine.execFullStart s
  | .headersRead a b => Sys2Proof.Machine.execHeadersRead a b s
  | .copyVerify a b c d => Sys2Proof.Machine.execCopyVerify a b c d s
  | .corePairFault a => Sys2Proof.Machine.execCorePairFault a s
  | .watchdogExpiry => Sys2Proof.Machine.execWatchdogExpiry s
  | .watchdogKick => Sys2Proof.Machine.execWatchdogKick s
  | .twivonMessage a => Sys2Proof.Machine.execTwivonMessage a s
  | .twivonRead a => Sys2Proof.Machine.execTwivonRead a s
  | .twivonWrite a => Sys2Proof.Machine.execTwivonWrite a s
  | .twivonClear a => Sys2Proof.Machine.execTwivonClear a s
  | .flashErase a => Sys2Proof.Machine.execFlashErase a s
  | .flashEraseDone => Sys2Proof.Machine.execFlashEraseDone s
  | .flashWrite a => Sys2Proof.Machine.execFlashWrite a s
  | .flashRead a => Sys2Proof.Machine.execFlashRead a s
  | .rollbackBurn a => Sys2Proof.Machine.execRollbackBurn a s
  | .twivonRestart => Sys2Proof.Machine.execTwivonRestart s
  | .spiRead a b => Sys2Proof.Machine.execSpiRead a b s
  | .spiWrite a b => Sys2Proof.Machine.execSpiWrite a b s
  | .spiStatus => Sys2Proof.Machine.execSpiStatus s
  | .uartTxWrite a => Sys2Proof.Machine.execUartTxWrite a s
  | .uartRxByte a b => Sys2Proof.Machine.execUartRxByte a b s
  | .uartRxPop => Sys2Proof.Machine.execUartRxPop s
  | .cellarEnter a => Sys2Proof.Machine.execCellarEnter a s
  | .drainComplete => Sys2Proof.Machine.execDrainComplete s
  | .drainTimeout => Sys2Proof.Machine.execDrainTimeout s
  | .snapshotSaved => Sys2Proof.Machine.execSnapshotSaved s
  | .wakeNAssert => Sys2Proof.Machine.execWakeNAssert s
  | .wakeTimerExpiry => Sys2Proof.Machine.execWakeTimerExpiry s
  | .wakeComplete a b c d => Sys2Proof.Machine.execWakeComplete a b c d s
  | .clrCntSnap => Sys2Proof.Machine.execClrCntSnap s
  | .resetNAssert => Sys2Proof.Machine.execResetNAssert s
  | .pwrgoodFall => Sys2Proof.Machine.execPwrgoodFall s
  | .vauxFall => Sys2Proof.Machine.execVauxFall s
  | .vauxRise => Sys2Proof.Machine.execVauxRise s
  | .vbatLow => Sys2Proof.Machine.execVbatLow s
  | .pathDelayMonitor a => Sys2Proof.Machine.execPathDelayMonitor a s
  | .eqHoursUpdate => Sys2Proof.Machine.execEqHoursUpdate s
  | .marginPlan => Sys2Proof.Machine.execMarginPlan s
  | .avsStep a => Sys2Proof.Machine.execAvsStep a s
  | .injArm a b c d => Sys2Proof.Machine.execInjArm a b c d s
  | .injDisarm a b => Sys2Proof.Machine.execInjDisarm a b s
  | .injDisarmAll a b => Sys2Proof.Machine.execInjDisarmAll a b s
  | .injFire a b => Sys2Proof.Machine.execInjFire a b s
  | .injEnd a b => Sys2Proof.Machine.execInjEnd a b s
  | .packetAnnounceRx a b c d => Sys2Proof.Machine.execPacketAnnounceRx a b c d s
  | .vauxOutOfRange => Sys2Proof.Machine.execVauxOutOfRange s
  | .vauxInRange => Sys2Proof.Machine.execVauxInRange s
  | .vbatRestored => Sys2Proof.Machine.execVbatRestored s
  | .uartTxByteSent => Sys2Proof.Machine.execUartTxByteSent s

end Sys2Proof.Machine
end

