-- ==== Sys2Proof/Safety.lean ====
section
/-!
DEFINITION. What a safe run is, in the terms claims use: the canonical form of the sparse maps, and a step that stops
nowhere.
-/
namespace Sys2Proof.Machine

open Sys2Proof

/-- The sparse maps stand in canonical form: registers, counters, DRAM bytes, the checks of DRAM codewords. -/
structure State.Canon (s : State) : Prop where
  regs : spWf resetWord s.regs = true
  cnt : spWf (fun _ => 0) s.cnt = true
  dram : Memory.wf s.dram = true
  chk : spWf (fun _ => Chk.virgin) s.mem.chk = true

/-- The command completes: exec answers a next state, and the property holds of it. -/
def State.Does (s : State) (c : Instr) (P : State → Prop) : Prop := ∃ t, exec c s = .next t ∧ P t

/-- Every register outside a list of addresses stands. -/
def State.RegsBut (s t : State) (l : List Nat) : Prop := ∀ a, a ∉ l → t.reg a = s.reg a

/-- Every byte of DRAM outside the `n` from `a` reads as before. -/
def State.BytesBut (s t : State) (a n : Nat) : Prop := ∀ b, b < a ∨ a + n ≤ b → t.byte b = s.byte b

/-- The block of an event has room toward the router, so that raising it loses nothing (R458). -/
abbrev State.Room (s : State) (event : Nat) : Prop :=
  s.evtWaiting (evtBlock event) < evtQueueDepth ∧ s.injOn 0x01 (evtBlock event) = false

/-- An event was raised: its record stands last among those waiting for the router. -/
def State.Raised (s t : State) (event inst detail : Nat) : Prop := t.evt.q = s.evt.q ++ [⟨s.cyc, s.now, event, inst, detail⟩]

/-- The registers are in canonical form. -/
abbrev State.RegsOk (s : State) : Prop := spWf resetWord s.regs = true

/-- A step answers a next state. -/
def State.Runs (s : State) : Prop := ∃ t, step s = .next t

end Sys2Proof.Machine
end

