-- ==== Sys2Proof/Certificates/Slice0/Obligations.lean ====
section
/-!
DEFINITION. The statements for the provers. Each obligation is a conjunction of claims; a claim names the rules of spec/ it
states. `State.Does s c P` says that exec answers a next state of which P holds.
-/
namespace Sys2Proof.Claims

open Sys2Proof Sys2Proof.Machine

/-- The values of a field. -/
def wid (f : Fld) : Nat := 2 ^ (f.hi + 1 - f.lo)

/-- An event's record stands among those waiting for the router. -/
abbrev Told (s t : State) (event inst detail : Nat) : Prop := (⟨s.cyc, s.now, event, inst, detail⟩ : EvRec) ∈ t.evt.q

/-! ### The queue, reset, the canonical form -/

/-- A step takes the command at the front of the queue and runs it with the queue's rest. -/
def stepRuns : Prop := ∀ (c : Instr) (s : State) (rest : List Instr), step { s with pending := c :: rest } = exec c { s with pending := rest }

/-- On an empty queue the block idles. -/
def stepIdles : Prop := ∀ s : State, s.pending = [] → step s = .next s

/-- The state after reset stands in canonical form, with nothing listed and nothing queued. -/
def resetCanon : Prop := State.reset.Canon ∧ State.reset.pending = [] ∧ State.reset.dram = [] ∧ State.reset.cnt = [] ∧ State.reset.staged = []

/-- What register tables of the chapters give for reset. -/
def resetValues : Prop :=
  State.reset.reg A.ID_VENDOR = 2981 ∧ State.reset.reg A.ID_PART = 0x7720 ∧
  State.reset.get F.KPR_VOTE_CFG_VOTE_LIMIT = 64 ∧ State.reset.get F.KPR_VOTE_CFG_PERSIST = 4 ∧ State.reset.flag F.KPR_STAT_OUT_GATED = true ∧
  State.reset.get F.KPR_STAT_TSRC = 3 ∧ State.reset.get F.BND_SAMPLE_TIMEOUT_TICKS = 2048 ∧ State.reset.get F.BND_QRES_EB8 = 255 ∧
  (∀ n < 16, State.reset.get (F.REF_SLOTn_CFG_RANK n) = n ∧ State.reset.get (F.REF_SLOTn_CFG_QL_LIMIT n) = 14 ∧ State.reset.get (F.REF_SLOTn_TIME_WTR n) = 300) ∧
  (∀ p < 20, State.reset.get (F.PRT_x_MAXLEN_MAXLEN p) = 1522 ∧ State.reset.get (F.TSU_x_GUARD_GUARD p) = 4 ∧ State.reset.get (F.TSU_x_GUARD_LEAD p) = 400) ∧
  State.reset.get F.LDR_AGE_AGE_OUT = 86400 ∧ State.reset.get F.KEY_TAMPER_CFG_DEBOUNCE = 3 ∧
  (∀ n < 32, State.reset.get (F.TIC_CHn_DIV_DIV n) = 1 ∧ State.reset.get (F.TIC_CHn_RING_SIZE_LOG2 n) = 16) ∧
  State.reset.get F.GNS_EPOCH_CFG_EPOCH = 1000 ∧ State.reset.get F.MEM_SCRUB_DRAM_PERIOD = 240 ∧ State.reset.get F.EVT_CFG_SPILL = 3072

/-- Every step keeps the canonical form: a register, a counter or a byte written stands once, and never at its default. -/
def stepCanon : Prop := ∀ s t : State, s.Canon → step s = .next t → t.Canon

/-! ### The register window and the event router -/

/-- R8: an access that is narrow, misaligned or outside the window answers a bus error and changes nothing. -/
def busError : Prop := ∀ (s : State) (path : Path) (a size : Nat) (v : Word), s.served → (size ≠ 4 ∨ a % 4 ≠ 0 ∨ 0x160000 ≤ a) →
  exec (.registerWrite path a size v) s = .next { s with reply := .busError }

/-- R26: a write of KEY_ARGi, an RW register without a rule of its own, joins the staging copy, and nothing else changes. -/
def registerWrite : Prop := ∀ (s : State) (path : Path) (i : Nat) (v : Word), i < 8 → s.served →
  s.Does (.registerWrite path (A.KEY_ARG i) 4 v) fun t =>
    t = { s with staged := s.staged ++ [⟨path, A.KEY_ARG i, 0xFFFFFFFF, v, s.now⟩] }

/-- R15: word +0x8 of DSC_RA_AT completes the value; it joins the staging copy whole where its nanoseconds are below 10^9,
else nothing of it does. The holding copy is spent. -/
def kt96Complete : Prop := ∀ (s : State) (path : Path) (v : Word), path ≠ .spi → s.served →
  s.Does (.kt96ValueComplete path (A.DSC_RA_AT 2) v) fun t =>
    (∀ e ∈ t.hold, e.1 ≠ A.DSC_RA_AT 0 ∧ e.1 ≠ A.DSC_RA_AT 1) ∧ t.regs = s.regs ∧ t.dram = s.dram ∧
    (1000000000 ≤ kt96Ns ((s.heldWord (A.DSC_RA_AT 0)).toNat + (s.heldWord (A.DSC_RA_AT 1)).toNat * 2 ^ 32) → t.staged = s.staged) ∧
    (kt96Ns ((s.heldWord (A.DSC_RA_AT 0)).toNat + (s.heldWord (A.DSC_RA_AT 1)).toNat * 2 ^ 32) < 1000000000 →
      t.staged = s.staged ++ [⟨path, A.DSC_RA_AT 0, 0xFFFFFFFF, s.heldWord (A.DSC_RA_AT 0), s.now⟩,
        ⟨path, A.DSC_RA_AT 1, 0xFFFFFFFF, s.heldWord (A.DSC_RA_AT 1), s.now⟩, ⟨path, A.DSC_RA_AT 2, 0xFFFFFFFF, v, s.now⟩])

/-- R13: a read of the lowest word of CLR_SEC answers it and latches the other. -/
def wideLatch : Prop := ∀ (s : State) (path : Path), s.served →
  s.Does (.wideValueLatch path A.CLR_SEC) fun t =>
    t.reply = .words [s.liveWord A.CLR_SEC] ∧ (t.readReg path (A.CLR_SEC + 4)).1 = s.liveWord (A.CLR_SEC + 4) ∧
    t = { s with latch := t.latch, reply := t.reply }

/-- R458: the record the router takes next is one of those waiting, and none of them comes before it by cycle, event number and
INSTANCE. -/
def eventOrder : Prop := ∀ (q : List EvRec) (r : EvRec), evFirst q = some r → r ∈ q ∧ ∀ x ∈ q, evBefore x r = false

/-- R35, R458, R460: the router takes the first record in order out of its queue and writes it into the ring under the next
SEQ, PEND of its event sets on every pin; when its block's queue drains with losses unreported, EVT_LOST with the block and the
count follows it. -/
def eventAccept : Prop := ∀ (s : State) (r : EvRec), s.RegsOk → s.evt.ring.length < ringCap → s.routerRuns = true → evFirst s.evt.q = some r →
  r.event < 256 →
  s.Does .eventAccept fun t =>
    t.evt.q = s.evt.q.erase r ∧ (∀ n < 8, t.bit (F.EVT_IRQn_PEND_PEND n (r.event / 32)) (r.event % 32) = true) ∧
    (s.evtLost (evtBlock r.event) = 0 → t.evt.ring = s.evt.ring ++ [r.toRing s.evt.seq] ∧ t.evt.seq = (s.evt.seq + 1) % 65536) ∧
    (0 < s.evtLost (evtBlock r.event) → ((s.evt.q.erase r).filter fun x => evtBlock x.event == evtBlock r.event) = [] →
      s.evt.ring.length + 1 < ringCap →
      t.evt.ring = s.evt.ring ++ [r.toRing s.evt.seq, (⟨s.cyc, s.now, Ev.EVT_LOST, evtBlock r.event,
        detSat 32 (s.evtLost (evtBlock r.event))⟩ : EvRec).toRing ((s.evt.seq + 1) % 65536)]) ∧
    t = { s with evt := t.evt, regs := t.regs, cnt := t.cnt }

/-- R458, R459: a full ring makes the sources hold their records. -/
def eventHeld : Prop := ∀ s : State, ringCap ≤ s.evt.ring.length → exec .eventAccept s = .next s

/-- R459: while the log is enabled and the ring holds SPILL records or more, the head record's 16 bytes move to the log's place
at WR, every other byte of DRAM stands, and WR advances; a log that this fills raises EVT_LOG_FULL. -/
def logSpill : Prop := ∀ (s : State) (r : RingRec) (rest : List RingRec), s.Canon → s.Room Ev.EVT_LOG_FULL → s.routerRuns = true →
  s.dramBusy = false → s.flag F.EVT_CFG_LOG_EN = true → s.get F.EVT_CFG_SPILL ≤ s.evt.ring.length → s.evt.ring = r :: rest →
  (s.get F.EVT_LOG_WR_WR + 1) % s.logSize ≠ s.get F.EVT_LOG_RD_RD →
  s.Does .logSpill fun t =>
    t.evt.ring = rest ∧ t.readBytes (s.logBase + 16 * s.get F.EVT_LOG_WR_WR) 16 = ringRecBytes r ∧
    s.BytesBut t (s.logBase + 16 * s.get F.EVT_LOG_WR_WR) 16 ∧
    t.get F.EVT_LOG_WR_WR = (s.get F.EVT_LOG_WR_WR + 1) % s.logSize % 2 ^ 24 ∧
    (if t.logFull && !s.flag F.EVT_STAT_LOG_FULL then s.Raised t Ev.EVT_LOG_FULL 0xFF (t.get F.EVT_LOG_WR_WR) else t.evt.q = s.evt.q) ∧
    s.RegsBut t [A.EVT_LOG_WR, A.EVT_STAT] ∧
    t = { s with evt := t.evt, regs := t.regs, cnt := t.cnt, dram := t.dram, mem := { s.mem with chk := t.mem.chk } }

/-- R459: a full log stops the moves. -/
def logSpillFull : Prop := ∀ s : State, s.logFull = true → exec .logSpill s = .next s

/-- R12, R459: a pop answers the head record's word and removes the record. -/
def evtPop : Prop := ∀ (s : State) (r : RingRec) (rest : List RingRec), s.RegsOk → s.evt.ring = r :: rest →
  s.Does .evtPop fun t =>
    t.evt.ring = rest ∧ t.reply = .words [BitVec.ofNat 32 (2 * s.evt.ring.length + 65536 * r.seq)] ∧ s.RegsBut t [A.EVT_STAT] ∧
    t = { s with evt := t.evt, regs := t.regs, cnt := t.cnt, reply := t.reply }

/-- R12: a pop of the empty ring answers EMPTY and changes nothing else. -/
def evtPopEmpty : Prop := ∀ s : State, s.evt.ring = [] → exec .evtPop s = .next { s with reply := .words [1] }

/-- R459: EVT_LOG_RD takes effect at once; LOG_NONEMPTY and LOG_FULL follow it. -/
def evtLogRd : Prop := ∀ (s : State) (v : Word), s.RegsOk → s.Room Ev.EVT_LOG_FULL →
  s.Does (.evtLogRdWrite v) fun t => t.get F.EVT_LOG_RD_RD = v.toNat % 2 ^ 24 ∧
    t.flag F.EVT_STAT_LOG_NONEMPTY = (s.get F.EVT_LOG_WR_WR != v.toNat % 2 ^ 24) ∧ t.flag F.EVT_STAT_LOG_FULL = t.logFull ∧
    s.RegsBut t [A.EVT_LOG_RD, A.EVT_STAT] ∧ t = { s with regs := t.regs, evt := { s.evt with q := t.evt.q } }

/-- R13: a read of the lowest word of a wide value answers it and latches the others; a read of a higher word answers the
latched copy as long as the latch stands. -/
def wideLatchAll : Prop := ∀ (s : State) (path : Path) (low n : Nat), low % 4 = 0 → wideAt low = some (low, n) →
  (s.readReg path low).1 = s.liveWord low ∧
  ∀ (u : State) (i : Nat), 0 < i → i < n → u.latch = (s.readReg path low).2.latch → u.readReg path (low + 4 * i) = (s.liveWord (low + 4 * i), u)


/-! ### Keepers, voter, UTC -/

/-- R45, R54, R60: the keepers start with the Cellar seconds as every locked keeper's time and as voted time; the locked
keepers are in the vote, the lowest of them is the time source, and the first tick is the next boundary after it. -/
def keepersStart : Prop := ∀ (s : State) (sec : Nat), s.RegsOk → s.kpr.keepers.length = 3 → s.kpr.started = false → s.lockedKeepers ≠ [] →
  s.vstate = vInit →
  s.Does (.keepersStart sec) fun t => t.kpr.started = true ∧ t.now = sec * lsbPerSec ∧ t.nextTick = tickOf (sec * lsbPerSec) + 1 ∧
    (∀ x ∈ s.lockedKeepers, (s.kprStart sec).isIn x = true ∧ ((s.kprStart sec).kp x).time = sec * 1000000000 * 2 ^ 64) ∧
    ((s.kprStart sec).inVote.head? = some (s.kprStart sec).tsrc) ∧
    t = ((s.voteChanged ((s.kprStart sec).retick) []).dscStart).putB F.MEM_STAT_SRAM_FILLED true

/-- R50, R52, R53, R54, R85, R136: a vote. Each keeper whose marker came has its offset from the reference arrival, saturating; the
time source is that of R54 and the correction its offset from the median; voted time is the time source's marked instant with the
correction; what follows a change, the trims added up once per vote and the epoch's squashes come after. -/
def vote : Prop := ∀ (s : State) (a b c : Marker) (grid : List (Fin 20 × GridPhase)) (r : Int), s.RegsOk → s.kpr.keepers.length = 3 →
  s.kpr.started = true → s.lockedKeepers ≠ [] → s.kpr.skip = 0 → s.refArrival (s.arrivalOf (markerOf a b c)) = some r →
  s.Does (.vote a b c grid) fun t => ∃ u : State, u = s.kprVote (markerOf a b c) ∧
    (∀ x < 3, ∀ v, s.arrivalOf (markerOf a b c) x = some v → u.getI (F.KPR_x_OFS_OFS x) = max (-2048000) (min 2048000 (v - r))) ∧
    u.tsrc = u.tsrcOf ∧ u.kpr.corr = (if u.vstate = vVote3 ∧ u.tsrc < 3 then u.getI (F.KPR_x_OFS_OFS u.tsrc) else 0) ∧
    (u.tsrc < 3 → u.now = (((u.kp u.tsrc).mark * 65536 : Nat) + u.kpr.corr * 16).toNat) ∧
    t = ((s.voteChanged u grid).trimNote).epochSquash

/-- R46: at a vote a locked keeper's time has run its TCLK cycles, each of 2^65 and the applied word, and its mark is the last whole
microsecond of it (R49). -/
def voteRuns : Prop := ∀ (s : State) (m : Nat → Marker) (x : Nat), s.kpr.keepers.length = 3 → x < 3 → s.kLocked x = true →
  ((s.runMarkers m).kp x).time = (((s.kp x).time + (m x).cycles * (2 ^ 65 + s.freqWord x)) % ((2 ^ 48 * 1000000000 * 2 ^ 64 : Nat) : Int)).toNat ∧
  ((s.runMarkers m).kp x).mark = ((s.runMarkers m).kp x).time / 2 ^ 64 / 1000 * 1000

/-- R62: markers that straddle a step are not judged: the offsets stand. -/
def voteStraddles : Prop := ∀ (s : State) (m : Nat → Marker), s.kpr.started = true → s.lockedKeepers ≠ [] → 0 < s.kpr.skip →
  (s.kprVote m).kpr.skip = s.kpr.skip - 1 ∧ (s.kprVote m).regs = s.regs ∧ (s.kprVote m).evt = s.evt

/-- R63, R64: an OUT keeper whose loop is locked, and that may rejoin, loads its seed at the time source's marker, fraction 0,
and is SEEDING; one seeded from a reference has the offset found applied to it. -/
def keeperSeed : Prop := ∀ (s : State) (x : Fin 3) (ofs : Option Int) (src : SeedSrc), s.RegsOk → s.kpr.keepers.length = 3 →
  s.mstate x = msOut → s.kLocked x = true → (s.bit F.KPR_REJOIN_CFG_AUTO_REJOIN x = true ∨ (s.kp x).rejoin = true) →
  s.seedSource s.phaseValidSelected = some src →
  let mark := (match src with | .keeper y => (s.kp y).mark | _ => (s.kp s.tsrc).mark) * 2 ^ 64 % (2 ^ 48 * 1000000000 * 2 ^ 64)
  s.Does (.keeperSeed x ofs) fun t =>
    t.mstate x = msSeeding ∧ (t.kp x).seed = src ∧ (t.kp x).hold = 0 ∧
    (src ≠ .reference ∨ ofs = none → (t.kp x).time = mark ∧ (t.kp x).found = false) ∧
    (src = .reference → ∀ o, ofs = some o →
      (t.kp x).time = (((mark : Int) + o * 2 ^ 52) % ((2 ^ 48 * 1000000000 * 2 ^ 64 : Nat) : Int)).toNat ∧ (t.kp x).found = true) ∧
    s.RegsBut t [A.KPR_x_STAT x, A.KPR_STAT] ∧ t = { s with regs := t.regs, kpr := t.kpr }

/-- R66: a REMOVE that leaves two agreeing keepers takes its keeper out of the vote by command. -/
def keeperRemove : Prop := ∀ (s : State) (x : Fin 3) (grid : List (Fin 20 × GridPhase)), s.twoRemain x = true → s.isIn x = true →
  s.Does (.keeperRemove x grid) fun t => t = s.voteChanged ((s.leave x causeCommand).afterLeave) grid

/-- R63: the keeper that leaves is OUT with its cause, and one leave more is counted. -/
def keeperLeaves : Prop := ∀ (s : State) (x : Fin 3) (cause : Nat), s.RegsOk → s.Room Ev.KPR_LEAVE →
  (s.leave x cause).mstate x = msOut ∧ (s.leave x cause).get (F.KPR_x_STAT_CAUSE x) = cause % 16 ∧
  (s.leave x cause).get (F.KPR_x_STAT_LEAVES x) = min (s.get (F.KPR_x_STAT_LEAVES x) + 1) 255 ∧ s.RegsBut (s.leave x cause) [A.KPR_x_STAT x, A.KPR_STAT]

/-- R66: a REMOVE that would leave no two agreeing keepers is refused: KPR_CMD_REFUSED, and no keeper leaves. -/
def keeperRemoveRefused : Prop := ∀ (s : State) (x : Fin 3) (grid : List (Fin 20 × GridPhase)), s.twoRemain x = false →
  s.Room Ev.KPR_CMD_REFUSED →
  s.Does (.keeperRemove x grid) fun t => ∃ u : State, u = s.keeperRemove x ∧ s.Raised u Ev.KPR_CMD_REFUSED x x ∧ u = { s with evt := u.evt } ∧ t = s.voteChanged u grid

/-- R66: a REJOIN of an OUT keeper asks for a rejoin and resets its failure count. -/
def keeperRejoin : Prop := ∀ (s : State) (x : Fin 3), s.RegsOk → s.kpr.keepers.length = 3 → s.mstate x = msOut →
  s.Does (.keeperRejoinCmd x) fun t =>
    t.get (F.KPR_x_STAT_FAILS x) = 0 ∧ (t.kp x).rejoin = true ∧ s.RegsBut t [A.KPR_x_STAT x] ∧ t = { s with regs := t.regs, kpr := t.kpr }

/-- R11, R71: a TAKE waits for the time source's marker, and the previous snapshot reads VALID = 0. -/
def snapshotTake : Prop := ∀ s : State, s.RegsOk → s.kpr.snap = none →
  s.Does .snapshotTake fun t =>
    t.kpr = { s.kpr with snap := some (s.get F.KPR_STAT_MEMBER, s.vstate, s.tsrc != 3) } ∧ t.get F.KPR_SNAP_STAT_VALID = 0 ∧
    s.RegsBut t [A.KPR_SNAP_STAT] ∧ t = { s with regs := t.regs, kpr := t.kpr }

/-- R71: without a time source the snapshot's voted time reads all ones; it is posted. -/
def snapshotComplete : Prop := ∀ (s : State) (mem vs : Nat), s.RegsOk → s.kpr.snap = some (mem, vs, false) →
  s.Does .snapshotComplete fun t =>
    t.kpr.snap = none ∧ (∀ i < 3, t.reg (A.KPR_SNAP_VT i) = 0xFFFFFFFF) ∧ t.get F.KPR_SNAP_STAT_VALID = 1 ∧
    t = { s with regs := t.regs, kpr := t.kpr }

/-- R11, R71: the snapshot is latched at the time source's marker: voted time, each keeper's own time and offset, all ones for one
that is OUT, and is posted with the membership and the state. -/
def snapshotLatched : Prop := ∀ (s : State) (mem vs : Nat), s.RegsOk → s.kpr.snap = some (mem, vs, true) → s.tsrc < 3 →
  s.Does .snapshotComplete fun t =>
    t.kpr.snap = none ∧ t.wide (A.KPR_SNAP_VT 0) 3 = kt96Of s.votedAtMarker ∧
    (∀ x < 3, s.mstate x = msOut → t.wide (snapTimeAddr x) 3 = 2 ^ 96 - 1 ∧ t.get (F.KPR_SNAP_OFS_OFS x) = 2 ^ 32 - 1) ∧
    (∀ x < 3, s.mstate x ≠ msOut →
      t.wide (snapTimeAddr x) 3 = kt96Of ((((s.kp x).mark * 65536 : Nat) : Int) - (s.getI (F.KPR_x_OFS_OFS x) - s.getI (F.KPR_x_OFS_OFS s.tsrc)) * 16).toNat ∧
      t.getI (F.KPR_SNAP_OFS_OFS x) = s.getI (F.KPR_x_OFS_OFS x)) ∧
    t.get F.KPR_SNAP_STAT_VALID = 1 ∧ t.get F.KPR_SNAP_STAT_SEQ = (s.get F.KPR_SNAP_STAT_SEQ + 1) % 256 ∧
    t.get F.KPR_SNAP_STAT_MEMBER = s.get F.KPR_STAT_MEMBER ∧ t.get F.KPR_SNAP_STAT_VSTATE = s.vstate ∧
    t = { s with regs := t.regs, kpr := t.kpr }

/-- R68: an arm of a midnight far enough ahead waits for the tick; another is refused and changes nothing. -/
def leapArm : Prop := ∀ (s : State) (m : Nat) (del : Bool), m % 86400 = 0 → s.utcCount + 2 < m →
  exec (.leapArm (some (m, del)) false) s = .next { s with kpr := { s.kpr with leapNext := some (.arm m del) } }

def leapArmRefused : Prop := ∀ (s : State) (m : Nat) (del both : Bool), s.Room Ev.KPR_LEAP_REFUSED →
  (m % 86400 ≠ 0 ∨ (m : Int) ≤ s.utcCount + 2 ∨ both = true) →
  s.Does (.leapArm (some (m, del)) both) fun t => t = { s with evt := t.evt } ∧
    s.Raised t Ev.KPR_LEAP_REFUSED 0xFF (if both then 4 else (if m % 86400 = 0 then 0 else 1) + (if (m : Int) ≤ s.utcCount + 2 then 2 else 0))

/-- R68: CANCEL and the tick: a cancel clears the pending leap at the next tick boundary. -/
def leapCancel : Prop := ∀ s : State, s.RegsOk →
  s.Does .leapCancel fun t => t = { s with kpr := { s.kpr with leapNext := some .cancel } } ∧ t.leapTick.flag F.KPR_UTC_STAT_PENDING = false

/-- R69: at the leap's TAI second the offset moves by one: down on a deletion, up on an insertion; nothing is pending after. -/
def leapApply : Prop := ∀ s : State, s.RegsOk → s.Room Ev.KPR_LEAP_APPLIED → s.flag F.KPR_UTC_STAT_PENDING = true → s.hasVoted = true →
  s.leapSecond ≤ (s.now / lsbPerSec : Nat) → -32768 < s.utcOffset → s.utcOffset < 32767 →
  s.Does .leapApply fun t =>
    t.utcOffset = (if s.flag F.KPR_UTC_STAT_DIR then s.utcOffset - 1 else s.utcOffset + 1) ∧ t.flag F.KPR_UTC_STAT_PENDING = false ∧
    s.RegsBut t [A.KPR_UTC_STAT] ∧ t = { s with regs := t.regs, evt := t.evt }

/-- R70: LEAP_DAY stands from 86,400 s before the leap's end while it is pending, LEAP_HALF from 43,200 s. -/
def leapWindow : Prop := ∀ s : State, s.RegsOk →
  s.Does .leapWindowOpen fun t =>
    t.flag F.KPR_UTC_STAT_LEAP_DAY = (s.flag F.KPR_UTC_STAT_PENDING && decide ((s.kpr.leapM : Int) - 86400 ≤ s.utcCount)) ∧
    t.flag F.KPR_UTC_STAT_LEAP_HALF = (s.flag F.KPR_UTC_STAT_PENDING && decide ((s.kpr.leapM : Int) - 43200 ≤ s.utcCount)) ∧
    s.RegsBut t [A.KPR_UTC_STAT] ∧ t = { s with regs := t.regs }


/-! ### The Bound unit -/

/-- R18, R83, R84: a request is answered with the larger bound of its instants plus the port's ASYM of the last vote, as BND48 words, EB8 with the flags, and
the epoch; nothing else changes. -/
def boundRequest : Prop := ∀ (s : State) (p : Fin 20) (t3 : Nat) (t2 : Option Nat),
  s.Does (.boundRequest p t3 t2) fun t => t = { s with reply := t.reply } ∧
    ∃ b : Nat, b = bndAdd (match t2 with | some u => max (s.boundAt t3) (s.boundAt u) | none => s.boundAt t3) (nth s.bnd.atVote.asym p) ∧
      t.reply = .words [BitVec.ofNat 32 b, BitVec.ofNat 32 (b / 2 ^ 32), BitVec.ofNat 32 (eb8Of b + 256 * s.boundFlags b), s.reg A.BND_EPOCH]

/-- R36, R83, R84: an instant from the last vote on is answered with the largest core bound of the keepers in that vote; an earlier one
with the peak of its tick while that tick is among the last 128; an older one is unbounded. -/
def boundInstant : Prop := ∀ (s : State) (t : Nat),
  (s.kpr.voteNow ≤ t → s.bnd.atVote.disagree = false → s.bnd.atVote.voters ≠ [] →
    (∀ x ∈ s.bnd.atVote.voters, (s.voted x).core t ≤ s.boundAt t) ∧ ∃ x ∈ s.bnd.atVote.voters, s.boundAt t = (s.voted x).core t) ∧
  (t < s.kpr.voteNow → tickOf s.now ≤ tickOf t + 128 → ∀ p, s.bnd.peaks.find? (fun q => q.1 == tickOf t) = some p → s.boundAt t = p.2) ∧
  (t < s.kpr.voteNow → tickOf t + 128 < tickOf s.now → s.boundAt t = 2 ^ 48 - 1)

/-- R18, R75, R79: a keeper's core bound is the sum of its terms, with QUANT of 4/16 ps, saturating at unbounded. -/
def boundSum : Prop := ∀ (k : BoundTerms) (t : Nat), k.unb = false →
  k.core t = min (k.ref + k.hold t + k.hw + k.ofs + 4 + k.inj + k.margin) (2 ^ 48 - 1)

/-- R36, R84: where no keeper voted, or two disagreed, every present request is answered unbounded: EB8 0xFF. -/
def boundNoVote : Prop := ∀ (s : State) (p : Fin 20) (t3 : Nat), (s.bnd.atVote.voters = [] ∨ s.bnd.atVote.disagree = true) → s.kpr.voteNow ≤ t3 →
  s.boundReq p t3 none = bndUnbounded ∧ eb8Of (s.boundReq p t3 none) = 0xFF

/-- R11, R98: a GO runs on the registers as they stand and posts its result: the bound, EB8, VALID and the next SEQ; with PORT 20
to 30 it is ignored whole. -/
def bndQuery : Prop := ∀ (s : State) (p : Nat), s.RegsOk → (p % 32 < 20 ∨ p % 32 = 31) →
  s.Does (.bndQueryGo p) fun t =>
    t.wide A.BND_QRES_B 2 = s.boundReq (p % 32) (s.getKt (A.BND_QUERY_T 0)) none ∧
    t.get F.BND_QRES_EB8 = eb8Of (s.boundReq (p % 32) (s.getKt (A.BND_QUERY_T 0)) none) ∧
    t.get F.BND_QRES_VALID = 1 ∧ t.get F.BND_QRES_SEQ = (s.get F.BND_QRES_SEQ + 1) % 256 ∧
    t.get F.BND_QUERY_CMD_PORT = p % 32 ∧ s.RegsBut t [A.BND_QUERY_CMD, A.BND_QRES_B, A.BND_QRES_B + 4, A.BND_QRES] ∧
    t = { s with regs := t.regs }

def bndQueryIgnored : Prop := ∀ (s : State) (p : Nat), 20 ≤ p % 32 → p % 32 ≤ 30 → exec (.bndQueryGo p) s = .next s

/-- R81: a write that would lower an ASYM budget is refused with BND_ASYM_REFUSED; another is staged. No write lowers it. -/
def asymWrite : Prop := ∀ (s : State) (path : Path) (k : Fin 20) (high : Bool) (v : Word),
  s.lastWide (A.BND_PORTk_ASYM k) 2 % 2 ^ 48 ≤ s.asymWith k high v →
  s.Does (.asymWrite path k high v) fun t =>
    t = { s with staged := s.staged ++ [⟨path, A.BND_PORTk_ASYM k + (if high then 4 else 0), if high then 0xFFFF else 0xFFFFFFFF, v, s.now⟩] }

def asymRefused : Prop := ∀ (s : State) (path : Path) (k : Fin 20) (high : Bool) (v : Word), s.Room Ev.BND_ASYM_REFUSED →
  s.asymWith k high v < s.lastWide (A.BND_PORTk_ASYM k) 2 % 2 ^ 48 →
  s.Does (.asymWrite path k high v) fun t => t = { s with evt := t.evt } ∧ s.Raised t Ev.BND_ASYM_REFUSED k (s.asymWith k high v % 2 ^ 32)

/-- R82: BND_SAMPLE_TIMEOUT ticks without a phase-valid sample move a keeper's bound from TRACK to COAST. -/
def sampleTimeout : Prop := ∀ (s : State) (x : Fin 3), s.RegsOk → s.bstate x = bsTrack →
  nth s.bnd.ts x + s.get F.BND_SAMPLE_TIMEOUT_TICKS * lsbPerTick ≤ s.now →
  s.Does (.sampleTimeout x) fun t => t.bstate x = bsCoast ∧ s.RegsBut t [(bndStateFld x).addr] ∧ t = { s with regs := t.regs }

/-- R12, R94: a pop of the traceability queue answers its word and removes the head record. -/
def tracePop : Prop := ∀ (s : State) (r : List Byte) (rest : List (List Byte)), s.bnd.queue = r :: rest →
  s.Does .bndTracePop fun t =>
    t.bnd = { s.bnd with queue := rest, discSeen := false } ∧
    t.reply = .words [BitVec.ofNat 32 (2 * (rest.length + 1) + 256 * leNat ((r.drop 8).take 3))] ∧ t = { s with bnd := t.bnd, reply := t.reply }

/-- R20: a bound encodes to the smallest code whose value is not below it, less than an eighth above it from 1 ps on; above
3,758,096,384 ps, and unbounded, it encodes as 0xFF, below 1 ps as 0x00. A unit of a bound is 1/16 ps. -/
def eb8Encoder : Prop := ∀ u : Nat,
  (u ≤ 3758096384 * 16 → u ≤ eb8Value (eb8Of u) ∧ eb8Of u ≤ 0xFE ∧ ∀ c < eb8Of u, eb8Value c < u) ∧
  (16 ≤ u → u ≤ 3758096384 * 16 → 8 * eb8Value (eb8Of u) < 9 * u) ∧ (u < 16 → eb8Of u = 0x00) ∧
  (3758096384 * 16 < u → eb8Of u = 0xFF) ∧ eb8Of bndUnbounded = 0xFF

/-- R19: every code below 0xFF that stands for a value is issued for that value. -/
def eb8RoundTrip : Prop := ∀ c : Nat, c ≤ 254 → eb8Of (eb8Value c) = c

/-- R85: the epoch advances by one modulo 2^32, and BND_RAISE carries its low bits and the cause. -/
def epochRaise : Prop := ∀ (s : State) (cause : Nat), s.RegsOk → s.Room Ev.BND_RAISE → cause < 16 →
  (s.epochRaise cause).get F.BND_EPOCH_EPOCH = (s.get F.BND_EPOCH_EPOCH + 1) % 2 ^ 32 ∧
  s.Raised (s.epochRaise cause) Ev.BND_RAISE 0xFF ((s.get F.BND_EPOCH_EPOCH + 1) % 2 ^ 32 % 256 + 256 * cause)

/-- R83, R86: at a vote every cause noted since the last advances the epoch, and none is left. -/
def epochAtVote : Prop := ∀ s : State, s.RegsOk →
  s.epochVote.get F.BND_EPOCH_EPOCH = (s.get F.BND_EPOCH_EPOCH + s.bnd.causes.length) % 2 ^ 32 ∧ s.epochVote.bnd.causes = []

/-- R19: code 8e + m stands for (8 + m) 2^e / 8 ps, in units of 1/16 ps; the largest finite code and the smallest. -/
def eb8Codes : Prop := (∀ e m : Nat, e < 32 → m < 8 → eb8Value (8 * e + m) = 2 * (8 + m) * 2 ^ e) ∧
  eb8Value 0xFE = 3758096384 * 16 ∧ eb8Value 0x00 = 16 ∧ eb8Of bndUnbounded = 0xFF


/-! ### Reference selection -/

/-- A slot that fails is HELD where it is selected and QUALIFIED, else it goes back to MONITOR (R114). -/
abbrev fallsTo (s : State) (n : Nat) : Nat := if s.slotState n = rsQualified ∧ s.selected = some n then rsHeld else rsMonitor

/-- A slot whose failure a tick can judge: enabled, and QUALIFYING, WTR or QUALIFIED, at a tick boundary. -/
abbrev Judged (s : State) (n : Nat) : Prop := s.RegsOk ∧ s.atTick = true ∧ s.flag (F.REF_SLOTn_CFG_ENABLE n) = true ∧
  (s.slotState n = rsQualifying ∨ s.slotState n = rsWtr ∨ s.slotState n = rsQualified)

/-- What a failure leaves (R114, R115): the slot's new state and its cause. -/
abbrev Failed (s t : State) (n cause : Nat) : Prop :=
  t.slotState n = fallsTo s n ∧ t.get (F.REF_SLOTn_STAT_CAUSE n) = cause ∧ t.flag (F.REF_SLOTn_STAT_PHASE_VALID n) = false ∧
  t = { s with regs := t.regs, ref := t.ref, evt := t.evt }

/-- R104, R105, R111: a good frame in time waits for the next edge of the slot that names its line, is counted in OK, and gives the
slot the QL it carries. -/
def todFrame : Prop := ∀ (s : State) (line : Fin 4) (l : List Byte) (e : Nat) (n : Nat), s.RegsOk → n < 16 → s.ref.slots.length = 16 →
  todIsFrame l = true → todFormatOk l = true → s.flag (F.REF_TOD_CFG_ENABLE line) = true → s.todSlots line = [n] → s.todTimely n e = true →
  s.Does (.todFrame line l e) fun t =>
    (t.sl n).tod = some ⟨beAt l 4 6, todBound l, beAt l 16 4, e⟩ ∧ (t.sl n).todClaim = some (todBound l, e) ∧
    t.get (F.REF_TOD_STAT_OK line) = (s.get (F.REF_TOD_STAT_OK line) + 1) % wid (F.REF_TOD_STAT_OK line) ∧ t.slotQl n = min (beAt l 13 1) 15 ∧
    t = { s with regs := t.regs, ref := t.ref, evt := t.evt }

/-- R105: a frame with a wrong CRC, TYPE or LEN on an enabled line is counted in CRC and leaves no frame behind. -/
def todBad : Prop := ∀ (s : State) (line : Fin 4) (l : List Byte) (e : Nat), s.RegsOk → todIsFrame l = true → todFormatOk l = false →
  s.flag (F.REF_TOD_CFG_ENABLE line) = true → s.todSlots line = [] →
  s.Does (.todFrame line l e) fun t =>
    t.get (F.REF_TOD_STAT_CRC line) = min (s.get (F.REF_TOD_STAT_CRC line) + 1)
      (2 ^ ((F.REF_TOD_STAT_CRC line).hi + 1 - (F.REF_TOD_STAT_CRC line).lo) - 1) ∧ t = { s with regs := t.regs }

/-- R102, R103, R267: an exchange joins those of the tick, with the offset and mean path delay of its four stamps and corrections; one
whose two local stamps carry different STEP counts is discarded. -/
def packetExchange : Prop := ∀ (s : State) (i : Fin 4) (e : Exchange) (n : Nat), e.step2 = e.step3 → n < 16 → s.ref.slots.length = 16 → s.slotsOf 3 i = [n] →
  s.Does (.packetExchange i e) fun t =>
    (t.sl n).exch = (s.sl n).exch ++ [⟨((e.t2 - e.t1 - e.corrSync) - (e.t4 - e.t3 - e.corrDelay)) / 32,
      ((e.t2 - e.t1 - e.corrSync) + (e.t4 - e.t3 - e.corrDelay)) / 2, s.exchClaim i e, e.traceSeq, e.at_⟩] ∧
    (t.sl n).gm = e.grandmaster ∧ (t.sl n).portId = e.sourcePort ∧ t = { s with regs := t.regs, ref := t.ref, evt := t.evt }

def exchangeDiscarded : Prop := ∀ (s : State) (i : Fin 4) (e : Exchange), e.step2 ≠ e.step3 → exec (.packetExchange i e) s = .next s

/-- R111, R113: an Announce gives its slot the clockClass, the QL of it and the interval, and restarts its timeout. -/
def packetAnnounce : Prop := ∀ (s : State) (i : Fin 4) (cls : Fin 256) (log : Int) (u : Nat) (n : Nat), s.RegsOk → n < 16 → s.ref.slots.length = 16 →
  s.slotsOf 3 i = [n] →
  s.Does (.packetAnnounceRx i cls log u) fun t =>
    (t.sl n).annSeen = true ∧ (t.sl n).lastAnn = u ∧ (t.sl n).annClass = cls ∧ (t.sl n).annLog = log ∧
    t.slotQl n = s.ptpQl cls ∧ t = { s with regs := t.regs, ref := t.ref, evt := t.evt }

/-- R111: an ESMC PDU restarts its slot's timeout and gives it the QL of its code. -/
def esmcPdu : Prop := ∀ (s : State) (dp ssm : Fin 16) (ext : Option (Fin 256)) (u : Nat) (n : Nat), s.RegsOk → n < 16 → s.ref.slots.length = 16 →
  s.slotsOf 6 dp = [n] →
  s.Does (.esmcPdu dp ssm ext u) fun t =>
    (t.sl n).esmcSeen = true ∧ (t.sl n).lastEsmc = u ∧ t.slotQl n = min (esmcQl ssm ext) 15 ∧ t = { s with regs := t.regs, ref := t.ref, evt := t.evt }

/-- R111, R113: at a tick, 5 s without an ESMC PDU make the slot's QL 15, and the slot fails with cause LOS. -/
def esmcTimeout : Prop := ∀ (s : State) (n : Fin 16), Judged s n → s.slotType n = 6 → s.esmcActive n = false →
  s.Does (.esmcTimeout n) fun t => t.slotQl n = 15 ∧ Failed s t n 1

/-- R105, R113, R114: at a tick a slot whose last ToD frame is too old, with no other cause standing, fails with cause TOD, and
TOD_ERR of its history is set where the cause has come to stand. -/
def todStale : Prop := ∀ (s : State) (n : Fin 16), Judged s n → s.slotType n = 1 → s.slotCause n = 4 →
  s.Does (.todStale n) fun t => Failed s t n 4 ∧ ((s.sl n).todWas = false → t.bit (F.REF_SLOTn_HIST_HIST n) 7 = true)

/-- R113, R114: at a tick a PPS slot 1.1 s after its last edge fails with cause LOS; so does a packet slot LOS ticks after its last
exchange, and ANN_TIMEOUT intervals after its last Announce. -/
def ppsEdgeTimeout : Prop := ∀ (s : State) (n : Fin 16), Judged s n → s.pinKind n = 1 → (s.sl n).lastEdge + lsbPerSec / 10 * 11 ≤ s.now →
  s.Does (.ppsEdgeTimeout n) fun t => Failed s t n 1
def packetLos : Prop := ∀ (s : State) (n : Fin 16), Judged s n → s.slotType n = 3 →
  (s.sl n).lastEdge + s.get (F.REF_SLOTn_LOS_LOS n) * lsbPerTick ≤ s.now →
  s.Does (.packetLos n) fun t => Failed s t n 1
def announceTimeout : Prop := ∀ (s : State) (n : Fin 16), Judged s n → s.slotType n = 3 →
  (s.sl n).lastAnn + annSpan (s.get (F.REF_SLOTn_LOS_ANN_TIMEOUT n)) (s.sl n).annLog ≤ s.now →
  s.Does (.announceTimeout n) fun t => Failed s t n 1

/-- R113, R114: a slot with a standing cause other than DISABLED, judged at a tick, falls and shows it. -/
def slotFalls : Prop := ∀ (s : State) (n : Fin 16), Judged s n → s.slotCause n ≠ 0 → Failed s (s.slotCheck n) n (s.slotCause n)

/-- R109, R114: at a tick, criteria that have held for QUAL_TIME qualify a slot, or start its wait to restore where it qualified
before; a phase slot outside the capture window becomes PHASE_SUSPECT. -/
def qualificationComplete : Prop := ∀ (s : State) (n : Fin 16), s.RegsOk → s.atTick = true → s.ref.slots.length = 16 → s.slotState n = rsQualifying → s.slotCause n = 0 →
  (s.sl n).qualStart + s.get (F.REF_SLOTn_TIME_QUAL_TIME n) * lsbPerSec ≤ s.now →
  s.Does (.qualificationComplete n) fun t =>
    t.slotState n = (if (s.sl n).qualified then rsWtr else rsQualified) ∧ ((s.sl n).qualified = false → (t.sl n).qualified = true) ∧
    (s.givesPhase n = true → s.get F.DSC_CAPTURE_WINDOW * 4096 < (s.slotOfs n).natAbs → t.suspect n = true) ∧
    t = { s with regs := t.regs, ref := t.ref, evt := t.evt }

/-- R114: at a tick WTR seconds later the slot qualifies again. -/
def wtrComplete : Prop := ∀ (s : State) (n : Fin 16), s.RegsOk → s.atTick = true → s.slotState n = rsWtr →
  (s.sl n).wtrStart + s.get (F.REF_SLOTn_TIME_WTR n) * lsbPerSec ≤ s.now →
  s.Does (.wtrComplete n) fun t => t.slotState n = rsQualified ∧ t = { s with regs := t.regs, ref := t.ref, evt := t.evt }

/-- R117: at a tick a slot whose pairs have been clear for its WTR seconds is no longer demoted nor in mutual dispute. -/
def disputeClear : Prop := ∀ (s : State) (n : Fin 16), s.RegsOk → s.atTick = true → (s.sl n).clearSince < s.now → (s.demoted n = true ∨ s.mutual n = true) →
  (s.sl n).clearSince + s.get (F.REF_SLOTn_TIME_WTR n) * lsbPerSec ≤ s.now →
  s.Does (.disputeClear n) fun t => t.demoted n = false ∧ t.mutual n = false ∧
    t = { s with regs := t.regs, ref := t.ref, evt := t.evt, bnd := t.bnd }

/-- R11, R119, R144: a pending switch that is due commits: nothing is pending, the target is selected, the result is posted, and DSC
acquires the target. -/
def switchCommit : Prop := ∀ (s : State) (p : Switch), s.RegsOk → s.commitDue = some p → p.target < 16 →
  s.Does .switchCommit fun t => t.ref.pend = none ∧ t.selected = some p.target ∧ t.flag F.REF_STAT_PENDING = false ∧
    t.get F.REF_SW_RES_VALID = 1 ∧ t.get F.REF_SW_RES_RESULT = 1 ∧ t.get F.REF_SW_RES_SEQ = (s.get F.REF_SW_RES_SEQ + 1) % 256 ∧
    t.dstate = dsAcquire ∧ t.dsc.acqTick = s.curTick ∧ t.dsc.lockCount = 0 ∧
    t = { s with regs := t.regs, ref := t.ref, evt := t.evt, dsc := t.dsc }

/-- R119: a switch is due 96 ticks after it began, at a tick, where nothing abandons or cancels it. -/
def switchDue : Prop := ∀ (s : State) (p : Switch), s.ref.pend = some p → s.atTick = true → p.start + 96 ≤ s.curTick → s.abandonCause p.target = 0 →
  s.cancels p = false → s.commitDue = some p

/-- R123: each command of REF_CMD waits for the tick, in order, and changes nothing else. -/
def refCommands : Prop := ∀ (s : State) (n : Fin 16),
  let q (op m : Nat) : State := { s with ref := { s.ref with cmds := s.ref.cmds ++ [(op, m)] } }
  exec (.refForce n) s = .next (q 1 n) ∧ exec (.refLockout n) s = .next (q 2 n) ∧ exec (.refUnlock n) s = .next (q 3 n) ∧
  exec .refClearForce s = .next (q 4 0) ∧ exec .refForceHoldover s = .next (q 5 0) ∧ exec .refClearHoldover s = .next (q 6 0)

/-- R123: an OP of 7 or more is refused with REF_CMD_REFUSED, and nothing waits. -/
def refInvalid : Prop := ∀ (s : State) (op n : Fin 16), 7 ≤ op.val → s.Room Ev.REF_CMD_REFUSED →
  s.Does (.refCmdInvalidOp op n) fun t => t = { s with evt := t.evt } ∧ s.Raised t Ev.REF_CMD_REFUSED 0xFF (op + 256 * n)

/-- R123: at the tick FORCE takes a qualified slot and refuses another; LOCKOUT and UNLOCK set and clear the slot's mark. -/
def refJudged : Prop := ∀ (s : State) (n : Fin 16), s.RegsOk →
  (s.slotState n = rsQualified → (s.refJudge 1 n).flag F.REF_STAT_FORCED = true ∧ (s.refJudge 1 n).get F.REF_STAT_FORCED_SLOT = n) ∧
  (s.slotState n ≠ rsQualified → s.Room Ev.REF_CMD_REFUSED →
    s.Raised (s.refJudge 1 n) Ev.REF_CMD_REFUSED 0xFF (1 + 256 * n) ∧ (s.refJudge 1 n).regs = s.regs) ∧
  (s.refJudge 2 n).lockout n = true ∧ (s.refJudge 3 n).lockout n = false ∧ (s.refJudge 4 n).flag F.REF_STAT_FORCED = false ∧
  (s.refJudge 5 n).flag F.REF_STAT_HOLDOVER_FORCED = true ∧ (s.refJudge 6 n).flag F.REF_STAT_HOLDOVER_FORCED = false


/-! ### Discipline and holdover -/

/-- R130: at a 64-tick boundary the next word is sent to a WORD oscillator that waits for nothing: within the word's range and at
most STEP_MAX codes a tick from the one in force. -/
def oscWordWrite : Prop := ∀ (s : State) (o : Fin 3), s.dsc.oscs.length = 3 → s.oscMode o = 2 → s.tracking = true → s.atTick = true →
  s.curTick % 64 = 0 → (s.osc o).wordTick ≠ some s.curTick → (s.osc o).wordSent = none → s.bit F.DSC_STAT_WORD_FAIL o = false →
  s.Does (.oscWordWrite o) fun t => (t.osc o).wordSent.isSome = true ∧ (t.osc o).wordTick = some s.curTick ∧ t = { s with dsc := t.dsc } ∧
    (∀ v, (t.osc o).wordSent = some v → -(2 ^ s.get (F.DSC_OSCx_WORD_CFG_WIDTH o) : Nat) ≤ v ∧ v < (2 ^ s.get (F.DSC_OSCx_WORD_CFG_WIDTH o) : Nat) ∧
      (-(2 ^ s.get (F.DSC_OSCx_WORD_CFG_WIDTH o) : Nat) ≤ s.getI (F.DSC_OSCx_WORD_WORD o) →
        s.getI (F.DSC_OSCx_WORD_WORD o) < (2 ^ s.get (F.DSC_OSCx_WORD_CFG_WIDTH o) : Nat) →
        (v - s.getI (F.DSC_OSCx_WORD_WORD o)).natAbs ≤ 64 * s.get (F.DSC_OSCx_STEER_STEP_MAX o))) ∧
    ∀ p : Fin 3, p ≠ o → t.osc p = s.osc p

/-- R130: no second word goes at the same 64-tick boundary. -/
def oscWordOnce : Prop := ∀ (s : State) (o : Fin 3), (s.osc o).wordTick = some s.curTick → exec (.oscWordWrite o) s = .next s

/-- R130, R131: an acknowledged word is in force, and W_o loses what the change of code brings; the fourth failure in a row sets
WORD_FAIL. -/
def oscWordResult : Prop := ∀ (s : State) (o : Fin 3) (w : Int), s.RegsOk → s.dsc.oscs.length = 3 → (s.osc o).wordSent = some w →
  -(2 ^ 31 : Nat) ≤ w → w < (2 ^ 31 : Nat) →
  s.Does (.oscWordResult o true) fun t =>
    (t.osc o).wordSent = none ∧ (t.osc o).wordFails = 0 ∧ t.getI (F.DSC_OSCx_WORD_WORD o) = w ∧
    (t.osc o).w = (s.osc o).w - s.kv o * (w - s.getI (F.DSC_OSCx_WORD_WORD o) : Int) * 2 ^ 65 ∧
    s.RegsBut t [A.DSC_OSCx_WORD o] ∧ t = { s with dsc := t.dsc, regs := t.regs }
def oscWordFails : Prop := ∀ (s : State) (o : Fin 3) (w : Int), s.RegsOk → s.dsc.oscs.length = 3 → (s.osc o).wordSent = some w →
  s.Does (.oscWordResult o false) fun t =>
    (t.osc o).wordSent = none ∧ (t.osc o).wordFails = (s.osc o).wordFails + 1 ∧
    (3 ≤ (s.osc o).wordFails → t.bit F.DSC_STAT_WORD_FAIL o = true) ∧ ((s.osc o).wordFails < 3 → t = { s with dsc := t.dsc })

/-- R143: at a 64-tick boundary a read of an enabled sensor starts. -/
def tempSensorRead : Prop := ∀ (s : State) (o : Fin 3), s.dsc.oscs.length = 3 → s.flag (F.DSC_OSCx_CFG_TEMP_EN o) = true → s.atTick = true →
  s.curTick % 64 = 0 → (s.osc o).tempTick ≠ some s.curTick →
  s.Does (.tempSensorRead o) fun t => (t.osc o).tempRead = true ∧ (t.osc o).tempTick = some s.curTick ∧ t = { s with dsc := t.dsc }

/-- R143: T follows a valid reading; a reading that did not come three times in a row fails the sensor. -/
def tempReading : Prop := ∀ (s : State) (o : Fin 3) (v : BitVec 16), s.RegsOk → s.dsc.oscs.length = 3 → (s.osc o).tempRead = true →
  s.injOn 0x40 o = false → s.flag (F.DSC_OSCx_TEMP_VALID o) = false → s.bit F.DSC_STAT_TEMP_FAIL o = false →
  -64 * 256 ≤ v.toInt → v.toInt ≤ 127 * 256 →
  s.Does (.tempReadResult o (some v)) fun t =>
    t.getI (F.DSC_OSCx_TEMP_T o) = v.toInt ∧ t.flag (F.DSC_OSCx_TEMP_VALID o) = true ∧ (t.osc o).tempNaks = 0 ∧ (t.osc o).tempRead = false ∧
    s.RegsBut t [(F.DSC_OSCx_TEMP_T o).addr]
def tempNak : Prop := ∀ (s : State) (o : Fin 3), s.RegsOk → s.dsc.oscs.length = 3 → (s.osc o).tempRead = true → s.injOn 0x40 o = false →
  s.Does (.tempReadResult o none) fun t =>
    (t.osc o).tempNaks = (s.osc o).tempNaks + 1 ∧ (2 ≤ (s.osc o).tempNaks → t.bit F.DSC_STAT_TEMP_FAIL o = true) ∧
    t.getI (F.DSC_OSCx_TEMP_T o) = s.getI (F.DSC_OSCx_TEMP_T o)

/-- R136: at a 64-tick boundary each keeper's mean trim leaves its trim register and joins the keeper's part of its steering word,
once; the sums start again. -/
def trimTransfer : Prop := ∀ s : State, s.RegsOk → s.kpr.keepers.length = 3 → s.dsc.moved.length = 3 → s.atTick = true → s.curTick % 64 = 0 →
  s.dsc.trimTick ≠ some s.curTick → s.dsc.trimN ≠ 0 →
  s.Does .trimTransfer fun t => t.dsc.trimN = 0 ∧ t.dsc.trimSum = [0, 0, 0] ∧ t.dsc.trimTick = some s.curTick ∧
    (∀ x < 3, t.trim x = satTrim (s.trim x - roundRat (((s.dsc.trimSum[x]?).getD 0 : Int) / (s.dsc.trimN : Rat))) ∧
      (t.dsc.moved[x]?).getD 0 = (s.dsc.moved[x]?).getD 0 + roundRat (((s.dsc.trimSum[x]?).getD 0 : Int) / (s.dsc.trimN : Rat))) ∧
    t = { s with dsc := t.dsc, kpr := t.kpr, regs := t.regs, evt := t.evt }

/-- R144, R157: at a tick frequency lock ends ACQUIRE in TRACK_PHASE, pulling in, on a phase-valid slot, else in TRACK_FREQ. -/
def freqLock : Prop := ∀ (s : State) (n : Nat), s.RegsOk → s.atTick = true → s.followed = some n → n < 16 → s.dstate = dsAcquire → s.lockHeld = true → s.Room Ev.DSC_FLOCK →
  s.Does .dscFreqLock fun t =>
    t.dstate = (if s.phaseValid n then dsTrackPhase else dsTrackFreq) ∧ (s.phaseValid n = true → t.flag F.DSC_STAT_PULLING = true) ∧
    (s.phaseValid n = true → t.dsc.pullStart = s.now) ∧
    Told s t Ev.DSC_FLOCK 0xFF (detSat 16 (s.curTick - s.dsc.acqTick)) ∧ t = { s with regs := t.regs, dsc := t.dsc, evt := t.evt }

/-- R144, R157: at a tick phase lock ends the pull-in, reported with its length in ms. -/
def phaseLock : Prop := ∀ s : State, s.RegsOk → s.atTick = true → s.dstate = dsTrackPhase → s.flag F.DSC_STAT_PULLING = true → s.lockHeld = true → s.Room Ev.DSC_PLOCK →
  s.Does .dscPhaseLock fun t =>
    t.flag F.DSC_STAT_PULLING = false ∧ s.Raised t Ev.DSC_PLOCK 0xFF (detSat 32 ((s.now - s.dsc.pullStart) / (lsbPerSec / 1000))) ∧ t.dstate = dsTrackPhase ∧ t.dsc.lockCount = 0 ∧ s.RegsBut t [A.DSC_STAT] ∧
    t = { s with regs := t.regs, dsc := t.dsc, evt := t.evt }

/-- R140: a commit that nothing refuses takes effect at the next tick; a refused one changes nothing but its event. -/
def modelCommit : Prop := ∀ (s : State) (o : Fin 3), s.dsc.oscs.length = 3 → s.commitCause o (s.stagedModel o) = 0 → s.Room Ev.DSC_MODEL_COMMIT →
  s.Does (.modelCommit o) fun t =>
    (t.osc o).commitNext = some (s.stagedModel o) ∧ (t.osc o).lastCommit = some s.curTick ∧
    s.Raised t Ev.DSC_MODEL_COMMIT o (s.stagedModel o).span ∧ t = { s with dsc := t.dsc, evt := t.evt } ∧
    ∀ p : Fin 3, p ≠ o → t.osc p = s.osc p
def modelRefused : Prop := ∀ (s : State) (o : Fin 3), s.commitCause o (s.stagedModel o) ≠ 0 → s.Room Ev.DSC_MODEL_REFUSED →
  s.Does (.modelCommit o) fun t =>
    t = { s with evt := t.evt } ∧ s.Raised t Ev.DSC_MODEL_REFUSED o (s.commitCause o (s.stagedModel o))

/-- R139, R140: no model is committed while W_o follows the model. -/
def modelNotInHoldover : Prop := ∀ (s : State) (o : Fin 3), s.onModel = true → s.commitCause o (s.stagedModel o) = 1

/-- R148, R149: the witness model is committed while tracking without dispute, not within 1,024 ticks of the last. -/
def witnessCommit : Prop := ∀ s : State, s.RegsOk → (s.dstate = dsTrackPhase ∨ s.dstate = dsTrackFreq) → s.followDisputed = false →
  (∀ u, s.dsc.witTick = some u → u + 1024 ≤ s.curTick) →
  s.Does .witnessCommit fun t =>
    t.flag F.DSC_WIT_STAT_VALID = true ∧ t.flag F.DSC_WIT_STAT_STALE = false ∧ t.dsc.witAt = s.now ∧ t.dsc.witTick = some s.curTick ∧
    t = { s with regs := t.regs, dsc := t.dsc }

/-- R149: STALE hours without a commit set STALE. -/
def witnessStale : Prop := ∀ s : State, s.RegsOk → s.Room Ev.DSC_WIT_STALE → s.flag F.DSC_WIT_STAT_STALE = false →
  s.dsc.witAt + s.get F.DSC_WIT_CFG_STALE * 3600 * lsbPerSec ≤ s.now →
  s.Does .witnessStale fun t => t.flag F.DSC_WIT_STAT_STALE = true ∧ s.RegsBut t [A.DSC_WIT_STAT] ∧ s.Raised t Ev.DSC_WIT_STALE 0xFF 0

/-- R150: a realign that nothing refuses waits for its instant, and the previous result reads VALID = 0. -/
def realignCommand : Prop := ∀ (s : State) (path : Path) (v : Word) (ofs at_ u : Nat), s.RegsOk → s.realignCause path = 0 →
  s.Does (.realignCommand path v (some (ofs, at_, u))) fun t =>
    t.dsc.realign = some ⟨v.toNat / 16 % 2 == 1, v.toNat % 16, stepOf ofs, u % 2 ^ 48, timeOf at_, false⟩ ∧
    t.flag F.DSC_STAT_RA_PENDING = true ∧ t.get F.DSC_RA_RES_VALID = 0 ∧ t = { s with dsc := t.dsc, regs := t.regs }

/-- R150, R151: from the SPI port, and from the cores without REALIGN_FW, a realign is refused with cause 5. -/
def realignRefused : Prop := ∀ (s : State) (path : Path) (v : Word), s.RegsOk → s.Room Ev.DSC_REALIGN_REFUSED →
  (path = .spi ∨ (path = .mgt ∧ s.flag F.DSC_CFG_REALIGN_FW = false)) →
  s.Does (.realignCommand path v none) fun t =>
    t.dsc = s.dsc ∧ t.get F.DSC_RA_RES_VALID = 1 ∧ t.get F.DSC_RA_RES_RESULT = 2 ∧ t.get F.DSC_RA_RES_CAUSE = 5 ∧
    s.Raised t Ev.DSC_REALIGN_REFUSED 0xFF 5 ∧ s.RegsBut t [A.DSC_RA_RES]

/-- R28, R62, R150: a ready realign is applied at its instant, in whole microseconds: voted time takes the step, nothing is pending,
and the comparator ignores the markers that straddle it. -/
def realignApply : Prop := ∀ (s : State) (r : Realign) (grid : List (Fin 20 × GridPhase)), s.dsc.realign = some r → r.ready = true → s.hasVoted = true →
  s.Does (.realignApply grid) fun t => t.dsc.realign = none ∧ t.kpr.realigned = true ∧ t.kpr.skip = 1 ∧
    (r.explicit = true → t.now = (((max s.now r.at_ + 65535999) / 65536000 * 65536000 : Nat) + r.step).toNat)

/-- R62, R74: every running keeper adds the same step; UNJUDGED clears. -/
def realignKeepers : Prop := ∀ (s : State) (d : Int) (x : Nat), s.RegsOk → s.kpr.keepers.length = 3 → x < 3 → s.kLocked x = true →
  ((s.kprStep d).kp x).time = (((s.kp x).time + d * 2 ^ 48) % ((2 ^ 48 * 1000000000 * 2 ^ 64 : Nat) : Int)).toNat ∧
  (s.kprStep d).unjudged = false ∧ (s.kprStep d).now = ((s.now : Int) + d).toNat

/-- R11, R150, R157: an applied realign posts its step and is no longer pending. -/
def realignPosted : Prop := ∀ (s : State) (r : Realign) (d : Int), s.RegsOk → s.Room Ev.DSC_REALIGN →
  (s.realignDone r d).wide (A.DSC_RA_STEP 0) 3 = stepWords d ∧ (s.realignDone r d).flag F.DSC_STAT_RA_PENDING = false ∧
  (s.realignDone r d).get F.DSC_RA_RES_VALID = 1 ∧ (s.realignDone r d).get F.DSC_RA_RES_RESULT = 1 ∧
  (s.realignDone r d).get F.DSC_RA_RES_SEQ = (s.get F.DSC_RA_RES_SEQ + 1) % 256 ∧
  s.Raised (s.realignDone r d) Ev.DSC_REALIGN (if r.explicit then 0xFF else r.slot) (detI (d / 65536) % 2 ^ 32)

/-- R49, R58, R93, R465: the marker of a TAI second not yet passed carries voted time to it; gated outputs are released where the
vote judges time, and the Cellar seconds follow; with a keeper in the vote one traceability record is made. -/
def secondMarker : Prop := ∀ (s : State) (sec wclk : Nat) (err : List Int), s.RegsOk → s.hasVoted = true → s.kpr.stepTo ≤ sec * lsbPerSec →
  s.now < (sec + 1) * lsbPerSec →
  s.Does (.votedSecondMarker sec err wclk) fun t =>
    t.now = max s.now (sec * lsbPerSec) ∧ t.flag F.KPR_STAT_OUT_GATED = s.gateCond ∧
    (s.judged = true → t.wide A.CLR_SEC 2 = sec % 2 ^ 48) ∧ (s.inVote ≠ [] → t.bnd.traceSeq = (s.bnd.traceSeq + 1) % 2 ^ 32)

/-- R22, R26: the tick boundary, where no Twivon command waits: voted time stands at it or later, and the next is one tick on. -/
def tickBoundary : Prop := ∀ (s : State) (m : TickIn), s.hasVoted = true → s.mgt.journal = [] → s.mgt.wait = [] →
  s.Does (.tickBoundary m) fun t =>
    t.nextTick = max s.nextTick (tickOf s.now) + 1 ∧ t.now = max s.now (max s.nextTick (tickOf s.now) * lsbPerTick) ∧ t.tickAt = some t.now

/-- R26, R27: a write staged 2 us or more before the boundary takes effect at it, and the tick is recorded under its path; a later
one waits on. -/
def stagedTakes : Prop := ∀ (s : State) (path : Path) (i : Nat) (v : Word) (at_ t : Nat), s.RegsOk → i < 8 →
  s.staged = [⟨path, A.KEY_ARG i, 0xFFFFFFFF, v, at_⟩] →
  (at_ + 2 * lsbPerUs ≤ t →
    (s.stagedSwap t).reg (A.KEY_ARG i) = v ∧ (s.stagedSwap t).staged = [] ∧
    (s.stagedSwap t).reg (stageTickAddr path) = BitVec.ofNat 32 (tickOf t) ∧
    (s.stagedSwap t).get F.MGT_STAGE_RES_VALID = 1 ∧ (s.stagedSwap t).get F.MGT_STAGE_RES_SEQ = (s.get F.MGT_STAGE_RES_SEQ + 1) % 256) ∧
  (t < at_ + 2 * lsbPerUs → s.stagedSwap t = s)


/-! ### Loops, outputs and crossings -/

/-- No command waits for a clock, and no Twivon command for its turn. -/
abbrev Quiet (s : State) : Prop := s.xdc.cmds = [] ∧ s.mgt.journal = []

/-- R162, R164: a phase error within LOCK_WIN for LOCK_N cycles declares lock in ACQUIRE and starts SETTLE; the band index, losses
and gate of the loop stand. -/
def loopLock : Prop := ∀ (s : State) (l : Fin 34) (us : Nat) (run : PhaseRun), s.RegsOk → s.loopState l = lpAcquire →
  run.most ≤ s.get (F.SYN_LOOPL_CFG_LOCK_WIN l) → s.get (F.SYN_LOOPL_CFG_LOCK_N l) ≤ run.cycles → s.injOn 0x50 l = false → s.Room Ev.SYN_LOCK →
  s.Does (.loopLock l us run) fun t =>
    t.loopState l = lpSettle ∧ t.getI (F.SYN_LOOPL_PERR_PERR l) = satI 16 run.last ∧ s.Raised t Ev.SYN_LOCK l (min us 65535) ∧
    t.get (F.SYN_LOOPL_STAT_GATED l) = s.get (F.SYN_LOOPL_STAT_GATED l) ∧ t.get (F.SYN_LOOPL_STAT_LOSSES l) = s.get (F.SYN_LOOPL_STAT_LOSSES l) ∧
    s.RegsBut t [A.SYN_LOOPL_STAT l, A.SYN_LOOPL_PERR l, A.SYN_LOCK + 4 * (l / 32)] ∧ t = { s with regs := t.regs, evt := t.evt }

/-- R162: with a larger error, or for fewer cycles, no lock is declared. -/
def loopNoLock : Prop := ∀ (s : State) (l : Fin 34) (us : Nat) (run : PhaseRun),
  (s.get (F.SYN_LOOPL_CFG_LOCK_WIN l) < run.most ∨ run.cycles < s.get (F.SYN_LOOPL_CFG_LOCK_N l)) → exec (.loopLock l us run) s = .next s

/-- R164: 5 ms without lock leave the loop in ACQUIRE and raise SYN_UNLOCK. -/
def loopAcquireTimeout : Prop := ∀ (s : State) (l : Fin 34) (us : Nat) (perr : Int), s.RegsOk → s.loopState l = lpAcquire → 5000 ≤ us →
  s.Room Ev.SYN_UNLOCK →
  s.Does (.loopAcquireTimeout l us perr) fun t =>
    t.loopState l = lpAcquire ∧ s.Raised t Ev.SYN_UNLOCK l (ofSigned 16 (satI 16 perr) + 65536) ∧ s.RegsBut t [A.SYN_LOOPL_PERR l] ∧
    t = { s with regs := t.regs, evt := t.evt }

/-- R164: SETTLE elapsed: the loop is LOCKED and its gate open. Of an output synthesiser nothing else follows. -/
def loopSettleDone : Prop := ∀ (s : State) (l : Fin 34) (us n : Nat), s.RegsOk → Quiet s → s.loopState l = lpSettle →
  s.get (F.SYN_LOOPL_SETTLE_SETTLE l) ≤ us → 26 ≤ l.val →
  s.Does (.loopSettleDone l us n) fun t =>
    t.loopState l = lpLocked ∧ t.flag (F.SYN_LOOPL_STAT_GATED l) = false ∧
    s.RegsBut t [A.SYN_LOOPL_STAT l, A.SYN_LOCK + 4 * (l / 32), A.SYN_GATE + 4 * (l / 32)] ∧ t = { s with regs := t.regs }

/-- R164: what every loop does when SETTLE has elapsed: LOCKED, its gate open, and the clock it makes runs. -/
def loopSettled : Prop := ∀ (s : State) (l : Fin 34) (d : Nat), s.RegsOk → domainLoop d = some l.val →
  (s.loopSettled l).loopState l = lpLocked ∧ (s.loopSettled l).gateOpen l = true ∧ (s.loopSettled l).clockRuns d = true

/-- R59, R164, R166, R186: what the consumers of the other loops do then: pending strobes are delivered; the ledger's late entries are
withdrawn, GNSS resumes, DRAM trains, the port acquires; a keeper is locked, seeded in DARK by WCLK's corrected time. -/
def loopSettleFollows : Prop := ∀ (s : State) (l : Fin 34) (us n : Nat), s.loopState l = lpSettle → s.get (F.SYN_LOOPL_SETTLE_SETTLE l) ≤ us →
  let s1 := s.loopSettled l
  let s2 := s1.kprLocked l (s1.darkTime n)
  exec (.loopSettleDone l us n) s = (if l.val < 3 then s1.voteChanged (if s1.vstate == vDark && s1.kpr.started then s2.retick else s2) []
    else if l.val = 3 then (s1.deliverStrobes 3).limitSweep
    else if l.val = 4 then (s1.deliverStrobes 4).gnsMclkBack
    else if l.val = 5 then (s1.deliverStrobes 5).dclkBack
    else if l.val < 26 then (s1.deliverStrobes (l + 10)).portUngate (l - 6) else s1).deliverCmds

/-- R163, R164: a phase error beyond twice LOCK_WIN for four cycles in SETTLE or LOCKED: LOST, gated, counted, LOR clear. -/
def loopLossOfLock : Prop := ∀ (s : State) (l : Fin 34) (run : PhaseRun) (g : List (Fin 20 × GridPhase)), s.RegsOk →
  (s.loopState l = lpSettle ∨ s.loopState l = lpLocked) → 2 * s.get (F.SYN_LOOPL_CFG_LOCK_WIN l) < run.least → 4 ≤ run.cycles →
  (l.val = 3 ∨ l.val = 4) → s.Room Ev.SYN_UNLOCK →
  s.Does (.loopLossOfLock l run g) fun t =>
    t.loopState l = lpLost ∧ t.flag (F.SYN_LOOPL_STAT_GATED l) = true ∧ t.flag (F.SYN_LOOPL_STAT_LOR l) = false ∧
    t.get (F.SYN_LOOPL_STAT_LOSSES l) = min (s.get (F.SYN_LOOPL_STAT_LOSSES l) + 1) 255 ∧
    s.Raised t Ev.SYN_UNLOCK l (ofSigned 16 (satI 16 run.last)) ∧ t = { s with regs := t.regs, evt := t.evt }

/-- R163, R166, R167, R168: the same of every loop, with what its consumers do, once the mask of a handover has ended; a smaller error
loses nothing. -/
def loopLossFollows : Prop := ∀ (s : State) (l : Fin 34) (run : PhaseRun) (g : List (Fin 20 × GridPhase)),
  let s1 := s.notePerr l run.last
  (s.phaseBeyond l run = true → (l.val < 6 ∨ s.syn.maskUntil ≤ s.now) → s1.canLose l false = true →
    (26 ≤ l.val → exec (.loopLossOfLock l run g) s = .next (s1.loopLose l false)) ∧
    (l.val = 5 → exec (.loopLossOfLock l run g) s = .next ((s1.selfRefresh false).loopLose l false)) ∧
    (6 ≤ l.val → l.val < 26 → exec (.loopLossOfLock l run g) s =
      .next ((s1.loopLose l false).portLeft ((s1.loopLose l false).portGate (l - 6)) (l - 6))) ∧
    (l.val < 3 → exec (.loopLossOfLock l run g) s =
      .next ((s1.loopLose l false).voteChanged ((s1.loopLose l false).kprLost l ((s1.loopLose l false).injOn 0x50 l || (s1.loopLose l false).injOn 0x51 l)) g))) ∧
  (s.phaseBeyond l run = false → exec (.loopLossOfLock l run g) s = .next s) ∧
  (6 ≤ l.val → s.now < s.syn.maskUntil → exec (.loopLossOfLock l run g) s = .next s)

/-- R163, R171: an output synthesiser without its reference is LOST with LOR set, and its output is held low. -/
def loopLossOfReference : Prop := ∀ (s : State) (l : Fin 34) (g : List (Fin 20 × GridPhase)), s.RegsOk →
  (s.loopState l = lpAcquire ∨ s.loopState l = lpSettle ∨ s.loopState l = lpLocked) → 26 ≤ l.val → s.Room Ev.SYN_LOR →
  s.Does (.loopLossOfReference l g) fun t =>
    t.loopState l = lpLost ∧ t.flag (F.SYN_LOOPL_STAT_GATED l) = true ∧ t.flag (F.SYN_LOOPL_STAT_LOR l) = true ∧
    t.flag (F.SYN_CLKOUTk_CTL_RELEASED (l - 26)) = false ∧ s.Raised t Ev.SYN_LOR l 0 ∧ t = { s with regs := t.regs, syn := t.syn, evt := t.evt }

/-- R164, R168: a LOST loop whose reference is back acquires again, in its band. -/
def loopReferenceReturn : Prop := ∀ (s : State) (l : Fin 34), s.RegsOk → 6 ≤ l.val → s.loopState l = lpLost → s.syn.loaded = true → s.tsrc < 3 →
  s.injOn 0x51 l = false →
  s.Does (.loopReferenceReturn l) fun t =>
    t.loopState l = lpAcquire ∧ t.get (F.SYN_LOOPL_STAT_BAND l) = s.get (F.SYN_LOOPL_STAT_BAND l) ∧ t = { s with regs := t.regs }

/-- R175: ENABLE of a PPS output is staged; a new WIDTH is staged only while ENABLE is 0, else refused. -/
def ppsCfgWrite : Prop := ∀ (s : State) (path : Path) (k : Fin 8) (v : Word),
  let put (m : Word) : State := { s with staged := s.staged ++ [⟨path, A.SYN_PPSk_CFG k, m, v, s.now⟩] }
  (bitsOf v 31 12 = s.lastGet (F.SYN_PPSk_CFG_WIDTH k) → exec (.ppsCfgWrite path k v) s = .next (put 1)) ∧
  (bitsOf v 31 12 ≠ s.lastGet (F.SYN_PPSk_CFG_WIDTH k) → s.lastGet (F.SYN_PPSk_CFG_ENABLE k) = 0 → 1 ≤ bitsOf v 31 12 → bitsOf v 31 12 ≤ 900000 →
    exec (.ppsCfgWrite path k v) s = .next (put 0xFFFFF001)) ∧
  (bitsOf v 31 12 ≠ s.lastGet (F.SYN_PPSk_CFG_WIDTH k) → s.lastGet (F.SYN_PPSk_CFG_ENABLE k) = 1 → s.Room Ev.SYN_OFS_REFUSED →
    s.Does (.ppsCfgWrite path k v) fun t => t = { put 1 with evt := t.evt } ∧ s.Raised t Ev.SYN_OFS_REFUSED k 1)

/-- R175: an offset is staged only while its output's ENABLE is 0, else refused with nothing changed. -/
def ppsOfsWrite : Prop := ∀ (s : State) (path : Path) (k : Fin 8) (v : Word),
  (s.lastGet (F.SYN_PPSk_CFG_ENABLE k) = 0 → exec (.ppsOfsWrite path k v) s =
    .next { s with staged := s.staged ++ [⟨path, A.SYN_PPSk_OFS k, 0xFFFFFFFF, v, s.now⟩] }) ∧
  (s.lastGet (F.SYN_PPSk_CFG_ENABLE k) = 1 → s.Room Ev.SYN_OFS_REFUSED →
    s.Does (.ppsOfsWrite path k v) fun t => t = { s with evt := t.evt } ∧ s.Raised t Ev.SYN_OFS_REFUSED k 1)
def clkoutOfsWrite : Prop := ∀ (s : State) (path : Path) (k : Fin 8) (v : Word),
  (s.lastGet (F.SYN_CLKOUTk_CTL_ENABLE k) = 0 → exec (.clkoutOfsWrite path k v) s =
    .next { s with staged := s.staged ++ [⟨path, A.SYN_CLKOUTk_OFS k, 0xFFFFFFFF, v, s.now⟩] }) ∧
  (s.lastGet (F.SYN_CLKOUTk_CTL_ENABLE k) = 1 → s.Room Ev.SYN_OFS_REFUSED →
    s.Does (.clkoutOfsWrite path k v) fun t => t = { s with evt := t.evt } ∧ s.Raised t Ev.SYN_OFS_REFUSED k 0)

/-- R171: of SYN_CLKOUTk_CTL only ENABLE is staged. -/
def clkoutCtlWrite : Prop := ∀ (s : State) (path : Path) (k : Fin 8) (v : Word),
  exec (.clkoutCtlWrite path k v) s = .next { s with staged := s.staged ++ [⟨path, A.SYN_CLKOUTk_CTL k, 1, v, s.now⟩] }

/-- R187: a running domain whose edges stop is declared stopped: RUN clear, HIST set, the event; while MCLK stands the declaration is
held. -/
def domainStopped : Prop := ∀ (s : State) (p : Fin 20), s.RegsOk → s.domainRuns (16 + p.val) = true → s.clockRuns 4 = true → s.Room Ev.XDC_STOP →
  s.Does (.domainStopped ⟨16 + p, by omega⟩) fun t =>
    t.domainRuns (16 + p.val) = false ∧ t.clockRuns (16 + p.val) = false ∧ t.bit ⟨A.XDC_STOP_HIST_CORE + 4, 31, 0⟩ p = true ∧
    s.RegsBut t [A.XDC_RUN_CORE + 4, A.XDC_STOP_HIST_CORE + 4] ∧ s.Raised t Ev.XDC_STOP (16 + p) 0 ∧
    t = { s with regs := t.regs, evt := t.evt, xdc := t.xdc }
def domainHeld : Prop := ∀ (s : State) (p : Fin 20), s.clockRuns 4 = false →
  s.Does (.domainStopped ⟨16 + p, by omega⟩) fun t => t = { s with xdc := t.xdc } ∧ t.xdc.held = s.xdc.held ++ [(16 + p.val, none)]

/-- R186, R187: a domain whose gate is open runs again: it is declared, and the strobes pending into it are delivered. -/
def domainRunning : Prop := ∀ (s : State) (p : Fin 20) (us : Nat), s.RegsOk → Quiet s → s.domainRuns (16 + p.val) = false →
  s.clockRuns 4 = true → s.gateOpen (6 + p.val) = true → s.Room Ev.XDC_RUN →
  s.Does (.domainRunning ⟨16 + p, by omega⟩ us) fun t =>
    t.domainRuns (16 + p.val) = true ∧ t.clockRuns (16 + p.val) = true ∧
    t.xdc = { s.xdc with strobes := s.xdc.strobes.filter (fun i => strobeDst i != 16 + p.val), stopped := s.xdc.stopped.filter (· != 16 + p.val) } ∧
    s.Raised t Ev.XDC_RUN (16 + p) (min us (2 ^ 32 - 1))

/-- R184, R186: a tick strobe into a stopped domain stays pending, and the next one merges with it; into a running one nothing
stays pending. -/
def strobePends : Prop := ∀ (s : State) (i : Nat), i < 0x1A → s.crossOpen s.tsrc (strobeDst i) = true →
  (s.clockRuns (strobeDst i) = true → (s.strobe i).xdc.strobes.contains i = false) ∧
  (s.clockRuns (strobeDst i) = false → (s.strobe i).xdc.strobes.contains i = true) ∧
  (s.clockRuns (strobeDst i) = false → s.xdc.strobes.contains i = true → spWf (fun _ => 0) s.xdc.merge = true →
    (s.strobe i).mergeCount i = min 255 (s.mergeCount i + 1))

/-- R183: a stalled twice-sampled crossing is reported, and the destination keeps its value. -/
def sampleStall : Prop := ∀ (s : State) (a b : Fin 128), s.Room Ev.XDC_SAMPLE_STALL →
  s.Does (.sampleStall a b) fun t => t = { s with evt := t.evt } ∧ s.Raised t Ev.XDC_SAMPLE_STALL 0xFF (a + 256 * b)

/-- R189: the request closes the crossings of a pair, in both directions, once. -/
def resetRequest : Prop := ∀ (s : State) (x y : Fin 128), s.handshake x y = none →
  s.Does (.resetHandshakeRequest x y) fun t => t.xdc.hs = s.xdc.hs ++ [⟨x, y, false, 0, 0⟩] ∧ t.crossOpen x y = false ∧ t.crossOpen y x = false ∧
    t = { s with xdc := t.xdc }

/-- R188, R189: the other side, its clock running, empties the FLUSH queues and acknowledges with what they held; with its clock
stopped it does not. -/
def resetAck : Prop := ∀ (s : State) (x y : Fin 128) (h : Handshake), s.handshake x y = some h → h.acked = false →
  (s.clockRuns y = true → s.Does (.resetHandshakeAck x y) fun t =>
    t = ((s.flushPair x y).2.deliverStrobes y).hsAck x y (s.flushPair x y).1.1 (s.flushPair x y).1.2 ∧
    t.handshake x y = some { h with acked := true, queues := (s.flushPair x y).1.1, entries := (s.flushPair x y).1.2 }) ∧
  (s.clockRuns y = false → exec (.resetHandshakeAck x y) s = .next s)

/-- R188, R192: the FLUSH queues of a receive lane toward CCLK are the port's queues for the classifier: each is emptied and its
frames counted. -/
def flushReceived : Prop := ∀ (s : State) (p : Fin 20), s.RegsOk → s.prt.ports.length = 20 →
  s.flushPair 3 (48 + p) = s.flushFrames p ∧
  (∀ q < 8, s.get (F.PRT_x_RXQq_CFG_CONSUMER p q) = 1 → (s.flushFrames p).2.queue p q = []) ∧
  (s.flushFrames p).1.2 = (((List.range 8).filter fun q => s.get (F.PRT_x_RXQq_CFG_CONSUMER p q) == 1).map fun q => (s.queue p q).length).sum

/-- R189: an acknowledged handshake opens: counted, its discards counted, and reported; where both sides are in reset each needs the
other's acknowledge. -/
def resetOpen : Prop := ∀ (s : State) (x y : Fin 128) (h : Handshake), s.RegsOk → Quiet s → s.handshake x y = some h → h.acked = true →
  (∀ g, s.handshake y x = some g → g.acked = true) → s.Room Ev.XDC_FLUSH →
  s.Does (.resetHandshakeOpen x y) fun t =>
    t.handshake x y = none ∧ t.get F.XDC_FLUSH_CNT_HANDSHAKES = (s.get F.XDC_FLUSH_CNT_HANDSHAKES + 1) % 2 ^ 16 ∧
    t.get F.XDC_FLUSH_CNT_DISCARDED = min (s.get F.XDC_FLUSH_CNT_DISCARDED + h.entries) 65535 ∧
    s.Raised t Ev.XDC_FLUSH 0xFF (x % 128 + 256 * min h.queues 255 + 65536 * min h.entries 65535) ∧ s.RegsBut t [A.XDC_FLUSH_CNT] ∧
    t = { s with regs := t.regs, xdc := t.xdc, evt := t.evt }
def resetWaits : Prop := ∀ (s : State) (x y : Fin 128) (g : Handshake), Quiet s → s.handshake y x = some g → g.acked = false →
  exec (.resetHandshakeOpen x y) s = .next s

/-- R193: the counter that XDC_MERGE_SEL names is cleared, with its NZ bit; the others stand. -/
def mergeClear : Prop := ∀ s : State, s.RegsOk → spWf (fun _ => 0) s.xdc.merge = true →
  s.Does .mergeClear fun t =>
    t.mergeCount (s.lastGet F.XDC_MERGE_SEL_INDEX) = 0 ∧ (∀ i, i ≠ s.lastGet F.XDC_MERGE_SEL_INDEX → t.mergeCount i = s.mergeCount i) ∧
    t.bit (F.XDC_MERGE_NZ_NZ (s.lastGet F.XDC_MERGE_SEL_INDEX / 32)) (s.lastGet F.XDC_MERGE_SEL_INDEX % 32) = false ∧
    t = { s with regs := t.regs, xdc := t.xdc }

/-- R193: every merge counter is cleared, and every NZ bit. -/
def mergeClearAll : Prop := ∀ s : State, s.RegsOk →
  s.Does .mergeClearAll fun t =>
    (∀ i, t.mergeCount i = 0) ∧ (∀ w : Fin 8, t.reg (A.XDC_MERGE_NZ w) = 0) ∧ s.RegsBut t ((List.range 8).map fun w => A.XDC_MERGE_NZ w) ∧
    t = { s with regs := t.regs, xdc := t.xdc }


/-! ### Ports, launch pinning, triggers -/

/-- The ports stand as many as the device has. -/
abbrev PortsOk (s : State) : Prop := s.prt.ports.length = 20

/-- R201, R202: a short, a long and a damaged frame each count where the rule says, and go no further. -/
def rxDropped : Prop := ∀ (s : State) (p : Fin 20) (f : List Byte) (m : RxMeta), s.Canon → s.portUp p = true → s.clockRuns (48 + p) = true →
  m.fecUncorr = 0 →
  (f.length < 64 → s.Does (.rxFrame p f m) fun t =>
    t.count (A.PRT_x_RX_RUNT p) = (s.count (A.PRT_x_RX_RUNT p) + 1) % 2 ^ 64 ∧ t = { s with cnt := t.cnt }) ∧
  (64 ≤ f.length → s.maxLenAt p (s.rxInstant p m) < f.length → s.Does (.rxFrame p f m) fun t =>
    t.count (A.PRT_x_RX_OVERSIZE p) = (s.count (A.PRT_x_RX_OVERSIZE p) + 1) % 2 ^ 64 ∧ t = { s with cnt := t.cnt }) ∧
  (64 ≤ f.length → f.length ≤ s.maxLenAt p (s.rxInstant p m) → fcsGood f = false → s.Does (.rxFrame p f m) fun t =>
    t.count (A.PRT_x_RX_FCS_ERR p) = (s.count (A.PRT_x_RX_FCS_ERR p) + 1) % 2 ^ 64 ∧ t = { s with cnt := t.cnt })

/-- R199: a frame that was being received as the port left UP counts in RX_FCS_ERR and goes no further. -/
def rxCutOff : Prop := ∀ (s : State) (p : Fin 20) (f : List Byte) (m : RxMeta) (u : Nat), s.Canon → s.portUp p = false →
  (s.port p).leftUp = some u → m.serdes < u →
  s.Does (.rxFrame p f m) fun t =>
    t.count (A.PRT_x_RX_FCS_ERR p) = (s.count (A.PRT_x_RX_FCS_ERR p) + 1) % 2 ^ 64 ∧ t = { s with cnt := t.cnt }

/-- R202, R205, R207, R208: a good admitted frame that no rule matches goes with its stamp to the default queue. -/
def rxQueued : Prop := ∀ (s : State) (p : Fin 20) (f d : List Byte) (m : RxMeta) (q : Nat), s.Canon → PortsOk s → s.portUp p = true →
  s.clockRuns (48 + p) = true → m.fecUncorr = 0 → 64 ≤ f.length → f.length ≤ s.maxLenAt p (s.rxInstant p m) → fcsGood f = true →
  d = f.take (f.length - 4) → s.admitted p (beAt d 0 6) = true → etherType d ≠ 0x8808 → s.ruleFor p d = none →
  s.flag (F.PRT_x_FILT_CFG_UNMATCHED_DROP p) = false → q = s.get (F.PRT_x_FILT_CFG_DEFAULT_Q p) → q < (s.port p).rxq.length →
  reaches (s.get (F.PRT_x_RXQq_CFG_CONSUMER p q)) p = true →
  queueBytes (s.queue p q) + d.length ≤ s.get (F.PRT_x_RXQq_CFG_DEPTH p q) * 1024 →
  s.Does (.rxFrame p f m) fun t =>
    t.queue p q = s.queue p q ++ [⟨d, s.rxDesc p (s.rxInstant p m) m.steps⟩] ∧
    t.count (A.PRT_x_RX_FRAMES p) = (s.count (A.PRT_x_RX_FRAMES p) + 1) % 2 ^ 64 ∧
    t.count (A.PRT_x_RX_BYTES p) = (s.count (A.PRT_x_RX_BYTES p) + f.length) % 2 ^ 64 ∧
    t = { s with cnt := t.cnt, regs := t.regs, prt := t.prt }

/-- R202, R209: a PAUSE or PFC frame is counted as a valid frame of 64 bytes and by its own counter; a port that honours it holds it
until its reaction time has passed. -/
def pauseFrame : Prop := ∀ (s : State) (p : Fin 20) (q : Fin 65536) (last : Nat), s.Canon → PortsOk s → s.portUp p = true →
  s.Does (.pauseFrame p q last) fun t =>
    t.count (A.PRT_x_RX_PAUSE p) = (s.count (A.PRT_x_RX_PAUSE p) + 1) % 2 ^ 64 ∧
    t.count (A.PRT_x_RX_FRAMES p) = (s.count (A.PRT_x_RX_FRAMES p) + 1) % 2 ^ 64 ∧
    t.count (A.PRT_x_RX_BYTES p) = (s.count (A.PRT_x_RX_BYTES p) + 64) % 2 ^ 64 ∧
    (t.port p).pausePend = (s.port p).pausePend ++
      (if s.flag (F.PRT_x_CFG_RX_PAUSE_EN p) && !s.flag (F.PRT_x_CFG_PFC_EN p) then [(q.val, last + reaction (s.portMode p))] else []) ∧
    t = { s with cnt := t.cnt, prt := t.prt }
def pfcFrame : Prop := ∀ (s : State) (p : Fin 20) (en : Fin 256) (qs : List (Fin 65536)) (last : Nat), s.Canon → PortsOk s → s.portUp p = true →
  s.Does (.pfcFrame p en qs last) fun t =>
    t.count (A.PRT_x_RX_PFC p) = (s.count (A.PRT_x_RX_PFC p) + 1) % 2 ^ 64 ∧
    t.count (A.PRT_x_RX_FRAMES p) = (s.count (A.PRT_x_RX_FRAMES p) + 1) % 2 ^ 64 ∧
    t.count (A.PRT_x_RX_BYTES p) = (s.count (A.PRT_x_RX_BYTES p) + 64) % 2 ^ 64 ∧
    (t.port p).pfcPend = (s.port p).pfcPend ++
      (if s.flag (F.PRT_x_CFG_PFC_EN p) then [(pfcQuanta en fun i => ((qs[i]?).map (·.val)).getD 0, last + reaction (s.portMode p))] else []) ∧
    t = { s with cnt := t.cnt, prt := t.prt }

/-- R210, R211: a PAUSE acts at the block boundary after its reaction time: quanta of 0 end the pause; others put one in force from
there, or from where the pause in force began, for as many quanta from the end of the frame in progress. -/
def pauseAction : Prop := ∀ (s : State) (p : Fin 20) (a q e : Nat) (rest : List (Nat × Nat)), s.RegsOk → PortsOk s →
  (s.port p).pausePend = (q, e) :: rest → a = s.blockAt p e →
  e ≤ a ∧ s.Does (.pauseAction p) fun t =>
    t.now = max s.now a ∧ (t.port p).pausePend = rest ∧ t.flag (F.PRT_x_STAT_PAUSED p) = decide (q ≠ 0) ∧
    (q = 0 → (t.port p).pause = none) ∧
    (q ≠ 0 → s.busyEnd p = none → (s.port p).pause = none → (t.port p).pause = some (a, a + (quantum (s.portMode p) * (q : Nat)).floor.toNat)) ∧
    (q ≠ 0 → s.busyEnd p = none → ∀ w, (s.port p).pause = some w →
      (t.port p).pause = some (w.1, a + (quantum (s.portMode p) * (q : Nat)).floor.toNat)) ∧
    (q ≠ 0 → ∀ u, s.busyEnd p = some u → (t.port p).pause.map (·.2) = some (max a u + (quantum (s.portMode p) * (q : Nat)).floor.toNat)) ∧
    s.RegsBut t [A.PRT_x_STAT p, A.PRT_PAUSED, A.TSU_x_SQ_PAUSE p] ∧ t = { s with now := t.now, cyc := t.cyc, cnt := t.cnt, regs := t.regs, prt := t.prt }
/-- R210: with no PAUSE and no PFC received since the last action, there is nothing to act. -/
def pauseNone : Prop := ∀ (s : State) (p : Fin 20), ((s.port p).pausePend = [] → exec (.pauseAction p) s = .next s) ∧
  ((s.port p).pfcPend = [] → exec (.pfcAction p) s = .next s)

/-- R210, R212: a PFC acts likewise on the priorities it enables: quanta of 0 end a pause, others put one in force; a priority it does
not enable keeps its own. -/
def pfcAction : Prop := ∀ (s : State) (p : Fin 20) (a e : Nat) (qs : List (Option Nat)) (rest : List (List (Option Nat) × Nat)), s.RegsOk → PortsOk s →
  (s.port p).pfcPend = (qs, e) :: rest → a = s.blockAt p e → (s.port p).pfc.length = 8 →
  s.Does (.pfcAction p) fun t =>
    t.now = max s.now a ∧ (t.port p).pfcPend = rest ∧ (t.port p).pause = (s.port p).pause ∧
    (∀ i < 8, ((qs[i]?).getD none = none → (t.port p).pfc[i]? = (s.port p).pfc[i]?) ∧
      ((qs[i]?).getD none = some 0 → (t.port p).pfc[i]? = some none) ∧
      (∀ q, (qs[i]?).getD none = some q → q ≠ 0 → s.busyEnd p = none → (s.port p).pfc[i]? = some none →
        (t.port p).pfc[i]? = some (some (a, a + (quantum (s.portMode p) * (q : Nat)).floor.toNat))) ∧
      (t.get (F.PRT_x_STAT_PFC_PAUSED p)).testBit i = (((t.port p).pfc[i]?).getD none).isSome) ∧
    t = { s with now := t.now, cyc := t.cyc, cnt := t.cnt, regs := t.regs, prt := t.prt }

/-- R211, R221: at its end instant a pause is over, shown as over, and its nanoseconds are counted. -/
def pauseEnd : Prop := ∀ (s : State) (p : Fin 20) (a e : Nat), s.Canon → PortsOk s → (s.port p).pause = some (a, e) →
  s.Does (.pauseEnd p none) fun t =>
    t.now = max s.now e ∧ (t.port p).pause = none ∧ t.flag (F.PRT_x_STAT_PAUSED p) = false ∧ (t.port p).pfc = (s.port p).pfc ∧
    t.count (A.PRT_x_PAUSE_NS p) = (s.count (A.PRT_x_PAUSE_NS p) + (e - a) / lsbPerNs) % 2 ^ 64 ∧
    s.RegsBut t [A.PRT_x_STAT p, A.PRT_PAUSED] ∧ t = { s with now := t.now, cyc := t.cyc, cnt := t.cnt, regs := t.regs, prt := t.prt }
def pfcEnd : Prop := ∀ (s : State) (p : Fin 20) (i : Fin 8) (a e : Nat), s.RegsOk → PortsOk s → (s.port p).pfc[i.val]? = some (some (a, e)) →
  s.Does (.pauseEnd p (some i)) fun t => t.now = max s.now e ∧ (t.port p).pfc[i.val]? = some none ∧ (t.port p).pause = (s.port p).pause ∧
    s.RegsBut t [A.PRT_x_STAT p, A.PRT_PAUSED] ∧ t = { s with now := t.now, cyc := t.cyc, regs := t.regs, prt := t.prt }

/-- R213: a pause unbroken for PAUSE_LONG us is reported, once. -/
def pauseLong : Prop := ∀ (s : State) (p : Fin 20) (u : Nat), PortsOk s → s.Room Ev.PRT_PAUSE_LONG → (s.port p).pauseSince = some u →
  u + s.get (F.PRT_x_TIMERS_PAUSE_LONG p) * lsbPerUs ≤ s.now →
  ((s.port p).pauseLong = false → s.Does (.pauseLong p) fun t =>
    (t.port p).pauseLong = true ∧ t = { s with prt := t.prt, evt := t.evt } ∧
    s.Raised t Ev.PRT_PAUSE_LONG p ((if (s.port p).pause.isSome then 0 else 1) + 256 * s.get (F.PRT_x_STAT_PFC_PAUSED p))) ∧
  ((s.port p).pauseLong = true → exec (.pauseLong p) s = .next s)

/-- R196, R198, R227: with every lock reached ACQUIRE ends in VERIFY, no fault standing, the transmitter sending idle; the deskew
detector's skews are shown. -/
def linkBlockLock : Prop := ∀ (s : State) (p : Fin 20) (skew : List Int), s.RegsOk → PortsOk s → s.link p = lkAcquire → s.injOn 0x70 p = false →
  (p.val ≠ 19 ∨ s.flag (F.PRT_x_AN_STAT_AN_DONE p) = true) →
  s.Does (.linkBlockLock p skew) fun t =>
    t.link p = lkVerify ∧ (t.port p).locked = true ∧ (t.port p).line = .idle ∧ t.flag (F.PRT_x_STAT_HI_BER p) = false ∧
    t.flag (F.PRT_x_STAT_LOCAL_FAULT p) = false ∧ t.flag (F.PRT_x_STAT_REMOTE_FAULT p) = false ∧
    (p.val < 2 → ∀ i < 4, t.getI (F.TSU_x_SKEW_SKEW p i) = toSigned 16 (ofSigned 16 ((skew[i]?).getD 0))) ∧
    s.RegsBut t ([A.PRT_x_STAT p, A.PRT_LINK_UP, A.PRT_GATED] ++ (List.range 4).map fun i => (F.TSU_x_SKEW_SKEW p i).addr) ∧
    t = { s with regs := t.regs, prt := t.prt, xdc := t.xdc }

/-- R197, R198: MP does not leave ACQUIRE before auto-negotiation is complete. -/
def linkAwaitsPartner : Prop := ∀ (s : State) (skew : List Int), s.RegsOk → s.link 19 = lkAcquire → s.injOn 0x70 19 = false →
  s.flag (F.PRT_x_AN_STAT_AN_DONE 19) = false → s.Does (.linkBlockLock 19 skew) fun t => t.link 19 = lkAcquire ∧ t.regs = s.regs

/-- R198, R227, R228: lock held for LINK_HOLD opens the port: UP, the grid phase taken to the MDI and held, PRT_LINK_UP raised; before
LINK_HOLD it stays as it is. -/
def linkHoldExpiry : Prop := ∀ (s : State) (p : Fin 20) (ms : Nat) (ph : GridPhase), s.RegsOk → PortsOk s → s.link p = lkVerify →
  (s.get (F.PRT_x_TIMERS_LINK_HOLD p) ≤ ms → s.injOn 0x81 p = false → s.Room Ev.PRT_LINK_UP →
    s.Does (.linkHoldExpiry p ms ph) fun t => t.portUp p = true ∧ Told s t Ev.PRT_LINK_UP p (s.portMode p) ∧
      (t.port p).phase = some ⟨(roundRat (s.txMdi p ph.at_ ph.residual)).toNat, 0, ph.am⟩) ∧
  (ms < s.get (F.PRT_x_TIMERS_LINK_HOLD p) → exec (.linkHoldExpiry p ms ph) s = .next s)

/-- R196, R198, R199: a fault takes an UP port to ACQUIRE: its pinned frames are squashed with LINK and reported, its other frames
return as not sent, its pauses end; counted, and PRT_LINK_DOWN raised. -/
def linkFault : Prop := ∀ (s : State) (p : Fin 20) (c : Fin 4), s.Canon → PortsOk s → s.link p = lkUp → s.Room Ev.PRT_LINK_DOWN →
  s.Does (.linkFault p c) fun t =>
    t.link p = lkAcquire ∧ (t.port p).pinned = [] ∧ (t.port p).busy = none ∧ (t.port p).txq = List.replicate 8 [] ∧ (t.port p).pause = none ∧
    (∀ f ∈ (s.port p).pinned, (⟨f.src, p, f.tag, .squashed sqLink 0⟩ : PinReport) ∈ t.prt.reports) ∧
    (∀ f ∈ (s.port p).busy.toList ++ (s.port p).txq.flatten, TxReport.notSent p f.src f.data ∈ t.prt.done) ∧
    t.count (A.PRT_x_LINK_DOWN p) = (s.count (A.PRT_x_LINK_DOWN p) + 1) % 2 ^ 64 ∧ Told s t Ev.PRT_LINK_DOWN p (c + 1) ∧
    (c.val = 1 → t.flag (F.PRT_x_STAT_HI_BER p) = true) ∧ (c.val = 3 → t.flag (F.PRT_x_STAT_REMOTE_FAULT p) = true) ∧
    (c.val = 2 → p.val ≠ 19 → t.flag (F.PRT_x_STAT_LOCAL_FAULT p) = true ∧ (t.port p).line = .remoteFault)

/-- R198: a fault takes a port in VERIFY back to ACQUIRE; it counts no loss of link. -/
def linkVerifyFault : Prop := ∀ (s : State) (p : Fin 20) (c : Fin 4), s.Canon → PortsOk s → s.link p = lkVerify →
  s.Does (.linkFault p c) fun t => t.link p = lkAcquire ∧ t.count (A.PRT_x_LINK_DOWN p) = s.count (A.PRT_x_LINK_DOWN p) ∧ t.evt = s.evt

/-- R197: the partner's word is shown; AN_DONE says whether it offers full duplex, and in SGMII mode 1000 Mb/s. The bits are those of
the standards (assumption log 7). -/
def autonegResult : Prop := ∀ (s : State) (w : BitVec 16), s.RegsOk → s.Room Ev.PRT_AN_FAIL →
  s.Does (.autonegResult w) fun t =>
    t.get (F.PRT_x_AN_STAT_LP_WORD 19) = w.toNat ∧ s.RegsBut t [A.PRT_x_AN_STAT 19] ∧
    t.flag (F.PRT_x_AN_STAT_AN_DONE 19) = (if s.portMode 19 = 5 then w.getLsbD 12 && w.getLsbD 11 && !w.getLsbD 10 else w.getLsbD 5) ∧
    (t.flag (F.PRT_x_AN_STAT_AN_DONE 19) = true → t = { s with regs := t.regs }) ∧
    (t.flag (F.PRT_x_AN_STAT_AN_DONE 19) = false → s.Raised t Ev.PRT_AN_FAIL 19 w.toNat ∧ t = { s with regs := t.regs, evt := t.evt })

/-- R189, R200: a reset port returns to ACQUIRE, where it stood in a link state, with nothing pinned, running or waiting and its locks
to be reached anew; the handshakes of crossings whose far clock runs are complete; PRT_RESET_DONE is raised. -/
def portReset : Prop := ∀ (s : State) (p : Fin 20), s.RegsOk → PortsOk s → s.xdc.hs = [] → s.Room Ev.PRT_RESET_DONE →
  s.Does (.portReset p) fun t =>
    t.link p = (if s.link p = lkDisabled ∨ s.link p = lkGated then s.link p else lkAcquire) ∧
    (t.port p).pinned = [] ∧ (t.port p).busy = none ∧ (t.port p).txq = List.replicate 8 [] ∧ (t.port p).locked = false ∧
    ((∀ d ∈ s.portPairs p, s.clockRuns d.2 = true) → t.xdc.hs = []) ∧
    (∀ h ∈ t.xdc.hs, (h.x, h.y) ∈ s.portPairs p ∧ h.acked = false) ∧ ∃ n, Told s t Ev.PRT_RESET_DONE p n

/-- R221: CNT_SNAP shows every live counter of the port, PAUSE_NS with the pause in force up to now, and changes no other register. -/
def portCntSnap : Prop := ∀ (s : State) (p : Fin 20), s.RegsOk →
  s.Does (.portCntSnap p) fun t =>
    (∀ i < 19, (s.port p).pause = none ∨ A.PRT_x_RX_FRAMES p + 8 * i ≠ A.PRT_x_PAUSE_NS p →
      t.wide (A.PRT_x_RX_FRAMES p + 8 * i) 2 = s.count (A.PRT_x_RX_FRAMES p + 8 * i) % 2 ^ 64) ∧
    (∀ v, (s.port p).pause = some v → t.wide (A.PRT_x_PAUSE_NS p) 2 = (s.count (A.PRT_x_PAUSE_NS p) + (s.now - v.1) / lsbPerNs) % 2 ^ 64) ∧
    s.RegsBut t ((List.range 38).map fun i => A.PRT_x_RX_FRAMES p + 4 * i) ∧ t = { s with regs := t.regs }

/-- No frame of these fields waits or leaves with bytes still missing from the buffer. -/
abbrev TxNew (s : State) (p src c : Nat) (d : List Byte) (st : Option Nat) : Prop :=
  (s.port p).busy.any (fun f => f.partOf src c d st) = false ∧ (((s.port p).txq[c]?).getD []).any (fun f => f.partOf src c d st) = false

/-- R215, R237: a frame that a guardrail refuses is counted and reported, and returns to its source as not sent. -/
def txRefused : Prop := ∀ (s : State) (p : Fin 20) (src c : Fin 8) (d : List Byte) (st : Option (Fin 65536)) (w : Nat), s.Canon →
  (src.val ≠ 2 ∨ s.flag F.BND_CFG_PTP_TLV = false) → TxNew s p src c d (st.map (·.val)) → s.txCause p src c d ≠ 0 → s.Room Ev.PRT_TX_REFUSED →
  s.Does (.txFrameSubmit p src c d st w) fun t =>
    t.count (A.PRT_x_TX_REFUSED p) = (s.count (A.PRT_x_TX_REFUSED p) + 1) % 2 ^ 64 ∧ t.prt = { s.prt with done := s.prt.done ++ [.notSent p src d] } ∧
    s.Raised t Ev.PRT_TX_REFUSED p (s.txCause p src c d + 16 * c) ∧ t = { s with cnt := t.cnt, evt := t.evt, prt := t.prt }
/-- R215, R216, R237: a frame that the guardrails pass joins its class; one for a port that is not UP returns; one of which part was
written before has more of it written. -/
def txQueued : Prop := ∀ (s : State) (p : Fin 20) (src c : Fin 8) (d : List Byte) (st : Option (Fin 65536)) (w : Nat) (l : List TxFrame),
  PortsOk s → (src.val ≠ 2 ∨ s.flag F.BND_CFG_PTP_TLV = false) → TxNew s p src c d (st.map (·.val)) → s.txCause p src c d = 0 →
  (s.portUp p = true → (s.port p).txq[c.val]? = some l → s.Does (.txFrameSubmit p src c d st w) fun t =>
    (t.port p).txq[c.val]? = some (l ++ [⟨src, c, d, st.map (·.val), min w d.length, 0, none⟩]) ∧
    (∀ q : Fin 20, q ≠ p → t.port q = s.port q) ∧ t = { s with prt := t.prt }) ∧
  (s.portUp p = false → s.Does (.txFrameSubmit p src c d st w) fun t =>
    t = { s with prt := { s.prt with done := s.prt.done ++ [.notSent p src d] } })
def txGrows : Prop := ∀ (s : State) (p : Fin 20) (f : TxFrame) (src c : Fin 8) (st : Option (Fin 65536)) (w : Nat),
  PortsOk s → (src.val ≠ 2 ∨ s.flag F.BND_CFG_PTP_TLV = false) → (s.port p).busy = some f → f.src = src.val → f.cls = c.val →
  f.stamp = st.map (·.val) → f.written < f.data.length →
  s.Does (.txFrameSubmit p src c f.data st w) fun t =>
    (t.port p).busy = some { f with written := max f.written (min w f.data.length) } ∧ t = { s with prt := t.prt }

/-- R84, R91: a Follow_Up leaves with the bound's TLV, its bound that of the preciseOriginTimestamp, written over the TLV it reserves;
that one which reserves none returns is the model's choice (assumption log 80). -/
def followUpTlv : Prop := ∀ (s : State) (p : Fin 20) (c : Fin 8) (d e : List Byte) (i o k b : Nat) (w : Nat) (l : List TxFrame),
  PortsOk s → s.flag F.BND_CFG_PTP_TLV = true → s.portUp p = true → (s.port p).txq[c.val]? = some l →
  (s.followUp p d = some (i, o, some k) → b = s.boundReq p (beAt d (o + 34) 6 * lsbPerSec + beAt d (o + 40) 4 * lsbPerNs) none →
    e = overlay d k (s.ptpTlv b) → TxNew s p 2 c e none → s.txCause p 2 c e = 0 →
    s.Does (.txFrameSubmit p 2 c d none w) fun t =>
      (t.port p).txq[c.val]? = some (l ++ [⟨2, c, e, none, min w e.length, 0, none⟩]) ∧ t = { s with prt := t.prt }) ∧
  (s.followUp p d = some (i, o, none) → s.Does (.txFrameSubmit p 2 c d none w) fun t =>
    t = { s with prt := { s.prt with done := s.prt.done ++ [.notSent p 2 d] } })

/-- R215: each guardrail judged as a frame is handed over, in order. -/
def txCauses : Prop := ∀ (s : State) (p src c : Nat) (d : List Byte),
  (etherType d = 0x8808 → s.txCause p src c d = 2) ∧
  (etherType d ≠ 0x8808 → beAt d 6 6 ≠ s.portAddr p → s.txCause p src c d = 3) ∧
  (etherType d ≠ 0x8808 → beAt d 6 6 = s.portAddr p → (src = 0 ∨ s.get (F.PRT_x_TXCc_CFG_SOURCE p c) ≠ src) → s.txCause p src c d = 4) ∧
  (s.txCause p src c d = 0 → src ≠ 0 ∧ s.get (F.PRT_x_TXCc_CFG_SOURCE p c) = src ∧ beAt d 6 6 = s.portAddr p ∧ etherType d ≠ 0x8808)

/-- A class's head frame may start at `t`: TX_START bytes of it or all are in the buffer, its class is neither paused nor out of budget,
and it leaves a guard band before the next reserved slot. -/
abbrev TxMay (s : State) (p t c : Nat) (f : TxFrame) : Prop :=
  (f.data.length ≤ f.written ∨ s.get (F.PRT_x_TXSTART_TX_START p) ≤ f.written) ∧ s.classPaused p c = false ∧
  s.inBudget p c (wireLen f.data) t = true ∧
  ∀ g ∈ (s.port p).pinned, (t : Rat) + byteTime (s.portMode p) * (wireLen f.data + 8 : Nat) + s.guardTime p ≤ g.slot

/-- R214, R216: the class that the scheduler takes at an instant is the lowest whose head frame may start. -/
def txClassRule : Prop := ∀ (s : State) (p t c : Nat), s.txClass p t = some c →
  c < 8 ∧ (∃ f rest, (s.port p).txq[c]? = some (f :: rest) ∧ TxMay s p t c f) ∧
  ∀ b < c, ∀ f rest, (s.port p).txq[b]? = some (f :: rest) → ¬ TxMay s p t b f

/-- R201, R214, R215, R216: a frame starts, taken from the head of that class; one longer than MAC_MAXLEN as its first byte leaves is
refused with cause 1 and returns. -/
def txFrameStart : Prop := ∀ (s : State) (p : Fin 20) (u c : Nat) (f : TxFrame) (rest : List TxFrame), s.Canon → PortsOk s → s.portUp p = true →
  s.clockRuns (16 + p) = true → s.flag (F.PRT_x_STAT_REMOTE_FAULT p) = false → s.busyEnd p = none → s.txClass p (max s.now u) = some c →
  (s.port p).txq[c]? = some (f :: rest) → f.acc = none →
  (wireLen f.data ≤ s.maxLen p → s.Does (.txFrameStart p u) fun t =>
    t.now = max s.now u ∧ (t.port p).busy = some { f with start := max s.now u } ∧ (t.port p).txq[c]? = some rest ∧
    t = { s with now := t.now, cyc := t.cyc, prt := t.prt }) ∧
  (s.maxLen p < wireLen f.data → s.Room Ev.PRT_TX_REFUSED → s.Does (.txFrameStart p u) fun t =>
    (t.port p).busy = none ∧ (t.port p).txq[c]? = some rest ∧ t.prt.done = s.prt.done ++ [.notSent p f.src f.data] ∧
    t.count (A.PRT_x_TX_REFUSED p) = (s.count (A.PRT_x_TX_REFUSED p) + 1) % 2 ^ 64)

/-- R91, R266: an Announce leaves with the clockAccuracy of the bound at its launch. -/
def txAnnounceStart : Prop := ∀ (s : State) (p : Fin 20) (c i o : Nat) (f : TxFrame) (rest : List TxFrame), PortsOk s → s.portUp p = true →
  s.clockRuns (16 + p) = true → s.flag (F.PRT_x_STAT_REMOTE_FAULT p) = false → s.busyEnd p = none → s.txClass p s.now = some c →
  (s.port p).txq[c]? = some (f :: rest) → f.acc = some (i, o) → wireLen f.data ≤ s.maxLen p → s.tokens p c s.now = none →
  s.Does (.txFrameStart p s.now) fun t => (t.port p).busy = some { f with
    start := s.now, data := overlay f.data o [BitVec.ofNat 8 (s.accuracyOf i (s.boundReq p s.now none))] }

/-- R196: a port that is not UP, or receives remote fault, starts no frame. -/
def txHeld : Prop := ∀ (s : State) (p : Fin 20) (u : Nat), (s.portUp p = false ∨ s.flag (F.PRT_x_STAT_REMOTE_FAULT p) = true) →
  exec (.txFrameStart p u) s = .next s

/-- R203, R221, R225, R237: the frame has left, padded and with its FCS: counted; a STAMP frame returns its record, of the instant
measured. -/
def txFrameDone : Prop := ∀ (s : State) (p : Fin 20) (m : TxMeta) (f : TxFrame), s.Canon → PortsOk s → (s.port p).busy = some f → s.injOn 0x71 p = false →
  f.src ≠ 4 → f.src ≠ 2 →
  s.Does (.txFrameDone p m) fun t =>
    (t.port p).busy = none ∧ (t.port p).wire = wireBytes f.data ∧ (t.port p).wire.length = wireLen f.data ∧
    t.count (A.PRT_x_TX_FRAMES p) = (s.count (A.PRT_x_TX_FRAMES p) + 1) % 2 ^ 64 ∧
    t.count (A.PRT_x_TX_BYTES p) = (s.count (A.PRT_x_TX_BYTES p) + wireLen f.data) % 2 ^ 64 ∧
    t.prt.done = s.prt.done ++ (match f.stamp with | some tag => [.stamp p f.src (s.stampRecord p tag (s.txInstant p m))] | none => []) ∧
    t = { s with cnt := t.cnt, regs := t.regs, prt := t.prt }
/-- R275, R350: an export frame that has left frees its copy and resolves its Pips; a two-step Sync counts in SYNC_SENT. -/
def txFrameFollows : Prop := ∀ (s : State) (p : Fin 20) (m : TxMeta) (f : TxFrame), s.Canon → PortsOk s → (s.port p).busy = some f → s.injOn 0x71 p = false →
  (f.src = 4 → ∀ k, s.tic.kept.find? (fun k => k.1 == f.data) = some k → s.Does (.txFrameDone p m) fun t =>
    (t.port p).busy = none ∧ t.tic.kept = s.tic.kept.erase k ∧ t.count (A.CLR_RESk 1) = (s.count (A.CLR_RESk 1) + k.2) % 2 ^ 64) ∧
  (f.src = 2 → f.stamp.isSome = true → s.Does (.txFrameDone p m) fun t =>
    (t.port p).busy = none ∧ t.count (A.SVC_CNT 20) = (s.count (A.SVC_CNT 20) + 1) % 2 ^ 64)

/-- R217: an underrun spoils the frame, returns it, and raises TX_START by 64, at most to MAXLEN; a frame whole in the buffer cannot
underrun. -/
def txUnderrun : Prop := ∀ (s : State) (p : Fin 20) (f : TxFrame), s.Canon → PortsOk s → (s.port p).busy = some f →
  (f.written < f.data.length → s.Room Ev.PRT_UNDERRUN → s.Does (.txUnderrun p) fun t =>
    (t.port p).busy = none ∧ t.prt.done = s.prt.done ++ [.notSent p f.src f.data] ∧
    (t.port p).wire = f.data.take f.written ++ leBytes 4 (2 ^ 32 - 1 - crc32 (f.data.take f.written)) ∧
    t.get (F.PRT_x_TXSTART_TX_START p) =
      max (s.get (F.PRT_x_TXSTART_TX_START p)) (min (s.get (F.PRT_x_TXSTART_TX_START p) + 64) (s.maxLen p)) ∧
    t.count (A.PRT_x_TX_UNDERRUN p) = (s.count (A.PRT_x_TX_UNDERRUN p) + 1) % 2 ^ 64 ∧
    s.Raised t Ev.PRT_UNDERRUN p (t.get (F.PRT_x_TXSTART_TX_START p) + 65536 * f.cls) ∧ s.RegsBut t [A.PRT_x_TXSTART p] ∧
    t = { s with cnt := t.cnt, regs := t.regs, prt := t.prt, evt := t.evt }) ∧
  (f.data.length ≤ f.written → exec (.txUnderrun p) s = .next s)

/-- R232: a reservation is refused: with cause 1 without a grid phase, pinning, an UP port or voted time; else 2 too early; else 3 by its
length. -/
def reservationRefused : Prop := ∀ (s : State) (p : Fin 20) (c : Fin 8) (e len : Nat) (rsv : Bool) (tag : Fin 65536),
  let off := (s.port p).phase = none ∨ p.val = 19 ∨ s.flag (F.TSU_x_CFG_PIN_EN p) = false ∨ s.portUp p = false ∨ s.hasVoted = false
  let early := e < s.now + s.get (F.TSU_x_GUARD_LEAD p) * 65536
  (off → exec (.launchReservation (.direct p c e len rsv tag)) s = .next { s with reply := .words [2] }) ∧
  (¬ off → early → exec (.launchReservation (.direct p c e len rsv tag)) s = .next { s with reply := .words [4] }) ∧
  (¬ off → ¬ early → (len < 64 ∨ s.maxLen p < len) → exec (.launchReservation (.direct p c e len rsv tag)) s = .next { s with reply := .words [6] })
/-- R232: a granted reservation joins the pinned frames, its deadline LEAD before its slot, and answers its instants. -/
def reservationGranted : Prop := ∀ (s : State) (p : Fin 20) (c : Fin 8) (e len : Nat) (rsv : Bool) (tag : Fin 65536) (a b d : Nat), PortsOk s →
  (s.reserve p c (s.get (F.PRT_x_TXCc_CFG_SOURCE p c)) e len rsv tag).1 = .granted a b d → s.pauseOf p c = [] →
  s.Does (.launchReservation (.direct p c e len rsv tag)) fun t =>
    t.reply = .words (grantWords (.granted a b d)) ∧ d = a - s.get (F.TSU_x_GUARD_LEAD p) * 65536 ∧
    (∃ stop, (t.port p).pinned = (s.port p).pinned ++ [⟨tag, s.get (F.PRT_x_TXCc_CFG_SOURCE p c), c, a, b, d, stop, len, rsv, .reserved, []⟩]) ∧
    t = { s with prt := t.prt, reply := t.reply }
/-- R250, R253, R270: the ledger's reservation of a PREPARING entry whose earlier entries have reached their outcomes: granted, the entry
is PINNED with its instants and its engine told; refused, its engine is told the cause. -/
def reservationEntry : Prop := ∀ (s : State) (i : Fin 65536) (e : Entry) (r : LaunchReq) (n k a b d x : Nat), PortsOk s → s.entry i = some e →
  e.launch = some r → e.phase = .preparing → e.bind = some (n, k) → n < s.svc.engines.length → s.cclkRuns = true → s.crossOpen 3 (16 + r.port) = true →
  s.heldBack e = false → s.stepped e = false → e.squashes < 4 →
  ((s.reserve r.port r.cls 1 r.e r.len false i).1 = .granted a b d → a ≤ s.limitOf e →
    s.Does (.launchReservation (.entry i)) fun t =>
      t.entry i = some { e with launch := none, phase := .pinned, tport := r.port, cls := r.cls, slot := a, t3 := b, deadline := d } ∧
      (t.engine n).launchRes = (s.engine n).launchRes ++ [BitVec.ofNat 32 (2 * k + 8)]) ∧
  ((s.reserve r.port r.cls 1 r.e r.len false i).1 = .refused x → x ≠ 3 →
    s.Does (.launchReservation (.entry i)) fun t => t.entry i = some { e with launch := none } ∧
      (t.engine n).launchRes = (s.engine n).launchRes ++ [BitVec.ofNat 32 (2 * k + 16 * x)] ∧ t = { s with svc := t.svc })
def reservationWaits : Prop := ∀ (s : State) (i : Fin 65536) (e : Entry) (r : LaunchReq), s.entry i = some e → e.launch = some r →
  (s.heldBack e = true ∨ s.cclkRuns = false) → exec (.launchReservation (.entry i)) s = .next s

/-- R233: the slot that the search finds starts where a frame may start, not after its limit, overlaps no granted frame, and
lies in a reserved window only where the reservation may. -/
def slotFree : Prop := ∀ (s : State) (p c len : Nat) (rsv : Bool) (g : Grid) (ph : GridPhase) (last : Rat) (k : Nat) (n n' : Int) (i i' : Nat) (w : Bool),
  s.slotSearch p c len rsv g ph last k n i = some (n', i', w) →
  let a := posTime g ph n' i'
  let b := a + byteTime (s.portMode p) * (len + 8 : Nat) + s.guardTime p
  a ≤ last ∧ posOk g ph n' i' = true ∧ s.pinBusy p a b = false ∧ w = s.inWindow p g ph a b ∧ (rsv = false → w = false) ∧
  (w = false → s.inBudget p c len a = true)

/-- The one pinned frame of the port that its source knows by the tag. -/
abbrev PinIs (s : State) (p src tag : Nat) (f : Pinned) : Prop :=
  (s.port p).pinned.filter (fun g => g.src == src && g.tag == tag) = [f]

/-- R215, R234: a frame whole before its deadline is ARMED, with the bytes handed over before or now; bytes that a guardrail refuses
squash it. -/
def pinnedArmed : Prop := ∀ (s : State) (p : Fin 20) (src : Fin 8) (tag : Fin 65536) (d : List Byte) (f : Pinned), s.Canon → PortsOk s →
  PinIs s p src tag f → f.phase = .reserved → s.now < f.deadline → s.injOn 0x80 p = false →
  (f.data ≠ [] → s.Does (.pinnedArmed p src tag d) fun t => t.pinOf p src tag = some { f with phase := .armed } ∧ t = { s with prt := t.prt }) ∧
  (f.data = [] → wireLen d = f.len → s.txCause p src f.cls d = 0 → s.Does (.pinnedArmed p src tag d) fun t =>
    t.pinOf p src tag = some { f with phase := .armed, data := d } ∧ t = { s with prt := t.prt }) ∧
  (f.data = [] → wireLen d = f.len → s.txCause p src f.cls d ≠ 0 → s.Room Ev.PRT_TX_REFUSED → s.Does (.pinnedArmed p src tag d) fun t =>
    t.pinOf p src tag = none ∧ t.prt.reports = s.prt.reports ++ [⟨f.src, p, f.tag, .squashed sqGuardrail 0⟩] ∧
    s.Raised t Ev.PRT_TX_REFUSED p (s.txCause p src f.cls d + 16 * f.cls))
/-- R201, R234: at SLOT an ARMED frame launches; one longer than MAC_MAXLEN is squashed with GUARDRAIL. -/
def pinnedLaunch : Prop := ∀ (s : State) (p : Fin 20) (src : Fin 8) (tag : Fin 65536) (f : Pinned), s.Canon → PortsOk s → PinIs s p src tag f → f.phase = .armed →
  (f.len ≤ s.maxLen p → s.Does (.pinnedLaunch p src tag) fun t =>
    t.pinOf p src tag = some { f with phase := .launching } ∧ t.now = max s.now f.slot ∧ t = { s with now := t.now, cyc := t.cyc, prt := t.prt }) ∧
  (s.maxLen p < f.len → s.Does (.pinnedLaunch p src tag) fun t =>
    t.pinOf p src tag = none ∧ t.now = max s.now f.slot ∧ t.prt.reports = s.prt.reports ++ [⟨f.src, p, f.tag, .squashed sqGuardrail 0⟩])

/-- R234: a frame not whole at its deadline is squashed, counted in MISSED, and reported once to its source; its interval is free. -/
def deadlineMissed : Prop := ∀ (s : State) (p : Fin 20) (src : Fin 8) (tag : Fin 65536) (f : Pinned), s.RegsOk → PortsOk s → PinIs s p src tag f →
  f.phase = .reserved →
  s.Does (.deadlineMissed p src tag) fun t =>
    t.now = max s.now f.deadline ∧ t.pinOf p src tag = none ∧ (t.port p).pinned = (s.port p).pinned.erase f ∧
    t.prt.reports = s.prt.reports ++ [⟨f.src, p, f.tag, .squashed sqMissed 0⟩] ∧
    t.get (F.TSU_x_SQ_MISSED_COUNT p) = (s.get (F.TSU_x_SQ_MISSED_COUNT p) + 1) % 2 ^ 32 ∧ s.RegsBut t [A.TSU_x_SQ_MISSED p]

/-- R234, R235: a cancel before SLOT squashes; one of a frame whose slot has come is reported LAUNCHED and changes nothing else. -/
def pinnedCancel : Prop := ∀ (s : State) (p : Fin 20) (src : Fin 8) (tag : Fin 65536) (f : Pinned), s.RegsOk → PortsOk s → PinIs s p src tag f →
  let gone := f.phase = .launching ∨ f.phase = .armed ∧ f.slot ≤ s.now
  (gone → s.Does (.pinnedCancel p src tag) fun t =>
    t.prt = { s.prt with reports := s.prt.reports ++ [⟨f.src, p, tag, .launched⟩] } ∧ t = { s with prt := t.prt }) ∧
  (¬ gone → s.Does (.pinnedCancel p src tag) fun t =>
    t.pinOf p src tag = none ∧ (t.port p).pinned = (s.port p).pinned.erase f ∧
    t.prt.reports = s.prt.reports ++ [⟨f.src, p, f.tag, .squashed sqCancel 0⟩] ∧
    t.get (F.TSU_x_SQ_CANCEL_COUNT p) = (s.get (F.TSU_x_SQ_CANCEL_COUNT p) + 1) % 2 ^ 32 ∧
    s.RegsBut t [A.TSU_x_SQ_CANCEL p] ∧ t = { s with regs := t.regs, cnt := t.cnt, prt := t.prt })

/-- R225, R234: the last bit left: COMMITTED, counted, its bytes sent, and reported with MISMATCH where the instant measured misses T3
by more than a unit of 2^-12 ns. -/
def pinnedCommit : Prop := ∀ (s : State) (p : Fin 20) (src : Fin 8) (tag : Fin 65536) (m : TxMeta) (f : Pinned), s.Canon → PortsOk s →
  PinIs s p src tag f → f.phase = .launching →
  s.Does (.pinnedCommit p src tag m) fun t =>
    t.pinOf p src tag = none ∧ (t.port p).wire = wireBytes f.data ∧
    t.get (F.TSU_x_COMMITTED_COUNT p) = (s.get (F.TSU_x_COMMITTED_COUNT p) + 1) % 2 ^ 32 ∧
    t.prt.reports = s.prt.reports ++ [⟨f.src, p, tag, .committed (decide (1 < (((s.txInstant p m : Int) - f.t3) / 16).natAbs))⟩] ∧
    t.count (A.PRT_x_TX_FRAMES p) = (s.count (A.PRT_x_TX_FRAMES p) + 1) % 2 ^ 64 ∧
    t.count (A.PRT_x_TX_BYTES p) = (s.count (A.PRT_x_TX_BYTES p) + f.len) % 2 ^ 64 ∧
    t = { s with regs := t.regs, cnt := t.cnt, prt := t.prt, evt := t.evt }

/-- R239: an accepted PUSH appends its entry and posts RESULT 1; a refused one appends none, with the cause posted. -/
def trgPush : Prop := ∀ (s : State) (k : Fin 16), s.RegsOk → s.trg.outs.length = 16 →
  let f := timeOf (s.lastWide (A.TRG_k_AT k 0) 3)
  let w := s.lastGet (F.TRG_k_WIDTH_WIDTH k)
  let p := s.lastWide (A.TRG_k_PERIOD k) 2 % 2 ^ 48
  let n := s.lastGet (F.TRG_k_COUNT_N k)
  (s.trgCause k f w p n = 0 → s.Does (.trgPush k) fun t =>
    (t.trgOut k).entries = (s.trgOut k).entries ++ [⟨f, w, p, n, 0, 0⟩] ∧ t.get (F.TRG_k_RES_VALID k) = 1 ∧ t.get (F.TRG_k_RES_RESULT k) = 1 ∧
    t.get (F.TRG_k_RES_CAUSE k) = 0 ∧ t.get (F.TRG_k_RES_SEQ k) = (s.get (F.TRG_k_RES_SEQ k) + 1) % 256 ∧
    t.get (F.TRG_k_STAT_FILL k) = (s.trgOut k).entries.length + 1 ∧ t = { s with regs := t.regs, trg := t.trg }) ∧
  (s.trgCause k f w p n ≠ 0 → (s.trgOut k).entries.length ≤ 16 → s.Room Ev.TRG_REFUSED → s.Does (.trgPush k) fun t =>
    t.trg = s.trg ∧ t.get (F.TRG_k_RES_VALID k) = 1 ∧ t.get (F.TRG_k_RES_RESULT k) = 2 ∧ t.get (F.TRG_k_RES_CAUSE k) = s.trgCause k f w p n ∧
    s.Raised t Ev.TRG_REFUSED k (s.trgCause k f w p n) ∧ s.RegsBut t [A.TRG_k_RES k] ∧ t = { s with regs := t.regs, evt := t.evt })

/-- R240: the causes that refuse a push: disabled, too soon, not after the last entry, full, out of range. -/
def trgCauses : Prop := ∀ (s : State) (k f w p n : Nat),
  (s.flag (F.TRG_k_CFG_ENABLE k) = false → s.trgCause k f w p n = 5) ∧
  (s.flag (F.TRG_k_CFG_ENABLE k) = true → f < s.now + 2 * lsbPerUs → s.trgCause k f w p n = 1) ∧
  (s.flag (F.TRG_k_CFG_ENABLE k) = true → s.now + 2 * lsbPerUs ≤ f → ∀ e, (s.trgOut k).entries.getLast? = some e → f ≤ e.first + e.width * lsbPerNs →
    s.trgCause k f w p n = 2) ∧
  (s.trgCause k f w p n = 0 → s.now + 2 * lsbPerUs ≤ f ∧ (s.trgOut k).entries.length < 16 ∧ 2 ≤ w ∧ w ≤ 1000000000 ∧ (p = 0 → n ≠ 0) ∧
    (p ≠ 0 → (w + 2) * 4096 ≤ p ∧ 20 * 4096 ≤ p))

/-- R241: CANCEL_ALL removes every entry; a pulse that is high completes. -/
def trgCancelAll : Prop := ∀ (s : State) (k : Fin 16), s.RegsOk → s.trg.outs.length = 16 →
  s.Does (.trgCancelAll k) fun t =>
    (t.trgOut k).entries = [] ∧ (t.trgOut k).pulse = (s.trgOut k).pulse ∧ t.get (F.TRG_k_STAT_FILL k) = 0 ∧ t.flag (F.TRG_k_STAT_ACTIVE k) = false ∧
    (∀ j : Fin 16, j ≠ k → t.trgOut j = s.trgOut j) ∧ t = { s with regs := t.regs, trg := t.trg }

/-- R238, R241, R242: a firing that is due places its pulse, through the majority gate with CAL and POL, and counts, or is skipped
while the outputs are off; an entry whose count is spent is done. -/
def trgFire : Prop := ∀ (s : State) (k : Fin 16) (e : TrgEntry) (rest : List TrgEntry), s.RegsOk → s.trg.outs.length = 16 →
  trgHead (s.trgOut k).entries = e :: rest →
  (s.outsOff = false → s.Does (.trgFire k) fun t =>
    let rise := s.gateEdge ((e.due / 16 : Nat) + s.getI (F.TRG_k_CAL_CAL k))
    t.now = max s.now e.due ∧ (t.trgOut k).pulse = some ⟨⟨rise, rise + (e.width * 4096 : Nat)⟩, s.flag (F.TRG_k_CFG_POL k)⟩ ∧
    (t.trgOut k).entries = (if e.count ≠ 0 ∧ e.count ≤ e.next + 1 then rest else { e with next := e.next + 1, fired := e.fired + 1 } :: rest) ∧
    t.get (F.TRG_k_FIRED_COUNT k) = (s.get (F.TRG_k_FIRED_COUNT k) + 1) % 2 ^ 32 ∧
    t = { s with now := t.now, cyc := t.cyc, regs := t.regs, evt := t.evt, trg := t.trg }) ∧
  (s.outsOff = true → s.Does (.trgFire k) fun t =>
    (t.trgOut k).pulse = (s.trgOut k).pulse ∧ t.get (F.TRG_k_SKIPPED_COUNT k) = (s.get (F.TRG_k_SKIPPED_COUNT k) + 1) % 2 ^ 32 ∧
    t.get (F.TRG_k_FIRED_COUNT k) = s.get (F.TRG_k_FIRED_COUNT k) ∧
    (t.trgOut k).entries = (if e.count ≠ 0 ∧ e.count ≤ e.next + 1 then rest else { e with next := e.next + 1 } :: rest))


/-! ### The ledger and the service engines -/

/-- The engines stand as many as the device has, each with four contexts. -/
abbrev EnginesOk (s : State) : Prop := s.svc.engines.length = 32 ∧ ∀ n < 32, (s.engine n).ctxs.length = 4

/-- An engine runs and its context is bound to an entry. -/
abbrev Bound (s : State) (n c : Nat) (e : Entry) : Prop := s.engineUp n = true ∧ s.ctxEntry n c = some e

/-- CCLK runs, and MGT's crossing with it is open. -/
abbrev SvcCmd (s : State) : Prop := s.cclkRuns = true ∧ s.crossOpen 4 3 = true

/-- An entry withdrawn with a reason: it is out of the ledger, the others stand, and WITHDRAWN, its reason and the resolved count went
up by one. -/
abbrev Withdrawn (s t : State) (e : Entry) (reason : Nat) : Prop :=
  t.svc.ledger = s.svc.ledger.filter (fun d => d.index != e.index) ∧ t.count (A.SVC_CNT 14) = (s.count (A.SVC_CNT 14) + 1) % 2 ^ 64 ∧
  t.count (A.SVC_REASON reason) = (s.count (A.SVC_REASON reason) + 1) % 2 ^ 32 ∧ t.count (A.CLR_RESk 0) = (s.count (A.CLR_RESk 0) + 1) % 2 ^ 64

/-- R248: a classified, well-formed request joins the ledger while service is open and a place is free. -/
def requestAdmit : Prop := ∀ (s : State) (p : Fin 20) (f : RxFrame) (k : Nat × Nat), s.Canon → s.crossOpen (48 + p) 3 = true →
  (s.takeRx p 1 fun _ => true).1 = some f →
  let s1 := (s.takeRx p 1 fun _ => true).2
  s1.classify p f.data = k → k.1 ≠ 0 → checksOk f.data = true → s1.flag F.SVC_STAT_OPEN = true → s1.svc.ledger.length < ledgerSize →
  s.Does (.requestAdmit p) fun t =>
    t.svc.ledger = s.svc.ledger ++ [s1.newEntry p k.1 k.2 f] ∧ t.count (A.SVC_CNT 0) = (s.count (A.SVC_CNT 0) + 1) % 2 ^ 64 ∧
    t.count (A.CLR_ACCk 0) = (s.count (A.CLR_ACCk 0) + 1) % 2 ^ 64 ∧ t.get F.SVC_STAT_FILL = s.svc.ledger.length + 1

/-- R247, R248: a request that is unclassified, malformed, or meets a closed service is counted so and discarded. -/
def requestDiscarded : Prop := ∀ (s : State) (p : Fin 20) (f : RxFrame) (k : Nat × Nat), s.Canon → s.crossOpen (48 + p) 3 = true →
  (s.takeRx p 1 fun _ => true).1 = some f →
  let s1 := (s.takeRx p 1 fun _ => true).2
  s1.classify p f.data = k →
  (k.1 = 0 → s.Does (.requestAdmit p) fun t =>
    t.count (A.SVC_CNT 6) = (s.count (A.SVC_CNT 6) + 1) % 2 ^ 64 ∧ t = { s with cnt := t.cnt, regs := t.regs, prt := t.prt }) ∧
  (k.1 ≠ 0 → checksOk f.data = false → s.Does (.requestAdmit p) fun t =>
    t.count (A.SVC_CNT 8) = (s.count (A.SVC_CNT 8) + 1) % 2 ^ 64 ∧ t = { s with cnt := t.cnt, regs := t.regs, prt := t.prt }) ∧
  (k.1 ≠ 0 → checksOk f.data = true → s1.flag F.SVC_STAT_OPEN = false → s.Does (.requestAdmit p) fun t =>
    t.count (A.SVC_CNT 4) = (s.count (A.SVC_CNT 4) + 1) % 2 ^ 64 ∧ t = { s with cnt := t.cnt, regs := t.regs, prt := t.prt })

/-- R269: LEDGER_POP binds the next ready entry to the lowest free context and answers its word. -/
def ledgerPop : Prop := ∀ (s : State) (n : Fin 32) (e : Entry) (c : Nat), EnginesOk s → s.engineUp n = true → s.nextReady = some e →
  s.entry e.index = some e → s.freeCtx n = some c →
  s.Does (.ledgerPop n) fun t =>
    t.entry e.index = some { e with phase := .preparing, bind := some (n.val, c), returned := false } ∧ (t.ctx n c).bound = some e.index ∧
    t.reply = .words [BitVec.ofNat 32 (2 * c + 8 * e.kind + 64 * e.restart + 65536 * e.index)] ∧
    t = { s with svc := t.svc, regs := t.regs, reply := t.reply }

/-- R269, R12: with no entry ready it answers EMPTY and changes nothing else. -/
def ledgerPopEmpty : Prop := ∀ (s : State) (n : Fin 32), s.engineUp n = true → s.nextReady = none →
  exec (.ledgerPop n) s = .next { s with reply := .words [1] }

/-- R12, R270, R271: an engine's pop answers the head word of its queue and removes it. -/
def enginePops : Prop := ∀ (s : State) (n : Fin 32) (w : Word) (r : List Word), EnginesOk s → s.engineUp n = true →
  ((s.engine n).notes = w :: r → s.Does (.notePop n) fun t => t.reply = .words [w] ∧ (t.engine n).notes = r ∧ t = { s with svc := t.svc, reply := t.reply }) ∧
  ((s.engine n).recRes = w :: r → s.Does (.recResPop n) fun t =>
    t.reply = .words [w] ∧ (t.engine n).recRes = r ∧ t = { s with svc := t.svc, reply := t.reply }) ∧
  ((s.engine n).cryptoRes = w :: r → s.Does (.cryptoResPop n) fun t =>
    t.reply = .words [w] ∧ (t.engine n).cryptoRes = r ∧ t = { s with svc := t.svc, reply := t.reply }) ∧
  ((s.engine n).launchRes = w :: r → s.Does (.launchResPop n) fun t =>
    t.reply = .words [w] ∧ (t.engine n).launchRes = r ∧ t = { s with svc := t.svc, reply := t.reply }) ∧
  ((s.engine n).sealRes = w :: r → s.Does (.sealResPop n) fun t =>
    t.reply = .words [w] ∧ (t.engine n).sealRes = r ∧ t = { s with svc := t.svc, reply := t.reply })
def enginePopsEmpty : Prop := ∀ (s : State) (n : Fin 32), EnginesOk s → s.engineUp n = true →
  ((s.engine n).notes = [] → s.Does (.notePop n) fun t => t.reply = .words [1] ∧ (t.engine n).notes = [] ∧ t = { s with svc := t.svc, reply := t.reply }) ∧
  ((s.engine n).recRes = [] → s.Does (.recResPop n) fun t => t.reply = .words [1] ∧ (t.engine n).recRes = []) ∧
  ((s.engine n).cryptoRes = [] → s.Does (.cryptoResPop n) fun t => t.reply = .words [1] ∧ (t.engine n).cryptoRes = []) ∧
  ((s.engine n).launchRes = [] → s.Does (.launchResPop n) fun t => t.reply = .words [1] ∧ (t.engine n).launchRes = []) ∧
  ((s.engine n).sealRes = [] → s.Does (.sealResPop n) fun t => t.reply = .words [1] ∧ (t.engine n).sealRes = [])

/-- R12, R270: a pop answers the word that its PEEK port read. -/
def popsAnswerPeek : Prop := ∀ (s : State) (n : Fin 32), s.engineUp n = true →
  s.Does (.ledgerPop n) (fun t => t.reply = .words [s.ledgerPeek n]) ∧ s.Does (.notePop n) (fun t => t.reply = .words [s.notePeek n]) ∧
  s.Does (.recResPop n) (fun t => t.reply = .words [s.recResPeek n]) ∧ s.Does (.cryptoResPop n) (fun t => t.reply = .words [s.cryptoResPeek n]) ∧
  s.Does (.launchResPop n) (fun t => t.reply = .words [s.launchResPeek n]) ∧ s.Does (.sealResPop n) (fun t => t.reply = .words [s.sealResPeek n])

/-- R282, R290: OP 0 answers the line of the entry's record with STATUS 0, STATUS 2 for a guest; STATUS 3 where the line has an
uncorrectable error, which is noted and squashes the entry with MEMORY. -/
def recFetch : Prop := ∀ (s : State) (n : Fin 32) (c : Fin 4) (e : Entry), EnginesOk s → Bound s n c e →
  (e.guest = true → s.Does (.recFetch n c false) fun t =>
    (t.engine n).recRes = (s.engine n).recRes ++ [BitVec.ofNat 32 (2 * c + 16)] ∧ t = { s with svc := t.svc }) ∧
  (e.guest = false → (s.lineOf e.record).isSome = true → ∀ k, s.lineOf e.record = some k → (s.line k).err = false → s.injOn 0xA0 0 = false →
    s.Does (.recFetch n c false) fun t =>
      (t.engine n).recRes = (s.engine n).recRes ++ [BitVec.ofNat 32 (2 * c)] ∧
      (t.ctx n c).fetched = (Rec.zero.withLine (s.line k)).bytes e.decision 1 ∧ t = { s with svc := t.svc })
def recFetchError : Prop := ∀ (s : State) (n : Fin 32) (c : Fin 4) (e : Entry) (k : Nat), s.Canon → EnginesOk s → Bound s n c e → e.phase = .preparing →
  e.bind = some (n.val, c.val) → e.guest = false → s.lineOf e.record = some k → (s.line k).err = false → s.injOn 0xA0 0 = false →
  s.now ≤ s.limitOf e →
  s.Does (.recFetch n c true) fun t =>
    (t.engine n).recRes = (s.engine n).recRes ++ [BitVec.ofNat 32 (2 * c + 24)] ∧ (t.line k).err = true ∧
    (∃ e1, t.entry e.index = some e1 ∧ e1.phase = .preparing ∧ e1.restart = 1 ∧ e1.squashes = e.squashes + 1) ∧
    t.count (A.SVC_CAUSE sqMemory) = (s.count (A.SVC_CAUSE sqMemory) + 1) % 2 ^ 32

/-- R282: OP 1 answers the Larder record, with the fields its line holds, with STATUS 1; STATUS 4 where the read is uncorrectable. -/
def recFetchLarder : Prop := ∀ (s : State) (n : Fin 32) (c : Fin 4) (e : Entry), EnginesOk s → Bound s n c e → s.dramBusy = false → s.ldr.writes = [] →
  e.guest = false →
  (e.record ∉ s.ldr.bad → s.recEmpty e.record = false → s.Does (.recFetchLarder n c false) fun t =>
    (t.engine n).recRes = (s.engine n).recRes ++ [BitVec.ofNat 32 (2 * c + 8)] ∧ (t.ctx n c).fetched = (s.overlaid e.record).bytes e.decision 0 ∧
    t = { s with svc := t.svc }) ∧
  (s.Room Ev.LDR_LARDER_ERR → s.Does (.recFetchLarder n c true) fun t => (t.engine n).recRes = (s.engine n).recRes ++ [BitVec.ofNat 32 (2 * c + 32)] ∧
    (t.ctx n c).fetched = zeroRecord ∧ Told s t Ev.LDR_LARDER_ERR noInst (e.record + 2 * 2 ^ 24))

/-- R282: OP 2 stages a write of 64 bytes for the entry's commit, with STATUS 5. -/
def recStage : Prop := ∀ (s : State) (n : Fin 32) (c : Fin 4) (e : Entry) (d : List Byte), EnginesOk s → Bound s n c e → d.length = 64 →
  s.Does (.recStage n c d) fun t =>
    t.entry e.index = some { e with staged := some d } ∧ (t.engine n).recRes = (s.engine n).recRes ++ [BitVec.ofNat 32 (2 * c + 40)] ∧
    t = { s with svc := t.svc }

/-- R270: a push on a context that is bound to nothing changes nothing. -/
def unboundIgnored : Prop := ∀ (s : State) (n : Fin 32) (c : Fin 4) (a : List Word) (w : List (Nat × List Byte)) (d : List Byte) (r : Fin 16),
  s.ctxEntry n c = none →
  exec (.recFetch n c false) s = .next s ∧ exec (.recStage n c d) s = .next s ∧ exec (.cookieOpen n c a) s = .next s ∧
  exec (.sivVerify n c a) s = .next s ∧ exec (.hmacVerify n c a) s = .next s ∧ exec (.launchPush n c a) s = .next s ∧
  exec (.sealPush n c a w) s = .next s ∧ exec (.submitPush n c) s = .next s ∧ exec (.withdrawPush n c r) s = .next s

/-- R316, R317: a cookie of no KEYID is a failed open: STATUS 1. -/
def cookieUnknown : Prop := ∀ (s : State) (n : Fin 32) (c : Fin 4) (e : Entry) (a : List Word), s.Canon → EnginesOk s → Bound s n c e →
  argAt a 0 / 256 = 0 → argAt a 3 / 4096 % 8 = 0 → (∀ f < 4, s.ckOn f = false) →
  s.Does (.cookieOpen n c a) fun t =>
    (t.engine n).crypto = (s.engine n).crypto ++ [BitVec.ofNat 32 (2 * c + 8)] ∧ t.count (A.KEY_CNT 6) = (s.count (A.KEY_CNT 6) + 1) % 2 ^ 64 ∧
    t = { s with svc := t.svc, cnt := t.cnt }

/-- R316, R317: a cookie of the family's window under a VALID generation key opens: its two keys join the transient store of the
context, the entry is charged the generation key, STATUS 0. -/
def cookieOpened : Prop := ∀ (s : State) (n : Fin 32) (c : Fin 4) (e : Entry) (a : List Word) (f gen : Nat) (c2s s2c : List Byte), EnginesOk s →
  Bound s n c e → argAt a 0 / 256 = 0 → argAt a 3 / 4096 % 8 = 0 →
  let ck := (slice e.frame (argAt a 1 % 2048) (argAt a 1 / 65536 % 2048)).drop 4
  ((List.range 4).find? fun f => s.ckOn f && (s.reg (A.KEY_CKf_ID f)).toNat == beNat (ck.take 4)) = some f → beNat (slice ck 4 2) = gen →
  ck.length = 104 → gen ∈ s.ckWindow f → (s.mainSlot (ckSlot f gen)).state = ksValid → (s.mainSlot (ckSlot f gen)).gen = gen → s.mainTagOk (ckSlot f gen) = true →
  openCookie (s.mainSlot (ckSlot f gen)).material ck = some (c2s, s2c) →
  s.Does (.cookieOpen n c a) fun t =>
    (t.engine n).crypto = (s.engine n).crypto ++ [BitVec.ofNat 32 (2 * c)] ∧
    t.key.transient = s.key.transient.filter (fun p => p.1 / 2 != n.val * 4 + c.val) ++ [(2 * (n.val * 4 + c.val), c2s), (2 * (n.val * 4 + c.val) + 1, s2c)] ∧
    (∃ e1, t.entry e.index = some e1 ∧ ckSlot f gen ∈ e1.keys) ∧ t.regs = s.regs

/-- R312: SIV_VERIFY and HMAC_VERIFY under a handle the policy refuses answer STATUS 2; the entry is charged nothing. -/
def verifyRefused : Prop := ∀ (s : State) (n : Fin 32) (c : Fin 4) (e : Entry) (a : List Word), EnginesOk s → Bound s n c e →
  (s.useHandle n c (argAt a 0 / 256) pbSiv e = .status 2 → s.Does (.sivVerify n c a) fun t =>
    (t.engine n).crypto = (s.engine n).crypto ++ [BitVec.ofNat 32 (2 * c + 16)] ∧ t.entry e.index = s.entry e.index) ∧
  (argAt a 0 / 256 / 2 ^ 22 ≠ 3 → s.useHandle n c (argAt a 0 / 256) pbHmac e = .status 2 → s.Does (.hmacVerify n c a) fun t =>
    (t.engine n).crypto = (s.engine n).crypto ++ [BitVec.ofNat 32 (2 * c + 16)] ∧ t.entry e.index = s.entry e.index)

/-- R263, R312: under a usable key SIV_VERIFY answers STATUS 0 where the authenticator opens, else STATUS 1 and the entry is marked. -/
def sivVerify : Prop := ∀ (s : State) (n : Fin 32) (c : Fin 4) (e : Entry) (a : List Word) (m : List Byte) (key : Option Nat), EnginesOk s → Bound s n c e →
  s.useHandle n c (argAt a 0 / 256) pbSiv e = .ok m key →
  let o := argAt a 3 % 2048
  let nl := beAt e.frame (o + 4) 2
  let ct := slice e.frame (o + 8 + (nl + 3) / 4 * 4) (beAt e.frame (o + 6) 2)
  let ok : Bool := decide (16 ≤ ct.length) && (sivOpen m [slice e.frame (argAt a 2 % 2048) (argAt a 2 / 65536 % 2048), slice e.frame (o + 8) nl]
    (ct.take 16) (ct.drop 16)).isSome
  s.Does (.sivVerify n c a) fun t =>
    (t.engine n).crypto = (s.engine n).crypto ++ [BitVec.ofNat 32 (2 * c + (if ok then 0 else 8))] ∧
    (∃ e1, t.entry e.index = some e1 ∧ e1.failed = (!ok || e.failed)) ∧ t = { s with svc := t.svc, cnt := t.cnt }

/-- R312: HMAC_VERIFY likewise, for the first 16 bytes of the HMAC over the range named; an entry it verifies is marked so. A selection
that names no key fails the same way. -/
def hmacVerify : Prop := ∀ (s : State) (n : Fin 32) (c : Fin 4) (e : Entry) (a : List Word) (m : List Byte) (key : Option Nat), EnginesOk s → Bound s n c e →
  argAt a 0 / 256 / 2 ^ 22 ≠ 3 → s.useHandle n c (argAt a 0 / 256) pbHmac e = .ok m key →
  let ok : Bool := decide ((hmac m (slice e.frame (argAt a 1 % 2048) (argAt a 1 / 65536 % 2048))).take 16 = slice e.frame (argAt a 3 % 2048) 16)
  s.Does (.hmacVerify n c a) fun t =>
    (t.engine n).crypto = (s.engine n).crypto ++ [BitVec.ofNat 32 (2 * c + (if ok then 0 else 8))] ∧
    (∃ e1, t.entry e.index = some e1 ∧ e1.failed = (!ok || e.failed) ∧ e1.verified = (ok || e.verified)) ∧ t = { s with svc := t.svc, cnt := t.cnt }
def hmacNoKey : Prop := ∀ (s : State) (n : Fin 32) (c : Fin 4) (e : Entry) (a : List Word), EnginesOk s → Bound s n c e →
  argAt a 0 / 256 / 2 ^ 22 = 3 → s.selectKey (beAt e.frame (argAt a 2 % 2048) 1) (beAt e.frame (argAt a 2 % 2048 + 2) 4) = none →
  s.Does (.hmacVerify n c a) fun t =>
    (t.engine n).crypto = (s.engine n).crypto ++ [BitVec.ofNat 32 (2 * c + 8)] ∧ (∃ e1, t.entry e.index = some e1 ∧ e1.failed = true) ∧ t = { s with svc := t.svc }

/-- R310: a handle that is not of the slot's present incarnation, and one of SPACE 3, are refused. -/
def staleHandle : Prop := ∀ (s : State) (n c h bit : Nat) (e : Entry),
  (h / 2 ^ 22 = 0 → h / 4096 % 1024 ≠ (s.mainSlot (h % 4096)).incarn → s.useHandle n c h bit e = .status 3) ∧
  (h / 2 ^ 22 = 2 → h % 4096 / 2 ≠ n * 4 + c → s.useHandle n c h bit e = .status 2) ∧
  (3 ≤ h / 2 ^ 22 → s.useHandle n c h bit e = .status 2)

/-- R270: the oldest operation's result reaches the engine's queue. -/
def cryptoResult : Prop := ∀ (s : State) (n : Fin 32) (w : Word) (r : List Word), EnginesOk s → s.cclkRuns = true → (s.engine n).crypto = w :: r →
  s.Does (.cryptoResult n) fun t =>
    (t.engine n).crypto = r ∧ (t.engine n).cryptoRes = (s.engine n).cryptoRes ++ [w] ∧ t = { s with svc := t.svc }

/-- R253, R264: the ledger holds the launch request of an entry that prepares; one that must be authenticated and is not verified is
withdrawn with AUTH, which the model judges here (assumption log 80). -/
def launchPush : Prop := ∀ (s : State) (n : Fin 32) (c : Fin 4) (e : Entry) (a : List Word), s.Canon → EnginesOk s → Bound s n c e → e.phase = .preparing →
  (s.unproved e = false → s.Does (.launchPush n c a) fun t =>
    t.entry e.index = some { e with launch := some ⟨argAt a 0 % 32, argAt a 0 / 256 % 8,
      timeOf (argAt a 1 + argAt a 2 * 2 ^ 32 + argAt a 3 * 2 ^ 64), argAt a 0 / 65536 % 16384⟩ } ∧ t = { s with svc := t.svc }) ∧
  (e.kind = 3 → s.flag (F.SVC_GMi_CFG_AUTH_REQ e.inst) = true → e.verified = false → s.Does (.launchPush n c a) fun t => Withdrawn s t e wdAuth)

/-- R254: a seal request joins the queue of the insertion unit; a sealed buffer takes no write. -/
def sealPush : Prop := ∀ (s : State) (n : Fin 32) (c : Fin 4) (e : Entry) (a : List Word) (w : List (Nat × List Byte)), EnginesOk s → Bound s n c e →
  s.Does (.sealPush n c a w) fun t =>
    (t.engine n).seals = (s.engine n).seals ++ [⟨c, a⟩] ∧ ((s.ctx n c).sealed = true → (t.ctx n c).buf = (s.ctx n c).buf) ∧ t = { s with svc := t.svc }

/-- R37, R84, R254: a seal of a pinned entry with the insertions its kind needs, unauthenticated or with an HMAC: the bound of its t3 and
receive instant is asked, inserted and answered in the flags; the sealed bytes carry the bound epoch, and the key is charged. -/
def sealDone : Prop := ∀ (s : State) (n : Fin 32) (r : SealReq) (rest : List SealReq) (e : Entry) (alg len ofs b : Nat) (m : List Byte) (key : Option Nat),
  EnginesOk s → s.cclkRuns = true → (s.engine n).seals = r :: rest → r.ctx < 4 → s.ctxEntry n r.ctx = some e → e.phase = .pinned →
  alg = argAt r.args 0 % 4 → alg ≠ 1 → len = argAt r.args 1 % 4096 → 60 ≤ len → len ≤ 2048 → ofs = argAt r.args 1 / 65536 % 2048 → (alg = 2 → ofs ≤ len) →
  s.insOk (insertions (argAt r.args 2) (argAt r.args 3)) e.kind len (alg != 0) = true → b = s.boundReq e.tport e.t3 (if e.kind ≤ 3 then some e.rx else none) →
  s.sealKey n r.ctx alg (argAt r.args 0 / 256) e = .ok m key → alg ≤ 2 →
  s.Does (.sealDone n) fun t =>
    (t.engine n).seals = rest ∧ (t.ctx n r.ctx).sealed = true ∧ (t.ctx n r.ctx).epoch = s.get F.BND_EPOCH_EPOCH ∧
    (t.ctx n r.ctx).out = s.sealBytes e (s.ctx n r.ctx).buf (insertions (argAt r.args 2) (argAt r.args 3)) alg len ofs b m [] ∧
    (t.engine n).sealRes = (s.engine n).sealRes ++ [BitVec.ofNat 32 (2 * r.ctx + 8 + 256 * (s.boundFlags b % 8))] ∧
    (∃ e1, t.entry e.index = some e1 ∧ e1.slot = e.slot ∧ ∀ k, key = some k → k ∈ e1.keys) ∧ t = { s with svc := t.svc, cnt := t.cnt }

/-- R254: a seal of fewer than 60 bytes is refused as 3, and the buffer stays unsealed; one without an insertion its kind needs is refused
as 1 and squashes its frame with GUARDRAIL. -/
def sealShort : Prop := ∀ (s : State) (n : Fin 32) (r : SealReq) (rest : List SealReq) (e : Entry), EnginesOk s → s.cclkRuns = true →
  (s.engine n).seals = r :: rest → s.ctxEntry n r.ctx = some e → argAt r.args 1 % 4096 < 60 →
  s.Does (.sealDone n) fun t =>
    (t.engine n).seals = rest ∧ (t.engine n).sealRes = (s.engine n).sealRes ++ [BitVec.ofNat 32 (2 * r.ctx + 48)] ∧ t.ctx n r.ctx = s.ctx n r.ctx ∧
    t.svc.ledger = s.svc.ledger
def sealUninserted : Prop := ∀ (s : State) (n : Fin 32) (r : SealReq) (rest : List SealReq) (e : Entry) (f : Pinned), EnginesOk s → s.cclkRuns = true →
  (s.engine n).seals = r :: rest → s.ctxEntry n r.ctx = some e → e.phase = .pinned → argAt r.args 0 % 4 = 0 → 60 ≤ argAt r.args 1 % 4096 →
  argAt r.args 1 % 4096 ≤ 2048 → s.insOk (insertions (argAt r.args 2) (argAt r.args 3)) e.kind (argAt r.args 1 % 4096) false = false →
  s.pinEntry e = some f → f.phase = .reserved →
  s.Does (.sealDone n) fun t =>
    (t.engine n).sealRes = (s.engine n).sealRes ++ [BitVec.ofNat 32 (2 * r.ctx + 16)] ∧ t.ctx n r.ctx = s.ctx n r.ctx ∧
    t.prt.reports = s.prt.reports ++ [⟨f.src, e.tport, f.tag, .squashed sqGuardrail 0⟩]

/-- R85, R252: a sealed response that passes the guardrails is in its frame's buffer, its entry marked with the epoch of its bound; one
that does not is squashed. -/
def submitPush : Prop := ∀ (s : State) (n : Fin 32) (c : Fin 4) (e : Entry) (f : Pinned), s.prt.ports.length = 20 → e.tport < 20 → EnginesOk s →
  Bound s n c e → s.pinEntry e = some f → PinIs s e.tport 1 e.index f → f.phase = .reserved → (s.ctx n c).out ≠ [] → s.crossOpen 3 (16 + e.tport) = true →
  (s.txCause e.tport 1 f.cls (s.ctx n c).out = 0 → s.Does (.submitPush n c) fun t =>
    t.pinEntry e = some { f with data := (s.ctx n c).out } ∧
    t.entry e.index = some { e with epoch := (s.ctx n c).epoch, kiss := kissOf e (s.ctx n c).out } ∧ t = { s with svc := t.svc, prt := t.prt }) ∧
  (s.txCause e.tport 1 f.cls (s.ctx n c).out ≠ 0 → s.Does (.submitPush n c) fun t =>
    t.pinEntry e = none ∧ t.prt.reports = s.prt.reports ++ [⟨f.src, e.tport, f.tag, .squashed sqGuardrail 0⟩])

/-- R259, R260: an entry that prepares is withdrawn with a reason of the table: it leaves the ledger, and the reason is counted. -/
def withdrawPush : Prop := ∀ (s : State) (n : Fin 32) (c : Fin 4) (e : Entry) (r : Fin 16), s.Canon → Bound s n c e → e.phase = .preparing → 1 ≤ r.val → r.val ≤ 8 →
  s.Does (.withdrawPush n c r) fun t => Withdrawn s t e r

/-- R255, R313: a COMMITTED report ends its entry: counted, its keys charged, the entry out of the ledger. -/
def entryCommit : Prop := ∀ (s : State) (i : Fin 65536) (r : PinReport) (e : Entry), s.Canon → s.cclkRuns = true → s.reportOf i isCommitted = some r →
  s.entry i = some e → e.phase = .pinned →
  s.Does (.entryCommit i) fun t =>
    t.svc.ledger = s.svc.ledger.filter (fun d => d.index != e.index) ∧ t.count (A.SVC_CNT 10) = (s.count (A.SVC_CNT 10) + 1) % 2 ^ 64 ∧
    t.count (A.CLR_RESk 0) = (s.count (A.CLR_RESk 0) + 1) % 2 ^ 64 ∧ (∀ q ∈ t.prt.reports, ¬ (q.src = r.src ∧ q.tag = r.tag)) ∧
    (spWf (fun _ => 0) s.key.uses = true → ∀ k, e.keys.head? = some k → e.keys.length = 1 → spGet (fun _ => 0) t.key.uses k = (spGet (fun _ => 0) s.key.uses k + 1) % 2 ^ 64)

/-- R37, R250, R257: a squash that withdraws nothing returns its entry to PREPARING, one squash higher, its slot given up and its sealed
bytes gone; counted with its cause. One that withdraws it does so with the reason of its cause. -/
def entrySquash : Prop := ∀ (s : State) (i : Fin 65536) (r : PinReport) (e : Entry) (cause hint n c : Nat), s.Canon → EnginesOk s → s.cclkRuns = true →
  s.reportOf i isSquashed = some r → r.result = .squashed cause hint → cause ≠ sqCancel → cause ≠ sqGuardrail → s.entry i = some e →
  e.phase = .pinned → e.gone = false → e.bind = some (n, c) → n < 32 → c < 4 →
  (s.squashReason e cause hint = none → s.Does (.entrySquash i) fun t =>
    (∃ e1, t.entry i = some e1 ∧ e1.phase = .preparing ∧ e1.squashes = e.squashes + 1 ∧ e1.slot = 0 ∧ e1.launch = none ∧ e1.bind = e.bind ∧
      e1.restart = restartOf cause ∧ e1.frame = e.frame) ∧ (t.ctx n c).out = [] ∧ ((t.ctx n c).sealed = true → restartOf cause = 4) ∧
    t.count (A.SVC_CNT 16) = (s.count (A.SVC_CNT 16) + 1) % 2 ^ 64 ∧ t.count (A.SVC_CAUSE cause) = (s.count (A.SVC_CAUSE cause) + 1) % 2 ^ 32) ∧
  (∀ w, s.squashReason e cause hint = some w → s.Does (.entrySquash i) fun t => t.entry i = none ∧
    t.count (A.SVC_CNT 14) = (s.count (A.SVC_CNT 14) + 1) % 2 ^ 64 ∧ t.count (A.SVC_REASON w) = (s.count (A.SVC_REASON w) + 1) % 2 ^ 32)

/-- R257: what RESTART each cause gives. -/
def restartCodes : Prop :=
  restartOf sqMissed = 4 ∧ restartOf sqLink = 4 ∧ restartOf sqPause = 4 ∧ restartOf sqHandover = 4 ∧ restartOf sqPhase = 4 ∧ restartOf sqStep = 4 ∧
  restartOf sqGuardrail = 3 ∧ restartOf sqEpoch = 4 ∧ restartOf sqKey = 2 ∧ restartOf sqEngine = 1 ∧ restartOf sqMemory = 1

/-- R251: an entry not PINNED is withdrawn at its limit instant; a PINNED one keeps its slot. -/
def useLimitExpiry : Prop := ∀ (s : State) (i : Fin 65536) (e : Entry), s.Canon → s.cclkRuns = true → s.entry i = some e →
  (e.phase ≠ .pinned → s.Does (.useLimitExpiry i) fun t => t.now = max s.now (s.limitOf e) ∧ Withdrawn s t e wdLimit) ∧
  (e.phase = .pinned → exec (.useLimitExpiry i) s = .next s)

/-- R261: a withdrawal's record joins the on-chip queue, with its reason and index. -/
def journalled : Prop := ∀ (s : State) (e : Entry) (reason : Nat), s.svc.journal.length < journalDepth →
  (s.journal e reason).svc.journal = s.svc.journal ++ [s.journalRecord e reason] ∧ (s.journalRecord e reason).length = 16 ∧
  (s.journalRecord e reason)[11]? = some (BitVec.ofNat 8 reason)

/-- R272: a faulted engine reloads, its cause, program counter and contexts shown and reported; with the third fault within a second it
is held OFFLINE. -/
def engineFault : Prop := ∀ (s : State) (n : Fin 32) (cause : Fin 16) (pc addr : Word), s.RegsOk → EnginesOk s → s.engineUp n = true → s.Room Ev.SVC_ENG_FAULT →
  let recent := ((s.engine n).faults.filter fun u => decide (s.now < u + lsbPerSec)).length
  s.Does (.engineFault n cause pc addr) fun t =>
    t.engState n = (if 2 ≤ recent then enOffline else enLoading) ∧ t.get (F.SVC_SEn_STAT_CAUSE n) = cause ∧ t.reg (A.SVC_SEn_FAULT_PC n) = pc ∧
    (cause.val = 2 → t.reg (A.SVC_SEn_FAULT_ADDR n) = addr) ∧ (∀ c < 4, (t.ctx n c).bound = none) ∧ (t.engine n).faults.length = recent + 1 ∧
    Told s t Ev.SVC_ENG_FAULT n (cause + 16 * ((List.range 4).filter fun c => (s.ctx n c).bound.isSome).length)

/-- R272: so does the watchdog, with cause 4; a context with recent activity is left alone. -/
def engineWatchdog : Prop := ∀ (s : State) (n : Fin 32) (c : Fin 4), s.RegsOk → s.engineUp n = true → (s.ctx n c).bound.isSome = true →
  ((s.ctx n c).act + 100 * lsbPerUs ≤ s.now → s.Does (.engineWatchdog n c) fun t => t.running n = false ∧ t.get (F.SVC_SEn_STAT_CAUSE n) = 4) ∧
  (s.now < (s.ctx n c).act + 100 * lsbPerUs → exec (.engineWatchdog n c) s = .next s)

/-- R250, R272, R277: reloaded, an engine runs; a reset empties its queues and reloads it, the entry it prepared waiting again before the
others; ONLINE returns one held OFFLINE. -/
def engineRestarted : Prop := ∀ (s : State) (n : Fin 32), s.RegsOk → s.cclkRuns = true → s.engState n = enLoading →
  s.Does (.engineRestarted n) fun t => t.running n = true ∧ t.bit F.SVC_ENG_RUN_RUN n = true ∧
    s.RegsBut t [A.SVC_SEn_STAT n, A.SVC_ENG_RUN, A.SVC_ENG_OFFLINE] ∧ t = { s with regs := t.regs }
def engineReset : Prop := ∀ (s : State) (n : Fin 32), s.RegsOk → EnginesOk s → SvcCmd s → s.running n = true →
  s.Does (.engineReset n) fun t =>
    t.engState n = enLoading ∧ (t.engine n).notes = [] ∧ (t.engine n).recRes = [] ∧ (t.engine n).crypto = [] ∧ (t.engine n).seals = [] ∧
    (t.engine n).faults = (s.engine n).faults ∧ t.get (F.SVC_SEn_STAT_RESETS n) = min (s.get (F.SVC_SEn_STAT_RESETS n) + 1) (wid (F.SVC_SEn_STAT_RESETS n) - 1) ∧
    ∀ c < 4, (t.ctx n c).bound = none
def engineResetEntry : Prop := ∀ (s : State) (n : Fin 32) (c : Fin 4) (e : Entry), s.RegsOk → EnginesOk s → SvcCmd s → s.running n = true →
  s.ctxEntry n c = some e → (∀ d : Fin 4, d ≠ c → (s.ctx n d).bound = none) →
  (e.phase = .preparing → s.Does (.engineReset n) fun t => ∃ e1, t.entry e.index = some e1 ∧ e1.phase = .waiting ∧ e1.restart = 1 ∧ e1.returned = true ∧
    e1.bind = none ∧ e1.launch = none ∧ e1.keys = []) ∧
  (e.phase = .pinned → s.Does (.engineReset n) fun t => t.entry e.index = some { e with gone := true })
def engineOnline : Prop := ∀ (s : State) (n : Fin 32), s.RegsOk → EnginesOk s → SvcCmd s → s.engState n = enOffline → s.Room Ev.SVC_ENG_ONLINE →
  s.Does (.engineOnline n) fun t => t.running n = true ∧ (t.engine n).faults = [] ∧ s.Raised t Ev.SVC_ENG_ONLINE n 0 ∧
    t = { s with regs := t.regs, svc := t.svc, evt := t.evt }

/-- R275: CNT_SNAP shows the live counters and changes no other register. -/
def svcCntSnap : Prop := ∀ s : State, s.RegsOk → SvcCmd s →
  s.Does .svcCntSnap fun t =>
    (∀ i < 12, t.wide (A.SVC_CNT (2 * i)) 2 = s.count (A.SVC_CNT (2 * i)) % 2 ^ 64) ∧
    (∀ i < 12, (t.reg (A.SVC_CAUSE i)).toNat = s.count (A.SVC_CAUSE i) % 2 ^ 32) ∧
    (∀ i < 9, (t.reg (A.SVC_REASON i)).toNat = s.count (A.SVC_REASON i) % 2 ^ 32) ∧
    s.RegsBut t ((List.range 24).map (fun i => A.SVC_CNT 0 + 4 * i) ++ (List.range 12).map (fun i => A.SVC_CAUSE i) ++ (List.range 9).map (fun i => A.SVC_REASON i)) ∧
    t = { s with regs := t.regs }

/-- R186, R189: while CCLK stands, or its crossing with MGT is closed, a command for the engines or SVC's counters waits. -/
def svcCmdWaits : Prop := ∀ (s : State) (n : Fin 32), ¬ SvcCmd s → s.xdc.cmds = [] →
  s.Does .svcCntSnap (fun t => t.xdc.cmds = [(.mgt, A.SVC_CMD, 1)] ∧ t = { s with xdc := t.xdc }) ∧
  s.Does (.engineReset n) (fun t => t.xdc.cmds = [(.mgt, A.SVC_SEn_CMD n, 1)] ∧ t = { s with xdc := t.xdc }) ∧
  s.Does (.engineOnline n) (fun t => t.xdc.cmds = [(.mgt, A.SVC_SEn_CMD n, 2)] ∧ t = { s with xdc := t.xdc })

/-- R12, R261: a pop of the journal answers its word, the records it holds with the head's index, and removes the head record. -/
def svcJnlPop : Prop := ∀ s : State,
  s.Does .svcJnlPop fun t =>
    t.svc = { s.svc with journal := s.svc.journal.drop 1, jnlDisc := false } ∧
    (s.svc.journal = [] → t.reply = .words [1]) ∧
    (∀ r, s.svc.journal.head? = some r → t.reply = .words [BitVec.ofNat 32 (2 * s.svc.journal.length + leNat ((r.drop 12).take 2) * 65536)]) ∧
    t = { s with svc := t.svc, reply := t.reply }

/-- R266: an enabled instance of a unit that serves queues its Announce, with its quality fields written in; its clockAccuracy follows as
it leaves. -/
def announceSend : Prop := ∀ (s : State) (i c : Fin 8) (d x : List Byte) (o : Nat) (l : List TxFrame), s.prt.ports.length = 20 → s.gmPort i < 20 →
  s.gmSends i = true → (ptpOf d).map (·.1) = some o → x = s.announceFields i o d → TxNew s (s.gmPort i) 2 c x none → s.portUp (s.gmPort i) = true →
  s.txCause (s.gmPort i) 2 c x = 0 → (s.port (s.gmPort i)).txq[c.val]? = some l → d.length ≤ x.length →
  s.Does (.announceSend i c d) fun t =>
    (t.port (s.gmPort i)).txq[c.val]? = some (l ++ [⟨2, c, x, none, d.length, 0, some (i.val, o + 49)⟩]) ∧ t = { s with prt := t.prt }

/-- R266, R403: an instance that is not enabled, or of a unit that does not serve, sends nothing. -/
def gmSilent : Prop := ∀ (s : State) (i c : Fin 8) (d : List Byte) (ins : List (Nat × Nat)) (due e : Nat) (tag : Fin 65536), s.gmSends i = false →
  exec (.announceSend i c d) s = .next s ∧ exec (.syncSend i c d ins due e tag) s = .next s

/-- R266: a two-step Sync is queued with STAMP; a one-step Sync is pinned at the slot granted, or skipped and counted. -/
def syncTwoStep : Prop := ∀ (s : State) (i c : Fin 8) (d : List Byte) (ins : List (Nat × Nat)) (due e : Nat) (tag : Fin 65536) (l : List TxFrame),
  s.prt.ports.length = 20 → s.gmPort i < 20 → s.gmSends i = true → s.flag (F.SVC_GMi_CFG_ONE_STEP i) = false → TxNew s (s.gmPort i) 2 c d (some tag.val) →
  s.portUp (s.gmPort i) = true → s.txCause (s.gmPort i) 2 c d = 0 → (s.port (s.gmPort i)).txq[c.val]? = some l →
  s.Does (.syncSend i c d ins due e tag) fun t =>
    (t.port (s.gmPort i)).txq[c.val]? = some (l ++ [⟨2, c, d, some tag, d.length, 0, none⟩]) ∧ t = { s with prt := t.prt }
def syncSkipped : Prop := ∀ (s : State) (i c : Fin 8) (d : List Byte) (ins : List (Nat × Nat)) (due e : Nat) (tag : Fin 65536), s.Canon →
  s.gmSends i = true → s.flag (F.SVC_GMi_CFG_ONE_STEP i) = true → (s.port (s.gmPort i)).phase = none →
  s.Does (.syncSend i c d ins due e tag) fun t => t.count (A.SVC_CNT 22) = (s.count (A.SVC_CNT 22) + 1) % 2 ^ 64 ∧ t.prt.ports = s.prt.ports
def syncPinned : Prop := ∀ (s : State) (i c : Fin 8) (d : List Byte) (ins : List (Nat × Nat)) (due e slot t3 dl : Nat) (tag : Fin 65536),
  s.prt.ports.length = 20 → s.gmPort i < 20 → s.gmSends i = true → s.flag (F.SVC_GMi_CFG_ONE_STEP i) = true → s.prt.reports = [] → s.pauseOf (s.gmPort i) c = [] →
  let g := s.reserve (s.gmPort i) c 2 e (wireLen d) false tag
  let x := ins.foldl (fun x k => s.insert x k.1 k.2 t3 (s.boundReq (s.gmPort i) t3 none) i) d
  g.1 = .granted slot t3 dl → slot ≤ due + s.syncGrace i → s.pinOf (s.gmPort i) 2 tag = none →
  (s.syncIns ins d.length = true → s.txCause (s.gmPort i) 2 c x = 0 → s.Does (.syncSend i c d ins due e tag) fun t =>
    ∃ f, t.pinOf (s.gmPort i) 2 tag = some f ∧ f.data = x ∧ f.slot = slot ∧ f.t3 = t3) ∧
  (s.syncIns ins d.length = false → s.Does (.syncSend i c d ins due e tag) fun t =>
    t.pinOf (s.gmPort i) 2 tag = none ∧ t.prt.reports = [⟨2, s.gmPort i, tag, .squashed sqGuardrail 0⟩])

/-- R91, R254, R266: a one-step Sync must name PTP_T, and PTP_TLV while the TLV is on. -/
def syncNames : Prop := ∀ (s : State) (ins : List (Nat × Nat)) (len : Nat), s.syncIns ins len = true →
  (∃ o, (6, o) ∈ ins) ∧ (s.flag F.BND_CFG_PTP_TLV = true → ∃ o, (4, o) ∈ ins) ∧ ∀ k ∈ ins, k.1 ≤ 6 ∧ k.2 + insLen k.1 ≤ len


/-! ### Client state -/

/-- R287, R290, R291: the oldest outcome write is performed on its record, which becomes dirty: the fields of its line, as the outcome
leaves it, with the outcome's counts added; nothing else of DRAM changes. Where the copy is uncorrectable that is counted and reported. -/
def larderWriteThrough : Prop := ∀ (s : State) (w : OutWrite) (rest : List OutWrite), s.Canon → s.cclkRuns = true → s.dramBusy = false →
  s.ldr.writes = w :: rest →
  (w.index ∉ s.ldr.bad → s.Does (.larderWriteThrough false) fun t =>
    t.ldr.writes = rest ∧ w.index ∈ t.ldr.dirty ∧
    t.recBytes w.index = (((s.record w.index).withLine (match s.lineOf w.index with
      | some n => s.line n
      | none => ((s.record w.index).line w.index).outcome w)).addCounts w).bytes 0 0 ∧
    s.BytesBut t (s.larderBase + 64 * w.index) 64 ∧ t = { s with ldr := t.ldr, dram := t.dram, mem := t.mem }) ∧
  (s.Room Ev.LDR_LARDER_ERR → s.Does (.larderWriteThrough true) fun t =>
    t.ldr.writes = rest ∧ t.count (A.LDR_CNT 20) = (s.count (A.LDR_CNT 20) + 1) % 2 ^ 64 ∧ Told s t Ev.LDR_LARDER_ERR noInst (w.index + 3 * 2 ^ 24))
def larderBusy : Prop := ∀ (s : State) (err : Bool), (s.dramBusy = true ∨ s.cclkRuns = false) → exec (.larderWriteThrough err) s = .next s

/-- R284, R286: a client found in the Pantry: its entry resolved with the decision, its line pinned by it. -/
def clientHit : Prop := ∀ (s : State) (e : Entry) (n : Nat), s.Canon → s.cclkRuns = true → s.nextLookup = some e →
  s.ldr.writes = [] → s.ldr.bad = [] → (∀ p ∈ s.ldr.lines, p.2.err = false) → s.pantryHit (s.hash e.addr e.kclass) e.addr e.kclass = some n →
  s.entry e.index = some e →
  s.Does (.clientLookup []) fun t =>
    t.entry e.index =
      some { e with resolved := true, record := (s.line n).index, bucket := (s.hash e.addr e.kclass).b1, decision := (s.rateDecide (s.line n) e.kind).1 } ∧
    (t.line n).tail = e.index ∧ (t.line n).tailValid = true ∧ (t.line n).held = (s.rateDecide (s.line n) e.kind).2.held ∧
    t.count (A.LDR_CNT 0) = (s.count (A.LDR_CNT 0) + 1) % 2 ^ 64 ∧
    t.count (A.LDR_CNT 2) = (s.count (A.LDR_CNT 2) + 1) % 2 ^ 64 ∧ t = { s with ldr := t.ldr, svc := t.svc, cnt := t.cnt, regs := t.regs }

/-- R166, R284: with nothing unresolved, or CCLK standing, a lookup changes nothing; so does one that misses while DRAM serves no request. -/
def clientNone : Prop := ∀ (s : State) (l : List Nat), ((s.nextLookup = none ∨ s.cclkRuns = false) → exec (.clientLookup l) s = .next s) ∧
  (s.dramBusy = true → ∀ e, s.nextLookup = some e → s.pantryHit (s.hash e.addr e.kclass) e.addr e.kclass = none → exec (.clientLookup l) s = .next s)

/-- R286: DENY silences; otherwise a client with 256 tokens for each held request and this one is allowed and holds one more,
and an NTP client of a class with OVER gets a kiss-o'-death. -/
def rateDecision : Prop := ∀ (s : State) (l : Line) (kind : Nat),
  (l.flags % 2 = 1 → s.rateDecide l kind = (2, l)) ∧
  (l.flags % 2 = 0 → s.flag (F.LDR_RCLASSc_UNLIMITED (l.ctrl % 8)) = true → l.held < 255 → s.rateDecide l kind = (0, { l with held := l.held + 1 })) ∧
  (l.flags % 2 = 0 → s.flag (F.LDR_RCLASSc_UNLIMITED (l.ctrl % 8)) = false →
    ((s.rateDecide l kind).1 = 0 ↔ l.held < 255 ∧ 256 * (l.held + 1) ≤ (s.rateDecide l kind).2.tokens) ∧
    ((s.rateDecide l kind).1 = 0 → (s.rateDecide l kind).2.held = l.held + 1) ∧
    ((s.rateDecide l kind).1 ≠ 0 → (s.rateDecide l kind).2.held = l.held ∧
      (s.rateDecide l kind).1 = (if s.flag (F.LDR_RCLASSc_OVER (l.ctrl % 8)) ∧ (kind = 1 ∨ kind = 2) then 1 else 2)) ∧
    (s.rateDecide l kind).2.tokens ≤ s.get (F.LDR_RCLASSc_BURST (l.ctrl % 8)) * 256)

/-- R288: a record of no recent use, unpinned and without a live grant, ages out; a younger one stands. -/
def recordAgeOut : Prop := ∀ (s : State) (i : Fin 8388608), s.Canon → s.cclkRuns = true → s.dramBusy = false → s.ldr.writes = [] → s.lineOf i = none → s.recEmpty i = false →
  s.liveGrant (s.record i).flags (s.record i).grantEnd = false →
  (s.ageTicks ≤ since s.tick32 (s.record i).lastTick 32 → s.Does (.recordAgeOut i) fun t =>
    t.count (A.LDR_CNT 10) = (s.count (A.LDR_CNT 10) + 1) % 2 ^ 64 ∧ t.get F.LDR_LIVE_LIVE = s.get F.LDR_LIVE_LIVE - 1 ∧ i.val ∈ t.ldr.dirty ∧
    t.recEmpty i = true ∧ s.BytesBut t (s.larderBase + 64 * i) 64 ∧ t = { s with ldr := t.ldr, dram := t.dram, mem := t.mem, cnt := t.cnt, regs := t.regs }) ∧
  (since s.tick32 (s.record i).lastTick 32 < s.ageTicks → exec (.recordAgeOut i) s = .next s)

/-- R289: an expired grant leaves the list. -/
def grantExpire : Prop := ∀ (s : State) (i : Fin 8388608), s.cclkRuns = true → i.val ∈ s.ldr.grants →
  ((match s.resident i with
    | some l => l.grantEnd
    | none => (s.record i).grantEnd) : Nat) ≤ s.sec32 →
  s.Does (.grantExpire i) fun t => t.ldr = { s.ldr with grants := s.ldr.grants.erase i } ∧ t = { s with ldr := t.ldr, regs := t.regs }

/-- R290: a pinned line in error is refilled, HELD counted from the ledger. -/
def pantryRebuildDone : Prop := ∀ (s : State) (n : Fin 262144), s.Canon → s.cclkRuns = true → (s.line n).err = true → (s.line n).tailValid = true → s.dramBusy = false → s.ldr.writes = [] →
  let live := s.svc.ledger.filter fun e => e.resolved && !e.guest && e.record == (s.line n).index
  s.Does (.pantryRebuildDone n) fun t =>
    (t.line n).err = false ∧ (t.line n).index = (s.line n).index ∧ (t.line n).held = min 255 (live.filter fun e => e.decision == 0).length ∧
    (t.line n).tailValid = !live.isEmpty ∧ t.count (A.LDR_CNT 22) = (s.count (A.LDR_CNT 22) + 1) % 2 ^ 64

/-- R293: the fill complete, READY sets once and for all. -/
def ldrReady : Prop := ∀ (s : State) (ms : Fin 65536), s.RegsOk → s.Room Ev.LDR_READY →
  (s.flag F.LDR_STAT_READY = false → s.Does (.ldrReady ms) fun t =>
    t.flag F.LDR_STAT_READY = true ∧ t.flag F.MEM_STAT_LARDER_FILLED = true ∧ s.Raised t Ev.LDR_READY 0xFF ms ∧ s.RegsBut t [A.LDR_STAT, A.MEM_STAT]) ∧
  (s.flag F.LDR_STAT_READY = true → exec (.ldrReady ms) s = .next s)

/-- R294: FIND posts whether the key has a record, where it lies, whether it is resident, and the record with its line's fields. -/
def ldrFind : Prop := ∀ s : State, s.RegsOk → SvcCmd s → s.dramBusy = false → s.ldr.writes = [] →
  (s.peekClient s.queryKey = none → s.Does .ldrFind fun t =>
    t.get F.LDR_QRES_VALID = 1 ∧ t.get F.LDR_QRES_FOUND = 0 ∧ t.get F.LDR_QRES_REFUSED = 0 ∧ s.RegsBut t [A.LDR_QRES] ∧ t = { s with regs := t.regs }) ∧
  (∀ i, s.peekClient s.queryKey = some i → s.Does .ldrFind fun t =>
    t.get F.LDR_QRES_VALID = 1 ∧ t.get F.LDR_QRES_FOUND = 1 ∧ t.get F.LDR_QRES_INDEX_INDEX = i % 2 ^ 23 ∧
    t.flag F.LDR_QRES_RESIDENT = (s.lineOf i).isSome ∧
    (∀ w < 16, (t.reg (A.LDR_QREC w)).toNat = leNat (slice ((s.overlaid i).bytes 0 0) (4 * w) 4)) ∧ t = { s with regs := t.regs })

/-- R294: a SET on a known key waits for the tick; on an unknown one it is refused. -/
def ldrSet : Prop := ∀ s : State, s.RegsOk → SvcCmd s → s.dramBusy = false → s.ldr.writes = [] →
  (s.peekClient s.queryKey = none → s.Does .ldrSet fun t => t.get F.LDR_QRES_REFUSED = 1 ∧ t = { s with regs := t.regs }) ∧
  (∀ i, s.peekClient s.queryKey = some i → s.Does .ldrSet fun t =>
    t.ldr.sets = s.ldr.sets ++ [(i, s.lastGet F.LDR_Q_CMD_RCLASS, s.lastGet F.LDR_Q_CMD_DENY == 1)] ∧ t.get F.LDR_QRES_FOUND = 1 ∧
    t = { s with ldr := t.ldr, regs := t.regs })

/-- R295: CNT_SNAP shows the live counters and changes no other register. -/
def ldrCntSnap : Prop := ∀ s : State, s.RegsOk → SvcCmd s →
  s.Does .ldrCntSnap fun t => (∀ i < 12, t.wide (A.LDR_CNT (2 * i)) 2 = s.count (A.LDR_CNT (2 * i)) % 2 ^ 64) ∧
    s.RegsBut t ((List.range 24).map fun i => A.LDR_CNT 0 + 4 * i) ∧ t = { s with regs := t.regs }

/-- R186, R188, R189: a query of LDR waits while its strobe cannot cross or DRAM serves no request; the counters' command while its strobe
cannot cross. -/
def ldrWaits : Prop := ∀ s : State, s.xdc.cmds = [] →
  ((s.dramBusy = true ∨ ¬ SvcCmd s) → s.Does .ldrFind (fun t => t.xdc.cmds.map (·.2.1) = [A.LDR_Q_CMD] ∧ t = { s with xdc := t.xdc }) ∧
    s.Does .ldrSet fun t => t.xdc.cmds.map (·.2.1) = [A.LDR_Q_CMD] ∧ t = { s with xdc := t.xdc }) ∧
  (¬ SvcCmd s → s.Does .ldrCntSnap fun t => t.xdc.cmds = [(.mgt, A.LDR_CMD, 1)] ∧ t = { s with xdc := t.xdc })


/-! ### Keys -/

/-- The slots stand in canonical form. -/
abbrev KeysOk (s : State) : Prop := spWf blankSlot s.key.main = true ∧ spWf blankSlot s.key.cellar = true

/-- A command's result as posted: done. -/
def KeyDone (s t : State) (op : Nat) : Prop :=
  t.get F.KEY_RES_VALID = 1 ∧ t.get F.KEY_RES_RESULT = 1 ∧ t.get F.KEY_RES_CAUSE = 0 ∧ t.get F.KEY_RES_OP = op ∧
  t.get F.KEY_RES_SEQ = (s.get F.KEY_RES_SEQ + 1) % 256

/-- Refused with a cause, nothing else changed. -/
def KeyRefused (s t : State) (op cause : Nat) : Prop :=
  t.get F.KEY_RES_VALID = 1 ∧ t.get F.KEY_RES_RESULT = 2 ∧ t.get F.KEY_RES_CAUSE = cause ∧ t.get F.KEY_RES_OP = op ∧
  s.Raised t Ev.KEY_CMD_REFUSED 0xFF (op + 16 * cause) ∧ s.RegsBut t [A.KEY_RES] ∧ t = { s with regs := t.regs, evt := t.evt }

/-- The spare slot of key `n` holds staged material, under a tag that passes; every other slot and the commit word stand. -/
def KeyStagedAs (s t : State) (n state : Nat) (material : List Byte) : Prop :=
  (t.cellarSlot (s.spareIdx n)).state = state ∧ (t.cellarSlot (s.spareIdx n)).material = material ∧
  (t.cellarSlot (s.spareIdx n)).gen = (if s.keyLive n then ((s.cellarSlot (s.liveIdx n)).gen + 1) % 65536 else 1) ∧
  t.cellarTagOk (s.spareIdx n) = true ∧ (∀ j, j ≠ s.spareIdx n → t.cellarSlot j = s.cellarSlot j) ∧
  t.key = { s.key with cellar := t.key.cellar, draws := t.key.draws, requests := t.key.requests }

/-- R304, R323: GENERATE stages 32 random bytes. -/
def keyGenerate : Prop := ∀ (s : State) (a : KeyArgs), s.RegsOk → SvcCmd s → KeysOk s → keySrcOk a = true → s.stageCause a = 0 → s.rngOk = true →
  s.Does (.keyGenerate a) fun t =>
    KeyDone s t opGenerate ∧ KeyStagedAs s t (s.keyArg a 0) ksStaged (s.random 32).1 ∧ t.key.requests = s.key.requests + 1 ∧
    t = { s with regs := t.regs, key := t.key }

/-- R304, R306: IMPORT stages the material that the wrapping key unwraps, and is refused with cause 5 where the check of the
unwrapping fails; IMPORT_LOCAL the words of KEY_WRAP. -/
def keyImport : Prop := ∀ (s : State) (a : KeyArgs) (k : KeySlot), s.RegsOk → SvcCmd s → KeysOk s → keySrcOk a = true → s.stageCause a = 0 →
  s.wrapKey (s.keyArg a 1 % 2 ^ 24) = .ok k → s.Room Ev.KEY_CMD_REFUSED →
  s.Does (.keyImport a) fun t =>
    match aesUnwrap k.material (s.wrapBytes 10) with
    | some m => KeyDone s t opImport ∧ KeyStagedAs s t (s.keyArg a 0) ksStaged m ∧ t = { s with regs := t.regs, key := t.key }
    | none => KeyRefused s t opImport 5
def keyImportLocal : Prop := ∀ (s : State) (a : KeyArgs), s.RegsOk → SvcCmd s → KeysOk s → a.src = .spi → s.flag F.KEY_CFG_LOCAL_PROVISION = true → s.anyLive = false →
  s.stageCause a = 0 →
  s.Does (.keyImportLocal a) fun t =>
    KeyDone s t opImportLocal ∧ KeyStagedAs s t (s.keyArg a 0) ksStaged (s.wrapBytes 8) ∧ t = { s with regs := t.regs, key := t.key }

/-- R304: ERASE of a LIVE key stages an erasure. -/
def keyErase : Prop := ∀ (s : State) (a : KeyArgs), s.RegsOk → SvcCmd s → KeysOk s → keySrcOk a = true → s.keyArg a 0 < 8 →
  s.keyLive (s.keyArg a 0) = true → s.keyStaged (s.keyArg a 0) = false →
  s.Does (.keyErase a) fun t =>
    KeyDone s t opErase ∧ KeyStagedAs s t (s.keyArg a 0) ksStagedErase (List.replicate 32 0) ∧
    (t.cellarSlot (s.spareIdx (s.keyArg a 0))).policy = 0 ∧ t = { s with regs := t.regs, key := t.key }

/-- R304: COMMIT of staged keys waits for the tick, no key changed; ABORT leaves none of them staged. -/
def keyCommit : Prop := ∀ (s : State) (a : KeyArgs), s.RegsOk → SvcCmd s → keySrcOk a = true → s.maskCause (s.keyArg a 0) = 0 →
  s.Does (.keyCommit a) fun t =>
    KeyDone s t opCommit ∧ t.key = { s.key with commitMask := (maskKeys (s.keyArg a 0)).foldl (fun c n => natSetBit c n true) s.key.commitMask } ∧
    t = { s with regs := t.regs, key := t.key }
def keyAbort : Prop := ∀ (s : State) (a : KeyArgs), s.RegsOk → SvcCmd s → KeysOk s → keySrcOk a = true → s.maskCause (s.keyArg a 0) = 0 →
  s.Does (.keyAbort a) fun t =>
    KeyDone s t opAbort ∧ (∀ n ∈ maskKeys (s.keyArg a 0), t.keyStaged n = false) ∧ t.key.commit = s.key.commit ∧
    t = { s with regs := t.regs, key := t.key }

/-- R300, R301, R307: DERIVE writes a child of its parent into a free slot and answers its handle. -/
def keyDerive : Prop := ∀ (s : State) (a : KeyArgs) (p : KeySlot) (pf : Nat) (pend : Bool), s.RegsOk → SvcCmd s → KeysOk s → a.src ≠ .spi →
  let i := s.keyArg a 4 / 65536 % 4096
  let label := beBytes 4 (s.keyArg a 2) ++ beBytes 4 (s.keyArg a 3)
  i < 4064 → (s.mainSlot i).state = ksEmpty → policyOk (s.keyArg a 5) = true → s.keyArg a 5 / 4 % 2 = 0 → s.keyArg a 5 / 16 % 2 = 0 →
  s.parentOf (s.keyArg a 0 % 2 ^ 24) = .ok (p, pf, pend) → p.has pbDerive = true → p.depth < 3 → s.keyArg a 1 / 2 ^ 24 % 2 = 0 →
  s.Does (.keyDerive a) fun t =>
    KeyDone s t opDerive ∧ (t.mainSlot i).material = hkdf p.material label (s.keyArg a 4 % 65536) ∧ (t.mainSlot i).parent = pf ∧
    (t.mainSlot i).depth = p.depth + 1 ∧ (t.mainSlot i).state = (if pend then ksPending else ksValid) ∧ (t.mainSlot i).policy = s.keyArg a 5 ∧
    (t.mainSlot i).incarn = ((s.mainSlot i).incarn + 1) % 1024 ∧ t.get F.KEY_RES_HANDLE_HANDLE = t.handleOf i ∧ t.mainTagOk i = true ∧
    (∀ j, j ≠ i → t.mainSlot j = s.mainSlot j) ∧ t = { s with regs := t.regs, key := t.key }

/-- R308: INVALIDATE of a VALID slot waits for the tick. -/
def keyInvalidate : Prop := ∀ (s : State) (a : KeyArgs) (i : Nat), s.RegsOk → SvcCmd s → keySrcOk a = true → s.namedMain (s.keyArg a 0 % 2 ^ 24) = some i →
  (s.mainSlot i).state = ksValid →
  s.Does (.keyInvalidate a) fun t =>
    KeyDone s t opInvalidate ∧ t.key = { s.key with inval := s.key.inval ++ [(i, 1)] } ∧ t = { s with regs := t.regs, key := t.key }

/-- R309: SET_SUCC links a slot to a fit successor, or clears the link. -/
def keySetSucc : Prop := ∀ (s : State) (a : KeyArgs) (i : Nat), s.RegsOk → SvcCmd s → KeysOk s → keySrcOk a = true → s.namedMain (s.keyArg a 0 % 2 ^ 24) = some i →
  (s.mainSlot i).state ≠ ksEmpty →
  (s.keyArg a 1 / 2 ^ 24 % 2 = 0 → s.Does (.keySetSucc a) fun t =>
    KeyDone s t opSetSucc ∧ (t.mainSlot i).succ = none ∧ (∀ j, j ≠ i → t.mainSlot j = s.mainSlot j) ∧ t = { s with regs := t.regs, key := t.key }) ∧
  (s.keyArg a 1 / 2 ^ 24 % 2 = 1 → s.succFit (s.keyArg a 1 % 2 ^ 24) (s.mainSlot i).policy = true → s.Does (.keySetSucc a) fun t =>
    KeyDone s t opSetSucc ∧ (t.mainSlot i).succ = some (s.keyArg a 1 % 4096) ∧ (t.mainSlot i).material = (s.mainSlot i).material ∧
    (∀ j, j ≠ i → t.mainSlot j = s.mainSlot j) ∧ t = { s with regs := t.regs, key := t.key })

/-- R307: FREE of an INVALID slot empties it; its INCARN stands. -/
def keyFree : Prop := ∀ (s : State) (a : KeyArgs) (i : Nat), s.RegsOk → SvcCmd s → KeysOk s → keySrcOk a = true → s.namedMain (s.keyArg a 0 % 2 ^ 24) = some i →
  (s.mainSlot i).state = ksInvalid →
  s.Does (.keyFree a) fun t =>
    KeyDone s t opFree ∧ t.mainSlot i = { KeySlot.blank with incarn := (s.mainSlot i).incarn } ∧ t.key.cellar = s.key.cellar ∧
    t = { s with regs := t.regs, key := t.key }

/-- R315: COOKIE_ROLL of an enabled family waits for the tick. -/
def cookieRoll : Prop := ∀ (s : State) (a : KeyArgs), s.RegsOk → SvcCmd s → keySrcOk a = true → s.keyArg a 0 < 4 → s.ckOn (s.keyArg a 0) = true →
  s.Does (.cookieRoll a) fun t =>
    KeyDone s t opRoll ∧ t.key = { s.key with rolls := s.key.rolls ++ [s.keyArg a 0] } ∧ t = { s with regs := t.regs, key := t.key }

/-- R322: TAMPER_DISARM clears the arm bits of its mask, from Twivon only. -/
def tamperDisarm : Prop := ∀ (s : State) (a : KeyArgs), s.RegsOk → SvcCmd s → a.src = .twivon → s.keyArg a 0 < 2048 → s.keyArg a 0 / 16 % 16 = 0 →
  s.Does (.tamperDisarm a) fun t =>
    KeyDone s t opDisarm ∧ t.get F.KEY_TAMPER_CFG_ARM_IN = natAnd (s.get F.KEY_TAMPER_CFG_ARM_IN) (15 - s.keyArg a 0 % 16) ∧
    t.get F.KEY_TAMPER_CFG_ARM_SENS = natAnd (s.get F.KEY_TAMPER_CFG_ARM_SENS) (7 - s.keyArg a 0 / 256) ∧ t = { s with regs := t.regs }

/-- R325: what the SPI port may not command is refused with cause 1. -/
def keySources : Prop := ∀ (s : State) (a : KeyArgs), s.RegsOk → SvcCmd s → s.Room Ev.KEY_CMD_REFUSED → a.src = .spi →
  s.Does (.keyGenerate a) (KeyRefused s · opGenerate 1) ∧ s.Does (.keyImport a) (KeyRefused s · opImport 1) ∧
  s.Does (.keyErase a) (KeyRefused s · opErase 1) ∧ s.Does (.keyCommit a) (KeyRefused s · opCommit 1) ∧
  s.Does (.keyAbort a) (KeyRefused s · opAbort 1) ∧ s.Does (.keyDerive a) (KeyRefused s · opDerive 1) ∧
  s.Does (.keyInvalidate a) (KeyRefused s · opInvalidate 1) ∧ s.Does (.keySetSucc a) (KeyRefused s · opSetSucc 1) ∧
  s.Does (.keyFree a) (KeyRefused s · opFree 1) ∧ s.Does (.cookieRoll a) (KeyRefused s · opRoll 1) ∧
  s.Does (.tamperDisarm a) (KeyRefused s · opDisarm 1)

/-- R304: the checks GENERATE and the imports share, in order. -/
def stageCauses : Prop := ∀ (s : State) (a : KeyArgs),
  (8 ≤ s.keyArg a 0 → s.stageCause a = 2) ∧ (s.keyArg a 0 < 8 → policyOk (s.keyArg a 5) = false → s.stageCause a = 10) ∧
  (s.keyArg a 0 < 8 → policyOk (s.keyArg a 5) = true → s.stageCause a = (if s.keyStaged (s.keyArg a 0) then 7 else 0))

/-- R307, R308: at a tick boundary an expired VALID key becomes INVALID with every VALID key below it, and KEY_INVALIDATE names it
with cause 4; one not expired stands, and between boundaries nothing expires. -/
def keyExpiry : Prop := ∀ (s : State) (i : Fin 4096), KeysOk s →
  (s.atTick = true → s.cclkRuns = true → s.expired i = true → (s.mainSlot i).state = ksValid → s.Room Ev.KEY_INVALIDATE → s.svc.ledger = [] →
    s.Does (.keyExpiry i) fun t =>
      (t.mainSlot i).state = ksInvalid ∧ (t.mainSlot i).material = (s.mainSlot i).material ∧
      (∀ j ∈ s.kids i, (t.mainSlot j).state ≠ ksValid) ∧ s.Raised t Ev.KEY_INVALIDATE 0xFF (i + 4096 * 4) ∧
      t.key = { s.key with main := t.key.main } ∧ t = { s with key := t.key, evt := t.evt }) ∧
  (s.atTick = false ∨ s.expired i = false → exec (.keyExpiry i) s = .next s)

/-- R299: once every 1,024 ticks; a check that finds every tag good only notes the tick; a VALID main slot whose tag fails is to be
invalidated at the next tick, with cause 5, and KEY_TAG_FAIL names it. A check that comes earlier checks nothing. -/
def keyTagCheck : Prop := ∀ s : State,
  (s.cclkRuns = true → (s.key.checked = 0 ∨ s.key.checked + 1023 ≤ s.curTick) →
    (∀ p ∈ s.key.main, s.mainTagOk p.1 = true) → (∀ p ∈ s.key.cellar, s.cellarTagOk p.1 = true) →
    s.Does .keyTagCheck fun t => t = { s with key := { s.key with checked := s.curTick + 1 } }) ∧
  (∀ i k, s.cclkRuns = true → s.key.checked = 0 → s.Room Ev.KEY_TAG_FAIL → s.key.main = [(i, k)] → s.key.cellar = [] → k.state = ksValid →
    k.tag ≠ k.tagOf 0 i → s.Does .keyTagCheck fun t =>
      (t.mainSlot i).state = ksValid ∧ (t.mainSlot i).tagOk = false ∧ t.key.inval = s.key.inval ++ [(i, 5)] ∧ s.Raised t Ev.KEY_TAG_FAIL 0xFF i) ∧
  (0 < s.key.checked → s.curTick < s.key.checked + 1023 → exec .keyTagCheck s = .next s)

/-- R221, R328: CNT_SNAP shows the live counters and changes no other register. -/
def keyCntSnap : Prop := ∀ s : State, s.RegsOk → SvcCmd s →
  s.Does .keyCntSnap fun t => (∀ i < 8, t.wide (A.KEY_CNT (2 * i)) 2 = s.count (A.KEY_CNT (2 * i)) % 2 ^ 64) ∧
    s.RegsBut t ((List.range 16).map fun i => A.KEY_CNT 0 + 4 * i) ∧ t = { s with regs := t.regs }

/-- R186, R189, R324: while CCLK stands, or its crossing with MGT is closed, a key command written through the window waits for it, under
its source's path; one that carries its own words is not taken. -/
def keyCmdWaits : Prop := ∀ (s : State) (src : KeySrc), ¬ SvcCmd s → s.xdc.cmds = [] →
  (s.Does (.keyGenerate ⟨src, none⟩) fun t => t.xdc.cmds = [(keyPath src, A.KEY_CMD, 1)] ∧ t = { s with xdc := t.xdc }) ∧
  (s.Does (.keyCommit ⟨src, none⟩) fun t => t.xdc.cmds = [(keyPath src, A.KEY_CMD, 5)] ∧ t = { s with xdc := t.xdc }) ∧
  (∀ l, exec (.keyDerive ⟨src, some l⟩) s = .next s)

/-- R327: a selection acts at once and latches the use count; a handle of SPACE 2 or 3 selects nothing. -/
def keySlotSelWrite : Prop := ∀ (s : State) (path : Path) (v : Word), s.RegsOk →
  (v.toNat % 2 ^ 24 < 2 ^ 22 → s.Does (.keySlotSelWrite path v) fun t =>
    t.get F.KEY_SLOT_SEL_HANDLE = v.toNat % 2 ^ 24 ∧ t.wide A.KEY_SLOT_USES 2 = spGet (fun _ => 0) s.key.uses (v.toNat % 4096) % 2 ^ 64 ∧
    s.RegsBut t [A.KEY_SLOT_SEL, A.KEY_SLOT_USES, A.KEY_SLOT_USES + 4] ∧ t = { s with regs := t.regs }) ∧
  (2 ^ 23 ≤ v.toNat % 2 ^ 24 → exec (.keySlotSelWrite path v) s = .next s)

/-- R322: a write of KEY_TAMPER_CFG stages no clear of an arm bit, and no DEBOUNCE of 0. -/
def tamperCfgWrite : Prop := ∀ (s : State) (path : Path) (v : Word),
  s.Does (.tamperCfgWrite path v) fun t =>
    ∃ m : Word, t = { s with staged := s.staged ++ [⟨path, A.KEY_TAMPER_CFG, m, v, s.now⟩] } ∧ m &&& 0x70F &&& ~~~v = 0 ∧
      (v.toNat / 65536 % 256 = 0 → m &&& 0xFF0000 = 0)

/-- R323: the random generator's health, its recovery, and its reseed after 2^20 requests. -/
def rngHealthFail : Prop := ∀ (s : State) (rep : Bool), s.RegsOk → s.Room Ev.KEY_RNG_FAIL →
  s.Does (.rngHealthFail rep) fun t =>
    t.rngOk = false ∧ s.RegsBut t [A.KEY_STAT] ∧ s.Raised t Ev.KEY_RNG_FAIL 0xFF (if rep then 1 else 0) ∧ t = { s with regs := t.regs, evt := t.evt }
def rngRecover : Prop := ∀ s : State, s.RegsOk → s.injOn 0xB1 0 = false →
  s.Does .rngRecover fun t => t.rngOk = true ∧ s.RegsBut t [A.KEY_STAT] ∧ t = { s with regs := t.regs }
def drbgReseed : Prop := ∀ s : State,
  (2 ^ 20 ≤ s.key.requests → s.Does .drbgReseed fun t => t = { s with key := { s.key with requests := 0, reseeds := s.key.reseeds + 1 } }) ∧
  (s.key.requests < 2 ^ 20 → exec .drbgReseed s = .next s)


/-! ### The time-interval counter -/

abbrev ChansOk (s : State) : Prop := s.tic.chans.length = 32

/-- The edge is kept: its channel runs and selects it, and it ends the divider's count. -/
abbrev Kept (s : State) (n : Fin 32) (falling : Bool) : Prop :=
  s.ticMode n ≠ tmOff ∧ s.ticSelects n falling = true ∧ s.get (F.TIC_CHn_DIV_DIV n) ≤ (s.ch n).div + 1 ∧ s.ticBase n = true

/-- The edge is stamped: neither within the dead time of the last one nor with the burst buffer full. -/
abbrev Stamped (s : State) (n : Fin 32) (falling : Bool) (u : Nat) : Prop :=
  Kept s n falling ∧ (∀ v, (s.ch n).lastT = some v → v ≤ u → 16 * lsbPerNs ≤ (u - v) * 10) ∧
  ((s.ch n).departs.filter (u < ·)).length < 64 ∧ s.injOn 0xC0 n = false

/-- R336, R337: a stamped edge of a MONITOR channel is posted as the channel's last stamp, with its CAL subtracted. -/
def ticEdge : Prop := ∀ (s : State) (n : Fin 32) (falling : Bool) (u : Nat), s.RegsOk → ChansOk s → Stamped s n falling u → s.ticMode n = tmMonitor →
  s.Does (.ticEdge n falling u) fun t =>
    t.get (F.TIC_CHn_LAST_VALID n) = 1 ∧ t.get (F.TIC_CHn_LAST_EDGE n) = (if falling then 1 else 0) ∧
    t.get (F.TIC_CHn_LAST_SEQ n) = (s.get (F.TIC_CHn_LAST_SEQ n) + 1) % 256 ∧ t.wide (A.TIC_CHn_LAST n + 4) 3 = kt96Of (s.ticStampOf n u * 16) ∧
    (t.ch n).lastT = some u ∧ (t.ch n).q = (s.ch n).q ∧ t = { s with regs := t.regs, tic := t.tic }

/-- R331: an edge that its channel does not select changes nothing; one inside the divider only counts; one within 1.6 ns of the
last stamped edge is lost in the dead time. -/
def ticEdgeNone : Prop := ∀ (s : State) (n : Fin 32) (falling : Bool) (u : Nat), (s.ticMode n = tmOff ∨ s.ticSelects n falling = false) →
  exec (.ticEdge n falling u) s = .next s
def ticEdgeDivided : Prop := ∀ (s : State) (n : Fin 32) (falling : Bool) (u : Nat), ChansOk s → s.ticMode n ≠ tmOff → s.ticSelects n falling = true →
  (s.ch n).div + 1 < s.get (F.TIC_CHn_DIV_DIV n) →
  s.Does (.ticEdge n falling u) fun t => (t.ch n).div = (s.ch n).div + 1 ∧ t = { s with tic := t.tic }
def ticEdgeDead : Prop := ∀ (s : State) (n : Fin 32) (falling : Bool) (u v : Nat), s.RegsOk → ChansOk s → s.Room Ev.TIC_LOSS → Kept s n falling →
  (s.ch n).lastT = some v → v ≤ u → (u - v) * 10 < 16 * lsbPerNs →
  s.Does (.ticEdge n falling u) fun t =>
    t.get (F.TIC_CHn_LOST_DEAD_COUNT n) = (s.get (F.TIC_CHn_LOST_DEAD_COUNT n) + 1) % 2 ^ 32 ∧ (t.ch n).lastT = some v ∧
    (t.ch n).lossCount = (s.ch n).lossCount + 1 ∧ ((s.ch n).lossTick ≠ s.nextTick → s.Raised t Ev.TIC_LOSS n 1) ∧
    s.RegsBut t [A.TIC_CHn_LOST_DEAD n] ∧ t = { s with regs := t.regs, tic := t.tic, evt := t.evt }

/-- R331, R332: an edge that finds 64 stamps of its channel waiting is lost with cause burst; one that finds no base, with cause base. -/
def ticEdgeLost : Prop := ∀ (s : State) (n : Fin 32) (falling : Bool) (u : Nat), s.RegsOk → ChansOk s → s.ticMode n ≠ tmOff →
  s.ticSelects n falling = true → s.get (F.TIC_CHn_DIV_DIV n) ≤ (s.ch n).div + 1 →
  (s.ticBase n = true → (s.ch n).lastT = none → 64 ≤ ((s.ch n).departs.filter (u < ·)).length → s.Does (.ticEdge n falling u) fun t =>
    t.get (F.TIC_CHn_LOST_BURST_COUNT n) = (s.get (F.TIC_CHn_LOST_BURST_COUNT n) + 1) % 2 ^ 32 ∧ (t.ch n).q = (s.ch n).q ∧
    t.reg (A.TIC_CHn_LAST n) = s.reg (A.TIC_CHn_LAST n)) ∧
  (s.ticBase n = false → s.Does (.ticEdge n falling u) fun t =>
    t.get (F.TIC_CHn_LOST_BASE_COUNT n) = (s.get (F.TIC_CHn_LOST_BASE_COUNT n) + 1) % 2 ^ 32 ∧ (t.ch n).q = (s.ch n).q ∧
    t.reg (A.TIC_CHn_LAST n) = s.reg (A.TIC_CHn_LAST n))

/-- R338, R340, R341: a stamped edge of a STREAM channel with its MARK written and no loss to tell joins its queue as a stamp Pip. -/
def ticEdgeStream : Prop := ∀ (s : State) (n : Fin 32) (falling : Bool) (u : Nat), s.RegsOk → ChansOk s → Stamped s n falling u → s.ticMode n = tmStream →
  s.injOn 0xC1 n = false → pipBytes (s.ch n).q + 6 ≤ ticQueueBytes → (s.ch n).lossCount = 0 →
  let q := s.get (F.TIC_CHn_CFG_Q n)
  let v := s.ticStampOf n u / 2 ^ q * 2 ^ q
  (s.ch n).mark = some (v / stampsPerSec) →
  s.Does (.ticEdge n falling u) fun t =>
    (t.ch n).q = (s.ch n).q ++ [⟨s.get (F.TIC_CHn_CFG_DEST n), s.stampBytes n v falling (s.ch n).prev⟩] ∧ (t.ch n).prev = some v ∧
    t.get (F.TIC_CHn_ACCEPTED_COUNT n) = (s.get (F.TIC_CHn_ACCEPTED_COUNT n) + 1) % 2 ^ 32

/-- R348: the head Pip of a channel whose destination is its ring is written there from WR on, around its end, and is gone; or it waits
for room, and RING_FULL is told. -/
def pipWriteRing : Prop := ∀ (s : State) (n : Fin 32) (p : Pip) (rest : List Pip), s.Canon → ChansOk s → s.dramBusy = false →
  (s.ch n).q = p :: rest → p.dest = 1 →
  let wr := s.get (F.TIC_CHn_RING_WR_WR n)
  let place := fun k => s.ticRingBase n + (wr + k) % s.ticRingSize n
  (s.ticRingFits n p.data.length = true → s.Does (.pipWrite n) fun t =>
    ((∀ k < p.data.length, s.wordBad (place k / 16) = false) → ∀ k < p.data.length, t.byte (place k) = p.data.getD k 0) ∧
    s.BytesBut t (s.ticRingBase n) (s.ticRingSize n) ∧
    (t.ch n).q = rest ∧ t.get (F.TIC_CHn_RING_WR_WR n) = (wr + p.data.length) % s.ticRingSize n % wid (F.TIC_CHn_RING_WR_WR n) ∧
    t.flag (F.TIC_CHn_STAT_RING_FULL n) = false ∧ t.count (A.CLR_RESk 1) = (s.count (A.CLR_RESk 1) + 1) % 2 ^ 64) ∧
  (s.ticRingFits n p.data.length = false → s.Room Ev.TIC_RING_FULL → s.Does (.pipWrite n) fun t =>
    t.flag (F.TIC_CHn_STAT_RING_FULL n) = true ∧ (s.flag (F.TIC_CHn_STAT_RING_FULL n) = false → s.Raised t Ev.TIC_RING_FULL n wr) ∧
    t = { s with regs := t.regs, evt := t.evt })

/-- R186, R349: a Pip for a ring waits while DRAM serves no request, and one for the export stream while EXP_EN is 0; a channel with none
writes none. -/
def pipWaits : Prop := ∀ (s : State) (n : Fin 32),
  (s.dramBusy = true → (∃ p, (s.ch n).q.head? = some p ∧ p.dest = 1) → exec (.pipWrite n) s = .next s) ∧
  (s.flag F.TIC_CFG_EXP_EN = false → (∃ p, (s.ch n).q.head? = some p ∧ p.dest = 2) → exec (.pipWrite n) s = .next s) ∧
  ((s.ch n).q = [] → exec (.pipWrite n) s = .next s)

/-- R349: the head Pip of a channel whose destination is the export stream joins the frame under way. -/
def pipWriteExport : Prop := ∀ (s : State) (n : Fin 32) (p : Pip) (rest : List Pip), ChansOk s → (s.ch n).q = p :: rest → p.dest = 2 →
  s.flag F.TIC_CFG_EXP_EN = true → s.expLen n p.data ≤ s.maxLen s.expPort → (s.tic.segs ≠ [] ∨ s.tic.xoffAt = none) →
  s.Does (.pipWrite n) fun t =>
    (t.ch n).q = rest ∧ t.tic.segs = segAdd s.tic.segs n p.data ∧ t.tic.segPips = s.tic.segPips + 1 ∧ t = { s with regs := t.regs, tic := t.tic }

/-- R343, R344: the oldest stop is judged and posted as the rule judges it. -/
def intervalJudge : Prop := ∀ (s : State) (n : Fin 32) (stop serial : Nat) (falling : Bool) (rest : List (Nat × Bool × Nat)), s.RegsOk → ChansOk s →
  (s.ch n).stops = (stop, falling, serial) :: rest →
  s.Does (.intervalJudge n) fun t =>
    (t.ch n).stops = rest ∧ t.get (F.TIC_CHn_IV_RES_VALID n) = 1 ∧ t.get (F.TIC_CHn_IV_RES_ORPHAN n) = (s.judgeStop n stop serial).1 % 2 ∧
    t.get (F.TIC_CHn_IV_RES_NEG n) = (s.judgeStop n stop serial).1 / 4 % 2 ∧ t.wideI (A.TIC_CHn_IV n) 2 = satI 48 (s.judgeStop n stop serial).2.1 ∧
    (s.ticWclk n = false → serial = s.tic.serial → t.now = max s.now (s.judgeAt n stop * 16))

/-- R343: an interval that is no orphan lies in its window, and is told negative exactly where it is. -/
def intervalWindow : Prop := ∀ (s : State) (n stop serial : Nat), (s.judgeStop n stop serial).1 % 2 = 0 →
  s.getI (F.TIC_CHn_WLO_W_LO n) * 4096 ≤ (s.judgeStop n stop serial).2.1 ∧ (s.judgeStop n stop serial).2.1 ≤ s.getI (F.TIC_CHn_WHI_W_HI n) * 4096 ∧
  ((s.judgeStop n stop serial).1 / 4 % 2 = 1 ↔ (s.judgeStop n stop serial).2.1 < 0) ∧
  ((s.judgeStop n stop serial).1 / 2 % 2 = 1 ↔ ((s.judgeStop n stop serial).2.1).natAbs ≤ 12)

/-- R345: the gate that has ended is posted with its edges, and its result joins the common queue. -/
def freqGateEnd : Prop := ∀ (s : State) (n : Fin 32), s.RegsOk → ChansOk s → s.ticMode n ≠ tmOff → s.tic.fq.length < 256 →
  let no := s.curTick / s.get (F.TIC_CHn_GATE_GATE n)
  let g := ((s.ch n).gates.find? fun g => g.no == no - 1).getD ⟨no - 1, 0, 0, 0, false⟩
  let invalid := decide (g.edges < 2) || s.get (F.TIC_CHn_FNOM_FNOM n) == 0 || g.bad
  no ≠ 0 → (s.ch n).gateNext ≤ no - 1 →
  s.Does (.freqGateEnd n) fun t =>
    t.get (F.TIC_CHn_FQ_RES_VALID n) = 1 ∧ t.flag (F.TIC_CHn_FQ_RES_INVALID n) = invalid ∧ t.get (F.TIC_CHn_FQ_EDGES_EDGES n) = g.edges % 2 ^ 32 ∧
    (t.ch n).gateNext = no ∧ ∃ y, t.tic.fq = s.tic.fq ++ [(n.val, invalid, y)] ∧ ∀ z, s.ticY n g = some z → y = z

/-- R335: the interval, or the second after a failed test, being over, a test starts; RECAL starts one, RECAL_ALL one of each channel. -/
def recalTimer : Prop := ∀ (s : State) (n : Fin 32), ChansOk s → (s.ch n).retryAt = none → (s.ch n).calAt + s.calInterval ≤ s.now →
  s.Does (.recalTimer n) fun t => (t.ch n).calBusy = true ∧ t = { s with tic := t.tic }
def recalEarly : Prop := ∀ (s : State) (n : Fin 32), (s.ch n).retryAt = none → s.now < (s.ch n).calAt + s.calInterval → exec (.recalTimer n) s = .next s
def recal : Prop := ∀ (s : State) (n : Fin 32), ChansOk s →
  s.Does (.recal n) fun t => t.ch n = { s.ch n with calBusy := true, retryAt := none } ∧ (∀ m, m ≠ n.val → t.ch m = s.ch m) ∧ t = { s with tic := t.tic }
def recalAll : Prop := ∀ s : State, ChansOk s →
  s.Does .recalAll fun t => (∀ n < 32, t.ch n = { s.ch n with calBusy := true, retryAt := none }) ∧ t = { s with tic := t.tic }

/-- R335: a good test readies its interpolator for the next tick; one that is not monotonic is dropped and tried again after 1 s. -/
def interpCalDone : Prop := ∀ (s : State) (n : Fin 32) (move : Nat), s.RegsOk → ChansOk s → (s.ch n).calBusy = true → s.injOn 0xC2 n = false →
  (s.Does (.interpCalDone n true move) fun t =>
    (t.ch n).calBusy = false ∧ (t.ch n).calReady = true ∧ (t.ch n).calAt = s.now ∧ t.flag (F.TIC_CHn_STAT_CAL_FAIL n) = false) ∧
  (s.Room Ev.TIC_CAL_FAIL → s.Does (.interpCalDone n false move) fun t =>
    (t.ch n).calBusy = false ∧ (t.ch n).calReady = (s.ch n).calReady ∧ (t.ch n).retryAt = some (s.now + lsbPerSec) ∧
    t.flag (F.TIC_CHn_STAT_CAL_FAIL n) = true ∧ s.Raised t Ev.TIC_CAL_FAIL n (1 - s.get (F.TIC_CHn_STAT_INTERP n)))

/-- R349: the frame under way is closed EXP_HOLD after its first record, and kept until it has left. -/
def exportFrameClose : Prop := ∀ s : State, s.prt.done = [] → s.tic.segs ≠ [] →
  s.Does .exportFrameClose fun t =>
    t.now = max s.now (s.tic.segAt + s.get F.TIC_EXP_ID_EXP_HOLD * lsbPerUs) ∧ t.tic.segs = [] ∧ t.tic.kept = s.tic.kept ++ [(s.expFrame, s.tic.segPips)] ∧
    t.tic.seq = (s.tic.seq + 1) % 2 ^ 32

/-- R350: a FLOW message of the stream starts or ends XOFF; 100 ms after the latest it ends by itself. -/
def flowMessage : Prop := ∀ (s : State) (f : RxFrame), s.RegsOk → (s.takeRx s.expPort 7 fun _ => true).1 = some f →
  let s1 := (s.takeRx s.expPort 7 fun _ => true).2
  let l := f.data.drop ((tagsOf f.data).etOfs + 2)
  s1.flag F.TIC_CFG_EXP_EN = true → etherType f.data = s1.get F.TIC_CFG_EXP_ETYPE → leNat (l.take 1) = 1 → leNat ((l.drop 1).take 1) = 2 →
  leNat ((l.drop 2).take 2) = s1.get F.TIC_EXP_ID_STREAM_ID →
  s.Does .flowMessage fun t =>
    t.tic.xoffAt = (if leNat ((l.drop 4).take 1) % 2 = 1 then some s.now else none) ∧
    t.flag F.TIC_STAT_EXP_XOFF = decide (leNat ((l.drop 4).take 1) % 2 = 1)
def xoffTimeout : Prop := ∀ (s : State) (u : Nat), s.RegsOk → s.tic.xoffAt = some u → s.Room Ev.TIC_EXP_TIMEOUT →
  (u + lsbPerSec / 10 ≤ s.now → s.Does .xoffTimeout fun t =>
    t.tic = { s.tic with xoffAt := none } ∧ t.flag F.TIC_STAT_EXP_XOFF = false ∧ s.RegsBut t [A.TIC_STAT] ∧ s.Raised t Ev.TIC_EXP_TIMEOUT 0xFF 0 ∧
    t = { s with regs := t.regs, tic := t.tic, evt := t.evt }) ∧
  (s.now < u + lsbPerSec / 10 → exec .xoffTimeout s = .next s)

/-- R348: RING_RD takes effect at once. -/
def ringRdWrite : Prop := ∀ (s : State) (n : Fin 32) (v : Word), s.RegsOk →
  s.Does (.ringRdWrite n v) fun t =>
    t.get (F.TIC_CHn_RING_RD_RD n) = v.toNat % wid (F.TIC_CHn_RING_RD_RD n) ∧ s.RegsBut t [A.TIC_CHn_RING_RD n, A.TIC_CHn_STAT n] ∧ t = { s with regs := t.regs }

/-- R12, R352: a pop of the frequency queue answers its head and removes it. -/
def ticFqPop : Prop := ∀ s : State,
  s.Does .ticFqPop fun t => t.tic = { s.tic with fq := s.tic.fq.drop 1 } ∧ t.reply = .words [s.fqWord] ∧ (s.tic.fq = [] → s.fqWord = 1) ∧
    t = { s with tic := t.tic, reply := t.reply }


/-! ### The GNSS baseband -/

/-- R364: a tracking channel moved from one state to another: the other channels and everything but GNS's registers stand. -/
abbrev Moved (s t : State) (c : Fin 240) (st : Nat) : Prop :=
  t.gcState c = st ∧ (∀ d : Fin 240, d ≠ c → t.gcState d = s.gcState d ∧ t.gch d = s.gch d) ∧ s.RegsBut t [A.GNS_CHc_STAT c, A.GNS_STAT] ∧
  t = { s with regs := t.regs, gns := t.gns }

/-- R364: an IDLE channel of the signal's band takes a satellite of an enabled system, into SEARCH, or hot into PULL_IN. -/
def channelAssign : Prop := ∀ (s : State) (c : Fin 240) (sig : Fin 16) (sv : Fin 64) (hot : Bool), s.RegsOk → s.gns.chans.length = 240 →
  s.mclkLost = false → s.gcState c = gcIdle → s.sigOk sig sv = true → sigBand sig = bandOf c → s.bandRuns (bandOf c) = true →
  s.Does (.channelAssign c sig sv hot) fun t =>
    Moved s t c (if hot then gcPullIn else gcSearch) ∧ t.get (F.GNS_CHc_STAT_SIG c) = sig ∧ t.get (F.GNS_CHc_STAT_SV c) = sv ∧ (t.gch c).pullAt = s.now

/-- R361, R364, R365: the moves of a channel between its states, each from the state the rule names and to the one it names. -/
def channelMoves : Prop := ∀ (s : State) (c : Fin 240), s.RegsOk → s.gns.chans.length = 240 → s.mclkLost = false →
  (s.gcState c = gcSearch → s.Does (.cellDetected c) fun t => Moved s t c gcPullIn ∧ (t.gch c).pullAt = s.now) ∧
  (s.gcState c = gcSearch → s.Does (.searchExhausted c) fun t => Moved s t c gcIdle ∧ t.reg (A.GNS_CHc_STAT c) = 0) ∧
  (s.gcState c = gcPullIn → (s.gch c).pullAt + lsbPerSec / 5 ≤ s.now → s.Does (.pullInLock c true) fun t => Moved s t c gcTrack ∧ (t.gch c).lockAt = s.now) ∧
  (s.gcState c = gcPullIn → (s.gch c).pullAt + 2 * lsbPerSec ≤ s.now → s.Does (.pullInTimeout c) fun t =>
    Moved s t c gcIdle ∧ t.reg (A.GNS_CHc_STAT c) = 0) ∧
  (s.gcState c = gcTrack → s.Does (.trackLoss c) fun t => Moved s t c gcLost ∧ (t.gch c).lostAt = s.now) ∧
  (s.gcState c = gcLost → s.now ≤ (s.gch c).lostAt + 10 * lsbPerSec → s.bandRuns (bandOf c) = true → s.Does (.reacquired c) fun t =>
    Moved s t c gcTrack ∧ (t.gch c).lockAt = s.now ∧ (t.gch c).slip = true) ∧
  (s.gcState c = gcLost → (s.gch c).lostAt + 10 * lsbPerSec ≤ s.now → s.Does (.lostTimeout c) fun t =>
    Moved s t c gcIdle ∧ t.reg (A.GNS_CHc_STAT c) = 0)

/-- R364: in another state, or while MCLK is lost, each of these changes nothing; nor do a lock that has not held 200 ms, one on a side
peak of a split-spectrum signal, or a timeout before its time. -/
def channelStays : Prop := ∀ (s : State) (c : Fin 240) (m : Bool),
  ((s.gcState c ≠ gcSearch ∨ s.mclkLost = true) → exec (.cellDetected c) s = .next s ∧ exec (.searchExhausted c) s = .next s) ∧
  ((s.gcState c ≠ gcPullIn ∨ s.mclkLost = true) → exec (.pullInLock c m) s = .next s ∧ exec (.pullInTimeout c) s = .next s) ∧
  ((s.gcState c ≠ gcTrack ∨ s.mclkLost = true) → exec (.trackLoss c) s = .next s) ∧
  ((s.gcState c ≠ gcLost ∨ s.mclkLost = true) → exec (.reacquired c) s = .next s ∧ exec (.lostTimeout c) s = .next s) ∧
  (s.now < (s.gch c).pullAt + lsbPerSec / 5 → exec (.pullInLock c m) s = .next s) ∧
  ((s.get (F.GNS_CHc_STAT_SIG c) = 3 ∨ s.get (F.GNS_CHc_STAT_SIG c) = 5) → exec (.pullInLock c false) s = .next s) ∧
  (s.now < (s.gch c).pullAt + 2 * lsbPerSec → exec (.pullInTimeout c) s = .next s) ∧
  (s.now < (s.gch c).lostAt + 10 * lsbPerSec → exec (.lostTimeout c) s = .next s)

/-- R363, R365: a loop processor that faults while MCLK runs sends its channels at work to LOST and tells its cause; none of the other
processors' channels moves. With MCLK lost it does not run. -/
def loopProcessorFault : Prop := ∀ (s : State) (k : Fin 4) (cause : Fin 16), s.RegsOk → s.Room Ev.GNS_LP_FAULT →
  (s.mclkLost = false → s.Does (.loopProcessorFault k cause) fun t =>
    (∀ i < 30, s.gcState (30 * k + i) ≠ gcIdle → t.gcState (30 * k + i) = gcLost) ∧
    (∀ i < 30, s.gcState (120 + 30 * k + i) ≠ gcIdle → t.gcState (120 + 30 * k + i) = gcLost) ∧
    (∀ c < 240, c % 120 / 30 ≠ k → t.gcState c = s.gcState c) ∧ s.Raised t Ev.GNS_LP_FAULT k cause ∧
    t = { s with regs := t.regs, gns := t.gns, evt := t.evt }) ∧
  (s.mclkLost = true → exec (.loopProcessorFault k cause) s = .next s)

/-- R378, R379: SLEEP writes retention, releases every channel of the band and ends the solution, with GNS_SLEEP of cause 0. -/
def gnssSleep : Prop := ∀ s : State, s.RegsOk → s.gns.band = [gbAwake, gbAwake] → s.gns.sleptAt.length = 2 → s.bandEnabled 0 = true → s.bandEnabled 1 = false →
  s.evtWaiting (evtBlock Ev.GNS_SLEEP) + 1 < evtQueueDepth → s.injOn 0x01 (evtBlock Ev.GNS_SLEEP) = false →
  s.Does .gnssSleep fun t =>
    t.bandState 0 = gbAsleep ∧ t.bandState 1 = gbAwake ∧ t.gns.ret = s.gns.know ∧ nth t.gns.sleptAt 0 = s.now ∧
    (∀ c < 120, t.reg (A.GNS_CHc_STAT c) = 0) ∧ t.solState = gsNofix ∧ Told s t Ev.GNS_SLEEP 0 0

/-- R357, R379: WAKE of a sleeping band writes its front end and waits for its clock; an entry of the list without its acknowledge marks
FE_FAIL and is told. -/
def gnssWake : Prop := ∀ s : State, s.RegsOk → s.gns.band = [gbAsleep, gbAwake] → s.gns.wakeAt.length = 2 → s.bandEnabled 0 = true → s.feFail 1 = false →
  (s.Does (.gnssWake []) fun t =>
    t.bandState 0 = gbWaking ∧ t.bandState 1 = gbAwake ∧ t.feFail 0 = false ∧ nth t.gns.wakeAt 0 = s.now + lsbPerSec / 100 ∧
    t = { s with regs := t.regs, gns := t.gns }) ∧
  (∀ e : Fin 64, s.Room Ev.GNS_FE_CFG_FAIL → s.Does (.gnssWake [some e]) fun t => t.feFail 0 = true ∧ s.Raised t Ev.GNS_FE_CFG_FAIL 0 e)

/-- R378: COLD forgets what is retained and known, releases every channel and restarts the bands that are enabled. -/
def gnssCold : Prop := ∀ s : State, s.RegsOk → s.gns.band.length = 2 →
  s.Does (.gnssCold []) fun t =>
    t.gns.ret = GnssRet.blank ∧ t.gns.know = GnssRet.blank ∧ t.gns.cold = true ∧ (∀ c < 240, t.gcState c = gcIdle) ∧ t.solState = gsNofix ∧
    (s.bandEnabled 0 = true → t.bandState 0 = gbWaking) ∧ (s.bandEnabled 1 = true → t.bandState 1 = gbWaking)

/-- R379: the duty cycle sleeps after ON seconds of validity, while no GNSS slot is selected or a switch's target, with GNS_SLEEP of cause
1, and wakes a band after OFF seconds; with OFF of 0 neither happens, nor does a sleep before its time or in use. -/
def dutySleep : Prop := ∀ s : State,
  (s.RegsOk → s.gns.band = [gbAwake, gbAwake] → s.gns.sleptAt.length = 2 → s.bandEnabled 0 = true → s.bandEnabled 1 = false →
    s.evtWaiting (evtBlock Ev.GNS_SLEEP) + 1 < evtQueueDepth → s.injOn 0x01 (evtBlock Ev.GNS_SLEEP) = false →
    s.get F.GNS_SLEEP_CFG_OFF ≠ 0 → s.flag F.GNS_STAT_SOL_VALID = true → s.gnssInUse = false →
    s.gns.validAt + s.get F.GNS_SLEEP_CFG_ON * lsbPerSec ≤ s.now → s.Does .dutySleep fun t =>
      t.bandState 0 = gbAsleep ∧ t.bandState 1 = gbAwake ∧ t.gns.ret = s.gns.know ∧ nth t.gns.sleptAt 0 = s.now ∧ t.solState = gsNofix ∧
      Told s t Ev.GNS_SLEEP 0 1) ∧
  (s.get F.GNS_SLEEP_CFG_OFF = 0 → exec .dutySleep s = .next s ∧ ∀ l, exec (.dutyWake l) s = .next s) ∧
  ((s.gnssInUse = true ∨ s.now < s.gns.validAt + s.get F.GNS_SLEEP_CFG_ON * lsbPerSec) → exec .dutySleep s = .next s)
def dutyWake : Prop := ∀ s : State, s.RegsOk → s.gns.band = [gbAsleep, gbAwake] → s.bandEnabled 0 = true → s.get F.GNS_SLEEP_CFG_OFF ≠ 0 →
  nth s.gns.sleptAt 0 + s.get F.GNS_SLEEP_CFG_OFF * lsbPerSec ≤ s.now →
  s.Does (.dutyWake []) fun t => t.bandState 0 = gbWaking ∧ t.bandState 1 = gbAwake ∧ t.feFail 0 = false ∧ t = { s with regs := t.regs, gns := t.gns }

/-- R379, R380: the clock of a waking band runs: AWAKE, starting from retention. -/
def bandWakeComplete : Prop := ∀ (s : State) (b : Fin 2), s.RegsOk → s.gns.band.length = 2 → s.bandState b = gbWaking → s.clockRuns (6 + b.val) = true →
  s.feFail b = false → s.Room Ev.GNS_WAKE →
  s.Does (.bandWakeComplete b) fun t =>
    t.bandState b = gbAwake ∧ t.gns.know = s.gns.ret ∧ s.Raised t Ev.GNS_WAKE b (s.startKind + (if (s.gns.compat[b.val]?).getD false then 4 else 0)) ∧
    s.RegsBut t [A.GNS_STAT] ∧ t = { s with regs := t.regs, gns := t.gns, evt := t.evt }

/-- R379: no clock in 100 ms: the band sleeps again, marked FE_FAIL. -/
def bandWakeTimeout : Prop := ∀ (s : State) (b : Fin 2), s.RegsOk → s.gns.band.length = 2 → s.bandState b = gbWaking → s.feFail b = false → s.clockRuns (6 + b.val) = false →
  nth s.gns.wakeAt b + lsbPerSec / 10 ≤ s.now → s.Room Ev.GNS_FE_CFG_FAIL →
  s.Does (.bandWakeTimeout b) fun t =>
    t.bandState b = gbAsleep ∧ t.feFail b = true ∧ s.Raised t Ev.GNS_FE_CFG_FAIL b 64 ∧ s.RegsBut t [A.GNS_STAT] ∧
    t = { s with regs := t.regs, gns := t.gns, evt := t.evt }

/-- R366, R367: an epoch that is due swaps in a window of 240 records of 32 bytes, record c with its channel's index, and the signal it
tracks or 0; one that is not due changes nothing, nor one while MCLK is lost. -/
def gnssEpoch : Prop := ∀ (s : State) (e : Epoch), s.epochDue e.at_ = true → s.mclkLost = false →
  s.Does (.gnssEpoch e) fun t =>
    t.now = max s.now e.at_ ∧ t.gns.win.length = 240 ∧ (∀ r ∈ t.gns.win, r.length = 32) ∧
    (∀ c < 240, (t.gns.win.getD c []).getD 28 0 = BitVec.ofNat 8 c) ∧
    (∀ c < 240, s.gcState c ≠ gcTrack → (t.gns.win.getD c []).getD 0 0 = 0) ∧ t.gns.lastEpoch = e.at_ ∧ t.gns.epochSeen = true
def gnssEpochPosted : Prop := ∀ (s : State) (e : Epoch), s.RegsOk → s.epochDue e.at_ = true → s.mclkLost = false → e.at_ % lsbPerSec ≠ 0 → s.solState = gsNofix →
  s.Does (.gnssEpoch e) fun t =>
    t.get F.GNS_EPOCH_RES_VALID = 1 ∧ t.get F.GNS_EPOCH_RES_SEQ = (s.get F.GNS_EPOCH_RES_SEQ + 1) % 256 ∧
    t.wide (A.GNS_EPOCH_T 0) 3 = kt96Of e.at_ ∧ t.solState = gsNofix
def gnssEpochNotDue : Prop := ∀ (s : State) (e : Epoch), (s.epochDue e.at_ = false ∨ s.mclkLost = true) → exec (.gnssEpoch e) s = .next s

/-- R360: the clock of GPS and QZSS is 19 s behind TAI, Galileo's 19 s and BeiDou's 33 s; with a satellite of GPS or QZSS the solution's
offset is of their clock, and a further system in use adds its own. -/
def gnssClocks : Prop := ∀ (v : GnssSol) (a b c : Int) (sats : List (Nat × Nat)), v.clocks = [a, b, c] →
  clockOffset v 0 = a - 19 * stampsPerSec ∧ clockOffset v 1 = b - 19 * stampsPerSec ∧ clockOffset v 2 = c - 33 * stampsPerSec ∧
  clockOf 0 = 0 ∧ clockOf 1 = 1 ∧ clockOf 2 = 2 ∧ clockOf 3 = 0 ∧
  ((∃ y ∈ sats, y.1 = 0 ∨ y.1 = 3) → mainClock sats = 0 ∧
    ((∃ y ∈ sats, y.1 = 1) → (1, clockOffset v 1 - clockOffset v 0) ∈ extraClocks v sats) ∧
    ((∃ y ∈ sats, y.1 = 2) → (2, clockOffset v 2 - clockOffset v 0) ∈ extraClocks v sats))

/-- R375, R376: where the message still goes out half a second before its second, GNSS_PPS is driven at the first sample edge not before
t_S, its correction posted with EDGE 1. -/
def gnssPps : Prop := ∀ (s : State) (sec : Nat) (edge0 : Rat), s.RegsOk → s.gnssPpsOn = true → s.now + lsbPerSec / 2 ≤ sec * lsbPerSec →
  s.Does (.gnssPpsEdge sec edge0) fun t =>
    ∃ tb : Rat, t.gns.pulse = some (sec, tb) ∧ (s.solOfs : Rat) ≤ tb ∧ tb < s.solOfs + s.ppsPeriod ∧ (∃ k : Int, tb = edge0 + k * s.ppsPeriod) ∧
      t.get F.GNS_SAW_RES_VALID = 1 ∧ t.get F.GNS_SAW_RES_EDGE = 1 ∧ t.get F.GNS_SAW_SEC_SEC = sec % 2 ^ 32 ∧
      t.getI F.GNS_SAW_Q_Q = satI 32 ((s.solOfs : Rat) - tb + 1 / 2).floor ∧ t = { s with regs := t.regs, gns := t.gns }
/-- R376: where it is not driven the message has EDGE 0 and no pulse is placed; Q is then a free value (assumption log 3). A message that
would go out later than half a second before its second is none. -/
def gnssPpsOff : Prop := ∀ (s : State) (sec : Nat) (edge0 : Rat), s.RegsOk →
  (s.gnssPpsOn = false → s.now + lsbPerSec / 2 ≤ sec * lsbPerSec → s.Does (.gnssPpsEdge sec edge0) fun t =>
    t.gns.pulse = s.gns.pulse ∧ t.get F.GNS_SAW_RES_VALID = 1 ∧ t.get F.GNS_SAW_RES_EDGE = 0 ∧ t.get F.GNS_SAW_SEC_SEC = sec % 2 ^ 32 ∧
    t = { s with regs := t.regs, gns := t.gns, free := s.free + 1 }) ∧
  (sec * lsbPerSec < s.now + lsbPerSec / 2 → exec (.gnssPpsEdge sec edge0) s = .next s)

/-- R371: RESURVEY in survey mode discards the stored position, and from TIMING surveys again; in fixed mode it does nothing. -/
def resurvey : Prop := ∀ s : State, s.RegsOk →
  (s.gnsFixed = false → s.solState = gsTiming → s.Does .resurvey fun t =>
    t.solState = gsSurvey ∧ t.gns.know.pos = none ∧ t.gns.ret.pos = none ∧ t.gns.surveyAt = s.now) ∧
  (s.gnsFixed = true → exec .resurvey s = .next s)


/-! ### Distribution links -/

abbrev LinksOk (s : State) : Prop := s.dst.links.length = 16

/-- R386: what pinning a link frame leaves: a frame built for the granted T3 which the guardrails let pass stands in its slot with those
bytes, and only the ports changed. -/
abbrev PinnedAs (s t : State) (d : Fin 16) (tag t3 : Nat) (mk : State → Nat → Option (List Byte)) : Prop :=
  ∃ (g : State) (x : List Byte), g = { s with prt := g.prt } ∧ mk g t3 = some x ∧ (g.txCause (dpPort d) 6 (s.dstClass d) x = 0 →
    t = { s with prt := t.prt } ∧ ∃ f, t.pinOf (dpPort d) 6 tag = some f ∧ f.t3 = t3 ∧ f.src = 6 ∧ f.data = x)

/-- R386: what a link asks a slot for is pinned as it is built. -/
def dstPinned : Prop := ∀ (s s1 : State) (d : Fin 16) (e len tag t3 : Nat) (mk : State → Nat → Option (List Byte)), s.prt.ports.length = 20 →
  s.pinOf (dpPort d) 6 tag = none → s.pauseOf (dpPort d) (s.dstClass d) = [] → s.dstPin d e len tag mk = some (t3, s1) → PinnedAs s s1 d tag t3 mk

/-- R386, R387: at a whole multiple of its interval a DOWN link whose port is UP pins its Sync, once, and its number advances. -/
def linkSyncSend : Prop := ∀ (s s1 : State) (d : Fin 16) (due t1 : Nat) (tag : Fin 65536) (rp : Int), LinksOk s → s.dlDown d = true →
  s.portUp (dpPort d) = true → due % s.syncInterval d = 0 → (s.dl d).sent ≠ some due →
  s.dstPin d due (s.dstLen d 10 54) tag (fun s t1 => s.dstFrame d 0 (t1 % lsbPerNs) (s.dl d).linkSeq (ptpTime t1) (s.linkTlv (s.syncData d t1 rp))) = some (t1, s1) →
  s.Does (.linkSyncSend d due tag rp) fun t =>
    (t.dl d).linkSeq = ((s.dl d).linkSeq + 1) % 65536 ∧ (t.dl d).sent = some due ∧ (t.dl d).trg = (s.dl d).trg ∧
    (t.dl d).carried = (if (s.dl d).trg.isEmpty then 0 else (s.dl d).carried + 1) ∧ (∀ k : Fin 16, k ≠ d → t.dl k = s.dl k) ∧ t = { s1 with dst := t.dst }
def linkSyncNotDue : Prop := ∀ (s : State) (d : Fin 16) (due : Nat) (tag : Fin 65536) (rp : Int),
  (s.dlDown d = false ∨ s.portUp (dpPort d) = false ∨ due % s.syncInterval d ≠ 0 ∨ (s.dl d).sent = some due) → exec (.linkSyncSend d due tag rp) s = .next s

/-- R386, R390: an UP link takes a Sync that is stamped and carries the link TLV. -/
def linkSyncRx : Prop := ∀ (s s1 : State) (d : Fin 16) (fwd : Int) (x : List Byte) (m : LinkMsg) (desc : RxDesc) (t2 : Nat), LinksOk s →
  s.dlUp d = true → s.dlState d ≠ dlIdle → s.dstTake d 10 [0] = .msg x m desc s1 → s1.descTime desc = some t2 → 44 ≤ m.tlv.length →
  s.Does (.linkSyncRx d fwd) fun t =>
    ∃ i, (t.dl d).sync = some i ∧ i.seq = m.seq ∧ i.t2 = t2 ∧ i.fwd = fwd ∧ i.eb8 = beAt m.tlv 0 1 ∧ i.ql = beAt m.tlv 1 1 ∧ i.depth = beAt m.tlv 2 1 ∧
      (t.dl d).req = none ∧ (t.dl d).asked = false

/-- R386, R387: within a quarter of the Sync interval after a Sync an UP link asks, once, with a Delay_Req or in DELAY_MODE 1 a
Pdelay_Req: the request in flight has the Sync's number, its t3 and the STEP count. A second one for the same Sync is none. -/
def linkDelayReqSend : Prop := ∀ (s s1 : State) (d : Fin 16) (e t3 : Nat) (tag : Fin 65536) (fp : Int) (i : SyncInfo), LinksOk s → (s.dl d).sync = some i →
  s.dlUp d = true → s.dlState d ≠ dlIdle →
  let peer := s.flag (F.DST_LINKd_CFG_DELAY_MODE d)
  s.dstPin d e (s.dstLen d (if peer then 20 else 10) 18) tag (fun s t3 => s.dstFrame d (if peer then 2 else 1) (t3 % lsbPerNs) i.seq
    (ptpTime t3 ++ (if peer then List.replicate 10 0 else [])) (s.linkTlv (s.reqData d fp))) = some (t3, s1) →
  ((s.dl d).asked = false → t3 ≤ i.t2 + s.syncInterval d / 4 → s.Does (.linkDelayReqSend d e tag fp) fun t =>
    (t.dl d).req = some (i.seq, t3, s.get F.TSU_STAT_STEP) ∧ (t.dl d).asked = true ∧ t = { s1 with dst := t.dst }) ∧
  (((s.dl d).asked = true ∨ i.t2 + s.syncInterval d / 4 < t3) → exec (.linkDelayReqSend d e tag fp) s = .next s)

/-- R386: in DELAY_MODE 0 a DOWN link takes a Delay_Req and submits a Delay_Resp with its t4; in DELAY_MODE 1 it pins a Pdelay_Resp whose
correctionField carries the turnaround. -/
def linkDelayReqRx : Prop := ∀ (s s1 : State) (d : Fin 16) (x f : List Byte) (m : LinkMsg) (desc : RxDesc) (t4 : Nat) (l : List TxFrame),
  s.dlDown d = true → s.dstTake d 10 [1] = .msg x m desc s1 →
  let s2 := s1.reqTlv d m.tlv
  let c := s2.dstClass d
  s2.flag (F.DST_LINKd_CFG_DELAY_MODE d) = false → s2.descTime desc = some t4 →
  s2.dstFrame d 9 ((m.corr + 2 ^ 64 - t4 % lsbPerNs) % 2 ^ 64) m.seq (ptpTime t4 ++ slice x (m.o + 20) 10) [] = some f →
  PortsOk s2 → s2.portUp (dpPort d) = true → s2.txCause (dpPort d) 6 c f = 0 → TxNew s2 (dpPort d) 6 c f none → (s2.port (dpPort d)).txq[c]? = some l →
  s.Does (.linkDelayReqRx d) fun t =>
    (t.port (dpPort d)).txq[c]? = some (l ++ [⟨6, c, f, none, f.length, 0, none⟩]) ∧ t = { s2 with prt := t.prt }
def linkPdelayReqRx : Prop := ∀ (s s1 s3 : State) (d : Fin 16) (e t4 t5 : Nat) (tag : Fin 65536) (x : List Byte) (m : LinkMsg) (desc : RxDesc), s.dlDown d = true →
  s.dstTake d 20 [2] = .msg x m desc s1 →
  let s2 := s1.reqTlv d m.tlv
  let mk := fun (s : State) (t5 : Nat) => s.dstFrame d 3 ((m.corr + t5 - t4) % 2 ^ 64) m.seq (List.replicate 10 0 ++ slice x (m.o + 20) 10) []
  s2.flag (F.DST_LINKd_CFG_DELAY_MODE d) = true → desc.step = s.get F.TSU_STAT_STEP → s2.descTime desc = some t4 → s2.prt.ports.length = 20 →
  s2.pinOf (dpPort d) 6 tag = none → s2.pauseOf (dpPort d) (s2.dstClass d) = [] → s2.dstPin d e (s2.dstLen d 20 0) tag mk = some (t5, s3) →
  s.Does (.linkPdelayReqRx d e tag) fun t => t = s3 ∧ PinnedAs s2 t d tag t5 mk

/-- R231: a Pdelay_Req of another STEP count is taken and not answered. -/
def linkPdelayStale : Prop := ∀ (s s1 : State) (d : Fin 16) (e : Nat) (tag : Fin 65536) (x : List Byte) (m : LinkMsg) (desc : RxDesc), s.dlDown d = true →
  s.dstTake d 20 [2] = .msg x m desc s1 → desc.step ≠ s.get F.TSU_STAT_STEP →
  s.Does (.linkPdelayReqRx d e tag) fun t => t = s1.reqTlv d m.tlv

/-- R387, R393: the TLV of a request shows whether the peer is locked, and reports a change of it. -/
def peerLocked : Prop := ∀ (s : State) (d : Fin 16) (l : List Byte), s.RegsOk → LinksOk s → 8 ≤ l.length → (s.dl d).trg = [] →
  (s.reqTlv d l).dlPeer d = (beAt l 1 1 % 2 == 1) ∧ (s.reqTlv d l).bit F.DST_STAT_PEER_LOCKED d = (beAt l 1 1 % 2 == 1) ∧
  ((s.reqTlv d l).dl d).fPhase = toSigned 32 (beAt l 4 4) ∧ (s.dlPeer d = (beAt l 1 1 % 2 == 1) → (s.reqTlv d l).evt = s.evt)

/-- R386, R389: the answer to the request in flight, all of one STEP count, completes the exchange: RTT is (t2 - t1) + (t4 - t3), or from
a Pdelay_Resp (t6 - t3) less the turnaround. One of another STEP count, or of another number, completes none. -/
def linkDelayRespRx : Prop := ∀ (s s1 : State) (d : Fin 16) (x : List Byte) (m : LinkMsg) (desc : RxDesc) (i : SyncInfo) (seq t3 step : Nat),
  s.dlUp d = true → s.dlState d ≠ dlIdle → s1.injOn 0xE0 (dpPort d) = false → s1.RegsOk → LinksOk s1 →
  let peer := s.flag (F.DST_LINKd_CFG_DELAY_MODE d)
  let corr := toSigned 64 m.corr - (t3 % lsbPerNs : Nat)
  s.dstTake d 20 [if peer then 3 else 9] = .msg x m desc s1 → (s1.dl d).sync = some i → (s1.dl d).req = some (seq, t3, step) →
  (m.seq = seq → i.seq = seq → i.step = step → s1.get F.TSU_STAT_STEP = step → peer = false → s.Does (.linkDelayRespRx d) fun t =>
    t.get (F.DST_LINKd_RES_VALID d) = 1 ∧ t.get (F.DST_LINKd_EXCH_COUNT d) = (s1.get (F.DST_LINKd_EXCH_COUNT d) + 1) % 2 ^ 32 ∧
    t.wideI (A.DST_LINKd_RTT d) 2 = satI 48 ((i.t2 - i.t1) / 16 + ((ptpInstant x (m.o + 34) : Int) - corr - t3) / 16) ∧ (t.dl d).req = none) ∧
  (∀ t6 : Nat, m.seq = seq → i.seq = seq → i.step = step → s1.get F.TSU_STAT_STEP = step → peer = true → desc.step = step → s1.descTime desc = some t6 →
    s.Does (.linkDelayRespRx d) fun t =>
      t.get (F.DST_LINKd_RES_VALID d) = 1 ∧ t.get (F.DST_LINKd_EXCH_COUNT d) = (s1.get (F.DST_LINKd_EXCH_COUNT d) + 1) % 2 ^ 32 ∧
      t.wideI (A.DST_LINKd_RTT d) 2 = satI 48 ((i.t2 - i.t1) / 16 + ((t6 : Int) - t3 - corr - (i.t2 - i.t1)) / 16) ∧ (t.dl d).req = none) ∧
  ((m.seq ≠ seq ∨ i.step ≠ step ∨ s1.get F.TSU_STAT_STEP ≠ step) → s.Does (.linkDelayRespRx d) fun t => t = s1)

/-- R389, R390: a complete exchange is posted with the offset of its model, which becomes the anchor. -/
def exchangePosted : Prop := ∀ (s : State) (d : Fin 16) (i : SyncInfo) (a b : Int), s.RegsOk → LinksOk s →
  let t := s.exchange d i a b
  let q := s.cableModel d a b
  t.get (F.DST_LINKd_RES_VALID d) = 1 ∧ t.get (F.DST_LINKd_RES_SEQ d) = (s.get (F.DST_LINKd_RES_SEQ d) + 1) % 256 ∧
  t.wideI (A.DST_LINKd_RTT d) 2 = satI 48 q.1 ∧ t.wideI (A.DST_LINKd_DMS d) 2 = satI 48 q.2.2.1 ∧ t.wideI (A.DST_LINKd_OFS d) 2 = satI 48 q.2.2.2 ∧
  t.get (F.DST_LINKd_EXCH_COUNT d) = (s.get (F.DST_LINKd_EXCH_COUNT d) + 1) % 2 ^ 32 ∧ (t.dl d).anchor = some (q.2.2.2, i.fwd, i.rphase) ∧
  (t.dl d).lastExch = s.now ∧ (t.dl d).req = none

/-- R389, R392: an exchange agrees where its offset lies within TRACK_LIMIT of the one tracked from the anchor. N_ANCHOR of them in a row
lock the link; one that disagrees starts the count again, and unlocks a LOCKED link with cause 1, unless the partner's time moved. -/
def exchangeJudged : Prop := ∀ (s : State) (d : Fin 16) (i : SyncInfo) (a b : Int) (an : Int × Int × Int), s.RegsOk → LinksOk s →
  (s.dl d).anchor = some an →
  let t := s.exchange d i a b
  let off := (((s.cableModel d a b).2.2.2 - s.thetaAt d an i.fwd i.rphase).natAbs * 1000 : Nat)
  let lim := s.get (F.DST_LINKd_TRACK_TRACK_LIMIT d) * 4096
  (s.dlState d = dlMeasure → off ≤ lim → s.get (F.DST_LINKd_TRACK_N_ANCHOR d) ≤ (s.dl d).agree + 1 → i.phaseValid = true → i.eb8 ≠ 0xFF → i.depth ≤ 3 →
    s.Room Ev.DST_LOCK → t.dlState d = dlLocked ∧ t.bit F.DST_STAT_LOCKED d = true ∧ s.Raised t Ev.DST_LOCK (dpPort d) t.ownDepth) ∧
  (s.dlState d = dlMeasure → lim < off → 0 < s.get (F.DST_LINKd_TRACK_N_ANCHOR d) → t.dlState d = dlMeasure ∧ (t.dl d).agree = 0) ∧
  (s.dlState d = dlLocked → lim < off → (s.dl d).moved = false → s.Room Ev.DST_UNLOCK →
    t.dlState d = dlMeasure ∧ t.get (F.DST_LINKd_STAT_CAUSE d) = 1 ∧ t.bit F.DST_STAT_LOCKED d = false ∧ s.Raised t Ev.DST_UNLOCK (dpPort d) 1) ∧
  (s.dlState d = dlLocked → (off ≤ lim ∨ (s.dl d).moved = true) → t.dlState d = dlLocked)

/-- R389: a module temperature read, once at a boundary of 64 ticks, is valid; none acknowledged three times in a row fails the sensor. -/
def linkTempRead : Prop := ∀ (s : State) (d : Fin 16) (v : BitVec 16), s.RegsOk → LinksOk s → s.dlUp d = true → s.flag (F.DST_LINKd_TCAL_TEMP_EN d) = true →
  (s.atTick = true → s.curTick % 64 = 0 → (s.dl d).tempTick ≠ some s.curTick →
    (s.Does (.linkTempRead d (some v)) fun t =>
      t.get (F.DST_LINKd_TEMP_T d) = v.toNat ∧ t.flag (F.DST_LINKd_STAT_TEMP_VALID d) = true ∧ t.flag (F.DST_LINKd_STAT_TEMP_FAIL d) = false ∧
      (t.dl d).naks = 0 ∧ t = { s with regs := t.regs, dst := t.dst }) ∧
    (s.Does (.linkTempRead d none) fun t =>
      (t.dl d).naks = (s.dl d).naks + 1 ∧ (2 ≤ (s.dl d).naks → t.flag (F.DST_LINKd_STAT_TEMP_FAIL d) = true) ∧
      (t.dl d).tempTick = some s.curTick ∧ t.get (F.DST_LINKd_TEMP_T d) = s.get (F.DST_LINKd_TEMP_T d))) ∧
  ((s.atTick = false ∨ s.curTick % 64 ≠ 0 ∨ (s.dl d).tempTick = some s.curTick) → exec (.linkTempRead d (some v)) s = .next s ∧
    exec (.linkTempRead d none) s = .next s)

/-- R392: a LOCKED link without an exchange for 16 intervals goes back to MEASURE, with its cause; before that it stays. -/
def linkSilence : Prop := ∀ (s : State) (d : Fin 16), s.RegsOk → LinksOk s → s.dlUp d = true → s.dlState d = dlLocked → s.Room Ev.DST_UNLOCK →
  ((s.dl d).lastExch + 16 * s.syncInterval d ≤ s.now → s.Does (.linkSilence d) fun t =>
    t.dlState d = dlMeasure ∧ t.get (F.DST_LINKd_STAT_CAUSE d) = (if 16 ≤ (s.dl d).authRun then 5 else 2) ∧
    t.get (F.DST_LINKd_STAT_UNLOCKS d) = min (s.get (F.DST_LINKd_STAT_UNLOCKS d) + 1) 255 ∧ t.bit F.DST_STAT_LOCKED d = false ∧
    s.Raised t Ev.DST_UNLOCK (dpPort d) (if 16 ≤ (s.dl d).authRun then 5 else 2) ∧ t = { s with regs := t.regs, dst := t.dst, evt := t.evt }) ∧
  (s.now < (s.dl d).lastExch + 16 * s.syncInterval d → exec (.linkSilence d) s = .next s)

/-- R396: a SEND that nothing refuses starts its entry on every named link; a refused one posts its cause. -/
def triggerSend : Prop := ∀ s : State, s.RegsOk → LinksOk s →
  let e : TrigFwd := ⟨timeOf (s.lastWide (A.DST_TFWD_AT 0) 3), s.lastGet F.DST_TFWD_WIDTH_WIDTH, s.lastWide A.DST_TFWD_PERIOD 2 % 2 ^ 48,
    s.lastGet F.DST_TFWD_COUNT_N, s.lastGet F.DST_TFWD_CTL_OUT, s.lastGet F.DST_TFWD_CTL_FWD == 1, true⟩
  let ports := s.lastGet F.DST_TFWD_CTL_PORTS
  (s.tfwdCause e ports = 0 → ports ≠ 0 → s.Does .triggerForwardSend fun t =>
    t.get F.DST_TFWD_RES_VALID = 1 ∧ t.get F.DST_TFWD_RES_RESULT = 1 ∧ t.dst.waiting = ports ∧
    (∀ d < 16, ports / 2 ^ d % 2 = 1 → (t.dl d).trg = (s.dl d).trg ++ [e]) ∧ (∀ d < 16, ports / 2 ^ d % 2 = 0 → t.dl d = s.dl d) ∧
    t = { s with regs := t.regs, dst := t.dst }) ∧
  (s.tfwdCause e ports ≠ 0 → s.Does .triggerForwardSend fun t =>
    t.get F.DST_TFWD_RES_VALID = 1 ∧ t.get F.DST_TFWD_RES_RESULT = 2 ∧ t.get F.DST_TFWD_RES_CAUSE = s.tfwdCause e ports ∧
    s.RegsBut t [A.DST_TFWD_RES] ∧ t = { s with regs := t.regs })

/-- R396: an entry carried by 8 Syncs without a result leaves its link with the result TIMEOUT. -/
def triggerTimeout : Prop := ∀ (s : State) (d : Fin 16) (e : TrigFwd) (rest : List TrigFwd), LinksOk s → (s.dl d).trg = e :: rest → s.Room Ev.DST_TRG_RESULT →
  s.injOn 0xE1 (dpPort d) = false →
  (8 ≤ (s.dl d).carried → s.Does (.triggerForwardTimeout d) fun t =>
    (t.dl d).trg = rest ∧ (t.dl d).carried = 0 ∧ s.Raised t Ev.DST_TRG_RESULT (dpPort d) (((s.dl d).trgSeq + 256 * 7) % 2 ^ 32)) ∧
  ((s.dl d).carried < 8 → exec (.triggerForwardTimeout d) s = .next s)

/-! ### The pair of units -/

/-- R414: what a resignation leaves: STANDBY with an empty copy, the wire driven, admission closed, no vintage under way. -/
abbrev Resigned (s t : State) : Prop :=
  t.role = prStandby ∧ t.copy = cpEmpty ∧ t.get F.PAR_STAT_MISSED = 0 ∧ t.par.resignOut = some s.now ∧ t.flag F.SVC_STAT_OPEN = false ∧
  t.par.openV = none ∧ t.par.sealedV = none

/-- R406: the eight header bytes of a frame to the peer. -/
def pairHeader : Prop := ∀ (s : State) (ty gen seq : Nat) (p : List Byte),
  slice (s.pairFrame ty gen seq p) 12 10 = beBytes 2 (s.get F.PAR_ETYPE_ETYPE) ++ leBytes 1 1 ++ leBytes 1 ty ++ leBytes 4 gen ++ leBytes 2 seq ∧
  (s.pairFrame ty gen seq p).drop 22 = p

/-- R214, R215: a frame for the peer that the guardrails let pass joins the pair's class of PP. -/
abbrev PairSent (s t : State) (f : List Byte) : Prop := ∀ l, (s.port ppPort).txq[s.pairClass]? = some l → TxNew s ppPort 5 s.pairClass f none →
  s.txCause ppPort 5 s.pairClass f = 0 → s.portUp ppPort = true →
  (t.port ppPort).txq[s.pairClass]? = some (l ++ [⟨5, s.pairClass, f, none, f.length, 0, none⟩])

/-- R402: a unit whose PP is UP sends HELLO every 10 ms, with its serial number, PREF, role, ACTIVE_SINCE and last committed generation;
without a pair, with PP not UP or sooner it does not. -/
def helloSend : Prop := ∀ s : State, PortsOk s →
  (s.pairEn = true → s.ppUp = true → (∀ u, s.par.helloAt = some u → u + lsbPerSec / 100 ≤ s.now) → s.Does .helloSend fun t =>
    t.par = { s.par with helloAt := some s.now } ∧
    PairSent s t (s.pairFrame tyHello 0 0 (Config.pairPayload tyHello
      [(s.wide A.PAR_SERIAL 2 : Nat), s.get F.PAR_CFG_PREF, s.role, (s.par.since : Nat), s.get F.PAR_GEN_COMMIT_GEN])) ∧
    t = { s with prt := t.prt, par := t.par, cnt := t.cnt, evt := t.evt, regs := t.regs }) ∧
  ((s.pairEn = false ∨ s.ppUp = false ∨ ∃ u, s.par.helloAt = some u ∧ s.now < u + lsbPerSec / 100) → exec .helloSend s = .next s)

/-- R402: the role a discovering unit takes from a HELLO. -/
def helloDiscover : Prop := ∀ (s s1 : State) (h : PairHello) (m : PairMsg), s.RegsOk → s.pairEn = true → s.pairTake tyHello = (some m, s1) → s.role = prDiscover →
  s.Does (.helloRx h) fun t =>
    t.wide A.PAR_PEER_SERIAL 2 = h.serial % 2 ^ 64 ∧ t.par.peerRole = h.role ∧ t.par.peerSince = h.since ∧
    (h.role.val = 1 → t.role = prStandby) ∧
    (h.role.val = 0 → s.get F.PAR_CFG_PREF = h.pref → t.role = if s.wide A.PAR_SERIAL 2 < h.serial then prActive else prStandby) ∧
    (h.role.val = 0 → s.get F.PAR_CFG_PREF ≠ h.pref → t.role = if prefOrder (s.get F.PAR_CFG_PREF) < prefOrder h.pref then prActive else prStandby) ∧
    (2 ≤ h.role.val → t.role = prDiscover)

/-- R411: a peer that has entered STANDBY is sent every record that is not empty. -/
def helloCopy : Prop := ∀ (s s1 : State) (h : PairHello) (m : PairMsg), s.RegsOk → s.pairEn = true → s.pairTake tyHello = (some m, s1) → s.role = prActive →
  h.role.val = 2 → s.par.peerRole ≠ prStandby → s.Does (.helloRx h) fun t =>
    t.role = prActive ∧ t.par.peerRole = 2 ∧ ∀ i < 2 ^ s.larderLog2, s.recEmpty i = false → i ∈ t.ldr.dirty

/-- R416: of two active units the one with the earlier ACTIVE_SINCE goes on, on a tie the one with the lower serial number. -/
def helloDual : Prop := ∀ (s s1 : State) (h : PairHello) (m : PairMsg), s.RegsOk → s.pairEn = true → s.pairTake tyHello = (some m, s1) → s.role = prActive →
  h.role.val = 1 → s.Room Ev.PAR_DUAL_ACTIVE →
  ((h.since < s.par.since ∨ h.since = s.par.since ∧ h.serial < s.wide A.PAR_SERIAL 2) → s.Does (.helloRx h) fun t =>
    Resigned s t ∧ Told s t Ev.PAR_DUAL_ACTIVE noInst 1) ∧
  ((s.par.since < h.since ∨ h.since = s.par.since ∧ s.wide A.PAR_SERIAL 2 ≤ h.serial) → s.Does (.helloRx h) fun t =>
    t.role = prActive ∧ t.flag F.SVC_STAT_OPEN = s.flag F.SVC_STAT_OPEN ∧ Told s t Ev.PAR_DUAL_ACTIVE noInst 0)

/-- R402: without PP the arbiter decides where there is one, else the peer's heartbeat, else PREF. -/
def discoverTimeout : Prop := ∀ (s : State) (arb : Bool), s.RegsOk →
  (s.pairEn = true → s.role = prDiscover → s.ppUp = false →
    (s.flag F.PAR_CFG_ARB_EN = true → s.Does (.discoverTimeout arb) fun t => t.role = (if arb then prActive else prStandby) ∧ t.flag F.PAR_STAT_ARB = arb) ∧
    (s.flag F.PAR_CFG_ARB_EN = false → s.flag F.PAR_STAT_PEER_PPS = false → s.Does (.discoverTimeout arb) fun t => t.role = prActive) ∧
    (s.flag F.PAR_CFG_ARB_EN = false → s.flag F.PAR_STAT_PEER_PPS = true → s.flag F.PAR_STAT_PEER_ACTIVE = true →
      s.Does (.discoverTimeout arb) fun t => t.role = prStandby) ∧
    (s.flag F.PAR_CFG_ARB_EN = false → s.flag F.PAR_STAT_PEER_PPS = true → s.flag F.PAR_STAT_PEER_ACTIVE = false →
      s.Does (.discoverTimeout arb) fun t => t.role = if s.get F.PAR_CFG_PREF = 1 then prActive else prStandby)) ∧
  ((s.pairEn = false ∨ s.role ≠ prDiscover ∨ s.ppUp = true) → exec (.discoverTimeout arb) s = .next s)

/-- R404, R408: at a boundary an active unit with PP UP swaps the bitmaps and opens a vintage of the next generation, whose closing instant
is the boundary; a vintage not yet drained goes on with that instant. -/
def vintageOpens : Prop := ∀ (s : State) (e : Nat) (tag : Fin 65536), s.RegsOk → s.pairEn = true → s.atTick = true → s.curTick % 64 = 0 →
  s.par.lastTick ≠ s.curTick + 1 → s.role = prActive → s.ppUp = true →
  (s.par.openV = none → s.Does (.vintageBoundary e tag) fun t =>
    (∃ v, t.par.openV = some v ∧ v.gen = s.par.nextGen ∧ v.log = [] ∧ v.full = false ∧ v.st.closing = s.now) ∧
    t.par.nextGen = (s.par.nextGen + 1) % 2 ^ 32 ∧ t.ldr.closed = s.ldr.dirty ∧ t.ldr.dirty = s.ldr.closed ∧ t.par.sealedV = s.par.sealedV ∧ t.role = prActive) ∧
  (∀ v, s.par.openV = some v → s.Does (.vintageBoundary e tag) fun t =>
    (∃ w, t.par.openV = some w ∧ w.gen = v.gen ∧ w.log = v.log ∧ w.frames = v.frames ∧ w.st.closing = s.now) ∧ t.par.nextGen = s.par.nextGen ∧
    t.ldr.closed = s.ldr.dirty ∧ t.ldr.dirty = s.ldr.closed ∧ t.role = prActive)

/-- R412: a standby counts a boundary, once; between boundaries nothing happens. -/
def vintageMissed : Prop := ∀ (s : State) (e : Nat) (tag : Fin 65536), s.RegsOk →
  (s.pairEn = true → s.atTick = true → s.curTick % 64 = 0 → s.par.lastTick ≠ s.curTick + 1 → s.role = prStandby → s.Does (.vintageBoundary e tag) fun t =>
    t.get F.PAR_STAT_MISSED = min (s.get F.PAR_STAT_MISSED + 1) (wid F.PAR_STAT_MISSED - 1) ∧ t.par = { s.par with lastTick := s.curTick + 1 } ∧
    t = { s with regs := t.regs, par := t.par, prt := t.prt, cnt := t.cnt, evt := t.evt }) ∧
  ((s.atTick = false ∨ s.curTick % 64 ≠ 0 ∨ s.par.lastTick = s.curTick + 1) → exec (.vintageBoundary e tag) s = .next s)

/-- R404: an EXCH frame gives the standby theta of its boundary, and an active unit answers it with its own stamps. -/
def pairExchRx : Prop := ∀ (s s1 : State) (m : PairMsg) (t1 t2 t3 t4 : Int) (b : Nat), s.pairTake tyExch = (some m, s1) →
  (s.isStandby = true → s.Does (.pairExchRx t1 t2 t3 t4 b) fun t =>
    t.par.thetas = ((b, s.pairTheta t1 t2 t3 t4) :: s.par.thetas).take 64 ∧ t = { s1 with par := { s1.par with thetas := t.par.thetas } }) ∧
  (s.isActive = true → PortsOk s1 → s.Does (.pairExchRx t1 t2 t3 t4 b) fun t =>
    PairSent s1 t (s1.pairFrame tyExch m.gen m.seq (Config.pairPayload tyExch [t3, t4])) ∧ t.par = s1.par)

/-- R404: with both fixed delays equal, theta is half of (t2 - t1) - (t4 - t3), to the nearest stamp LSB (the rounding: assumption log 85). -/
def pairThetaIs : Prop := ∀ (s : State) (t1 t2 t3 t4 : Int), s.getI F.PAR_FIX_AS_FIX = s.getI F.PAR_FIX_SA_FIX →
  s.pairTheta t1 t2 t3 t4 = roundRat ((((t2 - t1) - (t4 - t3) : Int) : Rat) / 32)

/-- R408: a drained vintage is sealed: it waits for its ACK, and its records are counted. -/
def vintageDrained : Prop := ∀ s : State, s.RegsOk →
  (∀ v, s.par.openV = some v → s.isActive = true → s.ppUp = true → s.Does .vintageDrained fun t =>
    let n := (s.ldr.closed.filter fun i => !s.recEmpty i).length
    t.par.openV = none ∧ (∃ w, t.par.sealedV = some w ∧ w.gen = v.gen ∧ w.sealedAt = s.curTick ∧
      w.log = v.log ++ s.ldr.closed.filter fun i => !s.recEmpty i) ∧
    t.ldr.closed = [] ∧ t.get F.PAR_GEN_SEALED_GEN = v.gen % 2 ^ 32 ∧ t.get F.PAR_SENT_COUNT = (s.get F.PAR_SENT_COUNT + 1) % wid F.PAR_SENT_COUNT ∧
    t.get F.PAR_RECORDS_COUNT = (s.get F.PAR_RECORDS_COUNT + n) % wid F.PAR_RECORDS_COUNT) ∧
  ((s.par.openV = none ∨ s.isActive = false ∨ s.ppUp = false) → exec .vintageDrained s = .next s)

/-- R411: the ACK of the sealed vintage commits it; no ACK within 8 ticks discards it. -/
def vintageAckRx : Prop := ∀ (s s1 : State) (m : PairMsg) (v : Vintage), s.RegsOk → s.pairTake tyAck = (some m, s1) → s.par.sealedV = some v →
  (v.gen = m.gen → s.Does .vintageAckRx fun t => t.par.sealedV = none ∧ t.get F.PAR_GEN_COMMIT_GEN = v.gen % 2 ^ 32) ∧
  (v.gen ≠ m.gen → exec .vintageAckRx s = .next s1)
def vintageAckTimeout : Prop := ∀ (s : State) (v : Vintage), s.RegsOk → s.par.sealedV = some v → s.Room Ev.PAR_VINTAGE_FAIL →
  (v.sealedAt + 8 ≤ s.curTick → s.Does .vintageAckTimeout fun t =>
    t.par.sealedV = none ∧ t.get F.PAR_DISCARDED_COUNT = (s.get F.PAR_DISCARDED_COUNT + 1) % wid F.PAR_DISCARDED_COUNT ∧
    (v.full = false → ∀ i, i ∈ t.ldr.dirty ↔ i ∈ s.ldr.dirty ∨ i ∈ v.log) ∧ s.Raised t Ev.PAR_VINTAGE_FAIL noInst (3 + 256 * (v.gen % 2 ^ 24))) ∧
  (s.curTick < v.sealedAt + 8 → exec .vintageAckTimeout s = .next s)

/-- R409: a RECORDS frame joins the vintage of its generation; a new generation drops what an unfinished one staged. -/
def vintageRecordsRx : Prop := ∀ (s s1 : State) (m : PairMsg), s.RegsOk → s.isStandby = true → s.pairTake tyRecords = (some m, s1) →
  s.Does .vintageRecordsRx fun t =>
    t.par.rxGen = m.gen ∧ t.par.rxFrames = (if s.par.rxGen = m.gen then s.par.rxFrames else []) ++ [(m.seq, m.payload)] ∧
    t.par.insert = s.par.insert ∧ t = { s1 with regs := t.regs, par := t.par }

/-- R406, R409: a SEAL whose checks hold commits the vintage and is acknowledged; one whose checks fail discards all it staged. -/
def vintageSealRx : Prop := ∀ (s s1 : State) (m : PairMsg) (x : PairSeal) (v : VintState), s.RegsOk → s.isStandby = true →
  s.pairTake tySeal = (some m, s1) →
  let r := (s1.takeOthers 64).rxGenIs m.gen
  let frames := orderFrames r.par.rxFrames
  (frames.length = x.frames → frames.flatten.length = x.bytes → crc32 frames.flatten = x.crc → r.pairMacOk frames.flatten x.mac = true →
    s.Does (.vintageSealRx x v) fun t =>
      t.get F.PAR_GEN_COMMIT_GEN = m.gen % 2 ^ 32 ∧ t.copy = cpCurrent ∧ t.get F.PAR_STAT_MISSED = 0 ∧ t.flag F.PAR_STAT_APPLYING = true ∧
      t.get F.PAR_VINT_RES_RESULT = 1 ∧ t.par.insert = r.par.insert ++ r.par.stage.map (·.2) ∧ t.par.stage = [] ∧ t.par.rxFrames = []) ∧
  ((frames.length ≠ x.frames ∨ frames.flatten.length ≠ x.bytes ∨ crc32 frames.flatten ≠ x.crc ∨ r.pairMacOk frames.flatten x.mac = false) →
    s.Room Ev.PAR_VINTAGE_FAIL → s.Does (.vintageSealRx x v) fun t =>
      t.get F.PAR_GEN_COMMIT_GEN = s.get F.PAR_GEN_COMMIT_GEN ∧ t.copy = s.copy ∧ t.par.insert = r.par.insert ∧ t.par.stage = [] ∧ t.par.rxFrames = [] ∧
      t.get F.PAR_DISCARDED_COUNT = (s.get F.PAR_DISCARDED_COUNT + 1) % wid F.PAR_DISCARDED_COUNT ∧ t.get F.PAR_VINT_RES_RESULT = 2 ∧
      Told s t Ev.PAR_VINTAGE_FAIL noInst (1 + 256 * (m.gen % 2 ^ 24)))

/-- R409: the committed records are in the Larder, and APPLYING ends. -/
def recordInsertDone : Prop := ∀ s : State, s.RegsOk →
  s.Does .recordInsertDone fun t => t.flag F.PAR_STAT_APPLYING = false ∧ t.par = { s.par with insert := [] } ∧ t.now = s.now ∧ t.evt = s.evt

/-- R412: a copy not committed for 16 boundaries is STALE. -/
def copyStale : Prop := ∀ s : State, s.RegsOk →
  (s.isStandby = true → s.copy = cpCurrent → 16 ≤ s.get F.PAR_STAT_MISSED → s.Room Ev.PAR_STALE → s.Does .copyStale fun t =>
    t.copy = cpStale ∧ s.Raised t Ev.PAR_STALE noInst (s.get F.PAR_GEN_COMMIT_GEN) ∧ s.RegsBut t [A.PAR_STAT] ∧ t = { s with regs := t.regs, evt := t.evt }) ∧
  ((s.copy ≠ cpCurrent ∨ s.get F.PAR_STAT_MISSED < 16) → exec .copyStale s = .next s)

/-- R413: an edge on PEER_PPS_IN shows the peer's width, and two edges 1 s apart show the peer present; none for PPS_TIMEOUT
declares it lost. -/
def peerPpsEdge : Prop := ∀ (s : State) (u us : Nat), s.RegsOk → s.pairEn = true → s.Does (.peerPpsEdge u us) fun t =>
  t.par.edge = some u ∧ t.par.width = widthKind us ∧ t.flag F.PAR_STAT_PEER_ACTIVE = decide (180000 ≤ us ∧ us ≤ 220000) ∧
  (∀ v, s.par.edge = some v → v ≤ u → u - v ≤ lsbPerSec + lsbPerUs * 1000 → lsbPerSec ≤ u - v + lsbPerUs * 1000 → t.flag F.PAR_STAT_PEER_PPS = true) ∧
  (s.par.edge = none → t.flag F.PAR_STAT_PEER_PPS = s.flag F.PAR_STAT_PEER_PPS)
def peerPpsLost : Prop := ∀ (s : State) (u : Nat), s.RegsOk → s.pairEn = true → s.par.edge = some u → s.flag F.PAR_STAT_PEER_PPS = true → s.Room Ev.PAR_PEER_PPS →
  (u + s.get F.PAR_TIMERS_PPS_TIMEOUT * 1000 * lsbPerUs ≤ s.now → s.Does .peerPpsLost fun t =>
    t.flag F.PAR_STAT_PEER_PPS = false ∧ t.flag F.PAR_STAT_PEER_ACTIVE = false ∧ s.Raised t Ev.PAR_PEER_PPS noInst (1 + if s.ppUp then 2 else 0) ∧
    s.RegsBut t [A.PAR_STAT] ∧ t = { s with regs := t.regs, evt := t.evt }) ∧
  (s.now < u + s.get F.PAR_TIMERS_PPS_TIMEOUT * 1000 * lsbPerUs → exec .peerPpsLost s = .next s)

/-- R414, R420: RESIGN on an active unit; from the SPI port the pair's commands are ignored. -/
def pairResign : Prop := ∀ (s : State) (path : Path), s.RegsOk → s.isActive = true → path ≠ .spi → s.Room Ev.PAR_RESIGN →
  s.Does (.pairResign path) fun t => Resigned s t ∧ Told s t Ev.PAR_RESIGN noInst 7
def pairSpiIgnored : Prop := ∀ s : State, exec (.pairResign .spi) s = .next s ∧ exec (.pairTakeoverCmd .spi) s = .next s ∧ exec (.pairResync .spi) s = .next s

/-- R414: the wire is released 1 s after the resignation. -/
def resignRelease : Prop := ∀ (s : State) (u : Nat), s.par.resignOut = some u →
  (u + lsbPerSec ≤ s.now → exec .resignRelease s = .next { s with par := { s.par with resignOut := none } }) ∧
  (s.now < u + lsbPerSec → exec .resignRelease s = .next s)

def resignFrameRx : Prop := ∀ (s s1 : State) (m : PairMsg), s.isStandby = true → s.pairTake tyResign = (some m, s1) →
  let n := m.payload.length - 16
  (s1.pairMacOk (resignBody m.gen m.seq (m.payload.take n)) (m.payload.drop n) = true →
    exec .resignFrameRx s = .next { s1 with par := { s1.par with takeFrame := true } }) ∧
  (s1.pairMacOk (resignBody m.gen m.seq (m.payload.take n)) (m.payload.drop n) = false → exec .resignFrameRx s = .next s1)
def pairTakeoverCmd : Prop := ∀ (s : State) (path : Path), path ≠ .spi →
  (s.isStandby = true → exec (.pairTakeoverCmd path) s = .next { s with par := { s.par with takeCmd := true } }) ∧
  (s.isStandby = false → exec (.pairTakeoverCmd path) s = .next s)

/-- R411: RESYNC marks every record that is not empty. -/
def pairResync : Prop := ∀ (s : State) (path : Path), s.isActive = true → path ≠ .spi → s.Does (.pairResync path) fun t =>
  (∀ i < 2 ^ s.larderLog2, s.recEmpty i = false → i ∈ t.ldr.dirty) ∧ t = { s with ldr := { s.ldr with dirty := t.ldr.dirty } }

/-- R415: ARB_IN held high lets a standby take over at the tick; held low it makes an active unit resign. -/
def arbHoldExpiry : Prop := ∀ (s : State) (level : Bool), s.RegsOk → s.pairEn = true → s.flag F.PAR_CFG_ARB_EN = true →
  (level = true → s.role = prStandby → s.Does (.arbHoldExpiry level) fun t =>
    t.flag F.PAR_STAT_ARB = true ∧ t.par = { s.par with takeArb := true } ∧ t.role = prStandby) ∧
  (level = false → s.role = prActive → s.Does (.arbHoldExpiry level) fun t => t.flag F.PAR_STAT_ARB = false ∧ Resigned s t)

/-- R413, R416: two active units with PP down: the first pulse of the active width on the wire tells it, and the one that took over for lack
of a heartbeat resigns. -/
def dualSeen : Prop := ∀ (s : State) (u us : Nat), s.RegsOk → s.isActive = true → s.ppUp = false → s.flag F.PAR_STAT_PEER_ACTIVE = false →
  180000 ≤ us → us ≤ 220000 → s.Room Ev.PAR_DUAL_ACTIVE → s.par.edge = none →
  (s.par.tookBy = 4 → s.Does (.peerPpsEdge u us) fun t => Resigned s t ∧ Told s t Ev.PAR_DUAL_ACTIVE noInst 1) ∧
  (s.par.tookBy ≠ 4 → s.Does (.peerPpsEdge u us) fun t => t.role = prActive ∧ Told s t Ev.PAR_DUAL_ACTIVE noInst 0)

/-- R415: takeover_check: the wire, the frame, the arbiter, the lost heartbeat, the command, in that order; with an arbiter enabled only the
first three. -/
def takeoverOrder : Prop := ∀ s : State,
  (s.flag F.PAR_STAT_RESIGN_IN = true → s.takeCause = 1) ∧
  (s.flag F.PAR_STAT_RESIGN_IN = false → s.par.takeFrame = true → s.takeCause = 2) ∧
  (s.flag F.PAR_STAT_RESIGN_IN = false → s.par.takeFrame = false → s.flag F.PAR_CFG_ARB_EN = true → s.takeCause = if s.par.takeArb then 3 else 0) ∧
  (s.flag F.PAR_STAT_RESIGN_IN = false → s.par.takeFrame = false → s.flag F.PAR_CFG_ARB_EN = false →
    s.takeCause = if s.ppUp = false ∧ s.flag F.PAR_STAT_PEER_PPS = false then 4 else if s.par.takeCmd then 5 else 0)

/-- R417: what a takeover leaves: an active unit whose outputs are gated, no copy, the cause and the generation it took over with. -/
def takeoverLeaves : Prop := ∀ (s : State) (c : Nat), s.RegsOk → c < 8 → s.role = prStandby →
  (s.takeover c).role = prActive ∧ (s.takeover c).copy = cpEmpty ∧ (s.takeover c).flag F.KPR_STAT_OUT_GATED = true ∧
  (s.takeover c).get F.PAR_TO_RES_VALID = 1 ∧ (s.takeover c).get F.PAR_TO_RES_CAUSE = c ∧
  (s.takeover c).get F.PAR_TO_GEN_GEN = s.get F.PAR_GEN_COMMIT_GEN ∧ (s.takeover c).par.since = s.now ∧ (s.takeover c).par.stage = []

/-- R414: while the wire shows a standby peer an active unit resigns on the lowest standing cause of its mask; else it stays. -/
def resignOnCause : Prop := ∀ (s : State) (i : Nat), s.RegsOk → s.Room Ev.PAR_RESIGN →
  (s.isActive = true → s.flag F.PAR_STAT_PEER_PPS = true → s.par.width = 1 → i ∈ s.resignCauses → s.bit F.PAR_CFG_RESIGN_MASK i = true →
    (∀ j ∈ s.resignCauses, j < i → s.bit F.PAR_CFG_RESIGN_MASK j = false) → Resigned s s.resignCheck ∧ Told s s.resignCheck Ev.PAR_RESIGN noInst i) ∧
  ((s.isActive = false ∨ s.flag F.PAR_STAT_PEER_PPS = false ∨ s.par.width ≠ 1) → s.resignCheck = s)

/-- R407: what a RECORDS payload carries is read back: bytes 0 to 51 of each record, and 0 in bytes 52 to 63. -/
def recordsRoundTrip : Prop := ∀ (l : List (List Byte)) (n : Nat), l.length ≤ n → (∀ b ∈ l, b.length = 64) →
  unpackRecs n (l.flatMap packRec) = l.map fun b => b.take 52 ++ List.replicate 12 0

/-- R412: a unit that enters STANDBY has an empty copy and has missed no boundary. -/
def standbyEntry : Prop := ∀ s : State, s.RegsOk → s.role ≠ prStandby →
  (s.setRole prStandby).role = prStandby ∧ (s.setRole prStandby).copy = cpEmpty ∧ (s.setRole prStandby).get F.PAR_STAT_MISSED = 0

/-! ### Waking by an item, the memories -/

/-- R190: an item for a sleeping band wakes it, one from KCLK wakes a device in the Cellar state, where WAKE_COMPAT is set. -/
def compatWakeRequest : Prop := ∀ (s : State) (src dst : Fin 128), s.RegsOk →
  (s.flag F.XDC_CFG_WAKE_COMPAT = false → exec (.compatWakeRequest src dst) s = .next s) ∧
  (s.flag F.XDC_CFG_WAKE_COMPAT = true → s.clr.phase = cpCellar → s.clr.vaux = true → s.mainOff = true → src.val = 9 → dst.val < 9 →
    exec (.compatWakeRequest src dst) s = .next { s with clr := { s.clr with
      phase := cpWaking, source := 4, waiting := s.clr.waiting ++ [(Ev.XDC_WAKE, dst.val, dst.val + 256 * src.val)] } }) ∧
  (∀ b : Fin 2, s.flag F.XDC_CFG_WAKE_COMPAT = true → s.clr.phase = cpAwake → dst.val = 6 + b.val → s.gns.band.length = 2 → s.bandState b = gbAsleep →
    s.bandEnabled b = true → s.Room Ev.XDC_WAKE → s.Does (.compatWakeRequest src dst) fun t =>
      t.bandState b = gbWaking ∧ Told s t Ev.XDC_WAKE dst (dst.val + 256 * src.val))

/-- A read of DRAM at a place that holds memory takes place, and no injection adds to it. -/
abbrev Reads (s : State) (loc rank : Nat) : Prop :=
  loc < s.mem.size ∧ s.dramBusy = false ∧ s.injErrors (loc / 16 * 16) (rank % 2) 0 = [] ∧ s.injOf 0xF0 0 = none

/-- R422, R425, R427: a read of a DRAM word in order changes nothing, and one of a VIRGIN word is counted. R186: while DRAM serves no
request no read takes place. -/
def dramReadFine : Prop := ∀ (s : State) (loc rank : Nat) (u : MemUser) (k : Fin 16), s.RegsOk →
  (Reads s loc rank → s.chkOf (loc / 16) = .coded → exec (.scrubRead false loc rank [] false u k) s = .next s) ∧
  (Reads s loc rank → s.chkOf (loc / 16) = .virgin → s.Does (.scrubRead false loc rank [] false u k) fun t =>
    t.get F.MEM_VIRGIN_READS_COUNT = (s.get F.MEM_VIRGIN_READS_COUNT + 1) % wid F.MEM_VIRGIN_READS_COUNT ∧ s.RegsBut t [A.MEM_VIRGIN_READS] ∧
    t = { s with regs := t.regs }) ∧
  (loc < s.mem.size → s.dramBusy = true → ∀ l v, exec (.scrubRead false loc rank l v u k) s = .next s)

/-- R422, R427: one symbol in error is corrected: its data stand, and the correction is counted and posted. -/
def dramReadCorrects : Prop := ∀ (s : State) (loc rank p e : Nat) (u : MemUser) (k : Fin 16), s.Canon → Reads s loc rank → p < 36 → 0 < e → e < 16 →
  s.chkOf (loc / 16) = .coded →
  s.Does (.scrubRead false loc rank [(p, e)] false u k) fun t =>
    (∀ a, t.cell a = s.cell a) ∧ (∀ w, t.chkOf w = s.chkOf w) ∧
    t.get F.MEM_DRAM_CORR_COUNT = (s.get F.MEM_DRAM_CORR_COUNT + 1) % wid F.MEM_DRAM_CORR_COUNT ∧ t.get F.MEM_LAST_RES_KIND = 1 ∧
    t.get F.MEM_LAST_RES_POS = p ∧ t.get F.MEM_DRAM_UNCORR_COUNT = s.get F.MEM_DRAM_UNCORR_COUNT

/-- R424, R427: an SRAM word in order is read without effect; one bit in error is corrected, counted and posted, and two are
uncorrectable. -/
def sramReads : Prop := ∀ (s : State) (loc p q : Nat) (k : Fin 16), s.RegsOk → loc < 2 ^ 32 → s.mem.sram.find? (fun e => e.1 == loc) = none → p < 72 → q < 72 → p ≠ q →
  (exec (.scrubRead true loc 0 [] false .scrubber k) s = .next s) ∧
  (s.Does (.scrubRead true loc 0 [(p, 1)] false .scrubber k) fun t =>
    t.get F.MEM_SRAM_CORR_COUNT = (s.get F.MEM_SRAM_CORR_COUNT + 1) % wid F.MEM_SRAM_CORR_COUNT ∧ t.get F.MEM_LAST_RES_KIND = 2 ∧
    t.get F.MEM_LAST_RES_POS = p ∧ t.dram = s.dram ∧ t.mem.sram = s.mem.sram) ∧
  (s.Does (.scrubRead true loc 0 [(p, 1), (q, 1)] false .scrubber k) fun t =>
    t.get F.MEM_SRAM_UNCORR_COUNT = (s.get F.MEM_SRAM_UNCORR_COUNT + 1) % wid F.MEM_SRAM_UNCORR_COUNT ∧ t.get F.MEM_LAST_RES_KIND = 4 ∧ t.dram = s.dram)

/-- R428, R429: the eighth correction of an address within the tracker's window makes it sticky, and its page is retired to a spare one
while there is one. -/
def stickyPage : Prop := ∀ (s : State) (loc rank p e : Nat) (k : Fin 16) (f : Nat), s.Canon → Reads s loc rank → p < 36 → 0 < e → e < 16 →
  s.chkOf (loc / 16) = .coded → s.mem.trackD = [⟨loc / 16 * 16, f, 7⟩] → s.curTick < f + 2 ^ 20 → s.mem.lost = [] → s.mem.dev = [] → s.mem.unrepaired = [] →
  (s.get F.MEM_SPARE_USED < s.get F.MEM_SPARE_SPARES → s.get F.MEM_SPARE_USED + 1 < wid F.MEM_SPARE_USED →
    s.Does (.scrubRead false loc rank [(p, e)] false .scrubber k) fun t =>
      t.get F.MEM_STICKY_COUNT = (s.get F.MEM_STICKY_COUNT + 1) % wid F.MEM_STICKY_COUNT ∧ t.get F.MEM_SPARE_USED = s.get F.MEM_SPARE_USED + 1 ∧
      t.mem.retired = s.mem.retired ++ [(loc / 16 * 16 / 4096, s.get F.MEM_SPARE_USED)]) ∧
  (s.get F.MEM_SPARE_SPARES ≤ s.get F.MEM_SPARE_USED → s.Does (.scrubRead false loc rank [(p, e)] false .scrubber k) fun t =>
    t.mem.retired = s.mem.retired ∧ t.get F.MEM_SPARE_USED = s.get F.MEM_SPARE_USED ∧ t.mem.unrepaired = [(false, loc / 16 * 16)])

/-- R422, R431: two symbols in error make the word uncorrectable: counted and posted. -/
def dramReadUncorrectable : Prop := ∀ (s : State) (loc rank p q d e : Nat) (k : Fin 16), s.Canon → Reads s loc rank → p < 36 → q < 36 → p ≠ q →
  0 < d → d < 16 → 0 < e → e < 16 → s.chkOf (loc / 16) = .coded →
  s.Does (.scrubRead false loc rank [(p, d), (q, e)] false .scrubber k) fun t =>
    t.get F.MEM_DRAM_UNCORR_COUNT = (s.get F.MEM_DRAM_UNCORR_COUNT + 1) % wid F.MEM_DRAM_UNCORR_COUNT ∧ t.get F.MEM_LAST_RES_KIND = 3 ∧
    t.get F.MEM_DRAM_CORR_COUNT = s.get F.MEM_DRAM_CORR_COUNT ∧ t.now = s.now

/-- R431: what an uncorrectable word brings to the block that read it: a GAP in the place of a Pip, MEM_UNCORR in the place of an event's
record, with its SEQ, and the withdrawal of a ledger entry with reason MEMORY. -/
def lostPip : Prop := ∀ (s : State) (loc p q : Nat) (c : Fin 32) (n : Nat) (x : Pip) (k : Fin 16), s.RegsOk → loc < 2 ^ 32 →
  s.mem.sram.find? (fun e => e.1 == loc) = none → p < 72 → q < 72 → p ≠ q → s.tic.chans.length = 32 → (s.ch c).q[n]? = some x →
  s.Does (.scrubRead true loc 0 [(p, 1), (q, 1)] false (.pip c n) k) fun t =>
    (t.ch c).q = (s.ch c).q.set n { x with data := gapBytes 0 1 } ∧ ∀ d < 32, d ≠ c.val → t.ch d = s.ch d
def lostEvent : Prop := ∀ (s : State) (loc p q n : Nat) (r : RingRec) (k : Fin 16), s.RegsOk → loc < 2 ^ 32 →
  s.mem.sram.find? (fun e => e.1 == loc) = none → p < 72 → q < 72 → p ≠ q → s.evt.ring[n]? = some r →
  s.Does (.scrubRead true loc 0 [(p, 1), (q, 1)] false (.event n) k) fun t =>
    ∃ x, t.evt.ring = s.evt.ring.set n x ∧ x.event = Ev.MEM_UNCORR ∧ x.seq = r.seq ∧ x.detail = loc
def lostEntry : Prop := ∀ (s : State) (loc p q : Nat) (i : Fin 65536) (e : Entry), s.Canon → loc < 2 ^ 32 →
  s.mem.sram.find? (fun e => e.1 == loc) = none → p < 72 → q < 72 → p ≠ q → s.entry i = some e → s.pinEntry e = none → s.reportOf i isCommitted = none →
  e.phase ≠ .pinned →
  s.Does (.scrubRead true loc 0 [(p, 1), (q, 1)] false (.ledger i) 0) fun t => Withdrawn s t e wdMemory

/-- R426: the fill of DRAM ends once, after the Larder's, with its event. -/
def dramFillDone : Prop := ∀ (s : State) (ms : Fin 65536), s.RegsOk →
  (s.flag F.MEM_STAT_DRAM_FILLED = false → s.flag F.MEM_STAT_LARDER_FILLED = true → s.dramBusy = false → s.Room Ev.MEM_FILL_DONE → s.Does (.dramFillDone ms) fun t =>
    t.flag F.MEM_STAT_DRAM_FILLED = true ∧ t.get F.MEM_FILL_WM_FILLED = s.mem.size / 2 ^ 20 % wid F.MEM_FILL_WM_FILLED ∧
    s.Raised t Ev.MEM_FILL_DONE noInst ms ∧ s.RegsBut t [A.MEM_STAT, A.MEM_FILL_WM] ∧ t = { s with regs := t.regs, evt := t.evt }) ∧
  ((s.flag F.MEM_STAT_DRAM_FILLED = true ∨ s.flag F.MEM_STAT_LARDER_FILLED = false ∨ s.dramBusy = true) → exec (.dramFillDone ms) s = .next s)

/-- R432: a rank is trained when its period has passed or its temperature has moved, while DCLK runs and no other rank is in training; the
end of the training is told, and what waited for it in DRAM's queue is written. -/
def dramRetrain : Prop := ∀ (s : State) (r : Fin 2) (moved : Bool), s.RegsOk →
  (s.flag F.MEM_STAT_RETRAINING = false → s.clockRuns 5 = true → s.syn.sref = false → r.val < s.mem.ranks → s.retrainDue r moved = true →
    s.Does (.dramRetrain r moved) fun t =>
      t.flag F.MEM_STAT_RETRAINING = true ∧ t.get F.MEM_STAT_RANK = r ∧ t.dramBusy = true ∧ s.RegsBut t [A.MEM_STAT] ∧ t = { s with regs := t.regs }) ∧
  ((s.flag F.MEM_STAT_RETRAINING = true ∨ s.clockRuns 5 = false ∨ s.syn.sref = true ∨ s.mem.ranks ≤ r.val ∨ s.retrainDue r moved = false) →
    exec (.dramRetrain r moved) s = .next s)
def retrainDone : Prop := ∀ (s : State) (us : Fin 256), s.Canon →
  (s.flag F.MEM_STAT_RETRAINING = true → us.val ≤ 40 → s.Room Ev.MEM_RETRAIN → s.Does (.retrainDone us) fun t =>
    t.flag F.MEM_STAT_RETRAINING = false ∧ s.Raised t Ev.MEM_RETRAIN noInst (s.get F.MEM_STAT_RANK + 256 * us.val) ∧
    (s.get F.MEM_STAT_RANK < s.mem.trained.length → nth t.mem.trained (s.get F.MEM_STAT_RANK) = s.now) ∧
    (s.clockRuns 5 = true → s.syn.sref = false → t.mem.dramQ = []) ∧
    (∀ a l, s.clockRuns 5 = true → s.syn.sref = false → s.mem.dramQ = [(a, l)] → s.mem.chk = [] → t.readBytes a l.length = l ∧ s.BytesBut t a l.length)) ∧
  ((s.flag F.MEM_STAT_RETRAINING = false ∨ 40 < us.val) → exec (.retrainDone us) s = .next s)

/-- R433: raw access without RAW_EN, without a target or from the SPI port is refused and reaches no memory. -/
def rawRefused : Prop := ∀ (s : State) (path : Path), s.RegsOk → s.rawAllowed path = false →
  (s.Does (.rawRead path) fun t => t.get F.MEM_RAW_RES_RESULT = 2 ∧ s.RegsBut t [A.MEM_RAW_RES] ∧ t = { s with regs := t.regs }) ∧
  (s.Does (.rawWrite path) fun t => t.get F.MEM_RAW_RES_RESULT = 2 ∧ s.RegsBut t [A.MEM_RAW_RES] ∧ t = { s with regs := t.regs })

/-- R433: a raw write of DRAM stores its data and check bits as they are given; a raw read answers what is stored. Of SRAM the same, with 64
data and 8 check bits. -/
def rawWrite : Prop := ∀ (s : State) (path : Path), s.Canon → s.rawAllowed path = true →
  (s.lastGet F.MEM_RAW_SEL_TARGET = 1 → s.dramBusy = false → s.rawAddr < s.mem.size → s.Does (.rawWrite path) fun t =>
    t.dramData (s.rawAddr / 16) = s.lastWide (A.MEM_RAW_DATA 0) 4 ∧ t.chkOf (s.rawAddr / 16) = .raw (s.lastGet F.MEM_RAW_CHECK_CHECK) ∧
    (∀ a, a / 16 ≠ s.rawAddr / 16 → t.cell a = s.cell a) ∧ t.get F.MEM_RAW_RES_RESULT = 1) ∧
  (s.lastGet F.MEM_RAW_SEL_TARGET = 2 → s.Does (.rawWrite path) fun t =>
    t.mem.sram.find? (fun e => e.1 == s.rawAddr % 2 ^ 32) = some (s.rawAddr % 2 ^ 32, s.lastWide (A.MEM_RAW_DATA 0) 2, s.lastGet F.MEM_RAW_CHECK_CHECK % 256) ∧
    t.get F.MEM_RAW_RES_RESULT = 1 ∧ t.dram = s.dram)
def rawRead : Prop := ∀ (s : State) (path : Path), s.Canon → s.rawAllowed path = true →
  (s.lastGet F.MEM_RAW_SEL_TARGET = 1 → s.dramBusy = false → s.rawAddr < s.mem.size → s.Does (.rawRead path) fun t =>
    t.wide (A.MEM_RAW_DATA 0) 4 = s.dramData (s.rawAddr / 16) ∧
    (∀ c, s.chkOf (s.rawAddr / 16) = .raw c → t.get F.MEM_RAW_CHECK_CHECK = c % 2 ^ 16) ∧ t.get F.MEM_RAW_RES_RESULT = 1 ∧
    (∀ a, t.cell a = s.cell a) ∧ t.mem = s.mem) ∧
  (∀ d c, s.lastGet F.MEM_RAW_SEL_TARGET = 2 → s.mem.sram.find? (fun e => e.1 == s.rawAddr % 2 ^ 32) = some (s.rawAddr % 2 ^ 32, d, c) →
    s.Does (.rawRead path) fun t =>
      t.wide (A.MEM_RAW_DATA 0) 2 = d % 2 ^ 64 ∧ t.get F.MEM_RAW_CHECK_CHECK = c % 256 ∧ t.get F.MEM_RAW_RES_RESULT = 1 ∧ t.mem = s.mem)

/-- R186, R433: a raw access of DRAM waits while DRAM serves no request; outside the installed size it reaches nothing (the model's fault,
assumption log 4). -/
def rawWaits : Prop := ∀ (s : State) (path : Path), s.rawAllowed path = true → s.lastGet F.MEM_RAW_SEL_TARGET = 1 →
  (s.dramBusy = true → s.xdc.cmds = [] →
    (s.Does (.rawRead path) fun t => t.xdc.cmds = [(path, A.MEM_RAW_CMD, 1)] ∧ t = { s with xdc := t.xdc }) ∧
    (s.Does (.rawWrite path) fun t => t.xdc.cmds = [(path, A.MEM_RAW_CMD, 2)] ∧ t = { s with xdc := t.xdc })) ∧
  (s.dramBusy = false → s.mem.size ≤ s.rawAddr →
    exec (.rawRead path) s = .fault (.dramAbsent s.rawAddr) ∧ exec (.rawWrite path) s = .fault (.dramAbsent s.rawAddr))

/-- A DRAM address outside the installed size has no memory behind it. -/
def dramAbsent : Prop := ∀ (s : State) (loc rank : Nat) (l : List (Nat × Nat)) (v : Bool) (u : MemUser) (k : Fin 16), s.mem.size ≤ loc →
  exec (.scrubRead false loc rank l v u k) s = .fault (.dramAbsent loc)

/-! ### The start and the management plane -/

/-- R467, R426: a device held in reset whose Cellar domain is supplied starts: memory VIRGIN, the loader running. -/
def fullStart : Prop := ∀ s : State, s.RegsOk →
  (s.boot.held = true → s.cellarPowered = true → s.Does .fullStart fun t =>
    t.boot.held = false ∧ t.mainOff = false ∧ (∀ a, t.cell a = 0) ∧ (∀ w, t.chkOf w = .virgin) ∧ t.get F.MGT_BOOT_STATE = bootLoading ∧
    t.get F.MGT_ROLLBACK_OTP = s.boot.otp % wid F.MGT_ROLLBACK_OTP ∧ t.flag F.CLR_STAT_ON_VBAT = !s.clr.vaux ∧ t.boot.flash = s.boot.flash) ∧
  ((s.boot.held = false ∨ s.cellarPowered = false) → exec .fullStart s = .next s)

/-- R43, R466: at a start the items accepted and not resolved are counted as dropped, per kind. -/
def startDrops : Prop := ∀ (s : State) (k : Nat), s.Canon → s.clr.bothLost = false → k < 5 →
  (s.settleCounts).get (F.CLR_DROPk_COUNT k) = min (s.count (A.CLR_ACCk k) - s.count (A.CLR_RESk k)) 0xFFFFFFFE ∧
  (s.settleCounts).count (A.CLR_RESk k) = s.count (A.CLR_ACCk k) ∧ (s.settleCounts).count (A.CLR_ACCk k) = s.count (A.CLR_ACCk k)

/-- R439: each copy is judged by its header block, and the candidates stand by SERIAL, copy A first on a tie; none: FAILED. -/
def headersRead : Prop := ∀ (s : State) (a b : Bool), s.RegsOk → s.booting = true → s.boot.candidates = [] →
  s.Does (.headersRead a b) fun t =>
    let hA := s.flashRead 0 0 4096
    let hB := s.flashRead 1 0 4096
    let cA := if a then s.headerCause hA else 11
    let cB := if b then s.headerCause hB else 11
    t.get F.MGT_BOOT_CAUSE_A = cA ∧ t.get F.MGT_BOOT_CAUSE_B = cB ∧ (0 ∈ t.boot.candidates ↔ cA = 0) ∧ (1 ∈ t.boot.candidates ↔ cB = 0) ∧
    (cA = 0 → cB = 0 → t.boot.candidates = if hdrSerial hA < hdrSerial hB then [1, 0] else [0, 1]) ∧
    (cA ≠ 0 → cB ≠ 0 → t.get F.MGT_BOOT_STATE = bootFailed)

/-- R439: what a header block fails, in the order of the causes. -/
def headerCauses : Prop := ∀ (s : State) (h : List Byte),
  (crc32 (h.take 4092) ≠ leAt h 4092 4 → s.headerCause h = 1) ∧
  (crc32 (h.take 4092) = leAt h 4092 4 → leAt h 0 4 ≠ 0x7720A771 → s.headerCause h = 2) ∧
  (s.headerCause h = 0 → hdrRollback h ≥ s.boot.otp ∧ hdrRollback h ≤ 63 ∧ leAt h 20 1 ≤ (s.reg A.ID_REV).toNat % 256)

/-- R439, R442: a copy that does not respond fails with cause 11, and the next candidate remains; none remains: FAILED. -/
def copyVerify : Prop := ∀ (s : State) (c : Nat) (rest : List Nat) (ms : Nat) (v : Option (Fin 256)) (nak : List (Option (Fin 64))), s.RegsOk →
  s.booting = true → s.boot.candidates = c :: rest → c < 2 →
  s.Does (.copyVerify false ms v nak) fun t =>
    t.get (if c = 0 then F.MGT_BOOT_CAUSE_A else F.MGT_BOOT_CAUSE_B) = 11 ∧ t.boot.candidates = rest ∧ t.boot.failedOne = true ∧
    t.get F.MGT_BOOT_STATE = if rest.isEmpty then bootFailed else bootLoading

/-- R439, R440: a copy is loaded exactly when nothing refuses it, and LOADED names it, its SERIAL and a fallback; a refused one records
its cause and the next candidate remains. -/
def copyLoads : Prop := ∀ (s : State) (c : Nat) (rest : List Nat) (ms : Nat) (v : Option (Fin 256)) (nak : List (Option (Fin 64))), s.RegsOk →
  s.booting = true → s.boot.candidates = c :: rest → c < 2 → s.Does (.copyVerify true ms v nak) fun t =>
    (s.copyCause (s.copyImage c) = 0 → t.get F.MGT_BOOT_STATE = bootLoaded ∧ t.get F.MGT_BOOT_COPY = c ∧ t.boot.candidates = [] ∧
      (t.reg A.MGT_IMAGE_SERIAL).toNat = hdrSerial (s.copyImage c) ∧ t.flag F.MGT_BOOT_FALLBACK = s.boot.failedOne) ∧
    (s.copyCause (s.copyImage c) ≠ 0 → t.get (if c = 0 then F.MGT_BOOT_CAUSE_A else F.MGT_BOOT_CAUSE_B) = s.copyCause (s.copyImage c) ∧
      t.boot.candidates = rest ∧ t.boot.failedOne = true ∧ t.get F.MGT_BOOT_STATE = if rest.isEmpty then bootFailed else bootLoading)

/-- R447: a fault of the core pair is counted with its cause and told; the watchdog faults when it is due. -/
def CoreFaulted (s t : State) (cause : Nat) : Prop :=
  t.get F.MGT_CORE_STAT_FAULTS = min (s.get F.MGT_CORE_STAT_FAULTS + 1) (wid F.MGT_CORE_STAT_FAULTS - 1) ∧ t.get F.MGT_CORE_STAT_CAUSE = cause ∧
  t.mgt.kick = none ∧ t.mgt.journal = s.mgt.journal ∧ s.Raised t Ev.MGT_CORE_FAULT noInst cause ∧
  t = { s with regs := t.regs, mgt := t.mgt, par := t.par, evt := t.evt }
def corePairFault : Prop := ∀ (s : State) (m : Bool), s.RegsOk → s.Room Ev.MGT_CORE_FAULT →
  s.Does (.corePairFault m) fun t => CoreFaulted s t (if m then 3 else 1)
def watchdogExpiry : Prop := ∀ s : State, s.RegsOk →
  (s.watchdogDue = true → s.Room Ev.MGT_CORE_FAULT → s.Does .watchdogExpiry fun t => CoreFaulted s t 2) ∧
  (s.watchdogDue = false → exec .watchdogExpiry s = .next s)
/-- R447: a write of KICK starts the watchdog again; the first after a fault is the recovery. Without MCLK no core writes. -/
def watchdogKick : Prop := ∀ s : State,
  (s.coresRun = true → s.mgt.coreFault = none →
    exec .watchdogKick s = .next { s with mgt := { s.mgt with kick := some s.curTick, coreFault := none } }) ∧
  (∀ u, s.coresRun = true → s.mgt.coreFault = some u → s.Room Ev.MGT_CORE_RECOVERED → s.Does .watchdogKick fun t =>
    t.mgt = { s.mgt with kick := some s.curTick, coreFault := none } ∧ t.par = { s.par with pairFault := none } ∧
    s.Raised t Ev.MGT_CORE_RECOVERED noInst (detSat 16 ((s.now - u) / (1000000 * lsbPerNs))) ∧ t = { s with mgt := t.mgt, par := t.par, evt := t.evt }) ∧
  (s.coresRun = false → exec .watchdogKick s = .next s)

/-- R449: a message with its tag, behind an Ethernet header without tags, is read back as what it was built from. -/
def twivonRoundTrip : Prop := ∀ (key da payload : List Byte) (et typ k status seq op port : Nat), da.length = 12 → et < 65536 → et ≠ 0x88A8 → et ≠ 0x8100 →
  k < 256 → seq < 2 ^ 64 → op < 65536 → payload.length < 65536 →
  twvParse port (da ++ beBytes 2 et ++ twvMsg key typ k status seq op payload) =
    (⟨k, seq, op, payload, port, da.drop 6, []⟩, (twvMsg key typ k status seq op payload).take (16 + payload.length),
      hmac key ((twvMsg key typ k status seq op payload).take (16 + payload.length)))

/-- R450: a command whose operation its entry permits and that has a row of its own is journalled and acknowledged; R319: a
message that fails its checks is dropped and counted. -/
def twivonAccepted : Prop := ∀ (s s1 : State) (p : Fin 20) (f : RxFrame), s.Canon → s.served = true → s.takeRx p 2 (s.isTwivon p) = (some f, s1) →
  s.mgt.journal = [] →
  let c := (twvParse p f.data).1
  s1.twvGood f.data c (twvParse p f.data).2.1 (twvParse p f.data).2.2 = true → s.wide (A.KEY_TWVk_HIGH c.key) 2 < c.seq → c.seq < 2 ^ 64 →
  twvAuto c.op = false → s.twvPermits c = true → c.key < 8 →
  s.Does (.twivonMessage p) fun t =>
    t.mgt.journal = [c] ∧ t.wide (A.KEY_TWVk_HIGH c.key) 2 = c.seq ∧ t.get F.MGT_TWV_STAT_JOURNAL = 1 ∧
    t.mgt.sent.head? = some ⟨c.key, c.seq, none⟩ ∧ t.count (A.CLR_ACCk 3) = (s.count (A.CLR_ACCk 3) + 1) % 2 ^ 64
def twivonDropped : Prop := ∀ (s s1 : State) (p : Fin 20) (f : RxFrame), s.Canon → s.served = true → s.takeRx p 2 (s.isTwivon p) = (some f, s1) →
  s.mgt.journal = [] →
  s1.twvGood f.data (twvParse p f.data).1 (twvParse p f.data).2.1 (twvParse p f.data).2.2 = false →
  s.Does (.twivonMessage p) fun t =>
    t.mgt.journal = [] ∧ t.count (A.KEY_CNT 12) = (s.count (A.KEY_CNT 12) + 1) % 2 ^ 64 ∧ ∀ k < 8, t.wide (A.KEY_TWVk_HIGH k) 2 = s.wide (A.KEY_TWVk_HIGH k) 2

/-- R450: a command whose operation its entry does not permit is accepted, replied to with STATUS 1 and told. -/
def twivonRefused : Prop := ∀ (s s1 : State) (p : Fin 20) (f : RxFrame), s.Canon → s.served = true → s.takeRx p 2 (s.isTwivon p) = (some f, s1) →
  s.mgt.journal = [] → s.mgt.wait = [] → s.mgt.erasing = none → s.clr.enter = none → s.Room Ev.MGT_TWV_REFUSED →
  let c := (twvParse p f.data).1
  s1.twvGood f.data c (twvParse p f.data).2.1 (twvParse p f.data).2.2 = true → s.wide (A.KEY_TWVk_HIGH c.key) 2 < c.seq → c.seq < 2 ^ 64 →
  s.twvPermits c = false → c.key < 8 →
  s.Does (.twivonMessage p) fun t =>
    t.mgt.journal = [] ∧ t.wide (A.KEY_TWVk_HIGH c.key) 2 = c.seq ∧ t.count (A.CLR_RESk 3) = (s.count (A.CLR_RESk 3) + 1) % 2 ^ 64 ∧
    (∃ n, (⟨n, s.now, Ev.MGT_TWV_REFUSED, c.key, c.op % 65536⟩ : EvRec) ∈ t.evt.q) ∧ t.staged = s.staged ∧
    ∃ key, s1.twvKey c.key = some key ∧ t.mgt.sent.head? = some ⟨c.key, c.seq, some (twvMsg key twReply c.key 1 c.seq c.op [])⟩

/-- R450: with 64 accepted commands without replies a new one is not accepted: HIGH stands, it is counted, and told once per tick. -/
def twivonBusy : Prop := ∀ (s s1 : State) (p : Fin 20) (f : RxFrame), s.Canon → s.served = true → s.takeRx p 2 (s.isTwivon p) = (some f, s1) →
  s.mgt.journal.length = 64 → s.twvReady = none → s.mgt.busyTick ≠ s.nextTick →
  let c := (twvParse p f.data).1
  s1.twvGood f.data c (twvParse p f.data).2.1 (twvParse p f.data).2.2 = true → s.wide (A.KEY_TWVk_HIGH c.key) 2 < c.seq →
  s.Does (.twivonMessage p) fun t =>
    t.mgt = { s.mgt with busyTick := s.nextTick } ∧ t.get F.MGT_TWV_BUSY_COUNT = (s.get F.MGT_TWV_BUSY_COUNT + 1) % wid F.MGT_TWV_BUSY_COUNT ∧
    ∀ k < 8, t.wide (A.KEY_TWVk_HIGH k) 2 = s.wide (A.KEY_TWVk_HIGH k) 2

/-- R319, R450: a sequence at or below HIGH accepts nothing: one whose reply is stored is answered with it again. -/
def twivonReplay : Prop := ∀ (s s1 : State) (p : Fin 20) (f : RxFrame), s.Canon → s.served = true → s.takeRx p 2 (s.isTwivon p) = (some f, s1) →
  s.mgt.journal = [] →
  let c := (twvParse p f.data).1
  s1.twvGood f.data c (twvParse p f.data).2.1 (twvParse p f.data).2.2 = true → c.seq ≤ s.wide (A.KEY_TWVk_HIGH c.key) 2 →
  (s.mgt.sent.find? (fun e => e.key == c.key && e.seq == c.seq) = none → s.Does (.twivonMessage p) fun t =>
    t.mgt = s.mgt ∧ t.count (A.KEY_CNT 14) = (s.count (A.KEY_CNT 14) + 1) % 2 ^ 64 ∧ ∀ k < 8, t.wide (A.KEY_TWVk_HIGH k) 2 = s.wide (A.KEY_TWVk_HIGH k) 2) ∧
  (∀ e m, s.mgt.sent.find? (fun e => e.key == c.key && e.seq == c.seq) = some e → e.reply = some m → m ≠ [] →
    exec (.twivonMessage p) s = .next (s1.twvOut c m))

/-- R319, R450: a reply takes its command out of the journal, counts it resolved and is stored with its KEY and SEQ. -/
def twivonReplied : Prop := ∀ (s : State) (c : TwvCmd) (st : Nat) (p : List Byte), s.Canon →
  let t := s.twvReplied c st p
  t.mgt.journal = s.mgt.journal.erase c ∧ t.count (A.CLR_RESk 3) = (s.count (A.CLR_RESk 3) + 1) % 2 ^ 64 ∧
  t.get F.MGT_TWV_STAT_JOURNAL = (s.mgt.journal.erase c).length % wid F.MGT_TWV_STAT_JOURNAL ∧
  ∀ key, s.twvKey c.key = some key → t.mgt.sent = s.mgt.sent.map fun e =>
    if e.key = c.key ∧ e.seq = c.seq then { e with reply := some (twvMsg key twReply c.key st c.seq c.op p) } else e

/-- The command is alone in the journal, heads its session with that operation and has not begun. -/
abbrev Heads (s : State) (c : TwvCmd) (k op : Nat) : Prop := s.served = true ∧ s.mgt.journal = [c] ∧ s.twvHead k op = some c

/-- R451, R455: READ answers the words in ascending order; outside the window it is a bus error with STATUS 2. -/
def twivonRead : Prop := ∀ (s : State) (k : Fin 8) (c : TwvCmd), Heads s c k 1 → c.payload.length = 8 → 1 ≤ c.word 1 → c.word 1 ≤ 64 →
  ((∀ a ∈ wordAddrs (c.word 0) (c.word 1), busBad a 4 = false) →
    let r := (wordAddrs (c.word 0) (c.word 1)).foldl (fun (p : State × List Word) a => ((p.1.readReg .twv a).2, p.2 ++ [(p.1.readReg .twv a).1])) (s, [])
    exec (.twivonRead k) s = .next (r.1.twvReplied c 0 (wordsPayload r.2))) ∧
  ((∃ a ∈ wordAddrs (c.word 0) (c.word 1), busBad a 4 = true) → exec (.twivonRead k) s = .next (s.twvReplied c 2 []))

/-- R451, R456: WRITE writes its words in order; a command path among them refuses it whole. -/
def twivonWrite : Prop := ∀ (s : State) (k : Fin 8) (c : TwvCmd), Heads s c k 2 → 1 ≤ c.word 1 → c.word 1 ≤ 64 → c.payload.length = 8 + 4 * c.word 1 →
  (∀ a ∈ wordAddrs (c.word 0) (c.word 1), busBad a 4 = false) →
  ((∃ a ∈ wordAddrs (c.word 0) (c.word 1), s.mayWrite .twv a 0 = false) → exec (.twivonWrite k) s = .next (s.twvReplied c 3 [])) ∧
  (c.word 1 = 1 → s.mayWrite .twv (c.word 0) 0 = true → c.word 0 = A.KPR_VOTE_CFG →
    exec (.twivonWrite k) s = .next ((s.writeReg .twv (c.word 0) (c.regWord 2)).twvReplied c 0 [])) ∧
  ((∀ a ∈ wordAddrs (c.word 0) (c.word 1), s.mayWrite .twv a 0 = true ∧ a ≠ A.CLR_CMD) →
    exec (.twivonWrite k) s = (((wordAddrs (c.word 0) (c.word 1)).zipIdx.foldl (fun (s : State) p => s.writeReg .twv p.1 (c.regWord (2 + p.2))) s).twvReplied c 0 []).twvGo)

/-- R131, R451: CLEAR of an oscillator's WORD_FAIL. -/
def twivonClear : Prop := ∀ (s : State) (k : Fin 8) (c : TwvCmd), Heads s c k 9 → c.payload.length = 4 →
  (c.word 0 < 3 → exec (.twivonClear k) s = .next ((s.wordClear (c.word 0)).twvReplied c 0 [])) ∧
  (3 ≤ c.word 0 → exec (.twivonClear k) s = .next (s.twvReplied c 3 []))

/-- R443, R451: the copy in use is never erased; the other is, and reads 0xFF when the erase is done. -/
def flashErase : Prop := ∀ (s : State) (k : Fin 8) (c : TwvCmd), Heads s c k 12 → c.payload.length = 4 →
  (c.word 0 < 2 → c.word 0 ≠ s.copyInUse → s.mgt.erasing = none →
    exec (.flashErase k) s = .next { s with mgt := { s.mgt with erasing := some c.key } }) ∧
  (c.word 0 < 2 → c.word 0 ≠ s.copyInUse → s.mgt.erasing.isSome = true → s.twvPermits c = true → exec (.flashErase k) s = .next s) ∧
  ((2 ≤ c.word 0 ∨ c.word 0 = s.copyInUse) → exec (.flashErase k) s = .next (s.twvReplied c 3 []))
def flashEraseDone : Prop := ∀ (s : State) (k : Nat) (c : TwvCmd), s.RegsOk → s.served = true → s.mgt.journal = [c] → s.mgt.erasing = some k → c.key = k →
  s.Room Ev.MGT_FLASH_DONE → s.Does .flashEraseDone fun t =>
    (∀ o n, o + n ≤ copySize → t.flashRead (c.word 0) o n = List.replicate n 0xFF) ∧ t.mgt.erasing = none ∧ t.mgt.journal = [] ∧
    Told s t Ev.MGT_FLASH_DONE noInst (c.word 0)

/-- R443, R451: a write of the copy not in use is read back; one of the copy in use is refused. -/
def flashWrite : Prop := ∀ (s : State) (k : Fin 8) (c : TwvCmd), Heads s c k 13 → spWf (fun _ => 0xFF) s.boot.flash = true → s.mgt.erasing = none →
  8 ≤ c.payload.length → c.payload.length ≤ 1008 →
  (c.word 0 < 2 → c.word 0 ≠ s.copyInUse → c.word 1 + (c.payload.length - 8) ≤ copySize → s.Does (.flashWrite k) fun t =>
    t.flashRead (c.word 0) (c.word 1) (c.payload.length - 8) = c.payload.drop 8 ∧ t.mgt.journal = [] ∧
    ∀ o n, o + n ≤ copySize → t.flashRead s.copyInUse o n = s.flashRead s.copyInUse o n) ∧
  (c.word 0 = s.copyInUse ∨ 2 ≤ c.word 0 ∨ copySize < c.word 1 + (c.payload.length - 8) → exec (.flashWrite k) s = .next (s.twvReplied c 3 []))
def flashRead : Prop := ∀ (s : State) (k : Fin 8) (c : TwvCmd), Heads s c k 14 → s.mgt.erasing = none → c.payload.length = 12 → c.word 2 ≤ 1000 → c.word 0 < 2 →
  c.word 1 + c.word 2 ≤ copySize → exec (.flashRead k) s = .next (s.twvReplied c 0 (s.flashRead (c.word 0) (c.word 1) (c.word 2)))

/-- R443: ROLLBACK_BURN raises the OTP level to the loaded image's, never lowers it, and tells of it with the copy in use plus 2. -/
def rollbackBurn : Prop := ∀ (s : State) (k : Fin 8) (c : TwvCmd), s.RegsOk → Heads s c k 15 → c.payload = [] → s.Room Ev.MGT_FLASH_DONE →
  s.Does (.rollbackBurn k) fun t =>
    t.boot.otp = max s.boot.otp (s.get F.MGT_ROLLBACK_IMAGE) ∧ t.get F.MGT_ROLLBACK_OTP = t.boot.otp % wid F.MGT_ROLLBACK_OTP ∧ t.mgt.journal = [] ∧
    t.boot.flash = s.boot.flash ∧ Told s t Ev.MGT_FLASH_DONE noInst (s.copyInUse + 2)

/-- R442, R452, R453, R455: a read over SPI answers each word, the address advancing by 4; outside the window, of the console, or of what
the loader does not answer, the word is 0, with ERR and the address. -/
def spiRead : Prop := ∀ (s : State) (a : Fin (2 ^ 24)), s.RegsOk → s.spiUp = true →
  (busBad a 4 = false → consoleReg a = false → (s.loaded = true ∨ loaderReg a = true) →
    exec (.spiRead a 1) s = .next ((s.readReg .spi a).2.answer (.words [(s.readReg .spi a).1]))) ∧
  ((busBad a 4 = true ∨ consoleReg a = true ∨ (s.loaded = false ∧ loaderReg a = false)) → s.Does (.spiRead a 1) fun t =>
    t.reply = .words [0] ∧ t.flag F.MGT_SPI_STAT_ERR = true ∧ t.get F.MGT_SPI_STAT_ADDR = a.val / 2 % wid F.MGT_SPI_STAT_ADDR ∧ t.evt = s.evt) ∧
  (∀ n, s.Does (.spiRead a n) fun t => ∃ l, t.reply = .words l ∧ l.length = n)

/-- R151, R453, R456: without WRITE the SPI port writes nothing but the IMPORT_LOCAL path: ERR, the address, and an event once per
tick; its DSC_REALIGN_CMD is refused with cause 5. -/
def spiWrite : Prop := ∀ (s : State) (a : Fin (2 ^ 24)) (v : Word), s.RegsOk → s.spiUp = true → s.loaded = true → busBad a 4 = false →
  (s.mayWrite .spi a v = true → exec (.spiWrite a [v]) s = .next (s.writeReg .spi a v)) ∧
  (s.mayWrite .spi a v = false → a.val ≠ A.DSC_REALIGN_CMD → s.mgt.spiTick ≠ s.nextTick → s.Room Ev.MGT_SPI_REFUSED → s.Does (.spiWrite a [v]) fun t =>
    t.flag F.MGT_SPI_STAT_ERR = true ∧ s.RegsBut t [A.MGT_SPI_STAT] ∧ t.staged = s.staged ∧ s.Raised t Ev.MGT_SPI_REFUSED noInst a) ∧
  (a.val = A.DSC_REALIGN_CMD → vbit v 8 = true → s.Room Ev.DSC_REALIGN_REFUSED → s.Does (.spiWrite a [v]) fun t =>
    t.flag F.MGT_SPI_STAT_ERR = true ∧ s.RegsBut t [A.MGT_SPI_STAT, A.DSC_RA_RES] ∧ t.dsc = s.dsc ∧ t.get F.DSC_RA_RES_CAUSE = 5 ∧
    Told s t Ev.DSC_REALIGN_REFUSED noInst 5)
def spiRights : Prop := ∀ (s : State) (a : Nat) (v : Word), s.flag F.MGT_SPI_CFG_WRITE = false →
  (s.mayWrite .spi a v = true ↔ (a = A.KEY_CMD ∧ v.toNat % 16 = 3) ∨ (∃ i < 8, a = A.KEY_WRAP i ∨ a = A.KEY_ARG i))

/-- R452: the status byte. -/
def spiStatus : Prop := ∀ s : State, s.spiUp = true → s.Does .spiStatus fun t =>
  t = { s with reply := .bytes [BitVec.ofNat 8 s.spiStatusByte] } ∧
  (s.get F.MGT_BOOT_STATE = bootLoading → s.flag F.MGT_SPI_STAT_ERR = false → s.spiStatusByte = 1) ∧
  (s.get F.MGT_BOOT_STATE = bootLoaded → s.flag F.MGT_SPI_STAT_ERR = false → s.spiStatusByte = 2) ∧
  (s.get F.MGT_BOOT_STATE = bootFailed → s.flag F.MGT_SPI_STAT_ERR = true → s.spiStatusByte = 12)

/-- R454: the console's queues hold 64 bytes; a byte past them is lost and says so. The loader owns the console before LOADED; the
cores, which stop with MCLK, after it. -/
def uartTxWrite : Prop := ∀ (s : State) (b : Byte), s.RegsOk →
  (s.loaded = true → s.coresRun = true → s.Does (.uartTxWrite b) fun t =>
    (s.mgt.uartTx.length < 64 → t.mgt = { s.mgt with uartTx := s.mgt.uartTx ++ [b] } ∧ t.get F.MGT_UART_STAT_TX_FILL = s.mgt.uartTx.length + 1) ∧
    (64 ≤ s.mgt.uartTx.length → t.mgt = s.mgt ∧ t.flag F.MGT_UART_STAT_TX_OVR = true) ∧ s.RegsBut t [A.MGT_UART_STAT] ∧
    t = { s with regs := t.regs, mgt := t.mgt }) ∧
  (s.loaded = false ∨ s.coresRun = false → exec (.uartTxWrite b) s = .next s)
def uartRxByte : Prop := ∀ (s : State) (b : Byte) (e : Bool), s.RegsOk →
  (s.loaded = true → s.Does (.uartRxByte b e) fun t =>
    (s.mgt.uartRx.length < 64 → t.mgt = { s.mgt with uartRx := s.mgt.uartRx ++ [(b, e)] } ∧ t.get F.MGT_UART_STAT_RX_FILL = s.mgt.uartRx.length + 1) ∧
    (64 ≤ s.mgt.uartRx.length → t.mgt = s.mgt ∧ t.flag F.MGT_UART_STAT_RX_OVR = true) ∧ s.RegsBut t [A.MGT_UART_STAT] ∧
    t = { s with regs := t.regs, mgt := t.mgt }) ∧
  (s.loaded = false → exec (.uartRxByte b e) s = .next s)
def uartRxPop : Prop := ∀ s : State, s.RegsOk →
  (s.coresRun = true → s.mgt.uartRx = [] → s.Does .uartRxPop fun t => t.reply = .words [1] ∧ t.mgt = s.mgt ∧ s.RegsBut t [A.MGT_UART_STAT]) ∧
  (∀ b e r, s.coresRun = true → s.mgt.uartRx = (b, e) :: r → s.Does .uartRxPop fun t =>
    t.reply = .words [BitVec.ofNat 32 (2 * b.toNat + if e then 512 else 0)] ∧ t.mgt = { s.mgt with uartRx := r } ∧ s.RegsBut t [A.MGT_UART_STAT] ∧
    t = { s with regs := t.regs, mgt := t.mgt, reply := t.reply }) ∧
  (s.coresRun = false → exec .uartRxPop s = .next s)
def uartTxByteSent : Prop := ∀ s : State, s.RegsOk → s.Does .uartTxByteSent fun t =>
  t.mgt = { s.mgt with uartTx := s.mgt.uartTx.drop 1 } ∧ s.RegsBut t [A.MGT_UART_STAT] ∧ t = { s with regs := t.regs, mgt := t.mgt }

/-- R453, R455, R456: which path may write a command path. -/
def commandRights : Prop := ∀ (s : State) (a : Nat) (v : Word),
  (commandPath a = true → s.mayWrite .twv a v = false) ∧ (injReg a = true → s.mayWrite .mgt a v = false) ∧
  (s.mayWrite .mgt A.KEY_CMD v = true ∧ s.mayWrite .mgt A.PAR_CMD v = true ∧ s.mayWrite .mgt A.MEM_RAW_CMD v = true) ∧
  (commandPath a = true → a ≠ A.KEY_CMD → s.mayWrite .spi a v = false) ∧ (s.mayWrite .spi A.KEY_CMD v = decide (v.toNat % 16 = 3))

/-- R151, R456: a register write that its path may not make is refused and changes nothing; the SPI port's DSC_REALIGN_CMD posts cause 5
and tells of it. -/
def writeRefused : Prop := ∀ (s : State) (path : Path) (a : Nat) (v : Word), s.served = true → busBad a 4 = false → s.mayWrite path a v = false →
  ((path ≠ .spi ∨ a ≠ A.DSC_REALIGN_CMD) → exec (.registerWrite path a 4 v) s = .next { s with reply := .refused 3 }) ∧
  (s.RegsOk → path = .spi → a = A.DSC_REALIGN_CMD → vbit v 8 = true → s.Room Ev.DSC_REALIGN_REFUSED → s.Does (.registerWrite path a 4 v) fun t =>
    t.reply = .refused 3 ∧ t.dsc = s.dsc ∧ s.RegsBut t [A.DSC_RA_RES] ∧ t.get F.DSC_RA_RES_CAUSE = 5 ∧ s.Raised t Ev.DSC_REALIGN_REFUSED noInst 5)

/-! ### The Cellar domain -/

/-- R469, R482: ENTER is refused while the unit is active in a pair or a realignment is under way; else admission closes, every
injection ends and the drain begins. -/
def cellarEnter : Prop := ∀ (s : State) (p : Path), s.RegsOk → s.clr.phase = cpAwake → s.loaded = true → (p ≠ .spi ∨ s.flag F.MGT_SPI_CFG_WRITE = true) →
  ((s.isActive && s.pairEn) = true → s.Does (.cellarEnter p) fun t =>
    t.get F.CLR_RESULT_VALID = 1 ∧ t.get F.CLR_RESULT_RESULT = 3 ∧ t.get F.CLR_RESULT_CAUSE = 3 ∧ s.RegsBut t [A.CLR_RESULT] ∧ t = { s with regs := t.regs }) ∧
  ((s.isActive && s.pairEn) = false → s.dsc.realign.isSome = true → s.Does (.cellarEnter p) fun t =>
    t.get F.CLR_RESULT_VALID = 1 ∧ t.get F.CLR_RESULT_RESULT = 3 ∧ t.get F.CLR_RESULT_CAUSE = 4 ∧ s.RegsBut t [A.CLR_RESULT] ∧ t = { s with regs := t.regs }) ∧
  ((s.isActive && s.pairEn) = false → s.dsc.realign = none → s.Does (.cellarEnter p) fun t => t.clr.phase = cpDrain ∧ t.inj.points = []) ∧
  ((s.isActive && s.pairEn) = false → s.dsc.realign = none → s.inj.points = [] → s.Room Ev.CLR_CELLAR_ENTER → s.Does (.cellarEnter p) fun t =>
    t.clr = { s.clr with phase := cpDrain, drainAt := s.now, wasOpen := s.flag F.SVC_STAT_OPEN, enter := none } ∧ t.get F.CLR_STAT_STATE = 1 ∧
    t.flag F.SVC_STAT_OPEN = false ∧ t.get F.CLR_RESULT_VALID = 0 ∧ s.RegsBut t [A.CLR_STAT, A.SVC_STAT, A.CLR_RESULT] ∧
    s.Raised t Ev.CLR_CELLAR_ENTER noInst (s.svc.ledger.length % 2 ^ 32))
def cellarEnterIgnored : Prop := ∀ s : State,
  (s.flag F.MGT_SPI_CFG_WRITE = false → exec (.cellarEnter .spi) s = .next s) ∧
  ((s.clr.phase ≠ cpAwake ∨ s.loaded = false) → ∀ p, exec (.cellarEnter p) s = .next s)

/-- R469: the drain ends when every accepted item is resolved: every dirty line written back, the trigger entries discarded, a Twivon
ENTER replied to, and SAVE begins; before that it goes on. -/
def drainComplete : Prop := ∀ s : State, s.RegsOk →
  (s.clr.phase = cpDrain → s.drained = true → s.Does .drainComplete fun t =>
    t.clr.phase = cpSave ∧ t.get F.CLR_STAT_STATE = 2 ∧ (∀ n l, (n, l) ∈ t.ldr.lines → l.ldirty = false) ∧ (∀ k < 16, (t.trgOut k).entries = []) ∧
    t.clr.enter = none ∧ ∀ c, s.clr.enter = some c → t.mgt.journal = s.mgt.journal.erase c) ∧
  ((s.clr.phase ≠ cpDrain ∨ s.drained = false) → exec .drainComplete s = .next s)

/-- R469: the entry ends with its cause, and admission is as it was. -/
def Aborted (s t : State) (cause : Nat) : Prop :=
  t.clr.phase = cpAwake ∧ t.get F.CLR_STAT_STATE = 0 ∧ t.flag F.SVC_STAT_OPEN = s.clr.wasOpen ∧ t.get F.CLR_RESULT_VALID = 1 ∧
  t.get F.CLR_RESULT_RESULT = 2 ∧ t.get F.CLR_RESULT_CAUSE = cause ∧ t.svc.ledger = s.svc.ledger
def drainTimeout : Prop := ∀ s : State, s.RegsOk →
  (s.clr.phase = cpDrain → s.hasVoted = true → s.clr.enter = none → s.Room Ev.CLR_CELLAR_ABORT → s.Does .drainTimeout fun t =>
    Aborted s t 1 ∧ t.now = max s.now (s.clr.drainAt + s.get F.CLR_CFG_DRAIN_MAX * 1000 * lsbPerUs) ∧
    t.evt.q = s.evt.q ++ [⟨s.cyc, t.now, Ev.CLR_CELLAR_ABORT, noInst, 1⟩]) ∧
  (∀ c, s.clr.phase = cpDrain → s.clr.enter = some c → s.Does .drainTimeout fun t =>
    t.clr.phase = cpAwake ∧ t.clr.enter = none ∧ t.mgt.journal = s.mgt.journal.erase c) ∧
  (s.clr.phase ≠ cpDrain → exec .drainTimeout s = .next s)

/-- R470: the snapshot is written with its commit word while DRAM serves, CELLAR_REQ_N falls, and the main domain stops. -/
def snapshotSaved : Prop := ∀ s : State, s.RegsOk →
  (s.clr.phase = cpSave → s.dramBusy = false → s.Does .snapshotSaved fun t =>
    t.clr.phase = cpCellar ∧ t.cellarReqN = false ∧ t.clr.snapOk = true ∧ t.mainOff = true ∧ t.get F.CLR_RESULT_VALID = 1 ∧
    t.get F.CLR_RESULT_RESULT = 1 ∧
    (∃ x, t.clr.snap = some x ∧ x.ring = s.evt.ring ∧ x.seq = s.evt.seq ∧ x.traceSeq = s.bnd.traceSeq ∧ x.sent = s.mgt.sent) ∧
    s.RegsBut t [A.CLR_RESULT] ∧ t.dram = s.dram ∧ t.evt = s.evt) ∧
  ((s.clr.phase ≠ cpSave ∨ s.dramBusy = true) → exec .snapshotSaved s = .next s)

/-- R470: a register's saved word holds its RW and Attic fields, and its other fields at their reset values. -/
def savedFields : Prop := ∀ (a : Nat) (w : Word),
  savedWord a w &&& BitVec.ofNat 32 (savedMask a) = w &&& BitVec.ofNat 32 (savedMask a) ∧
  savedWord a w &&& ~~~BitVec.ofNat 32 (savedMask a) = resetWord a &&& ~~~BitVec.ofNat 32 (savedMask a)

/-- R469, R471: WAKE_N and the wake timer abort an entry, end the Cellar state, and change nothing when awake or without VAUX. -/
def wakeNAssert : Prop := ∀ s : State, s.RegsOk →
  (s.clr.vaux = true → s.clr.phase = cpCellar → exec .wakeNAssert s = .next { s with clr := { s.clr with phase := cpWaking, source := 1 } }) ∧
  (s.clr.vaux = true → (s.clr.phase = cpDrain ∨ s.clr.phase = cpSave) → s.clr.enter = none → s.Does .wakeNAssert fun t => Aborted s t 2) ∧
  ((s.clr.vaux = false ∨ s.clr.phase = cpAwake ∨ s.clr.phase = cpWaking) → exec .wakeNAssert s = .next s)
def wakeTimerExpiry : Prop := ∀ s : State, s.Canon →
  (s.flag F.CLR_CFG_TIMER = true → s.get F.CLR_WAKE_AT_SEC ≠ 0 → s.clr.vaux = true → s.clr.phase = cpCellar → s.Does .wakeTimerExpiry fun t =>
    t.clr.phase = cpWaking ∧ t.clr.source = 2 ∧ t.clrSec % 2 ^ 32 = s.get F.CLR_WAKE_AT_SEC ∧ (s.clrSec < 2 ^ 63 → s.clrSec ≤ t.clrSec)) ∧
  ((s.flag F.CLR_CFG_TIMER = false ∨ s.get F.CLR_WAKE_AT_SEC = 0) → exec .wakeTimerExpiry s = .next s)

/-- R469, R470, R472, R479: a wake with its snapshot committed and intact and DRAM trained is AWAKE with what was saved, its source and
time in CLR_LAST_WAKE; otherwise the device runs a full start. -/
def wakeComplete : Prop := ∀ (s : State) (ms : Nat) (i r : Bool) (nak : List (Option (Fin 64))), s.Canon → s.clr.phase = cpWaking →
  (∀ x, s.clr.snap = some x → s.clr.snapOk = true → s.clr.snapFail = false → s.Does (.wakeComplete ms true true nak) fun t =>
    t.clr.phase = cpAwake ∧ t.mainOff = false ∧ t.evt.ring = x.ring ∧ t.bnd.traceSeq = x.traceSeq ∧ t.mgt.sent = x.sent ∧ t.dram = s.dram ∧
    t.boot.held = false ∧ t.staged = [] ∧ t.reg A.CLR_LAST_WAKE = BitVec.ofNat 32 (s.clr.source + 256 * detSat 8 ms)) ∧
  ((s.clr.snapOk && !s.clr.snapFail && i && r) = false → s.cellarPowered = true → s.Does (.wakeComplete ms i r nak) fun t =>
    t.clr.phase = cpAwake ∧ t.clr.snapOk = false ∧ t.boot.held = false ∧ t.get F.MGT_BOOT_STATE = bootLoading ∧ (∀ a, t.cell a = 0) ∧
    t.reg A.CLR_LAST_WAKE = BitVec.ofNat 32 (s.clr.source + 8 + 256 * detSat 8 ms))
def wakeCompleteIdle : Prop := ∀ (s : State) (ms : Nat) (a b : Bool) (nak : List (Option (Fin 64))), s.clr.phase ≠ cpWaking →
  exec (.wakeComplete ms a b nak) s = .next s

/-- R477: the accepted and resolved counts are latched at one instant. -/
def clrCntSnap : Prop := ∀ s : State, s.RegsOk → s.Does .clrCntSnap fun t =>
  (∀ k < 5, t.wide (A.CLR_ACCk k) 2 = s.count (A.CLR_ACCk k) % 2 ^ 64 ∧ t.wide (A.CLR_RESk k) 2 = s.count (A.CLR_RESk k) % 2 ^ 64) ∧ t = { s with regs := t.regs }

/-- R42, R464: a full-device reset holds the device; DRAM, the flash, the Cellar keys and the counts per kind stand, what was
staged and queued is gone. -/
def ResetHeld (s t : State) : Prop :=
  t.boot.held = true ∧ t.staged = [] ∧ t.evt.q = [] ∧ t.svc.ledger = [] ∧ t.clr.snapOk = false ∧ t.clr.phase = cpAwake ∧ t.dram = s.dram ∧
  t.boot.flash = s.boot.flash ∧ t.boot.otp = s.boot.otp ∧ t.key.cellar = s.key.cellar ∧ t.key.main = [] ∧ t.pending = s.pending ∧
  (∀ k < 5, t.count (A.CLR_ACCk k) = s.count (A.CLR_ACCk k) ∧ t.count (A.CLR_RESk k) = s.count (A.CLR_RESk k)) ∧
  (∀ k < 8, t.wide (A.KEY_TWVk_HIGH k) 2 = s.wide (A.KEY_TWVk_HIGH k) 2) ∧ t.reg A.CLR_LAST_WAKE = 0
def resetNAssert : Prop := ∀ s : State, s.Does .resetNAssert fun t => ResetHeld s t
def pwrgoodFall : Prop := ∀ s : State,
  (s.clr.phase ≠ cpCellar → s.Does .pwrgoodFall fun t => ResetHeld s t) ∧ (s.clr.phase = cpCellar → exec .pwrgoodFall s = .next s)
def twivonRestart : Prop := ∀ s : State,
  (∀ u, s.mgt.restartAt = some u → s.Does .twivonRestart fun t => ResetHeld s t ∧ t.mgt.restartAt = none) ∧
  (s.mgt.restartAt = none → exec .twivonRestart s = .next s)

/-- R464, R466: without VAUX the Cellar domain runs on VBAT; without either its content is lost. -/
def vauxFall : Prop := ∀ s : State, s.RegsOk →
  (s.clr.vaux = true → s.flag F.CLR_STAT_VBAT_OK = true → s.Does .vauxFall fun t =>
    t.clr = { s.clr with vaux := false } ∧ t.flag F.CLR_STAT_ON_VBAT = true ∧ s.RegsBut t [A.CLR_STAT] ∧ t = { s with regs := t.regs, clr := t.clr }) ∧
  (s.clr.vaux = true → s.flag F.CLR_STAT_VBAT_OK = false → s.Does .vauxFall fun t =>
    t.clr.vaux = false ∧ t.clr.bothLost = true ∧ t.key.cellar = [] ∧ t.clr.snap = none ∧ t.clr.snapOk = false ∧ t.dram = s.dram ∧
    (∀ k < 5, t.count (A.CLR_ACCk k) = 0 ∧ t.count (A.CLR_RESk k) = 0) ∧ (∀ k < 8, t.wide (A.KEY_TWVk_HIGH k) 2 = 0)) ∧
  (s.clr.vaux = false → exec .vauxFall s = .next s)
def vauxRise : Prop := ∀ s : State, exec .vauxRise s = .next { s with clr := { s.clr with vaux := true } }

/-- R479: VAUX outside its range and back inside it are shown and told. -/
def vauxRange : Prop := ∀ s : State, s.RegsOk → s.mainOff = false → s.Room Ev.CLR_SUPPLY →
  (s.flag F.CLR_STAT_VAUX_OK = true → s.Does .vauxOutOfRange fun t =>
    t.flag F.CLR_STAT_VAUX_OK = false ∧ s.Raised t Ev.CLR_SUPPLY noInst (2 * s.get F.CLR_STAT_VBAT_OK) ∧ s.RegsBut t [A.CLR_STAT] ∧
    t = { s with regs := t.regs, evt := t.evt }) ∧
  (s.flag F.CLR_STAT_VAUX_OK = false → s.Does .vauxInRange fun t =>
    t.flag F.CLR_STAT_VAUX_OK = true ∧ s.Raised t Ev.CLR_SUPPLY noInst (1 + 2 * s.get F.CLR_STAT_VBAT_OK) ∧ s.RegsBut t [A.CLR_STAT] ∧
    t = { s with regs := t.regs, evt := t.evt }) ∧
  (s.flag F.CLR_STAT_VAUX_OK = true → exec .vauxInRange s = .next s) ∧ (s.flag F.CLR_STAT_VAUX_OK = false → exec .vauxOutOfRange s = .next s)
/-- R479: while the main domain is off the event waits for the next start. -/
def supplyWaits : Prop := ∀ s : State, s.RegsOk → s.mainOff = true → s.flag F.CLR_STAT_VAUX_OK = true → s.Does .vauxOutOfRange fun t =>
  t.clr = { s.clr with waiting := s.clr.waiting ++ [(Ev.CLR_SUPPLY, noInst, 2 * s.get F.CLR_STAT_VBAT_OK)] } ∧ t.flag F.CLR_STAT_VAUX_OK = false ∧
  s.RegsBut t [A.CLR_STAT] ∧ t = { s with regs := t.regs, clr := t.clr }
/-- R464, R479: VBAT below 2.0 V is shown and told; where the domain ran on it its content is lost. -/
def vbatLow : Prop := ∀ s : State, s.RegsOk → s.mainOff = false → s.Room Ev.CLR_SUPPLY →
  (s.flag F.CLR_STAT_VBAT_OK = true → s.clr.vaux = true → s.Does .vbatLow fun t =>
    t.flag F.CLR_STAT_VBAT_OK = false ∧ s.Raised t Ev.CLR_SUPPLY noInst (s.get F.CLR_STAT_VAUX_OK) ∧ s.RegsBut t [A.CLR_STAT] ∧
    t = { s with regs := t.regs, evt := t.evt }) ∧
  (s.flag F.CLR_STAT_VBAT_OK = true → s.clr.vaux = false → s.Does .vbatLow fun t =>
    t.clr.bothLost = true ∧ t.key.cellar = [] ∧ t.clr.snap = none ∧ t.flag F.CLR_STAT_VBAT_OK = false) ∧
  (s.flag F.CLR_STAT_VBAT_OK = false → exec .vbatLow s = .next s)
def vbatRestored : Prop := ∀ s : State, s.RegsOk → s.Does .vbatRestored fun t =>
  t.flag F.CLR_STAT_VBAT_OK = true ∧ s.RegsBut t [A.CLR_STAT] ∧ t = { s with regs := t.regs }

/-- R471: with TAMPER set an armed tamper source wakes a device in the Cellar state. -/
def tamperWakes : Prop := ∀ (s : State) (src : Fin 2048), s.RegsOk → natAnd src s.armed ≠ 0 → s.flag F.CLR_CFG_TAMPER = true → s.clr.vaux = true →
  s.clr.phase = cpCellar → s.Does (.tamperTrigger src) fun t => t.clr.phase = cpWaking ∧ t.clr.source = 3 ∧ t.key.cellar = [] ∧ t.key.commit = 0

/-- R321: an armed tamper source erases every key; a source that is not armed does nothing. -/
def tamperTrigger : Prop := ∀ (s : State) (src : Fin 2048), s.RegsOk →
  (natAnd src s.armed ≠ 0 → s.mainOff = false → s.clr.phase = cpAwake → s.Does (.tamperTrigger src) fun t =>
    t.key.cellar = [] ∧ t.key.commit = 0 ∧ t.key.transient = [] ∧ (∀ p ∈ t.key.main, p.2 = { KeySlot.blank with incarn := p.2.incarn }) ∧
    t.get F.KEY_TAMPER_STAT_CAUSE = natOr (s.get F.KEY_TAMPER_STAT_CAUSE) (natAnd src s.armed) % wid F.KEY_TAMPER_STAT_CAUSE ∧
    (∀ k < 8, t.wide (A.KEY_TWVk_HIGH k) 2 = 0) ∧ t.flag F.KEY_STAT_TAMPERED = (t.get F.KEY_TAMPER_STAT_CAUSE != 0) ∧ t.par.tampered = true) ∧
  (natAnd src s.armed = 0 → exec (.tamperTrigger src) s = .next s)

/-! ### Lifetime margins, fault injection -/

/-- R473: every 64 ticks the slowdown is read; the largest stands. -/
def pathDelayMonitor : Prop := ∀ (s : State) (v : Fin 65536), s.RegsOk →
  (s.atTick = true → s.curTick % 64 = 0 → s.curTick ≠ s.age.pdmTick → s.Does (.pathDelayMonitor v) fun t =>
    t.get F.AGE_PDM_SLOW = v ∧ t.get F.AGE_PDM_SLOW_MAX = max v.val (s.get F.AGE_PDM_SLOW_MAX) ∧ t.age = { s.age with pdmTick := s.curTick } ∧
    s.RegsBut t [A.AGE_PDM] ∧ t = { s with regs := t.regs, age := t.age }) ∧
  ((s.atTick = false ∨ s.curTick % 64 ≠ 0 ∨ s.curTick = s.age.pdmTick) → exec (.pathDelayMonitor v) s = .next s)

/-- R474: every 4,096 ticks the equivalent hours advance by the ageing factor of the hottest temperature since the last, and
LIFE_PERMIL with them; AGE_LIFE is raised once at 800 and once at 1,000. -/
def eqHoursUpdate : Prop := ∀ (s : State) (m : Int), s.RegsOk → s.age.tjMax = some m → s.Room Ev.AGE_LIFE →
  (s.atTick = true → s.curTick % 4096 = 0 → s.curTick ≠ s.age.eqTick → s.Does .eqHoursUpdate fun t =>
    t.age.eq = s.age.eq + eqPeriod * Config.ageFactor m ∧ t.age.tjMax = none ∧ t.get F.AGE_STAT_LIFE_PERMIL = lifeOf t.age.eq ∧
    (s.age.lifeSaid < 800 → 800 ≤ lifeOf t.age.eq → s.Raised t Ev.AGE_LIFE noInst (lifeOf t.age.eq)) ∧
    (s.age.lifeSaid < 1000 → 1000 ≤ lifeOf t.age.eq → s.Raised t Ev.AGE_LIFE noInst (lifeOf t.age.eq)) ∧
    (s.age.lifeSaid = 800 → lifeOf t.age.eq < 1000 → t.evt = s.evt) ∧ (s.age.lifeSaid = 1000 → t.evt = s.evt) ∧
    s.RegsBut t [A.AGE_EQ_HOURS, A.AGE_STAT]) ∧
  ((s.atTick = false ∨ s.curTick % 4096 ≠ 0 ∨ s.curTick = s.age.eqTick) → exec .eqHoursUpdate s = .next s)

/-- R475: every 65,536 ticks the planner moves the margins toward safety only. -/
def marginPlan : Prop := ∀ s : State, s.RegsOk →
  (s.atTick = true → s.curTick % 65536 = 0 → s.curTick ≠ s.age.planTick → s.Does .marginPlan fun t =>
    s.get F.AGE_AVS_VID_AGE ≤ t.get F.AGE_AVS_VID_AGE ∧ t.get F.TIC_CAL_CFG_AGE_INTERVAL ≤ s.get F.TIC_CAL_CFG_AGE_INTERVAL ∧
    (∀ p < 20, s.get (F.TSU_x_GUARD_GUARD_AGE p) ≤ t.get (F.TSU_x_GUARD_GUARD_AGE p)) ∧ s.getB A.BND_HW_AGE ≤ t.getB A.BND_HW_AGE ∧
    t.age.target = min s.vidRule vidMax ∧ t.get F.AGE_PLAN_RES_VALID = 1 ∧ t.get F.BND_EPOCH_EPOCH = s.get F.BND_EPOCH_EPOCH) ∧
  ((s.atTick = false ∨ s.curTick % 65536 ≠ 0 ∨ s.curTick = s.age.planTick) → exec .marginPlan s = .next s)

/-- R475, R476: the applied VID moves at most 4 steps toward its target, once in 64 ticks. -/
def avsStep : Prop := ∀ (s : State) (ack : Bool), s.RegsOk → s.flag F.AGE_CFG_AVS_MODE = false → s.age.target ≤ 200 →
  (s.atTick = true → s.curTick % 64 = 0 → s.curTick ≠ s.age.avsTick → s.Does (.avsStep ack) fun t =>
    (s.get F.AGE_AVS_VID < s.age.target → t.get F.AGE_AVS_VID = min s.age.target (s.get F.AGE_AVS_VID + 4)) ∧
    (s.age.target ≤ s.get F.AGE_AVS_VID → t.get F.AGE_AVS_VID = max s.age.target (s.get F.AGE_AVS_VID - 4)) ∧ s.RegsBut t [A.AGE_AVS] ∧
    t = { s with regs := t.regs, age := { s.age with avsTick := s.curTick } }) ∧
  ((s.atTick = false ∨ s.curTick % 64 ≠ 0 ∨ s.curTick = s.age.avsTick) → exec (.avsStep ack) s = .next s)

/-- R475, R476: over PMBus a move that the regulator answers is applied; one it does not answer leaves the last value and is told. -/
def avsPmbus : Prop := ∀ (s : State) (n : Nat), s.RegsOk → s.flag F.AGE_CFG_AVS_MODE = true → s.age.linear = some n → s.age.target ≤ 200 →
  s.atTick = true → s.curTick % 64 = 0 → s.curTick ≠ s.age.avsTick → s.get F.AGE_AVS_VID < s.age.target → s.Room Ev.AGE_AVS →
  (s.Does (.avsStep true) fun t => t.get F.AGE_AVS_VID = min s.age.target (s.get F.AGE_AVS_VID + 4) ∧ s.RegsBut t [A.AGE_AVS] ∧ t.evt = s.evt) ∧
  (s.Does (.avsStep false) fun t => t.get F.AGE_AVS_VID = s.get F.AGE_AVS_VID ∧ t.flag F.AGE_STAT_AVS_FAIL = true ∧ s.RegsBut t [A.AGE_STAT] ∧
    s.Raised t Ev.AGE_AVS noInst ((if s.flag F.AGE_STAT_AVS_LIMIT then 1 else 0) + 2 + 256 * s.get F.AGE_AVS_VID))

/-- R14, R15, R481: an arm that a cause refuses posts the cause and arms nothing; one that nothing refuses stands armed for the value of
INJ_AT last taken (one of 10^9 nanoseconds or more is not taken), the next tick boundary where that is past. -/
def injArm : Prop := ∀ (s : State) (cmd a0 a1 : Word) (k : Fin 79228162514264337593543950336), s.RegsOk →
  let pt := cmd.toNat % 256
  let inst := cmd.toNat / 256 % 256
  let at_ := if kt96Ns k < 1000000000 then k.val else s.wide (A.INJ_AT 0) 3
  (s.injCause pt inst a0.toNat a1.toNat ≠ 0 → s.Does (.injArm cmd a0 a1 k) fun t =>
    t.get F.INJ_RES_VALID = 1 ∧ t.get F.INJ_RES_RESULT = 3 ∧ t.get F.INJ_RES_CAUSE = s.injCause pt inst a0.toNat a1.toNat ∧ t.wide (A.INJ_AT 0) 3 = at_ ∧
    s.RegsBut t [A.INJ_RES, A.INJ_AT 0, A.INJ_AT 0 + 4, A.INJ_AT 0 + 8] ∧ t = { s with regs := t.regs }) ∧
  (s.injCause pt inst a0.toNat a1.toNat = 0 → s.Does (.injArm cmd a0 a1 k) fun t =>
    t.get F.INJ_RES_VALID = 1 ∧ t.get F.INJ_RES_RESULT = 1 ∧ t.wide (A.INJ_AT 0) 3 = at_ ∧
    t.inj.points = s.inj.points ++ [⟨pt, injInst pt inst, a0.toNat, a1.toNat,
      (if timeOf at_ ≤ s.now then s.nextTick * lsbPerTick else timeOf at_), false, injCount pt a1.toNat, 0⟩] ∧
    t.bit F.INJ_STAT_ACTIVE (pt / 16) = true ∧ s.RegsBut t [A.INJ_RES, A.INJ_STAT, A.INJ_AT 0, A.INJ_AT 0 + 4, A.INJ_AT 0 + 8] ∧
    t = { s with regs := t.regs, inj := t.inj })

/-- R480, R481: a class that is not enabled refuses with cause 1, an armed class without DOUBLE_EN with cause 2. -/
def injCauses : Prop := ∀ (s : State) (pt inst a0 a1 : Nat), pt < 256 →
  (s.bit F.INJ_CFG_CLASS_EN (pt / 16) = false → s.injCause pt inst a0 a1 = 1) ∧
  (s.bit F.INJ_CFG_CLASS_EN (pt / 16) = true → s.flag F.INJ_CFG_DOUBLE_EN = false → (∃ q ∈ s.inj.points, q.point / 16 = pt / 16) → s.injCause pt inst a0 a1 = 2) ∧
  (s.injCause pt inst a0 a1 = 0 → s.draining = false ∧ injRange pt inst a0 a1 = true ∧ s.injTarget pt inst a0 = true)

/-- R482: a disarmed point is armed no more; DISARM_ALL leaves none. -/
def injDisarm : Prop := ∀ (s : State) (pt inst : Byte), s.RegsOk → s.Does (.injDisarm pt inst) fun t =>
  t.get F.INJ_RES_RESULT = 4 ∧ (∀ q ∈ t.inj.points, q ∈ s.inj.points) ∧
  (s.inj.points.Nodup → ∀ q ∈ t.inj.points, ¬ (q.point = pt.toNat ∧ q.inst = injInst pt.toNat inst.toNat))
def injDisarmAll : Prop := ∀ (s : State) (pt inst : Byte), s.RegsOk → s.Does (.injDisarmAll pt inst) fun t =>
  t.get F.INJ_RES_RESULT = 4 ∧ t.inj.points = []

/-- The points whose detectors ask for them while they fire. -/
def heldPoints : List Nat := [0x01, 0x10, 0x11, 0x30, 0x31, 0x32, 0x40, 0x71, 0x80, 0x81, 0xA0, 0xC0, 0xC2, 0xD1, 0xE0, 0xE1, 0xE2, 0xE3, 0xF0, 0xF1]

/-- R482: an armed point fires at its instant and is counted; a point not armed does nothing. -/
def injFire : Prop := ∀ (s : State) (pt inst : Byte), s.RegsOk →
  (∀ q, s.injPoint pt.toNat inst.toNat false = some q → pt.toNat ∈ heldPoints → s.Does (.injFire pt inst) fun t =>
    t.now = max s.now q.at_ ∧ t.get F.INJ_FIRED_COUNT = (s.get F.INJ_FIRED_COUNT + 1) % wid F.INJ_FIRED_COUNT ∧
    { q with firing := true, firedAt := t.now } ∈ t.inj.points ∧ s.RegsBut t [A.INJ_FIRED]) ∧
  (s.injPoint pt.toNat inst.toNat false = none → exec (.injFire pt inst) s = .next s)

/-- R482, R483: a point whose count or duration is spent ends with RESULT 2 and the instant of its first firing. -/
def injEnd : Prop := ∀ (s : State) (pt inst : Byte), s.RegsOk →
  (∀ q, s.injPoint pt.toNat inst.toNat true = some q → injLife pt.toNat = some .counted → pt.toNat ∈ heldPoints →
    (q.left = 0 → s.Does (.injEnd pt inst) fun t =>
      t.get F.INJ_RES_RESULT = 2 ∧ t.inj.points = s.inj.points.erase q ∧ t.wide (A.INJ_FIRE_T 0) 3 = kt96Of q.firedAt % 2 ^ 96 ∧ t.now = s.now) ∧
    (0 < q.left → exec (.injEnd pt inst) s = .next s)) ∧
  (∀ q u, s.injPoint pt.toNat inst.toNat true = some q → injLife pt.toNat = some (.lasts u) → pt.toNat ∈ heldPoints → s.Does (.injEnd pt inst) fun t =>
    t.now = max s.now (q.firedAt + injCount pt.toNat q.arg1 * u) ∧ t.get F.INJ_RES_RESULT = 2 ∧ t.inj.points = s.inj.points.erase q ∧
    t.wide (A.INJ_FIRE_T 0) 3 = kt96Of q.firedAt % 2 ^ 96) ∧
  (s.injPoint pt.toNat inst.toNat true = none → exec (.injEnd pt inst) s = .next s)

end Sys2Proof.Claims

open Sys2Proof

/-- A step runs the command at the front of the queue with the queue's rest; on an empty queue the block idles (log 1). -/
def Obligations.StepRunsFrontCommand : Prop :=
  Claims.stepRuns ∧ Claims.stepIdles

/-- The state after reset is canonical and empty, and holds what register tables of the chapters give for reset. -/
def Obligations.ResetStateValues : Prop :=
  Claims.resetCanon ∧ Claims.resetValues

/-- Every step keeps registers, counters, DRAM and check bits in canonical form. -/
def Obligations.StepKeepsCanonicalForm : Prop :=
  Claims.stepCanon

/-- The window refuses bad accesses, stages writes, completes KT96 values, and keeps command paths closed. -/
def Obligations.RegisterWindowAccess : Prop :=
  Claims.busError ∧ Claims.registerWrite ∧ Claims.kt96Complete ∧ Claims.wideLatch ∧ Claims.writeRefused

/-- A read of the lowest word of a wide value latches the whole value, and higher words read the latched copy. -/
def Obligations.WideReadsLatchOneInstant : Prop :=
  Claims.wideLatchAll

/-- The router numbers events into the ring; pops and the log take them in order. -/
def Obligations.EventsRingAndLog : Prop :=
  Claims.eventAccept ∧ Claims.logSpill ∧ Claims.evtPop ∧ Claims.evtPopEmpty ∧ Claims.evtLogRd ∧ Claims.eventOrder ∧ Claims.eventHeld ∧ Claims.logSpillFull

/-- The keepers start from the Cellar seconds; a vote forms the offsets, the correction and the voted time; an OUT keeper is seeded. -/
def Obligations.KeepersStartAndVote : Prop :=
  Claims.keepersStart ∧ Claims.vote ∧ Claims.voteStraddles ∧ Claims.keeperSeed ∧ Claims.voteRuns

/-- A keeper leaves by a command that leaves two agreeing ones, and rejoins; the snapshot of the triad. -/
def Obligations.KeepersLeaveAndRejoin : Prop :=
  Claims.keeperRemove ∧ Claims.keeperLeaves ∧ Claims.keeperRemoveRefused ∧ Claims.keeperRejoin ∧ Claims.snapshotTake ∧ Claims.snapshotComplete ∧ Claims.snapshotLatched

/-- A leap is armed, cancelled and applied, and its windows shown. -/
def Obligations.LeapSecondsApply : Prop :=
  Claims.leapArm ∧ Claims.leapArmRefused ∧ Claims.leapCancel ∧ Claims.leapApply ∧ Claims.leapWindow

/-- EB8 codes stand for the values of their formula, and a bound encodes to the smallest code not below it. -/
def Obligations.Eb8EncodesNeverDown : Prop :=
  Claims.eb8Codes ∧ Claims.eb8Encoder ∧ Claims.eb8RoundTrip

/-- Bound requests, queries, ASYM budgets, the sample timeout, the traceability queue and the epoch. -/
def Obligations.BoundAnswersAndEpoch : Prop :=
  Claims.boundRequest ∧ Claims.boundNoVote ∧ Claims.bndQuery ∧ Claims.bndQueryIgnored ∧ Claims.asymWrite ∧ Claims.asymRefused ∧ Claims.sampleTimeout ∧ Claims.tracePop ∧ Claims.epochRaise ∧ Claims.boundInstant ∧ Claims.boundSum ∧ Claims.epochAtVote

/-- What reference inputs leave: ToD frames, packet exchanges, Announce, ESMC, and their timeouts. -/
def Obligations.ReferenceInputsArrive : Prop :=
  Claims.todFrame ∧ Claims.todBad ∧ Claims.packetExchange ∧ Claims.packetAnnounce ∧ Claims.esmcPdu ∧ Claims.esmcTimeout ∧ Claims.todStale ∧ Claims.ppsEdgeTimeout ∧ Claims.packetLos ∧ Claims.announceTimeout ∧ Claims.exchangeDiscarded

/-- Slots fall, qualify, wait to restore; disputes clear; switches commit; REF commands are judged at the tick. -/
def Obligations.ReferenceSlotsQualify : Prop :=
  Claims.slotFalls ∧ Claims.qualificationComplete ∧ Claims.wtrComplete ∧ Claims.disputeClear ∧ Claims.switchCommit ∧ Claims.refCommands ∧ Claims.refInvalid ∧ Claims.refJudged ∧ Claims.switchDue

/-- Words to WORD oscillators, their failures, the temperature sensors, and the trim transfer. -/
def Obligations.OscillatorWordsAndSensors : Prop :=
  Claims.oscWordWrite ∧ Claims.oscWordResult ∧ Claims.oscWordFails ∧ Claims.tempSensorRead ∧ Claims.tempReading ∧ Claims.tempNak ∧ Claims.trimTransfer ∧ Claims.oscWordOnce

/-- Frequency and phase lock, and the commits of the holdover and witness models. -/
def Obligations.DisciplineLocksAndModels : Prop :=
  Claims.freqLock ∧ Claims.phaseLock ∧ Claims.modelCommit ∧ Claims.modelRefused ∧ Claims.modelNotInHoldover ∧ Claims.witnessCommit ∧ Claims.witnessStale

/-- Realignment is accepted or refused and applied; second markers and tick boundaries advance voted time. -/
def Obligations.RealignAndTickAdvance : Prop :=
  Claims.realignCommand ∧ Claims.realignRefused ∧ Claims.realignApply ∧ Claims.secondMarker ∧ Claims.tickBoundary ∧ Claims.realignKeepers ∧ Claims.realignPosted ∧ Claims.stagedTakes

/-- The multiplying loops acquire, settle, lock and lose lock, with what their consumers do. -/
def Obligations.LoopsLockAndLose : Prop :=
  Claims.loopLock ∧ Claims.loopAcquireTimeout ∧ Claims.loopSettleDone ∧ Claims.loopSettleFollows ∧ Claims.loopLossOfLock ∧ Claims.loopLossFollows ∧ Claims.loopLossOfReference ∧ Claims.loopReferenceReturn ∧ Claims.loopNoLock ∧ Claims.loopSettled

/-- PPS and clock outputs change width and offset only while disabled, and ENABLE is staged. -/
def Obligations.OutputRegistersStaged : Prop :=
  Claims.ppsCfgWrite ∧ Claims.ppsOfsWrite ∧ Claims.clkoutOfsWrite ∧ Claims.clkoutCtlWrite

/-- Stopped and running domains, stalled samples, the reset handshake, and the merge counters. -/
def Obligations.DomainsAndCrossings : Prop :=
  Claims.domainStopped ∧ Claims.domainHeld ∧ Claims.domainRunning ∧ Claims.sampleStall ∧ Claims.resetRequest ∧ Claims.resetAck ∧ Claims.resetOpen ∧ Claims.mergeClear ∧ Claims.mergeClearAll ∧ Claims.strobePends ∧ Claims.flushReceived ∧ Claims.resetWaits

/-- Received frames are dropped, queued or act as PAUSE and PFC, and pauses begin and end. -/
def Obligations.PortsReceiveAndPause : Prop :=
  Claims.rxDropped ∧ Claims.rxQueued ∧ Claims.pauseFrame ∧ Claims.pfcFrame ∧ Claims.pauseAction ∧ Claims.pauseNone ∧ Claims.pfcAction ∧ Claims.pauseEnd ∧ Claims.pfcEnd ∧ Claims.pauseLong ∧ Claims.rxCutOff

/-- A port locks, holds, comes UP and fails; autonegotiation, port reset and counter snapshot. -/
def Obligations.PortLinksComeAndGo : Prop :=
  Claims.linkBlockLock ∧ Claims.linkHoldExpiry ∧ Claims.linkFault ∧ Claims.autonegResult ∧ Claims.portReset ∧ Claims.portCntSnap ∧ Claims.linkAwaitsPartner ∧ Claims.linkVerifyFault

/-- Frames pass guardrails, queue, start, end and underrun as the transmit rules say. -/
def Obligations.PortsTransmitInClass : Prop :=
  Claims.txRefused ∧ Claims.txQueued ∧ Claims.txCauses ∧ Claims.txFrameStart ∧ Claims.txFrameDone ∧ Claims.txFrameFollows ∧ Claims.txUnderrun ∧ Claims.txGrows ∧ Claims.followUpTlv ∧ Claims.txClassRule ∧ Claims.txAnnounceStart ∧ Claims.txHeld

/-- Reservations are granted in free slots, armed, launched, missed, cancelled and committed. -/
def Obligations.LaunchSlotsHeld : Prop :=
  Claims.reservationRefused ∧ Claims.reservationGranted ∧ Claims.reservationEntry ∧ Claims.slotFree ∧ Claims.pinnedArmed ∧ Claims.pinnedLaunch ∧ Claims.deadlineMissed ∧ Claims.pinnedCancel ∧ Claims.pinnedCommit ∧ Claims.reservationWaits

/-- Trigger entries are pushed or refused with their cause, cancelled, and fired. -/
def Obligations.TriggerOutputsFire : Prop :=
  Claims.trgPush ∧ Claims.trgCauses ∧ Claims.trgCancelAll ∧ Claims.trgFire

/-- Requests join the ledger or are discarded, and engines pop their queues. -/
def Obligations.ServiceAdmitsRequests : Prop :=
  Claims.requestAdmit ∧ Claims.requestDiscarded ∧ Claims.ledgerPop ∧ Claims.ledgerPopEmpty ∧ Claims.enginePops ∧ Claims.enginePopsEmpty ∧ Claims.popsAnswerPeek

/-- Record pushes fetch and stage client records; pushes of an unbound context change nothing. -/
def Obligations.EngineRecordPushes : Prop :=
  Claims.recFetch ∧ Claims.recFetchLarder ∧ Claims.recStage ∧ Claims.unboundIgnored ∧ Claims.recFetchError

/-- Cookies open, AES-SIV and HMAC verify, and refused handles answer their status. -/
def Obligations.EngineCryptoResults : Prop :=
  Claims.cookieUnknown ∧ Claims.cookieOpened ∧ Claims.verifyRefused ∧ Claims.sivVerify ∧ Claims.hmacVerify ∧ Claims.staleHandle ∧ Claims.cryptoResult ∧ Claims.hmacNoKey

/-- Launch requests, seals and submissions of a response. -/
def Obligations.ResponsesSealAndSubmit : Prop :=
  Claims.launchPush ∧ Claims.sealPush ∧ Claims.sealDone ∧ Claims.sealShort ∧ Claims.submitPush ∧ Claims.sealUninserted

/-- Entries commit, squash, restart, expire and are withdrawn into the journal. -/
def Obligations.EntriesReachOutcomes : Prop :=
  Claims.withdrawPush ∧ Claims.entryCommit ∧ Claims.entrySquash ∧ Claims.restartCodes ∧ Claims.useLimitExpiry ∧ Claims.journalled ∧ Claims.svcJnlPop

/-- A faulted or silent engine reloads or goes OFFLINE, and returns; the service counters are shown. -/
def Obligations.EnginesFaultAndRestart : Prop :=
  Claims.engineFault ∧ Claims.engineWatchdog ∧ Claims.engineRestarted ∧ Claims.engineReset ∧ Claims.engineOnline ∧ Claims.svcCntSnap ∧ Claims.engineResetEntry ∧ Claims.svcCmdWaits

/-- Announce and Sync of a grandmaster instance are sent, pinned, or skipped and counted. -/
def Obligations.PtpMasterSends : Prop :=
  Claims.announceSend ∧ Claims.syncTwoStep ∧ Claims.syncSkipped ∧ Claims.syncPinned ∧ Claims.gmSilent ∧ Claims.syncNames

/-- Outcome writes are performed, clients looked up in the Pantry, and the rate decision taken. -/
def Obligations.ClientLookupsDecide : Prop :=
  Claims.larderWriteThrough ∧ Claims.larderBusy ∧ Claims.clientHit ∧ Claims.clientNone ∧ Claims.rateDecision

/-- Records and grants age out, lines in error are rebuilt, and LDR's own commands. -/
def Obligations.ClientRecordsAge : Prop :=
  Claims.recordAgeOut ∧ Claims.grantExpire ∧ Claims.pantryRebuildDone ∧ Claims.ldrReady ∧ Claims.ldrFind ∧ Claims.ldrSet ∧ Claims.ldrCntSnap ∧ Claims.ldrWaits

/-- Each KEY command has its effect, or posts its cause and changes nothing else. -/
def Obligations.KeyCommandsStage : Prop :=
  Claims.keyGenerate ∧ Claims.keyImport ∧ Claims.keyImportLocal ∧ Claims.keyErase ∧ Claims.keyCommit ∧ Claims.keyAbort ∧ Claims.keyDerive ∧ Claims.keyInvalidate ∧ Claims.keySetSucc ∧ Claims.keyFree ∧ Claims.cookieRoll ∧ Claims.tamperDisarm ∧ Claims.keyCmdWaits

/-- Sources and causes of key commands, expiry, tags, selection, tamper configuration, the random generator. -/
def Obligations.KeyRulesHold : Prop :=
  Claims.keySources ∧ Claims.stageCauses ∧ Claims.keyExpiry ∧ Claims.keyTagCheck ∧ Claims.keyCntSnap ∧ Claims.keySlotSelWrite ∧ Claims.tamperCfgWrite ∧ Claims.rngHealthFail ∧ Claims.rngRecover ∧ Claims.drbgReseed

/-- An edge of a TIC channel is ignored, divided, dead or stamped, and becomes a Pip. -/
def Obligations.IntervalEdgesStamped : Prop :=
  Claims.ticEdge ∧ Claims.ticEdgeNone ∧ Claims.ticEdgeDivided ∧ Claims.ticEdgeDead ∧ Claims.ticEdgeStream ∧ Claims.ticEdgeLost

/-- Pips leave to rings and the export stream; intervals and frequency gates are judged and posted. -/
def Obligations.PipsAndMeasurements : Prop :=
  Claims.pipWriteRing ∧ Claims.pipWriteExport ∧ Claims.intervalJudge ∧ Claims.intervalWindow ∧ Claims.freqGateEnd ∧ Claims.ticFqPop ∧ Claims.ringRdWrite ∧ Claims.pipWaits

/-- Interpolator tests start and complete, and the export stream keeps to its frames and flow control. -/
def Obligations.CalibrationAndExport : Prop :=
  Claims.recalTimer ∧ Claims.recalEarly ∧ Claims.recal ∧ Claims.recalAll ∧ Claims.interpCalDone ∧ Claims.exportFrameClose ∧ Claims.flowMessage ∧ Claims.xoffTimeout

/-- GNSS channels are assigned and move between their states, and return after a processor fault. -/
def Obligations.GnssChannelsMove : Prop :=
  Claims.channelAssign ∧ Claims.channelMoves ∧ Claims.channelStays ∧ Claims.loopProcessorFault

/-- GNSS bands sleep, wake and forget, by command and by duty cycle. -/
def Obligations.GnssBandsSleepAndWake : Prop :=
  Claims.gnssSleep ∧ Claims.gnssWake ∧ Claims.gnssCold ∧ Claims.dutySleep ∧ Claims.dutyWake ∧ Claims.bandWakeComplete ∧ Claims.bandWakeTimeout

/-- The epoch window swaps, the GNSS pulse is driven with its correction, and a survey restarts. -/
def Obligations.GnssEpochAndPulse : Prop :=
  Claims.gnssEpoch ∧ Claims.gnssEpochPosted ∧ Claims.gnssEpochNotDue ∧ Claims.gnssPps ∧ Claims.gnssPpsOff ∧ Claims.resurvey ∧ Claims.gnssClocks

/-- Distribution links pin, send, take and answer the messages of an exchange. -/
def Obligations.LinkMessagesExchange : Prop :=
  Claims.dstPinned ∧ Claims.linkSyncSend ∧ Claims.linkSyncNotDue ∧ Claims.linkSyncRx ∧ Claims.linkDelayReqSend ∧ Claims.linkDelayReqRx ∧ Claims.linkPdelayReqRx ∧ Claims.peerLocked ∧ Claims.linkDelayRespRx ∧ Claims.linkPdelayStale

/-- Complete exchanges are posted, silence unlocks a link, and trigger entries are forwarded. -/
def Obligations.LinkStateAndTriggers : Prop :=
  Claims.exchangePosted ∧ Claims.linkTempRead ∧ Claims.linkSilence ∧ Claims.triggerSend ∧ Claims.triggerTimeout ∧ Claims.exchangeJudged

/-- The pair's frame header, HELLO, discovery, and the contest of two active units. -/
def Obligations.PairRolesSettle : Prop :=
  Claims.pairHeader ∧ Claims.helloSend ∧ Claims.helloDiscover ∧ Claims.helloDual ∧ Claims.discoverTimeout ∧ Claims.helloCopy ∧ Claims.dualSeen

/-- The active unit opens, drains and seals vintages, and commits or discards them. -/
def Obligations.VintagesSentByActive : Prop :=
  Claims.vintageOpens ∧ Claims.vintageDrained ∧ Claims.vintageAckRx ∧ Claims.vintageAckTimeout ∧ Claims.pairResync

/-- The standby takes exchanges and records of the vintage under reception, and inserts what was committed. -/
def Obligations.VintagesStagedByStandby : Prop :=
  Claims.pairExchRx ∧ Claims.vintageRecordsRx ∧ Claims.recordInsertDone ∧ Claims.pairThetaIs

/-- The heartbeat is judged; units resign, and takeovers wait for the tick. -/
def Obligations.HeartbeatAndResignation : Prop :=
  Claims.peerPpsEdge ∧ Claims.peerPpsLost ∧ Claims.pairResign ∧ Claims.pairSpiIgnored ∧ Claims.resignRelease ∧ Claims.resignFrameRx ∧ Claims.pairTakeoverCmd ∧ Claims.arbHoldExpiry ∧ Claims.takeoverOrder ∧ Claims.takeoverLeaves ∧ Claims.resignOnCause

/-- Boundaries without a commit are counted, 16 make the copy STALE, a commit makes it CURRENT, entry to STANDBY EMPTY. -/
def Obligations.StandbyCopyGrowsStale : Prop :=
  Claims.vintageMissed ∧ Claims.copyStale ∧ Claims.vintageSealRx ∧ Claims.standbyEntry

/-- Whatever client records a RECORDS payload carries are read back from it. -/
def Obligations.VintageRecordsRoundTrip : Prop :=
  Claims.recordsRoundTrip

/-- A Twivon message built from its fields is parsed back into exactly those fields and its tag. -/
def Obligations.TwivonMessagesRoundTrip : Prop :=
  Claims.twivonRoundTrip

/-- DRAM reads leave sound words, correct one symbol, and report two as uncorrectable. -/
def Obligations.DramReadsDecode : Prop :=
  Claims.dramReadFine ∧ Claims.dramReadCorrects ∧ Claims.dramReadUncorrectable ∧ Claims.dramAbsent ∧ Claims.sramReads ∧ Claims.stickyPage ∧ Claims.lostPip ∧ Claims.lostEvent ∧ Claims.lostEntry

/-- The fill, retraining, raw access of memory, and a wake by an item. -/
def Obligations.FillTrainingAndRawAccess : Prop :=
  Claims.dramFillDone ∧ Claims.dramRetrain ∧ Claims.retrainDone ∧ Claims.rawRefused ∧ Claims.rawWrite ∧ Claims.rawRead ∧ Claims.compatWakeRequest ∧ Claims.rawWaits

/-- A full start, the counts it settles, and which copy of the Attic is loaded. -/
def Obligations.StartAndAtticLoad : Prop :=
  Claims.fullStart ∧ Claims.startDrops ∧ Claims.headersRead ∧ Claims.headerCauses ∧ Claims.copyVerify ∧ Claims.copyLoads

/-- Core-pair faults, the watchdog, and the console's queues. -/
def Obligations.CoresAndConsole : Prop :=
  Claims.corePairFault ∧ Claims.watchdogExpiry ∧ Claims.watchdogKick ∧ Claims.uartTxWrite ∧ Claims.uartRxByte ∧ Claims.uartRxPop ∧ Claims.uartTxByteSent

/-- Twivon commands are journalled, dropped, replied to, and READ, WRITE and CLEAR have their effects. -/
def Obligations.TwivonSessionsServed : Prop :=
  Claims.twivonAccepted ∧ Claims.twivonDropped ∧ Claims.twivonReplied ∧ Claims.twivonRead ∧ Claims.twivonWrite ∧ Claims.twivonClear ∧ Claims.twivonRefused ∧ Claims.twivonBusy ∧ Claims.twivonReplay

/-- The copy in use is never written; the other is erased, written and read; the rollback level only rises. -/
def Obligations.FlashAndRollback : Prop :=
  Claims.flashErase ∧ Claims.flashEraseDone ∧ Claims.flashWrite ∧ Claims.flashRead ∧ Claims.rollbackBurn

/-- The SPI port's reads, writes and status, and which path may write which command. -/
def Obligations.SpiPortAndWriteRights : Prop :=
  Claims.spiRead ∧ Claims.spiWrite ∧ Claims.spiRights ∧ Claims.spiStatus ∧ Claims.commandRights

/-- The device enters the Cellar state through DRAIN and SAVE and wakes from it. -/
def Obligations.CellarEntryAndWake : Prop :=
  Claims.cellarEnter ∧ Claims.cellarEnterIgnored ∧ Claims.drainComplete ∧ Claims.drainTimeout ∧ Claims.snapshotSaved ∧ Claims.wakeNAssert ∧ Claims.wakeTimerExpiry ∧ Claims.wakeComplete ∧ Claims.wakeCompleteIdle ∧ Claims.savedFields

/-- What a reset, a lost supply and a tamper leave. -/
def Obligations.ResetSuppliesAndTamper : Prop :=
  Claims.clrCntSnap ∧ Claims.resetNAssert ∧ Claims.pwrgoodFall ∧ Claims.twivonRestart ∧ Claims.vauxFall ∧ Claims.vauxRise ∧ Claims.vauxRange ∧ Claims.vbatLow ∧ Claims.vbatRestored ∧ Claims.tamperTrigger ∧ Claims.supplyWaits ∧ Claims.tamperWakes

/-- The ageing monitors and margin planner, and fault injections armed, fired and ended. -/
def Obligations.MarginsAndInjections : Prop :=
  Claims.pathDelayMonitor ∧ Claims.eqHoursUpdate ∧ Claims.marginPlan ∧ Claims.avsStep ∧ Claims.injArm ∧ Claims.injCauses ∧ Claims.injDisarm ∧ Claims.injDisarmAll ∧ Claims.injFire ∧ Claims.injEnd ∧ Claims.avsPmbus
end

