-- ==== Sys2Proof/Laws/Crypto.lean ====
section
/-!
SUPPORT. AES-SIV as the model uses it (R316): lengths, opening what was sealed, and the cookie's round trip.
-/
namespace Sys2Proof.Laws

open Sys2Proof Sys2Proof.Machine

/-- The expanded key reaches the last round, so that a block comes out whole. -/
abbrev KeyWhole (key : List Byte) : Prop := (roundKey (aesExpand key) (key.length / 4 + 6)).length = 16

theorem aesEnc_length (key b : List Byte) (h : KeyWhole key) : (aesEnc key b).length = 16 := by
  simp [aesEnc, xorBytes, shiftRows, show (roundKey (aesExpand key) (key.length / 4 + 6)).length = 16 from h]

theorem cmac_length (key m : List Byte) (h : KeyWhole key) : (cmac key m).length = 16 := by
  simp [cmac, aesEnc_length _ _ h]

theorem s2v_length (key p : List Byte) (ad : List (List Byte)) (h : KeyWhole key) : (s2v key ad p).length = 16 := by
  unfold s2v
  dsimp only
  split <;> exact cmac_length _ _ h

theorem xorBytes_twice : ∀ (x y : List Byte), x.length ≤ y.length → xorBytes (xorBytes x y) y = x
  | [], _, _ => by simp [xorBytes]
  | a :: x, b :: y, h => by
    have := xorBytes_twice x y (by simpa using h)
    simp only [xorBytes, List.zipWith_cons_cons] at this ⊢
    rw [this, BitVec.xor_assoc, BitVec.xor_self, BitVec.xor_zero]

theorem stream_length (n : Nat) (f : Nat → List Byte) (h : ∀ i, (f i).length = 16) : ((List.range n).flatMap f).length = 16 * n := by
  induction n with
  | zero => rfl
  | succ n ih => simp [List.range_succ, List.flatMap_append, h, ih]; omega

theorem sivCtr_length (key v x : List Byte) (h : KeyWhole key) : (sivCtr key v x).length = x.length := by
  simp only [sivCtr, xorBytes, List.length_zipWith, stream_length _ _ fun i => aesEnc_length key _ h]
  omega

/-- The counter stream laid over a text twice gives the text. -/
theorem sivCtr_twice (key v x : List Byte) (h : KeyWhole key) : sivCtr key v (sivCtr key v x) = x := by
  have e := sivCtr_length key v x h
  rw [sivCtr, e]
  exact xorBytes_twice _ _ (by rw [stream_length _ _ fun i => aesEnc_length key _ h]; omega)

/-- What AES-SIV seals, it opens. -/
theorem sivOpen_sivSeal (key p : List Byte) (ad : List (List Byte)) (h : KeyWhole (key.drop 16)) :
    sivOpen key ad (sivSeal key ad p).1 (sivSeal key ad p).2 = some p := by
  simp [sivOpen, sivSeal, sivCtr_twice _ _ _ h]

theorem slices (a b c d : List Byte) (ha : a.length = 6) (hb : b.length = 16) (hc : c.length = 16) (hd : d.length = 66) :
    (a ++ b ++ c ++ d).take 6 = a ∧ slice (a ++ b ++ c ++ d) 6 16 = b ∧ slice (a ++ b ++ c ++ d) 22 16 = c ∧ slice (a ++ b ++ c ++ d) 38 66 = d := by
  have h1 : List.drop 38 a = [] := List.drop_eq_nil_of_le (by omega)
  have h2 : List.drop 32 b = [] := List.drop_eq_nil_of_le (by omega)
  have h3 : List.drop 22 a = [] := List.drop_eq_nil_of_le (by omega)
  have h4 : List.take 66 d = d := List.take_of_length_le (by omega)
  refine ⟨?_, ?_, ?_, ?_⟩ <;> simp [slice, List.drop_append, ha, hb, hc, h1, h2, h3, h4]

/-- R316: a cookie opens under the key it was sealed under, to the keys sealed in it. -/
theorem openCookie_cookieBytes (key : List Byte) (keyid gen : Nat) (nonce c2s s2c : List Byte) (ht : KeyWhole (key.take 16))
    (hd : KeyWhole (key.drop 16)) (hh : (beBytes 4 keyid ++ beBytes 2 gen).length = 6) (hn : nonce.length = 16)
    (h1 : c2s.length = 32) (h2 : s2c.length = 32) :
    openCookie key (cookieBytes key keyid gen nonce c2s s2c) = some (c2s, s2c) ∧ (cookieBytes key keyid gen nonce c2s s2c).length = 104 := by
  generalize hp : beBytes 2 0x000F ++ c2s ++ s2c = p
  have pl : p.length = 66 := by rw [← hp]; simp [h1, h2]; rfl
  have o := sivOpen_sivSeal key p [beBytes 4 keyid ++ beBytes 2 gen, nonce] hd
  have v1 : (sivSeal key [beBytes 4 keyid ++ beBytes 2 gen, nonce] p).1.length = 16 := s2v_length _ _ _ ht
  have v2 : (sivSeal key [beBytes 4 keyid ++ beBytes 2 gen, nonce] p).2.length = 66 := (sivCtr_length _ _ _ hd).trans pl
  simp only [cookieBytes, hp]
  generalize sivSeal key [beBytes 4 keyid ++ beBytes 2 gen, nonce] p = x at o v1 v2
  have e := slices (beBytes 4 keyid ++ beBytes 2 gen) nonce x.1 x.2 hh hn v1 v2
  constructor
  · simp only [openCookie, e.1, e.2.1, e.2.2.1, e.2.2.2, o]
    have b2 : beBytes 2 0x000F = [0, 15] := rfl
    have q : beNat (p.take 2) = 0x000F := by rw [← hp, b2]; rfl
    have z3 : List.take 32 s2c = s2c := List.take_of_length_le (by omega)
    rw [if_pos q, ← hp, b2]
    simp [slice, List.drop_append, h1, z3]
  · simp [hn, v1, v2] at hh ⊢; omega

end Sys2Proof.Laws
end

