-- ==== Sys2Proof/Laws/Sparse.lean ====
section
/-!
SUPPORT. The laws of the sparse map: a read after a write, other keys untouched, the canonical form kept, and that the
canonical form makes equal maps equal data.
-/
namespace Sys2Proof.Machine

variable {α : Type} [DecidableEq α] (d : Nat → α)

theorem spGet_of_above (m : List (Nat × α)) (a : Nat) (h : spAbove a m = true) : spGet d m a = d a := by
  cases m with
  | nil => rfl
  | cons p r =>
    obtain ⟨b, v⟩ := p
    simp [spAbove] at h
    have h1 : a ≠ b := by omega
    simp [spGet, h1, h.1]

theorem spAbove_mono (m : List (Nat × α)) {a b : Nat} (hab : a < b) (h : spAbove b m = true) : spAbove a m = true := by
  simp only [spAbove, List.all_eq_true, decide_eq_true_eq] at *
  intro p hp; have := h p hp; omega

theorem spGet_cons_self (a : Nat) (v : α) (r : List (Nat × α)) (h : spAbove a r = true) :
    spGet d (spCons d a v r) a = v := by
  unfold spCons; split
  · rename_i hv; rw [spGet_of_above d r a h, hv]
  · simp [spGet]

theorem spGet_cons_other (a x : Nat) (v : α) (r : List (Nat × α)) (hx : x ≠ a) (h : spAbove a r = true) :
    spGet d (spCons d a v r) x = spGet d r x := by
  unfold spCons; split
  · rfl
  · simp only [spGet, if_neg hx]
    split
    · rw [spGet_of_above d r x (spAbove_mono r ‹_› h)]
    · rfl

theorem spWf_tail {a : Nat} {v : α} {r : List (Nat × α)} (h : spWf d ((a, v) :: r) = true) :
    v ≠ d a ∧ spAbove a r = true ∧ spWf d r = true := by
  simpa [spWf, and_assoc] using h

theorem spAbove_spSet (m : List (Nat × α)) (b a : Nat) (v : α) (hb : b < a) (h : spAbove b m = true) :
    spAbove b (spSet d m a v) = true := by
  induction m with
  | nil => unfold spSet spCons; split <;> simp [spAbove, hb]
  | cons p r ih =>
    obtain ⟨c, w⟩ := p
    have hc : b < c ∧ spAbove b r = true := by simpa [spAbove] using h
    unfold spSet; split
    · unfold spCons; split
      · exact hc.2
      · simpa [spAbove, hb] using hc.2
    · split
      · unfold spCons; split
        · exact h
        · simpa [spAbove, hb] using hc
      · have := ih hc.2
        simp only [spAbove, List.all_cons, Bool.and_eq_true, decide_eq_true_eq] at *
        exact ⟨hc.1, this⟩

/-- A read after a write of the same key gives the value written. -/
theorem spGet_spSet_same (m : List (Nat × α)) (a : Nat) (v : α) (h : spWf d m = true) :
    spGet d (spSet d m a v) a = v := by
  induction m with
  | nil => exact spGet_cons_self d a v [] rfl
  | cons p r ih =>
    obtain ⟨b, w⟩ := p
    obtain ⟨_, hab, hr⟩ := spWf_tail d h
    unfold spSet; split
    · rename_i e; subst e; exact spGet_cons_self d a v r hab
    · split
      · apply spGet_cons_self
        simp only [spAbove, List.all_cons, Bool.and_eq_true, decide_eq_true_eq]
        exact ⟨‹_›, spAbove_mono r ‹_› hab⟩
      · rename_i h1 h2
        simp only [spGet, if_neg h1, if_neg h2]; exact ih hr

/-- A write leaves every other key as it was. -/
theorem spGet_spSet_other (m : List (Nat × α)) (a x : Nat) (v : α) (hx : x ≠ a) (h : spWf d m = true) :
    spGet d (spSet d m a v) x = spGet d m x := by
  induction m with
  | nil => exact spGet_cons_other d a x v [] hx rfl
  | cons p r ih =>
    obtain ⟨b, w⟩ := p
    obtain ⟨_, hab, hr⟩ := spWf_tail d h
    unfold spSet; split
    · rename_i e; subst e
      rw [spGet_cons_other d a x v r hx hab]
      simp only [spGet, if_neg hx]
      split
      · exact spGet_of_above d r x (spAbove_mono r ‹_› hab)
      · rfl
    · split
      · apply spGet_cons_other d a x v _ hx
        simp only [spAbove, List.all_cons, Bool.and_eq_true, decide_eq_true_eq]
        exact ⟨‹_›, spAbove_mono r ‹_› hab⟩
      · simp only [spGet, ih hr]

/-- A write keeps the canonical form. -/
theorem spWf_spSet (m : List (Nat × α)) (a : Nat) (v : α) (h : spWf d m = true) : spWf d (spSet d m a v) = true := by
  induction m with
  | nil => unfold spSet spCons; split <;> simp [spWf, spAbove, *]
  | cons p r ih =>
    obtain ⟨b, w⟩ := p
    obtain ⟨hw, hab, hr⟩ := spWf_tail d h
    unfold spSet; split
    · rename_i e; subst e; unfold spCons; split
      · exact hr
      · simp [spWf, hab, hr, *]
    · split
      · unfold spCons; split
        · exact h
        · have h3 : spAbove a ((b, w) :: r) = true := by
            simp only [spAbove, List.all_cons, Bool.and_eq_true, decide_eq_true_eq]
            exact ⟨‹_›, spAbove_mono r ‹_› hab⟩
          rw [spWf, h3, h]; simpa using ‹¬v = d a›
      · have h4 := spAbove_spSet d r b a v (by omega) hab
        rw [spWf, h4, ih hr]; simpa using hw

end Sys2Proof.Machine
end

