-- ==== Sys2Proof/Laws/State.lean ====
section
/-!
SUPPORT. What each update of the state leaves in each field: one lemma per field per update.
-/
namespace Sys2Proof.Machine

open Sys2Proof

/-! ### setReg -/

@[simp] theorem State.setReg_pending (s : State) (a : Nat) (w : Word) : (s.setReg a w).pending = s.pending := rfl
@[simp] theorem State.setReg_regs (s : State) (a : Nat) (w : Word) : (s.setReg a w).regs = spSet resetWord s.regs a w := rfl
@[simp] theorem State.setReg_cnt (s : State) (a : Nat) (w : Word) : (s.setReg a w).cnt = s.cnt := rfl
@[simp] theorem State.setReg_dram (s : State) (a : Nat) (w : Word) : (s.setReg a w).dram = s.dram := rfl
@[simp] theorem State.setReg_now (s : State) (a : Nat) (w : Word) : (s.setReg a w).now = s.now := rfl
@[simp] theorem State.setReg_cyc (s : State) (a : Nat) (w : Word) : (s.setReg a w).cyc = s.cyc := rfl
@[simp] theorem State.setReg_free (s : State) (a : Nat) (w : Word) : (s.setReg a w).free = s.free := rfl
@[simp] theorem State.setReg_reply (s : State) (a : Nat) (w : Word) : (s.setReg a w).reply = s.reply := rfl
@[simp] theorem State.setReg_staged (s : State) (a : Nat) (w : Word) : (s.setReg a w).staged = s.staged := rfl
@[simp] theorem State.setReg_hold (s : State) (a : Nat) (w : Word) : (s.setReg a w).hold = s.hold := rfl
@[simp] theorem State.setReg_latch (s : State) (a : Nat) (w : Word) : (s.setReg a w).latch = s.latch := rfl
@[simp] theorem State.setReg_evt (s : State) (a : Nat) (w : Word) : (s.setReg a w).evt = s.evt := rfl
@[simp] theorem State.setReg_kpr (s : State) (a : Nat) (w : Word) : (s.setReg a w).kpr = s.kpr := rfl
@[simp] theorem State.setReg_nextTick (s : State) (a : Nat) (w : Word) : (s.setReg a w).nextTick = s.nextTick := rfl
@[simp] theorem State.setReg_tickAt (s : State) (a : Nat) (w : Word) : (s.setReg a w).tickAt = s.tickAt := rfl
@[simp] theorem State.setReg_bnd (s : State) (a : Nat) (w : Word) : (s.setReg a w).bnd = s.bnd := rfl
@[simp] theorem State.setReg_ref (s : State) (a : Nat) (w : Word) : (s.setReg a w).ref = s.ref := rfl
@[simp] theorem State.setReg_dsc (s : State) (a : Nat) (w : Word) : (s.setReg a w).dsc = s.dsc := rfl
@[simp] theorem State.setReg_syn (s : State) (a : Nat) (w : Word) : (s.setReg a w).syn = s.syn := rfl
@[simp] theorem State.setReg_xdc (s : State) (a : Nat) (w : Word) : (s.setReg a w).xdc = s.xdc := rfl
@[simp] theorem State.setReg_prt (s : State) (a : Nat) (w : Word) : (s.setReg a w).prt = s.prt := rfl
@[simp] theorem State.setReg_trg (s : State) (a : Nat) (w : Word) : (s.setReg a w).trg = s.trg := rfl
@[simp] theorem State.setReg_svc (s : State) (a : Nat) (w : Word) : (s.setReg a w).svc = s.svc := rfl
@[simp] theorem State.setReg_ldr (s : State) (a : Nat) (w : Word) : (s.setReg a w).ldr = s.ldr := rfl
@[simp] theorem State.setReg_key (s : State) (a : Nat) (w : Word) : (s.setReg a w).key = s.key := rfl
@[simp] theorem State.setReg_mainOff (s : State) (a : Nat) (w : Word) : (s.setReg a w).mainOff = s.mainOff := rfl
@[simp] theorem State.setReg_tic (s : State) (a : Nat) (w : Word) : (s.setReg a w).tic = s.tic := rfl
@[simp] theorem State.setReg_gns (s : State) (a : Nat) (w : Word) : (s.setReg a w).gns = s.gns := rfl
@[simp] theorem State.setReg_dst (s : State) (a : Nat) (w : Word) : (s.setReg a w).dst = s.dst := rfl
@[simp] theorem State.setReg_par (s : State) (a : Nat) (w : Word) : (s.setReg a w).par = s.par := rfl
@[simp] theorem State.setReg_mem (s : State) (a : Nat) (w : Word) : (s.setReg a w).mem = s.mem := rfl
@[simp] theorem State.setReg_inj (s : State) (a : Nat) (w : Word) : (s.setReg a w).inj = s.inj := rfl
@[simp] theorem State.setReg_age (s : State) (a : Nat) (w : Word) : (s.setReg a w).age = s.age := rfl
@[simp] theorem State.setReg_mgt (s : State) (a : Nat) (w : Word) : (s.setReg a w).mgt = s.mgt := rfl
@[simp] theorem State.setReg_clr (s : State) (a : Nat) (w : Word) : (s.setReg a w).clr = s.clr := rfl
@[simp] theorem State.setReg_boot (s : State) (a : Nat) (w : Word) : (s.setReg a w).boot = s.boot := rfl

/-! ### countUp -/

@[simp] theorem State.countUp_pending (s : State) (a n width : Nat) : (s.countUp a n width).pending = s.pending := rfl
@[simp] theorem State.countUp_regs (s : State) (a n width : Nat) : (s.countUp a n width).regs = s.regs := rfl
@[simp] theorem State.countUp_cnt (s : State) (a n width : Nat) : (s.countUp a n width).cnt = spSet (fun _ => 0) s.cnt a ((s.count a + n) % 2 ^ width) := rfl
@[simp] theorem State.countUp_dram (s : State) (a n width : Nat) : (s.countUp a n width).dram = s.dram := rfl
@[simp] theorem State.countUp_now (s : State) (a n width : Nat) : (s.countUp a n width).now = s.now := rfl
@[simp] theorem State.countUp_cyc (s : State) (a n width : Nat) : (s.countUp a n width).cyc = s.cyc := rfl
@[simp] theorem State.countUp_free (s : State) (a n width : Nat) : (s.countUp a n width).free = s.free := rfl
@[simp] theorem State.countUp_reply (s : State) (a n width : Nat) : (s.countUp a n width).reply = s.reply := rfl
@[simp] theorem State.countUp_staged (s : State) (a n width : Nat) : (s.countUp a n width).staged = s.staged := rfl
@[simp] theorem State.countUp_hold (s : State) (a n width : Nat) : (s.countUp a n width).hold = s.hold := rfl
@[simp] theorem State.countUp_latch (s : State) (a n width : Nat) : (s.countUp a n width).latch = s.latch := rfl
@[simp] theorem State.countUp_evt (s : State) (a n width : Nat) : (s.countUp a n width).evt = s.evt := rfl
@[simp] theorem State.countUp_kpr (s : State) (a n width : Nat) : (s.countUp a n width).kpr = s.kpr := rfl
@[simp] theorem State.countUp_nextTick (s : State) (a n width : Nat) : (s.countUp a n width).nextTick = s.nextTick := rfl
@[simp] theorem State.countUp_tickAt (s : State) (a n width : Nat) : (s.countUp a n width).tickAt = s.tickAt := rfl
@[simp] theorem State.countUp_bnd (s : State) (a n width : Nat) : (s.countUp a n width).bnd = s.bnd := rfl
@[simp] theorem State.countUp_ref (s : State) (a n width : Nat) : (s.countUp a n width).ref = s.ref := rfl
@[simp] theorem State.countUp_dsc (s : State) (a n width : Nat) : (s.countUp a n width).dsc = s.dsc := rfl
@[simp] theorem State.countUp_syn (s : State) (a n width : Nat) : (s.countUp a n width).syn = s.syn := rfl
@[simp] theorem State.countUp_xdc (s : State) (a n width : Nat) : (s.countUp a n width).xdc = s.xdc := rfl
@[simp] theorem State.countUp_prt (s : State) (a n width : Nat) : (s.countUp a n width).prt = s.prt := rfl
@[simp] theorem State.countUp_trg (s : State) (a n width : Nat) : (s.countUp a n width).trg = s.trg := rfl
@[simp] theorem State.countUp_svc (s : State) (a n width : Nat) : (s.countUp a n width).svc = s.svc := rfl
@[simp] theorem State.countUp_ldr (s : State) (a n width : Nat) : (s.countUp a n width).ldr = s.ldr := rfl
@[simp] theorem State.countUp_key (s : State) (a n width : Nat) : (s.countUp a n width).key = s.key := rfl
@[simp] theorem State.countUp_mainOff (s : State) (a n width : Nat) : (s.countUp a n width).mainOff = s.mainOff := rfl
@[simp] theorem State.countUp_tic (s : State) (a n width : Nat) : (s.countUp a n width).tic = s.tic := rfl
@[simp] theorem State.countUp_gns (s : State) (a n width : Nat) : (s.countUp a n width).gns = s.gns := rfl
@[simp] theorem State.countUp_dst (s : State) (a n width : Nat) : (s.countUp a n width).dst = s.dst := rfl
@[simp] theorem State.countUp_par (s : State) (a n width : Nat) : (s.countUp a n width).par = s.par := rfl
@[simp] theorem State.countUp_mem (s : State) (a n width : Nat) : (s.countUp a n width).mem = s.mem := rfl
@[simp] theorem State.countUp_inj (s : State) (a n width : Nat) : (s.countUp a n width).inj = s.inj := rfl
@[simp] theorem State.countUp_age (s : State) (a n width : Nat) : (s.countUp a n width).age = s.age := rfl
@[simp] theorem State.countUp_mgt (s : State) (a n width : Nat) : (s.countUp a n width).mgt = s.mgt := rfl
@[simp] theorem State.countUp_clr (s : State) (a n width : Nat) : (s.countUp a n width).clr = s.clr := rfl
@[simp] theorem State.countUp_boot (s : State) (a n width : Nat) : (s.countUp a n width).boot = s.boot := rfl

/-! ### setCell -/

@[simp] theorem State.setCell_pending (s : State) (a : Nat) (b : Byte) : (s.setCell a b).pending = s.pending := rfl
@[simp] theorem State.setCell_regs (s : State) (a : Nat) (b : Byte) : (s.setCell a b).regs = s.regs := rfl
@[simp] theorem State.setCell_cnt (s : State) (a : Nat) (b : Byte) : (s.setCell a b).cnt = s.cnt := rfl
@[simp] theorem State.setCell_dram (s : State) (a : Nat) (b : Byte) : (s.setCell a b).dram = spSet dramVirgin s.dram a b := rfl
@[simp] theorem State.setCell_now (s : State) (a : Nat) (b : Byte) : (s.setCell a b).now = s.now := rfl
@[simp] theorem State.setCell_cyc (s : State) (a : Nat) (b : Byte) : (s.setCell a b).cyc = s.cyc := rfl
@[simp] theorem State.setCell_free (s : State) (a : Nat) (b : Byte) : (s.setCell a b).free = s.free := rfl
@[simp] theorem State.setCell_reply (s : State) (a : Nat) (b : Byte) : (s.setCell a b).reply = s.reply := rfl
@[simp] theorem State.setCell_staged (s : State) (a : Nat) (b : Byte) : (s.setCell a b).staged = s.staged := rfl
@[simp] theorem State.setCell_hold (s : State) (a : Nat) (b : Byte) : (s.setCell a b).hold = s.hold := rfl
@[simp] theorem State.setCell_latch (s : State) (a : Nat) (b : Byte) : (s.setCell a b).latch = s.latch := rfl
@[simp] theorem State.setCell_evt (s : State) (a : Nat) (b : Byte) : (s.setCell a b).evt = s.evt := rfl
@[simp] theorem State.setCell_kpr (s : State) (a : Nat) (b : Byte) : (s.setCell a b).kpr = s.kpr := rfl
@[simp] theorem State.setCell_nextTick (s : State) (a : Nat) (b : Byte) : (s.setCell a b).nextTick = s.nextTick := rfl
@[simp] theorem State.setCell_tickAt (s : State) (a : Nat) (b : Byte) : (s.setCell a b).tickAt = s.tickAt := rfl
@[simp] theorem State.setCell_bnd (s : State) (a : Nat) (b : Byte) : (s.setCell a b).bnd = s.bnd := rfl
@[simp] theorem State.setCell_ref (s : State) (a : Nat) (b : Byte) : (s.setCell a b).ref = s.ref := rfl
@[simp] theorem State.setCell_dsc (s : State) (a : Nat) (b : Byte) : (s.setCell a b).dsc = s.dsc := rfl
@[simp] theorem State.setCell_syn (s : State) (a : Nat) (b : Byte) : (s.setCell a b).syn = s.syn := rfl
@[simp] theorem State.setCell_xdc (s : State) (a : Nat) (b : Byte) : (s.setCell a b).xdc = s.xdc := rfl
@[simp] theorem State.setCell_prt (s : State) (a : Nat) (b : Byte) : (s.setCell a b).prt = s.prt := rfl
@[simp] theorem State.setCell_trg (s : State) (a : Nat) (b : Byte) : (s.setCell a b).trg = s.trg := rfl
@[simp] theorem State.setCell_svc (s : State) (a : Nat) (b : Byte) : (s.setCell a b).svc = s.svc := rfl
@[simp] theorem State.setCell_ldr (s : State) (a : Nat) (b : Byte) : (s.setCell a b).ldr = s.ldr := rfl
@[simp] theorem State.setCell_key (s : State) (a : Nat) (b : Byte) : (s.setCell a b).key = s.key := rfl
@[simp] theorem State.setCell_mainOff (s : State) (a : Nat) (b : Byte) : (s.setCell a b).mainOff = s.mainOff := rfl
@[simp] theorem State.setCell_tic (s : State) (a : Nat) (b : Byte) : (s.setCell a b).tic = s.tic := rfl
@[simp] theorem State.setCell_gns (s : State) (a : Nat) (b : Byte) : (s.setCell a b).gns = s.gns := rfl
@[simp] theorem State.setCell_dst (s : State) (a : Nat) (b : Byte) : (s.setCell a b).dst = s.dst := rfl
@[simp] theorem State.setCell_par (s : State) (a : Nat) (b : Byte) : (s.setCell a b).par = s.par := rfl
@[simp] theorem State.setCell_mem (s : State) (a : Nat) (b : Byte) : (s.setCell a b).mem = s.mem := rfl
@[simp] theorem State.setCell_inj (s : State) (a : Nat) (b : Byte) : (s.setCell a b).inj = s.inj := rfl
@[simp] theorem State.setCell_age (s : State) (a : Nat) (b : Byte) : (s.setCell a b).age = s.age := rfl
@[simp] theorem State.setCell_mgt (s : State) (a : Nat) (b : Byte) : (s.setCell a b).mgt = s.mgt := rfl
@[simp] theorem State.setCell_clr (s : State) (a : Nat) (b : Byte) : (s.setCell a b).clr = s.clr := rfl
@[simp] theorem State.setCell_boot (s : State) (a : Nat) (b : Byte) : (s.setCell a b).boot = s.boot := rfl

/-! ### setChk -/

@[simp] theorem State.setChk_pending (s : State) (w : Nat) (c : Chk) : (s.setChk w c).pending = s.pending := rfl
@[simp] theorem State.setChk_regs (s : State) (w : Nat) (c : Chk) : (s.setChk w c).regs = s.regs := rfl
@[simp] theorem State.setChk_cnt (s : State) (w : Nat) (c : Chk) : (s.setChk w c).cnt = s.cnt := rfl
@[simp] theorem State.setChk_dram (s : State) (w : Nat) (c : Chk) : (s.setChk w c).dram = s.dram := rfl
@[simp] theorem State.setChk_now (s : State) (w : Nat) (c : Chk) : (s.setChk w c).now = s.now := rfl
@[simp] theorem State.setChk_cyc (s : State) (w : Nat) (c : Chk) : (s.setChk w c).cyc = s.cyc := rfl
@[simp] theorem State.setChk_free (s : State) (w : Nat) (c : Chk) : (s.setChk w c).free = s.free := rfl
@[simp] theorem State.setChk_reply (s : State) (w : Nat) (c : Chk) : (s.setChk w c).reply = s.reply := rfl
@[simp] theorem State.setChk_staged (s : State) (w : Nat) (c : Chk) : (s.setChk w c).staged = s.staged := rfl
@[simp] theorem State.setChk_hold (s : State) (w : Nat) (c : Chk) : (s.setChk w c).hold = s.hold := rfl
@[simp] theorem State.setChk_latch (s : State) (w : Nat) (c : Chk) : (s.setChk w c).latch = s.latch := rfl
@[simp] theorem State.setChk_evt (s : State) (w : Nat) (c : Chk) : (s.setChk w c).evt = s.evt := rfl
@[simp] theorem State.setChk_kpr (s : State) (w : Nat) (c : Chk) : (s.setChk w c).kpr = s.kpr := rfl
@[simp] theorem State.setChk_nextTick (s : State) (w : Nat) (c : Chk) : (s.setChk w c).nextTick = s.nextTick := rfl
@[simp] theorem State.setChk_tickAt (s : State) (w : Nat) (c : Chk) : (s.setChk w c).tickAt = s.tickAt := rfl
@[simp] theorem State.setChk_bnd (s : State) (w : Nat) (c : Chk) : (s.setChk w c).bnd = s.bnd := rfl
@[simp] theorem State.setChk_ref (s : State) (w : Nat) (c : Chk) : (s.setChk w c).ref = s.ref := rfl
@[simp] theorem State.setChk_dsc (s : State) (w : Nat) (c : Chk) : (s.setChk w c).dsc = s.dsc := rfl
@[simp] theorem State.setChk_syn (s : State) (w : Nat) (c : Chk) : (s.setChk w c).syn = s.syn := rfl
@[simp] theorem State.setChk_xdc (s : State) (w : Nat) (c : Chk) : (s.setChk w c).xdc = s.xdc := rfl
@[simp] theorem State.setChk_prt (s : State) (w : Nat) (c : Chk) : (s.setChk w c).prt = s.prt := rfl
@[simp] theorem State.setChk_trg (s : State) (w : Nat) (c : Chk) : (s.setChk w c).trg = s.trg := rfl
@[simp] theorem State.setChk_svc (s : State) (w : Nat) (c : Chk) : (s.setChk w c).svc = s.svc := rfl
@[simp] theorem State.setChk_ldr (s : State) (w : Nat) (c : Chk) : (s.setChk w c).ldr = s.ldr := rfl
@[simp] theorem State.setChk_key (s : State) (w : Nat) (c : Chk) : (s.setChk w c).key = s.key := rfl
@[simp] theorem State.setChk_mainOff (s : State) (w : Nat) (c : Chk) : (s.setChk w c).mainOff = s.mainOff := rfl
@[simp] theorem State.setChk_tic (s : State) (w : Nat) (c : Chk) : (s.setChk w c).tic = s.tic := rfl
@[simp] theorem State.setChk_gns (s : State) (w : Nat) (c : Chk) : (s.setChk w c).gns = s.gns := rfl
@[simp] theorem State.setChk_dst (s : State) (w : Nat) (c : Chk) : (s.setChk w c).dst = s.dst := rfl
@[simp] theorem State.setChk_par (s : State) (w : Nat) (c : Chk) : (s.setChk w c).par = s.par := rfl
@[simp] theorem State.setChk_mem (s : State) (w : Nat) (c : Chk) : (s.setChk w c).mem = { s.mem with chk := spSet (fun _ => Chk.virgin) s.mem.chk w c } := rfl
@[simp] theorem State.setChk_inj (s : State) (w : Nat) (c : Chk) : (s.setChk w c).inj = s.inj := rfl
@[simp] theorem State.setChk_age (s : State) (w : Nat) (c : Chk) : (s.setChk w c).age = s.age := rfl
@[simp] theorem State.setChk_mgt (s : State) (w : Nat) (c : Chk) : (s.setChk w c).mgt = s.mgt := rfl
@[simp] theorem State.setChk_clr (s : State) (w : Nat) (c : Chk) : (s.setChk w c).clr = s.clr := rfl
@[simp] theorem State.setChk_boot (s : State) (w : Nat) (c : Chk) : (s.setChk w c).boot = s.boot := rfl

/-! ### answer -/

@[simp] theorem State.answer_pending (s : State) (r : Reply) : (s.answer r).pending = s.pending := rfl
@[simp] theorem State.answer_regs (s : State) (r : Reply) : (s.answer r).regs = s.regs := rfl
@[simp] theorem State.answer_cnt (s : State) (r : Reply) : (s.answer r).cnt = s.cnt := rfl
@[simp] theorem State.answer_dram (s : State) (r : Reply) : (s.answer r).dram = s.dram := rfl
@[simp] theorem State.answer_now (s : State) (r : Reply) : (s.answer r).now = s.now := rfl
@[simp] theorem State.answer_cyc (s : State) (r : Reply) : (s.answer r).cyc = s.cyc := rfl
@[simp] theorem State.answer_free (s : State) (r : Reply) : (s.answer r).free = s.free := rfl
@[simp] theorem State.answer_reply (s : State) (r : Reply) : (s.answer r).reply = r := rfl
@[simp] theorem State.answer_staged (s : State) (r : Reply) : (s.answer r).staged = s.staged := rfl
@[simp] theorem State.answer_hold (s : State) (r : Reply) : (s.answer r).hold = s.hold := rfl
@[simp] theorem State.answer_latch (s : State) (r : Reply) : (s.answer r).latch = s.latch := rfl
@[simp] theorem State.answer_evt (s : State) (r : Reply) : (s.answer r).evt = s.evt := rfl
@[simp] theorem State.answer_kpr (s : State) (r : Reply) : (s.answer r).kpr = s.kpr := rfl
@[simp] theorem State.answer_nextTick (s : State) (r : Reply) : (s.answer r).nextTick = s.nextTick := rfl
@[simp] theorem State.answer_tickAt (s : State) (r : Reply) : (s.answer r).tickAt = s.tickAt := rfl
@[simp] theorem State.answer_bnd (s : State) (r : Reply) : (s.answer r).bnd = s.bnd := rfl
@[simp] theorem State.answer_ref (s : State) (r : Reply) : (s.answer r).ref = s.ref := rfl
@[simp] theorem State.answer_dsc (s : State) (r : Reply) : (s.answer r).dsc = s.dsc := rfl
@[simp] theorem State.answer_syn (s : State) (r : Reply) : (s.answer r).syn = s.syn := rfl
@[simp] theorem State.answer_xdc (s : State) (r : Reply) : (s.answer r).xdc = s.xdc := rfl
@[simp] theorem State.answer_prt (s : State) (r : Reply) : (s.answer r).prt = s.prt := rfl
@[simp] theorem State.answer_trg (s : State) (r : Reply) : (s.answer r).trg = s.trg := rfl
@[simp] theorem State.answer_svc (s : State) (r : Reply) : (s.answer r).svc = s.svc := rfl
@[simp] theorem State.answer_ldr (s : State) (r : Reply) : (s.answer r).ldr = s.ldr := rfl
@[simp] theorem State.answer_key (s : State) (r : Reply) : (s.answer r).key = s.key := rfl
@[simp] theorem State.answer_mainOff (s : State) (r : Reply) : (s.answer r).mainOff = s.mainOff := rfl
@[simp] theorem State.answer_tic (s : State) (r : Reply) : (s.answer r).tic = s.tic := rfl
@[simp] theorem State.answer_gns (s : State) (r : Reply) : (s.answer r).gns = s.gns := rfl
@[simp] theorem State.answer_dst (s : State) (r : Reply) : (s.answer r).dst = s.dst := rfl
@[simp] theorem State.answer_par (s : State) (r : Reply) : (s.answer r).par = s.par := rfl
@[simp] theorem State.answer_mem (s : State) (r : Reply) : (s.answer r).mem = s.mem := rfl
@[simp] theorem State.answer_inj (s : State) (r : Reply) : (s.answer r).inj = s.inj := rfl
@[simp] theorem State.answer_age (s : State) (r : Reply) : (s.answer r).age = s.age := rfl
@[simp] theorem State.answer_mgt (s : State) (r : Reply) : (s.answer r).mgt = s.mgt := rfl
@[simp] theorem State.answer_clr (s : State) (r : Reply) : (s.answer r).clr = s.clr := rfl
@[simp] theorem State.answer_boot (s : State) (r : Reply) : (s.answer r).boot = s.boot := rfl

/-! ### modEvt -/

@[simp] theorem State.modEvt_pending (s : State) (f : EvtState → EvtState) : (s.modEvt f).pending = s.pending := rfl
@[simp] theorem State.modEvt_regs (s : State) (f : EvtState → EvtState) : (s.modEvt f).regs = s.regs := rfl
@[simp] theorem State.modEvt_cnt (s : State) (f : EvtState → EvtState) : (s.modEvt f).cnt = s.cnt := rfl
@[simp] theorem State.modEvt_dram (s : State) (f : EvtState → EvtState) : (s.modEvt f).dram = s.dram := rfl
@[simp] theorem State.modEvt_now (s : State) (f : EvtState → EvtState) : (s.modEvt f).now = s.now := rfl
@[simp] theorem State.modEvt_cyc (s : State) (f : EvtState → EvtState) : (s.modEvt f).cyc = s.cyc := rfl
@[simp] theorem State.modEvt_free (s : State) (f : EvtState → EvtState) : (s.modEvt f).free = s.free := rfl
@[simp] theorem State.modEvt_reply (s : State) (f : EvtState → EvtState) : (s.modEvt f).reply = s.reply := rfl
@[simp] theorem State.modEvt_staged (s : State) (f : EvtState → EvtState) : (s.modEvt f).staged = s.staged := rfl
@[simp] theorem State.modEvt_hold (s : State) (f : EvtState → EvtState) : (s.modEvt f).hold = s.hold := rfl
@[simp] theorem State.modEvt_latch (s : State) (f : EvtState → EvtState) : (s.modEvt f).latch = s.latch := rfl
@[simp] theorem State.modEvt_evt (s : State) (f : EvtState → EvtState) : (s.modEvt f).evt = f s.evt := rfl
@[simp] theorem State.modEvt_kpr (s : State) (f : EvtState → EvtState) : (s.modEvt f).kpr = s.kpr := rfl
@[simp] theorem State.modEvt_nextTick (s : State) (f : EvtState → EvtState) : (s.modEvt f).nextTick = s.nextTick := rfl
@[simp] theorem State.modEvt_tickAt (s : State) (f : EvtState → EvtState) : (s.modEvt f).tickAt = s.tickAt := rfl
@[simp] theorem State.modEvt_bnd (s : State) (f : EvtState → EvtState) : (s.modEvt f).bnd = s.bnd := rfl
@[simp] theorem State.modEvt_ref (s : State) (f : EvtState → EvtState) : (s.modEvt f).ref = s.ref := rfl
@[simp] theorem State.modEvt_dsc (s : State) (f : EvtState → EvtState) : (s.modEvt f).dsc = s.dsc := rfl
@[simp] theorem State.modEvt_syn (s : State) (f : EvtState → EvtState) : (s.modEvt f).syn = s.syn := rfl
@[simp] theorem State.modEvt_xdc (s : State) (f : EvtState → EvtState) : (s.modEvt f).xdc = s.xdc := rfl
@[simp] theorem State.modEvt_prt (s : State) (f : EvtState → EvtState) : (s.modEvt f).prt = s.prt := rfl
@[simp] theorem State.modEvt_trg (s : State) (f : EvtState → EvtState) : (s.modEvt f).trg = s.trg := rfl
@[simp] theorem State.modEvt_svc (s : State) (f : EvtState → EvtState) : (s.modEvt f).svc = s.svc := rfl
@[simp] theorem State.modEvt_ldr (s : State) (f : EvtState → EvtState) : (s.modEvt f).ldr = s.ldr := rfl
@[simp] theorem State.modEvt_key (s : State) (f : EvtState → EvtState) : (s.modEvt f).key = s.key := rfl
@[simp] theorem State.modEvt_mainOff (s : State) (f : EvtState → EvtState) : (s.modEvt f).mainOff = s.mainOff := rfl
@[simp] theorem State.modEvt_tic (s : State) (f : EvtState → EvtState) : (s.modEvt f).tic = s.tic := rfl
@[simp] theorem State.modEvt_gns (s : State) (f : EvtState → EvtState) : (s.modEvt f).gns = s.gns := rfl
@[simp] theorem State.modEvt_dst (s : State) (f : EvtState → EvtState) : (s.modEvt f).dst = s.dst := rfl
@[simp] theorem State.modEvt_par (s : State) (f : EvtState → EvtState) : (s.modEvt f).par = s.par := rfl
@[simp] theorem State.modEvt_mem (s : State) (f : EvtState → EvtState) : (s.modEvt f).mem = s.mem := rfl
@[simp] theorem State.modEvt_inj (s : State) (f : EvtState → EvtState) : (s.modEvt f).inj = s.inj := rfl
@[simp] theorem State.modEvt_age (s : State) (f : EvtState → EvtState) : (s.modEvt f).age = s.age := rfl
@[simp] theorem State.modEvt_mgt (s : State) (f : EvtState → EvtState) : (s.modEvt f).mgt = s.mgt := rfl
@[simp] theorem State.modEvt_clr (s : State) (f : EvtState → EvtState) : (s.modEvt f).clr = s.clr := rfl
@[simp] theorem State.modEvt_boot (s : State) (f : EvtState → EvtState) : (s.modEvt f).boot = s.boot := rfl

/-! ### modKpr -/

@[simp] theorem State.modKpr_pending (s : State) (f : KprState → KprState) : (s.modKpr f).pending = s.pending := rfl
@[simp] theorem State.modKpr_regs (s : State) (f : KprState → KprState) : (s.modKpr f).regs = s.regs := rfl
@[simp] theorem State.modKpr_cnt (s : State) (f : KprState → KprState) : (s.modKpr f).cnt = s.cnt := rfl
@[simp] theorem State.modKpr_dram (s : State) (f : KprState → KprState) : (s.modKpr f).dram = s.dram := rfl
@[simp] theorem State.modKpr_now (s : State) (f : KprState → KprState) : (s.modKpr f).now = s.now := rfl
@[simp] theorem State.modKpr_cyc (s : State) (f : KprState → KprState) : (s.modKpr f).cyc = s.cyc := rfl
@[simp] theorem State.modKpr_free (s : State) (f : KprState → KprState) : (s.modKpr f).free = s.free := rfl
@[simp] theorem State.modKpr_reply (s : State) (f : KprState → KprState) : (s.modKpr f).reply = s.reply := rfl
@[simp] theorem State.modKpr_staged (s : State) (f : KprState → KprState) : (s.modKpr f).staged = s.staged := rfl
@[simp] theorem State.modKpr_hold (s : State) (f : KprState → KprState) : (s.modKpr f).hold = s.hold := rfl
@[simp] theorem State.modKpr_latch (s : State) (f : KprState → KprState) : (s.modKpr f).latch = s.latch := rfl
@[simp] theorem State.modKpr_evt (s : State) (f : KprState → KprState) : (s.modKpr f).evt = s.evt := rfl
@[simp] theorem State.modKpr_kpr (s : State) (f : KprState → KprState) : (s.modKpr f).kpr = f s.kpr := rfl
@[simp] theorem State.modKpr_nextTick (s : State) (f : KprState → KprState) : (s.modKpr f).nextTick = s.nextTick := rfl
@[simp] theorem State.modKpr_tickAt (s : State) (f : KprState → KprState) : (s.modKpr f).tickAt = s.tickAt := rfl
@[simp] theorem State.modKpr_bnd (s : State) (f : KprState → KprState) : (s.modKpr f).bnd = s.bnd := rfl
@[simp] theorem State.modKpr_ref (s : State) (f : KprState → KprState) : (s.modKpr f).ref = s.ref := rfl
@[simp] theorem State.modKpr_dsc (s : State) (f : KprState → KprState) : (s.modKpr f).dsc = s.dsc := rfl
@[simp] theorem State.modKpr_syn (s : State) (f : KprState → KprState) : (s.modKpr f).syn = s.syn := rfl
@[simp] theorem State.modKpr_xdc (s : State) (f : KprState → KprState) : (s.modKpr f).xdc = s.xdc := rfl
@[simp] theorem State.modKpr_prt (s : State) (f : KprState → KprState) : (s.modKpr f).prt = s.prt := rfl
@[simp] theorem State.modKpr_trg (s : State) (f : KprState → KprState) : (s.modKpr f).trg = s.trg := rfl
@[simp] theorem State.modKpr_svc (s : State) (f : KprState → KprState) : (s.modKpr f).svc = s.svc := rfl
@[simp] theorem State.modKpr_ldr (s : State) (f : KprState → KprState) : (s.modKpr f).ldr = s.ldr := rfl
@[simp] theorem State.modKpr_key (s : State) (f : KprState → KprState) : (s.modKpr f).key = s.key := rfl
@[simp] theorem State.modKpr_mainOff (s : State) (f : KprState → KprState) : (s.modKpr f).mainOff = s.mainOff := rfl
@[simp] theorem State.modKpr_tic (s : State) (f : KprState → KprState) : (s.modKpr f).tic = s.tic := rfl
@[simp] theorem State.modKpr_gns (s : State) (f : KprState → KprState) : (s.modKpr f).gns = s.gns := rfl
@[simp] theorem State.modKpr_dst (s : State) (f : KprState → KprState) : (s.modKpr f).dst = s.dst := rfl
@[simp] theorem State.modKpr_par (s : State) (f : KprState → KprState) : (s.modKpr f).par = s.par := rfl
@[simp] theorem State.modKpr_mem (s : State) (f : KprState → KprState) : (s.modKpr f).mem = s.mem := rfl
@[simp] theorem State.modKpr_inj (s : State) (f : KprState → KprState) : (s.modKpr f).inj = s.inj := rfl
@[simp] theorem State.modKpr_age (s : State) (f : KprState → KprState) : (s.modKpr f).age = s.age := rfl
@[simp] theorem State.modKpr_mgt (s : State) (f : KprState → KprState) : (s.modKpr f).mgt = s.mgt := rfl
@[simp] theorem State.modKpr_clr (s : State) (f : KprState → KprState) : (s.modKpr f).clr = s.clr := rfl
@[simp] theorem State.modKpr_boot (s : State) (f : KprState → KprState) : (s.modKpr f).boot = s.boot := rfl

/-! ### modBnd -/

@[simp] theorem State.modBnd_pending (s : State) (f : BndState → BndState) : (s.modBnd f).pending = s.pending := rfl
@[simp] theorem State.modBnd_regs (s : State) (f : BndState → BndState) : (s.modBnd f).regs = s.regs := rfl
@[simp] theorem State.modBnd_cnt (s : State) (f : BndState → BndState) : (s.modBnd f).cnt = s.cnt := rfl
@[simp] theorem State.modBnd_dram (s : State) (f : BndState → BndState) : (s.modBnd f).dram = s.dram := rfl
@[simp] theorem State.modBnd_now (s : State) (f : BndState → BndState) : (s.modBnd f).now = s.now := rfl
@[simp] theorem State.modBnd_cyc (s : State) (f : BndState → BndState) : (s.modBnd f).cyc = s.cyc := rfl
@[simp] theorem State.modBnd_free (s : State) (f : BndState → BndState) : (s.modBnd f).free = s.free := rfl
@[simp] theorem State.modBnd_reply (s : State) (f : BndState → BndState) : (s.modBnd f).reply = s.reply := rfl
@[simp] theorem State.modBnd_staged (s : State) (f : BndState → BndState) : (s.modBnd f).staged = s.staged := rfl
@[simp] theorem State.modBnd_hold (s : State) (f : BndState → BndState) : (s.modBnd f).hold = s.hold := rfl
@[simp] theorem State.modBnd_latch (s : State) (f : BndState → BndState) : (s.modBnd f).latch = s.latch := rfl
@[simp] theorem State.modBnd_evt (s : State) (f : BndState → BndState) : (s.modBnd f).evt = s.evt := rfl
@[simp] theorem State.modBnd_kpr (s : State) (f : BndState → BndState) : (s.modBnd f).kpr = s.kpr := rfl
@[simp] theorem State.modBnd_nextTick (s : State) (f : BndState → BndState) : (s.modBnd f).nextTick = s.nextTick := rfl
@[simp] theorem State.modBnd_tickAt (s : State) (f : BndState → BndState) : (s.modBnd f).tickAt = s.tickAt := rfl
@[simp] theorem State.modBnd_bnd (s : State) (f : BndState → BndState) : (s.modBnd f).bnd = f s.bnd := rfl
@[simp] theorem State.modBnd_ref (s : State) (f : BndState → BndState) : (s.modBnd f).ref = s.ref := rfl
@[simp] theorem State.modBnd_dsc (s : State) (f : BndState → BndState) : (s.modBnd f).dsc = s.dsc := rfl
@[simp] theorem State.modBnd_syn (s : State) (f : BndState → BndState) : (s.modBnd f).syn = s.syn := rfl
@[simp] theorem State.modBnd_xdc (s : State) (f : BndState → BndState) : (s.modBnd f).xdc = s.xdc := rfl
@[simp] theorem State.modBnd_prt (s : State) (f : BndState → BndState) : (s.modBnd f).prt = s.prt := rfl
@[simp] theorem State.modBnd_trg (s : State) (f : BndState → BndState) : (s.modBnd f).trg = s.trg := rfl
@[simp] theorem State.modBnd_svc (s : State) (f : BndState → BndState) : (s.modBnd f).svc = s.svc := rfl
@[simp] theorem State.modBnd_ldr (s : State) (f : BndState → BndState) : (s.modBnd f).ldr = s.ldr := rfl
@[simp] theorem State.modBnd_key (s : State) (f : BndState → BndState) : (s.modBnd f).key = s.key := rfl
@[simp] theorem State.modBnd_mainOff (s : State) (f : BndState → BndState) : (s.modBnd f).mainOff = s.mainOff := rfl
@[simp] theorem State.modBnd_tic (s : State) (f : BndState → BndState) : (s.modBnd f).tic = s.tic := rfl
@[simp] theorem State.modBnd_gns (s : State) (f : BndState → BndState) : (s.modBnd f).gns = s.gns := rfl
@[simp] theorem State.modBnd_dst (s : State) (f : BndState → BndState) : (s.modBnd f).dst = s.dst := rfl
@[simp] theorem State.modBnd_par (s : State) (f : BndState → BndState) : (s.modBnd f).par = s.par := rfl
@[simp] theorem State.modBnd_mem (s : State) (f : BndState → BndState) : (s.modBnd f).mem = s.mem := rfl
@[simp] theorem State.modBnd_inj (s : State) (f : BndState → BndState) : (s.modBnd f).inj = s.inj := rfl
@[simp] theorem State.modBnd_age (s : State) (f : BndState → BndState) : (s.modBnd f).age = s.age := rfl
@[simp] theorem State.modBnd_mgt (s : State) (f : BndState → BndState) : (s.modBnd f).mgt = s.mgt := rfl
@[simp] theorem State.modBnd_clr (s : State) (f : BndState → BndState) : (s.modBnd f).clr = s.clr := rfl
@[simp] theorem State.modBnd_boot (s : State) (f : BndState → BndState) : (s.modBnd f).boot = s.boot := rfl

/-! ### modRef -/

@[simp] theorem State.modRef_pending (s : State) (f : RefState → RefState) : (s.modRef f).pending = s.pending := rfl
@[simp] theorem State.modRef_regs (s : State) (f : RefState → RefState) : (s.modRef f).regs = s.regs := rfl
@[simp] theorem State.modRef_cnt (s : State) (f : RefState → RefState) : (s.modRef f).cnt = s.cnt := rfl
@[simp] theorem State.modRef_dram (s : State) (f : RefState → RefState) : (s.modRef f).dram = s.dram := rfl
@[simp] theorem State.modRef_now (s : State) (f : RefState → RefState) : (s.modRef f).now = s.now := rfl
@[simp] theorem State.modRef_cyc (s : State) (f : RefState → RefState) : (s.modRef f).cyc = s.cyc := rfl
@[simp] theorem State.modRef_free (s : State) (f : RefState → RefState) : (s.modRef f).free = s.free := rfl
@[simp] theorem State.modRef_reply (s : State) (f : RefState → RefState) : (s.modRef f).reply = s.reply := rfl
@[simp] theorem State.modRef_staged (s : State) (f : RefState → RefState) : (s.modRef f).staged = s.staged := rfl
@[simp] theorem State.modRef_hold (s : State) (f : RefState → RefState) : (s.modRef f).hold = s.hold := rfl
@[simp] theorem State.modRef_latch (s : State) (f : RefState → RefState) : (s.modRef f).latch = s.latch := rfl
@[simp] theorem State.modRef_evt (s : State) (f : RefState → RefState) : (s.modRef f).evt = s.evt := rfl
@[simp] theorem State.modRef_kpr (s : State) (f : RefState → RefState) : (s.modRef f).kpr = s.kpr := rfl
@[simp] theorem State.modRef_nextTick (s : State) (f : RefState → RefState) : (s.modRef f).nextTick = s.nextTick := rfl
@[simp] theorem State.modRef_tickAt (s : State) (f : RefState → RefState) : (s.modRef f).tickAt = s.tickAt := rfl
@[simp] theorem State.modRef_bnd (s : State) (f : RefState → RefState) : (s.modRef f).bnd = s.bnd := rfl
@[simp] theorem State.modRef_ref (s : State) (f : RefState → RefState) : (s.modRef f).ref = f s.ref := rfl
@[simp] theorem State.modRef_dsc (s : State) (f : RefState → RefState) : (s.modRef f).dsc = s.dsc := rfl
@[simp] theorem State.modRef_syn (s : State) (f : RefState → RefState) : (s.modRef f).syn = s.syn := rfl
@[simp] theorem State.modRef_xdc (s : State) (f : RefState → RefState) : (s.modRef f).xdc = s.xdc := rfl
@[simp] theorem State.modRef_prt (s : State) (f : RefState → RefState) : (s.modRef f).prt = s.prt := rfl
@[simp] theorem State.modRef_trg (s : State) (f : RefState → RefState) : (s.modRef f).trg = s.trg := rfl
@[simp] theorem State.modRef_svc (s : State) (f : RefState → RefState) : (s.modRef f).svc = s.svc := rfl
@[simp] theorem State.modRef_ldr (s : State) (f : RefState → RefState) : (s.modRef f).ldr = s.ldr := rfl
@[simp] theorem State.modRef_key (s : State) (f : RefState → RefState) : (s.modRef f).key = s.key := rfl
@[simp] theorem State.modRef_mainOff (s : State) (f : RefState → RefState) : (s.modRef f).mainOff = s.mainOff := rfl
@[simp] theorem State.modRef_tic (s : State) (f : RefState → RefState) : (s.modRef f).tic = s.tic := rfl
@[simp] theorem State.modRef_gns (s : State) (f : RefState → RefState) : (s.modRef f).gns = s.gns := rfl
@[simp] theorem State.modRef_dst (s : State) (f : RefState → RefState) : (s.modRef f).dst = s.dst := rfl
@[simp] theorem State.modRef_par (s : State) (f : RefState → RefState) : (s.modRef f).par = s.par := rfl
@[simp] theorem State.modRef_mem (s : State) (f : RefState → RefState) : (s.modRef f).mem = s.mem := rfl
@[simp] theorem State.modRef_inj (s : State) (f : RefState → RefState) : (s.modRef f).inj = s.inj := rfl
@[simp] theorem State.modRef_age (s : State) (f : RefState → RefState) : (s.modRef f).age = s.age := rfl
@[simp] theorem State.modRef_mgt (s : State) (f : RefState → RefState) : (s.modRef f).mgt = s.mgt := rfl
@[simp] theorem State.modRef_clr (s : State) (f : RefState → RefState) : (s.modRef f).clr = s.clr := rfl
@[simp] theorem State.modRef_boot (s : State) (f : RefState → RefState) : (s.modRef f).boot = s.boot := rfl

/-! ### modDsc -/

@[simp] theorem State.modDsc_pending (s : State) (f : DscState → DscState) : (s.modDsc f).pending = s.pending := rfl
@[simp] theorem State.modDsc_regs (s : State) (f : DscState → DscState) : (s.modDsc f).regs = s.regs := rfl
@[simp] theorem State.modDsc_cnt (s : State) (f : DscState → DscState) : (s.modDsc f).cnt = s.cnt := rfl
@[simp] theorem State.modDsc_dram (s : State) (f : DscState → DscState) : (s.modDsc f).dram = s.dram := rfl
@[simp] theorem State.modDsc_now (s : State) (f : DscState → DscState) : (s.modDsc f).now = s.now := rfl
@[simp] theorem State.modDsc_cyc (s : State) (f : DscState → DscState) : (s.modDsc f).cyc = s.cyc := rfl
@[simp] theorem State.modDsc_free (s : State) (f : DscState → DscState) : (s.modDsc f).free = s.free := rfl
@[simp] theorem State.modDsc_reply (s : State) (f : DscState → DscState) : (s.modDsc f).reply = s.reply := rfl
@[simp] theorem State.modDsc_staged (s : State) (f : DscState → DscState) : (s.modDsc f).staged = s.staged := rfl
@[simp] theorem State.modDsc_hold (s : State) (f : DscState → DscState) : (s.modDsc f).hold = s.hold := rfl
@[simp] theorem State.modDsc_latch (s : State) (f : DscState → DscState) : (s.modDsc f).latch = s.latch := rfl
@[simp] theorem State.modDsc_evt (s : State) (f : DscState → DscState) : (s.modDsc f).evt = s.evt := rfl
@[simp] theorem State.modDsc_kpr (s : State) (f : DscState → DscState) : (s.modDsc f).kpr = s.kpr := rfl
@[simp] theorem State.modDsc_nextTick (s : State) (f : DscState → DscState) : (s.modDsc f).nextTick = s.nextTick := rfl
@[simp] theorem State.modDsc_tickAt (s : State) (f : DscState → DscState) : (s.modDsc f).tickAt = s.tickAt := rfl
@[simp] theorem State.modDsc_bnd (s : State) (f : DscState → DscState) : (s.modDsc f).bnd = s.bnd := rfl
@[simp] theorem State.modDsc_ref (s : State) (f : DscState → DscState) : (s.modDsc f).ref = s.ref := rfl
@[simp] theorem State.modDsc_dsc (s : State) (f : DscState → DscState) : (s.modDsc f).dsc = f s.dsc := rfl
@[simp] theorem State.modDsc_syn (s : State) (f : DscState → DscState) : (s.modDsc f).syn = s.syn := rfl
@[simp] theorem State.modDsc_xdc (s : State) (f : DscState → DscState) : (s.modDsc f).xdc = s.xdc := rfl
@[simp] theorem State.modDsc_prt (s : State) (f : DscState → DscState) : (s.modDsc f).prt = s.prt := rfl
@[simp] theorem State.modDsc_trg (s : State) (f : DscState → DscState) : (s.modDsc f).trg = s.trg := rfl
@[simp] theorem State.modDsc_svc (s : State) (f : DscState → DscState) : (s.modDsc f).svc = s.svc := rfl
@[simp] theorem State.modDsc_ldr (s : State) (f : DscState → DscState) : (s.modDsc f).ldr = s.ldr := rfl
@[simp] theorem State.modDsc_key (s : State) (f : DscState → DscState) : (s.modDsc f).key = s.key := rfl
@[simp] theorem State.modDsc_mainOff (s : State) (f : DscState → DscState) : (s.modDsc f).mainOff = s.mainOff := rfl
@[simp] theorem State.modDsc_tic (s : State) (f : DscState → DscState) : (s.modDsc f).tic = s.tic := rfl
@[simp] theorem State.modDsc_gns (s : State) (f : DscState → DscState) : (s.modDsc f).gns = s.gns := rfl
@[simp] theorem State.modDsc_dst (s : State) (f : DscState → DscState) : (s.modDsc f).dst = s.dst := rfl
@[simp] theorem State.modDsc_par (s : State) (f : DscState → DscState) : (s.modDsc f).par = s.par := rfl
@[simp] theorem State.modDsc_mem (s : State) (f : DscState → DscState) : (s.modDsc f).mem = s.mem := rfl
@[simp] theorem State.modDsc_inj (s : State) (f : DscState → DscState) : (s.modDsc f).inj = s.inj := rfl
@[simp] theorem State.modDsc_age (s : State) (f : DscState → DscState) : (s.modDsc f).age = s.age := rfl
@[simp] theorem State.modDsc_mgt (s : State) (f : DscState → DscState) : (s.modDsc f).mgt = s.mgt := rfl
@[simp] theorem State.modDsc_clr (s : State) (f : DscState → DscState) : (s.modDsc f).clr = s.clr := rfl
@[simp] theorem State.modDsc_boot (s : State) (f : DscState → DscState) : (s.modDsc f).boot = s.boot := rfl

/-! ### modSyn -/

@[simp] theorem State.modSyn_pending (s : State) (f : SynState → SynState) : (s.modSyn f).pending = s.pending := rfl
@[simp] theorem State.modSyn_regs (s : State) (f : SynState → SynState) : (s.modSyn f).regs = s.regs := rfl
@[simp] theorem State.modSyn_cnt (s : State) (f : SynState → SynState) : (s.modSyn f).cnt = s.cnt := rfl
@[simp] theorem State.modSyn_dram (s : State) (f : SynState → SynState) : (s.modSyn f).dram = s.dram := rfl
@[simp] theorem State.modSyn_now (s : State) (f : SynState → SynState) : (s.modSyn f).now = s.now := rfl
@[simp] theorem State.modSyn_cyc (s : State) (f : SynState → SynState) : (s.modSyn f).cyc = s.cyc := rfl
@[simp] theorem State.modSyn_free (s : State) (f : SynState → SynState) : (s.modSyn f).free = s.free := rfl
@[simp] theorem State.modSyn_reply (s : State) (f : SynState → SynState) : (s.modSyn f).reply = s.reply := rfl
@[simp] theorem State.modSyn_staged (s : State) (f : SynState → SynState) : (s.modSyn f).staged = s.staged := rfl
@[simp] theorem State.modSyn_hold (s : State) (f : SynState → SynState) : (s.modSyn f).hold = s.hold := rfl
@[simp] theorem State.modSyn_latch (s : State) (f : SynState → SynState) : (s.modSyn f).latch = s.latch := rfl
@[simp] theorem State.modSyn_evt (s : State) (f : SynState → SynState) : (s.modSyn f).evt = s.evt := rfl
@[simp] theorem State.modSyn_kpr (s : State) (f : SynState → SynState) : (s.modSyn f).kpr = s.kpr := rfl
@[simp] theorem State.modSyn_nextTick (s : State) (f : SynState → SynState) : (s.modSyn f).nextTick = s.nextTick := rfl
@[simp] theorem State.modSyn_tickAt (s : State) (f : SynState → SynState) : (s.modSyn f).tickAt = s.tickAt := rfl
@[simp] theorem State.modSyn_bnd (s : State) (f : SynState → SynState) : (s.modSyn f).bnd = s.bnd := rfl
@[simp] theorem State.modSyn_ref (s : State) (f : SynState → SynState) : (s.modSyn f).ref = s.ref := rfl
@[simp] theorem State.modSyn_dsc (s : State) (f : SynState → SynState) : (s.modSyn f).dsc = s.dsc := rfl
@[simp] theorem State.modSyn_syn (s : State) (f : SynState → SynState) : (s.modSyn f).syn = f s.syn := rfl
@[simp] theorem State.modSyn_xdc (s : State) (f : SynState → SynState) : (s.modSyn f).xdc = s.xdc := rfl
@[simp] theorem State.modSyn_prt (s : State) (f : SynState → SynState) : (s.modSyn f).prt = s.prt := rfl
@[simp] theorem State.modSyn_trg (s : State) (f : SynState → SynState) : (s.modSyn f).trg = s.trg := rfl
@[simp] theorem State.modSyn_svc (s : State) (f : SynState → SynState) : (s.modSyn f).svc = s.svc := rfl
@[simp] theorem State.modSyn_ldr (s : State) (f : SynState → SynState) : (s.modSyn f).ldr = s.ldr := rfl
@[simp] theorem State.modSyn_key (s : State) (f : SynState → SynState) : (s.modSyn f).key = s.key := rfl
@[simp] theorem State.modSyn_mainOff (s : State) (f : SynState → SynState) : (s.modSyn f).mainOff = s.mainOff := rfl
@[simp] theorem State.modSyn_tic (s : State) (f : SynState → SynState) : (s.modSyn f).tic = s.tic := rfl
@[simp] theorem State.modSyn_gns (s : State) (f : SynState → SynState) : (s.modSyn f).gns = s.gns := rfl
@[simp] theorem State.modSyn_dst (s : State) (f : SynState → SynState) : (s.modSyn f).dst = s.dst := rfl
@[simp] theorem State.modSyn_par (s : State) (f : SynState → SynState) : (s.modSyn f).par = s.par := rfl
@[simp] theorem State.modSyn_mem (s : State) (f : SynState → SynState) : (s.modSyn f).mem = s.mem := rfl
@[simp] theorem State.modSyn_inj (s : State) (f : SynState → SynState) : (s.modSyn f).inj = s.inj := rfl
@[simp] theorem State.modSyn_age (s : State) (f : SynState → SynState) : (s.modSyn f).age = s.age := rfl
@[simp] theorem State.modSyn_mgt (s : State) (f : SynState → SynState) : (s.modSyn f).mgt = s.mgt := rfl
@[simp] theorem State.modSyn_clr (s : State) (f : SynState → SynState) : (s.modSyn f).clr = s.clr := rfl
@[simp] theorem State.modSyn_boot (s : State) (f : SynState → SynState) : (s.modSyn f).boot = s.boot := rfl

/-! ### modXdc -/

@[simp] theorem State.modXdc_pending (s : State) (f : XdcState → XdcState) : (s.modXdc f).pending = s.pending := rfl
@[simp] theorem State.modXdc_regs (s : State) (f : XdcState → XdcState) : (s.modXdc f).regs = s.regs := rfl
@[simp] theorem State.modXdc_cnt (s : State) (f : XdcState → XdcState) : (s.modXdc f).cnt = s.cnt := rfl
@[simp] theorem State.modXdc_dram (s : State) (f : XdcState → XdcState) : (s.modXdc f).dram = s.dram := rfl
@[simp] theorem State.modXdc_now (s : State) (f : XdcState → XdcState) : (s.modXdc f).now = s.now := rfl
@[simp] theorem State.modXdc_cyc (s : State) (f : XdcState → XdcState) : (s.modXdc f).cyc = s.cyc := rfl
@[simp] theorem State.modXdc_free (s : State) (f : XdcState → XdcState) : (s.modXdc f).free = s.free := rfl
@[simp] theorem State.modXdc_reply (s : State) (f : XdcState → XdcState) : (s.modXdc f).reply = s.reply := rfl
@[simp] theorem State.modXdc_staged (s : State) (f : XdcState → XdcState) : (s.modXdc f).staged = s.staged := rfl
@[simp] theorem State.modXdc_hold (s : State) (f : XdcState → XdcState) : (s.modXdc f).hold = s.hold := rfl
@[simp] theorem State.modXdc_latch (s : State) (f : XdcState → XdcState) : (s.modXdc f).latch = s.latch := rfl
@[simp] theorem State.modXdc_evt (s : State) (f : XdcState → XdcState) : (s.modXdc f).evt = s.evt := rfl
@[simp] theorem State.modXdc_kpr (s : State) (f : XdcState → XdcState) : (s.modXdc f).kpr = s.kpr := rfl
@[simp] theorem State.modXdc_nextTick (s : State) (f : XdcState → XdcState) : (s.modXdc f).nextTick = s.nextTick := rfl
@[simp] theorem State.modXdc_tickAt (s : State) (f : XdcState → XdcState) : (s.modXdc f).tickAt = s.tickAt := rfl
@[simp] theorem State.modXdc_bnd (s : State) (f : XdcState → XdcState) : (s.modXdc f).bnd = s.bnd := rfl
@[simp] theorem State.modXdc_ref (s : State) (f : XdcState → XdcState) : (s.modXdc f).ref = s.ref := rfl
@[simp] theorem State.modXdc_dsc (s : State) (f : XdcState → XdcState) : (s.modXdc f).dsc = s.dsc := rfl
@[simp] theorem State.modXdc_syn (s : State) (f : XdcState → XdcState) : (s.modXdc f).syn = s.syn := rfl
@[simp] theorem State.modXdc_xdc (s : State) (f : XdcState → XdcState) : (s.modXdc f).xdc = f s.xdc := rfl
@[simp] theorem State.modXdc_prt (s : State) (f : XdcState → XdcState) : (s.modXdc f).prt = s.prt := rfl
@[simp] theorem State.modXdc_trg (s : State) (f : XdcState → XdcState) : (s.modXdc f).trg = s.trg := rfl
@[simp] theorem State.modXdc_svc (s : State) (f : XdcState → XdcState) : (s.modXdc f).svc = s.svc := rfl
@[simp] theorem State.modXdc_ldr (s : State) (f : XdcState → XdcState) : (s.modXdc f).ldr = s.ldr := rfl
@[simp] theorem State.modXdc_key (s : State) (f : XdcState → XdcState) : (s.modXdc f).key = s.key := rfl
@[simp] theorem State.modXdc_mainOff (s : State) (f : XdcState → XdcState) : (s.modXdc f).mainOff = s.mainOff := rfl
@[simp] theorem State.modXdc_tic (s : State) (f : XdcState → XdcState) : (s.modXdc f).tic = s.tic := rfl
@[simp] theorem State.modXdc_gns (s : State) (f : XdcState → XdcState) : (s.modXdc f).gns = s.gns := rfl
@[simp] theorem State.modXdc_dst (s : State) (f : XdcState → XdcState) : (s.modXdc f).dst = s.dst := rfl
@[simp] theorem State.modXdc_par (s : State) (f : XdcState → XdcState) : (s.modXdc f).par = s.par := rfl
@[simp] theorem State.modXdc_mem (s : State) (f : XdcState → XdcState) : (s.modXdc f).mem = s.mem := rfl
@[simp] theorem State.modXdc_inj (s : State) (f : XdcState → XdcState) : (s.modXdc f).inj = s.inj := rfl
@[simp] theorem State.modXdc_age (s : State) (f : XdcState → XdcState) : (s.modXdc f).age = s.age := rfl
@[simp] theorem State.modXdc_mgt (s : State) (f : XdcState → XdcState) : (s.modXdc f).mgt = s.mgt := rfl
@[simp] theorem State.modXdc_clr (s : State) (f : XdcState → XdcState) : (s.modXdc f).clr = s.clr := rfl
@[simp] theorem State.modXdc_boot (s : State) (f : XdcState → XdcState) : (s.modXdc f).boot = s.boot := rfl

/-! ### modPrt -/

@[simp] theorem State.modPrt_pending (s : State) (f : PrtState → PrtState) : (s.modPrt f).pending = s.pending := rfl
@[simp] theorem State.modPrt_regs (s : State) (f : PrtState → PrtState) : (s.modPrt f).regs = s.regs := rfl
@[simp] theorem State.modPrt_cnt (s : State) (f : PrtState → PrtState) : (s.modPrt f).cnt = s.cnt := rfl
@[simp] theorem State.modPrt_dram (s : State) (f : PrtState → PrtState) : (s.modPrt f).dram = s.dram := rfl
@[simp] theorem State.modPrt_now (s : State) (f : PrtState → PrtState) : (s.modPrt f).now = s.now := rfl
@[simp] theorem State.modPrt_cyc (s : State) (f : PrtState → PrtState) : (s.modPrt f).cyc = s.cyc := rfl
@[simp] theorem State.modPrt_free (s : State) (f : PrtState → PrtState) : (s.modPrt f).free = s.free := rfl
@[simp] theorem State.modPrt_reply (s : State) (f : PrtState → PrtState) : (s.modPrt f).reply = s.reply := rfl
@[simp] theorem State.modPrt_staged (s : State) (f : PrtState → PrtState) : (s.modPrt f).staged = s.staged := rfl
@[simp] theorem State.modPrt_hold (s : State) (f : PrtState → PrtState) : (s.modPrt f).hold = s.hold := rfl
@[simp] theorem State.modPrt_latch (s : State) (f : PrtState → PrtState) : (s.modPrt f).latch = s.latch := rfl
@[simp] theorem State.modPrt_evt (s : State) (f : PrtState → PrtState) : (s.modPrt f).evt = s.evt := rfl
@[simp] theorem State.modPrt_kpr (s : State) (f : PrtState → PrtState) : (s.modPrt f).kpr = s.kpr := rfl
@[simp] theorem State.modPrt_nextTick (s : State) (f : PrtState → PrtState) : (s.modPrt f).nextTick = s.nextTick := rfl
@[simp] theorem State.modPrt_tickAt (s : State) (f : PrtState → PrtState) : (s.modPrt f).tickAt = s.tickAt := rfl
@[simp] theorem State.modPrt_bnd (s : State) (f : PrtState → PrtState) : (s.modPrt f).bnd = s.bnd := rfl
@[simp] theorem State.modPrt_ref (s : State) (f : PrtState → PrtState) : (s.modPrt f).ref = s.ref := rfl
@[simp] theorem State.modPrt_dsc (s : State) (f : PrtState → PrtState) : (s.modPrt f).dsc = s.dsc := rfl
@[simp] theorem State.modPrt_syn (s : State) (f : PrtState → PrtState) : (s.modPrt f).syn = s.syn := rfl
@[simp] theorem State.modPrt_xdc (s : State) (f : PrtState → PrtState) : (s.modPrt f).xdc = s.xdc := rfl
@[simp] theorem State.modPrt_prt (s : State) (f : PrtState → PrtState) : (s.modPrt f).prt = f s.prt := rfl
@[simp] theorem State.modPrt_trg (s : State) (f : PrtState → PrtState) : (s.modPrt f).trg = s.trg := rfl
@[simp] theorem State.modPrt_svc (s : State) (f : PrtState → PrtState) : (s.modPrt f).svc = s.svc := rfl
@[simp] theorem State.modPrt_ldr (s : State) (f : PrtState → PrtState) : (s.modPrt f).ldr = s.ldr := rfl
@[simp] theorem State.modPrt_key (s : State) (f : PrtState → PrtState) : (s.modPrt f).key = s.key := rfl
@[simp] theorem State.modPrt_mainOff (s : State) (f : PrtState → PrtState) : (s.modPrt f).mainOff = s.mainOff := rfl
@[simp] theorem State.modPrt_tic (s : State) (f : PrtState → PrtState) : (s.modPrt f).tic = s.tic := rfl
@[simp] theorem State.modPrt_gns (s : State) (f : PrtState → PrtState) : (s.modPrt f).gns = s.gns := rfl
@[simp] theorem State.modPrt_dst (s : State) (f : PrtState → PrtState) : (s.modPrt f).dst = s.dst := rfl
@[simp] theorem State.modPrt_par (s : State) (f : PrtState → PrtState) : (s.modPrt f).par = s.par := rfl
@[simp] theorem State.modPrt_mem (s : State) (f : PrtState → PrtState) : (s.modPrt f).mem = s.mem := rfl
@[simp] theorem State.modPrt_inj (s : State) (f : PrtState → PrtState) : (s.modPrt f).inj = s.inj := rfl
@[simp] theorem State.modPrt_age (s : State) (f : PrtState → PrtState) : (s.modPrt f).age = s.age := rfl
@[simp] theorem State.modPrt_mgt (s : State) (f : PrtState → PrtState) : (s.modPrt f).mgt = s.mgt := rfl
@[simp] theorem State.modPrt_clr (s : State) (f : PrtState → PrtState) : (s.modPrt f).clr = s.clr := rfl
@[simp] theorem State.modPrt_boot (s : State) (f : PrtState → PrtState) : (s.modPrt f).boot = s.boot := rfl

/-! ### modTrg -/

@[simp] theorem State.modTrg_pending (s : State) (f : TrgState → TrgState) : (s.modTrg f).pending = s.pending := rfl
@[simp] theorem State.modTrg_regs (s : State) (f : TrgState → TrgState) : (s.modTrg f).regs = s.regs := rfl
@[simp] theorem State.modTrg_cnt (s : State) (f : TrgState → TrgState) : (s.modTrg f).cnt = s.cnt := rfl
@[simp] theorem State.modTrg_dram (s : State) (f : TrgState → TrgState) : (s.modTrg f).dram = s.dram := rfl
@[simp] theorem State.modTrg_now (s : State) (f : TrgState → TrgState) : (s.modTrg f).now = s.now := rfl
@[simp] theorem State.modTrg_cyc (s : State) (f : TrgState → TrgState) : (s.modTrg f).cyc = s.cyc := rfl
@[simp] theorem State.modTrg_free (s : State) (f : TrgState → TrgState) : (s.modTrg f).free = s.free := rfl
@[simp] theorem State.modTrg_reply (s : State) (f : TrgState → TrgState) : (s.modTrg f).reply = s.reply := rfl
@[simp] theorem State.modTrg_staged (s : State) (f : TrgState → TrgState) : (s.modTrg f).staged = s.staged := rfl
@[simp] theorem State.modTrg_hold (s : State) (f : TrgState → TrgState) : (s.modTrg f).hold = s.hold := rfl
@[simp] theorem State.modTrg_latch (s : State) (f : TrgState → TrgState) : (s.modTrg f).latch = s.latch := rfl
@[simp] theorem State.modTrg_evt (s : State) (f : TrgState → TrgState) : (s.modTrg f).evt = s.evt := rfl
@[simp] theorem State.modTrg_kpr (s : State) (f : TrgState → TrgState) : (s.modTrg f).kpr = s.kpr := rfl
@[simp] theorem State.modTrg_nextTick (s : State) (f : TrgState → TrgState) : (s.modTrg f).nextTick = s.nextTick := rfl
@[simp] theorem State.modTrg_tickAt (s : State) (f : TrgState → TrgState) : (s.modTrg f).tickAt = s.tickAt := rfl
@[simp] theorem State.modTrg_bnd (s : State) (f : TrgState → TrgState) : (s.modTrg f).bnd = s.bnd := rfl
@[simp] theorem State.modTrg_ref (s : State) (f : TrgState → TrgState) : (s.modTrg f).ref = s.ref := rfl
@[simp] theorem State.modTrg_dsc (s : State) (f : TrgState → TrgState) : (s.modTrg f).dsc = s.dsc := rfl
@[simp] theorem State.modTrg_syn (s : State) (f : TrgState → TrgState) : (s.modTrg f).syn = s.syn := rfl
@[simp] theorem State.modTrg_xdc (s : State) (f : TrgState → TrgState) : (s.modTrg f).xdc = s.xdc := rfl
@[simp] theorem State.modTrg_prt (s : State) (f : TrgState → TrgState) : (s.modTrg f).prt = s.prt := rfl
@[simp] theorem State.modTrg_trg (s : State) (f : TrgState → TrgState) : (s.modTrg f).trg = f s.trg := rfl
@[simp] theorem State.modTrg_svc (s : State) (f : TrgState → TrgState) : (s.modTrg f).svc = s.svc := rfl
@[simp] theorem State.modTrg_ldr (s : State) (f : TrgState → TrgState) : (s.modTrg f).ldr = s.ldr := rfl
@[simp] theorem State.modTrg_key (s : State) (f : TrgState → TrgState) : (s.modTrg f).key = s.key := rfl
@[simp] theorem State.modTrg_mainOff (s : State) (f : TrgState → TrgState) : (s.modTrg f).mainOff = s.mainOff := rfl
@[simp] theorem State.modTrg_tic (s : State) (f : TrgState → TrgState) : (s.modTrg f).tic = s.tic := rfl
@[simp] theorem State.modTrg_gns (s : State) (f : TrgState → TrgState) : (s.modTrg f).gns = s.gns := rfl
@[simp] theorem State.modTrg_dst (s : State) (f : TrgState → TrgState) : (s.modTrg f).dst = s.dst := rfl
@[simp] theorem State.modTrg_par (s : State) (f : TrgState → TrgState) : (s.modTrg f).par = s.par := rfl
@[simp] theorem State.modTrg_mem (s : State) (f : TrgState → TrgState) : (s.modTrg f).mem = s.mem := rfl
@[simp] theorem State.modTrg_inj (s : State) (f : TrgState → TrgState) : (s.modTrg f).inj = s.inj := rfl
@[simp] theorem State.modTrg_age (s : State) (f : TrgState → TrgState) : (s.modTrg f).age = s.age := rfl
@[simp] theorem State.modTrg_mgt (s : State) (f : TrgState → TrgState) : (s.modTrg f).mgt = s.mgt := rfl
@[simp] theorem State.modTrg_clr (s : State) (f : TrgState → TrgState) : (s.modTrg f).clr = s.clr := rfl
@[simp] theorem State.modTrg_boot (s : State) (f : TrgState → TrgState) : (s.modTrg f).boot = s.boot := rfl

/-! ### modSvc -/

@[simp] theorem State.modSvc_pending (s : State) (f : SvcState → SvcState) : (s.modSvc f).pending = s.pending := rfl
@[simp] theorem State.modSvc_regs (s : State) (f : SvcState → SvcState) : (s.modSvc f).regs = s.regs := rfl
@[simp] theorem State.modSvc_cnt (s : State) (f : SvcState → SvcState) : (s.modSvc f).cnt = s.cnt := rfl
@[simp] theorem State.modSvc_dram (s : State) (f : SvcState → SvcState) : (s.modSvc f).dram = s.dram := rfl
@[simp] theorem State.modSvc_now (s : State) (f : SvcState → SvcState) : (s.modSvc f).now = s.now := rfl
@[simp] theorem State.modSvc_cyc (s : State) (f : SvcState → SvcState) : (s.modSvc f).cyc = s.cyc := rfl
@[simp] theorem State.modSvc_free (s : State) (f : SvcState → SvcState) : (s.modSvc f).free = s.free := rfl
@[simp] theorem State.modSvc_reply (s : State) (f : SvcState → SvcState) : (s.modSvc f).reply = s.reply := rfl
@[simp] theorem State.modSvc_staged (s : State) (f : SvcState → SvcState) : (s.modSvc f).staged = s.staged := rfl
@[simp] theorem State.modSvc_hold (s : State) (f : SvcState → SvcState) : (s.modSvc f).hold = s.hold := rfl
@[simp] theorem State.modSvc_latch (s : State) (f : SvcState → SvcState) : (s.modSvc f).latch = s.latch := rfl
@[simp] theorem State.modSvc_evt (s : State) (f : SvcState → SvcState) : (s.modSvc f).evt = s.evt := rfl
@[simp] theorem State.modSvc_kpr (s : State) (f : SvcState → SvcState) : (s.modSvc f).kpr = s.kpr := rfl
@[simp] theorem State.modSvc_nextTick (s : State) (f : SvcState → SvcState) : (s.modSvc f).nextTick = s.nextTick := rfl
@[simp] theorem State.modSvc_tickAt (s : State) (f : SvcState → SvcState) : (s.modSvc f).tickAt = s.tickAt := rfl
@[simp] theorem State.modSvc_bnd (s : State) (f : SvcState → SvcState) : (s.modSvc f).bnd = s.bnd := rfl
@[simp] theorem State.modSvc_ref (s : State) (f : SvcState → SvcState) : (s.modSvc f).ref = s.ref := rfl
@[simp] theorem State.modSvc_dsc (s : State) (f : SvcState → SvcState) : (s.modSvc f).dsc = s.dsc := rfl
@[simp] theorem State.modSvc_syn (s : State) (f : SvcState → SvcState) : (s.modSvc f).syn = s.syn := rfl
@[simp] theorem State.modSvc_xdc (s : State) (f : SvcState → SvcState) : (s.modSvc f).xdc = s.xdc := rfl
@[simp] theorem State.modSvc_prt (s : State) (f : SvcState → SvcState) : (s.modSvc f).prt = s.prt := rfl
@[simp] theorem State.modSvc_trg (s : State) (f : SvcState → SvcState) : (s.modSvc f).trg = s.trg := rfl
@[simp] theorem State.modSvc_svc (s : State) (f : SvcState → SvcState) : (s.modSvc f).svc = f s.svc := rfl
@[simp] theorem State.modSvc_ldr (s : State) (f : SvcState → SvcState) : (s.modSvc f).ldr = s.ldr := rfl
@[simp] theorem State.modSvc_key (s : State) (f : SvcState → SvcState) : (s.modSvc f).key = s.key := rfl
@[simp] theorem State.modSvc_mainOff (s : State) (f : SvcState → SvcState) : (s.modSvc f).mainOff = s.mainOff := rfl
@[simp] theorem State.modSvc_tic (s : State) (f : SvcState → SvcState) : (s.modSvc f).tic = s.tic := rfl
@[simp] theorem State.modSvc_gns (s : State) (f : SvcState → SvcState) : (s.modSvc f).gns = s.gns := rfl
@[simp] theorem State.modSvc_dst (s : State) (f : SvcState → SvcState) : (s.modSvc f).dst = s.dst := rfl
@[simp] theorem State.modSvc_par (s : State) (f : SvcState → SvcState) : (s.modSvc f).par = s.par := rfl
@[simp] theorem State.modSvc_mem (s : State) (f : SvcState → SvcState) : (s.modSvc f).mem = s.mem := rfl
@[simp] theorem State.modSvc_inj (s : State) (f : SvcState → SvcState) : (s.modSvc f).inj = s.inj := rfl
@[simp] theorem State.modSvc_age (s : State) (f : SvcState → SvcState) : (s.modSvc f).age = s.age := rfl
@[simp] theorem State.modSvc_mgt (s : State) (f : SvcState → SvcState) : (s.modSvc f).mgt = s.mgt := rfl
@[simp] theorem State.modSvc_clr (s : State) (f : SvcState → SvcState) : (s.modSvc f).clr = s.clr := rfl
@[simp] theorem State.modSvc_boot (s : State) (f : SvcState → SvcState) : (s.modSvc f).boot = s.boot := rfl

/-! ### modLdr -/

@[simp] theorem State.modLdr_pending (s : State) (f : LdrState → LdrState) : (s.modLdr f).pending = s.pending := rfl
@[simp] theorem State.modLdr_regs (s : State) (f : LdrState → LdrState) : (s.modLdr f).regs = s.regs := rfl
@[simp] theorem State.modLdr_cnt (s : State) (f : LdrState → LdrState) : (s.modLdr f).cnt = s.cnt := rfl
@[simp] theorem State.modLdr_dram (s : State) (f : LdrState → LdrState) : (s.modLdr f).dram = s.dram := rfl
@[simp] theorem State.modLdr_now (s : State) (f : LdrState → LdrState) : (s.modLdr f).now = s.now := rfl
@[simp] theorem State.modLdr_cyc (s : State) (f : LdrState → LdrState) : (s.modLdr f).cyc = s.cyc := rfl
@[simp] theorem State.modLdr_free (s : State) (f : LdrState → LdrState) : (s.modLdr f).free = s.free := rfl
@[simp] theorem State.modLdr_reply (s : State) (f : LdrState → LdrState) : (s.modLdr f).reply = s.reply := rfl
@[simp] theorem State.modLdr_staged (s : State) (f : LdrState → LdrState) : (s.modLdr f).staged = s.staged := rfl
@[simp] theorem State.modLdr_hold (s : State) (f : LdrState → LdrState) : (s.modLdr f).hold = s.hold := rfl
@[simp] theorem State.modLdr_latch (s : State) (f : LdrState → LdrState) : (s.modLdr f).latch = s.latch := rfl
@[simp] theorem State.modLdr_evt (s : State) (f : LdrState → LdrState) : (s.modLdr f).evt = s.evt := rfl
@[simp] theorem State.modLdr_kpr (s : State) (f : LdrState → LdrState) : (s.modLdr f).kpr = s.kpr := rfl
@[simp] theorem State.modLdr_nextTick (s : State) (f : LdrState → LdrState) : (s.modLdr f).nextTick = s.nextTick := rfl
@[simp] theorem State.modLdr_tickAt (s : State) (f : LdrState → LdrState) : (s.modLdr f).tickAt = s.tickAt := rfl
@[simp] theorem State.modLdr_bnd (s : State) (f : LdrState → LdrState) : (s.modLdr f).bnd = s.bnd := rfl
@[simp] theorem State.modLdr_ref (s : State) (f : LdrState → LdrState) : (s.modLdr f).ref = s.ref := rfl
@[simp] theorem State.modLdr_dsc (s : State) (f : LdrState → LdrState) : (s.modLdr f).dsc = s.dsc := rfl
@[simp] theorem State.modLdr_syn (s : State) (f : LdrState → LdrState) : (s.modLdr f).syn = s.syn := rfl
@[simp] theorem State.modLdr_xdc (s : State) (f : LdrState → LdrState) : (s.modLdr f).xdc = s.xdc := rfl
@[simp] theorem State.modLdr_prt (s : State) (f : LdrState → LdrState) : (s.modLdr f).prt = s.prt := rfl
@[simp] theorem State.modLdr_trg (s : State) (f : LdrState → LdrState) : (s.modLdr f).trg = s.trg := rfl
@[simp] theorem State.modLdr_svc (s : State) (f : LdrState → LdrState) : (s.modLdr f).svc = s.svc := rfl
@[simp] theorem State.modLdr_ldr (s : State) (f : LdrState → LdrState) : (s.modLdr f).ldr = f s.ldr := rfl
@[simp] theorem State.modLdr_key (s : State) (f : LdrState → LdrState) : (s.modLdr f).key = s.key := rfl
@[simp] theorem State.modLdr_mainOff (s : State) (f : LdrState → LdrState) : (s.modLdr f).mainOff = s.mainOff := rfl
@[simp] theorem State.modLdr_tic (s : State) (f : LdrState → LdrState) : (s.modLdr f).tic = s.tic := rfl
@[simp] theorem State.modLdr_gns (s : State) (f : LdrState → LdrState) : (s.modLdr f).gns = s.gns := rfl
@[simp] theorem State.modLdr_dst (s : State) (f : LdrState → LdrState) : (s.modLdr f).dst = s.dst := rfl
@[simp] theorem State.modLdr_par (s : State) (f : LdrState → LdrState) : (s.modLdr f).par = s.par := rfl
@[simp] theorem State.modLdr_mem (s : State) (f : LdrState → LdrState) : (s.modLdr f).mem = s.mem := rfl
@[simp] theorem State.modLdr_inj (s : State) (f : LdrState → LdrState) : (s.modLdr f).inj = s.inj := rfl
@[simp] theorem State.modLdr_age (s : State) (f : LdrState → LdrState) : (s.modLdr f).age = s.age := rfl
@[simp] theorem State.modLdr_mgt (s : State) (f : LdrState → LdrState) : (s.modLdr f).mgt = s.mgt := rfl
@[simp] theorem State.modLdr_clr (s : State) (f : LdrState → LdrState) : (s.modLdr f).clr = s.clr := rfl
@[simp] theorem State.modLdr_boot (s : State) (f : LdrState → LdrState) : (s.modLdr f).boot = s.boot := rfl

/-! ### modKey -/

@[simp] theorem State.modKey_pending (s : State) (f : KeyState → KeyState) : (s.modKey f).pending = s.pending := rfl
@[simp] theorem State.modKey_regs (s : State) (f : KeyState → KeyState) : (s.modKey f).regs = s.regs := rfl
@[simp] theorem State.modKey_cnt (s : State) (f : KeyState → KeyState) : (s.modKey f).cnt = s.cnt := rfl
@[simp] theorem State.modKey_dram (s : State) (f : KeyState → KeyState) : (s.modKey f).dram = s.dram := rfl
@[simp] theorem State.modKey_now (s : State) (f : KeyState → KeyState) : (s.modKey f).now = s.now := rfl
@[simp] theorem State.modKey_cyc (s : State) (f : KeyState → KeyState) : (s.modKey f).cyc = s.cyc := rfl
@[simp] theorem State.modKey_free (s : State) (f : KeyState → KeyState) : (s.modKey f).free = s.free := rfl
@[simp] theorem State.modKey_reply (s : State) (f : KeyState → KeyState) : (s.modKey f).reply = s.reply := rfl
@[simp] theorem State.modKey_staged (s : State) (f : KeyState → KeyState) : (s.modKey f).staged = s.staged := rfl
@[simp] theorem State.modKey_hold (s : State) (f : KeyState → KeyState) : (s.modKey f).hold = s.hold := rfl
@[simp] theorem State.modKey_latch (s : State) (f : KeyState → KeyState) : (s.modKey f).latch = s.latch := rfl
@[simp] theorem State.modKey_evt (s : State) (f : KeyState → KeyState) : (s.modKey f).evt = s.evt := rfl
@[simp] theorem State.modKey_kpr (s : State) (f : KeyState → KeyState) : (s.modKey f).kpr = s.kpr := rfl
@[simp] theorem State.modKey_nextTick (s : State) (f : KeyState → KeyState) : (s.modKey f).nextTick = s.nextTick := rfl
@[simp] theorem State.modKey_tickAt (s : State) (f : KeyState → KeyState) : (s.modKey f).tickAt = s.tickAt := rfl
@[simp] theorem State.modKey_bnd (s : State) (f : KeyState → KeyState) : (s.modKey f).bnd = s.bnd := rfl
@[simp] theorem State.modKey_ref (s : State) (f : KeyState → KeyState) : (s.modKey f).ref = s.ref := rfl
@[simp] theorem State.modKey_dsc (s : State) (f : KeyState → KeyState) : (s.modKey f).dsc = s.dsc := rfl
@[simp] theorem State.modKey_syn (s : State) (f : KeyState → KeyState) : (s.modKey f).syn = s.syn := rfl
@[simp] theorem State.modKey_xdc (s : State) (f : KeyState → KeyState) : (s.modKey f).xdc = s.xdc := rfl
@[simp] theorem State.modKey_prt (s : State) (f : KeyState → KeyState) : (s.modKey f).prt = s.prt := rfl
@[simp] theorem State.modKey_trg (s : State) (f : KeyState → KeyState) : (s.modKey f).trg = s.trg := rfl
@[simp] theorem State.modKey_svc (s : State) (f : KeyState → KeyState) : (s.modKey f).svc = s.svc := rfl
@[simp] theorem State.modKey_ldr (s : State) (f : KeyState → KeyState) : (s.modKey f).ldr = s.ldr := rfl
@[simp] theorem State.modKey_key (s : State) (f : KeyState → KeyState) : (s.modKey f).key = f s.key := rfl
@[simp] theorem State.modKey_mainOff (s : State) (f : KeyState → KeyState) : (s.modKey f).mainOff = s.mainOff := rfl
@[simp] theorem State.modKey_tic (s : State) (f : KeyState → KeyState) : (s.modKey f).tic = s.tic := rfl
@[simp] theorem State.modKey_gns (s : State) (f : KeyState → KeyState) : (s.modKey f).gns = s.gns := rfl
@[simp] theorem State.modKey_dst (s : State) (f : KeyState → KeyState) : (s.modKey f).dst = s.dst := rfl
@[simp] theorem State.modKey_par (s : State) (f : KeyState → KeyState) : (s.modKey f).par = s.par := rfl
@[simp] theorem State.modKey_mem (s : State) (f : KeyState → KeyState) : (s.modKey f).mem = s.mem := rfl
@[simp] theorem State.modKey_inj (s : State) (f : KeyState → KeyState) : (s.modKey f).inj = s.inj := rfl
@[simp] theorem State.modKey_age (s : State) (f : KeyState → KeyState) : (s.modKey f).age = s.age := rfl
@[simp] theorem State.modKey_mgt (s : State) (f : KeyState → KeyState) : (s.modKey f).mgt = s.mgt := rfl
@[simp] theorem State.modKey_clr (s : State) (f : KeyState → KeyState) : (s.modKey f).clr = s.clr := rfl
@[simp] theorem State.modKey_boot (s : State) (f : KeyState → KeyState) : (s.modKey f).boot = s.boot := rfl

/-! ### modTic -/

@[simp] theorem State.modTic_pending (s : State) (f : TicState → TicState) : (s.modTic f).pending = s.pending := rfl
@[simp] theorem State.modTic_regs (s : State) (f : TicState → TicState) : (s.modTic f).regs = s.regs := rfl
@[simp] theorem State.modTic_cnt (s : State) (f : TicState → TicState) : (s.modTic f).cnt = s.cnt := rfl
@[simp] theorem State.modTic_dram (s : State) (f : TicState → TicState) : (s.modTic f).dram = s.dram := rfl
@[simp] theorem State.modTic_now (s : State) (f : TicState → TicState) : (s.modTic f).now = s.now := rfl
@[simp] theorem State.modTic_cyc (s : State) (f : TicState → TicState) : (s.modTic f).cyc = s.cyc := rfl
@[simp] theorem State.modTic_free (s : State) (f : TicState → TicState) : (s.modTic f).free = s.free := rfl
@[simp] theorem State.modTic_reply (s : State) (f : TicState → TicState) : (s.modTic f).reply = s.reply := rfl
@[simp] theorem State.modTic_staged (s : State) (f : TicState → TicState) : (s.modTic f).staged = s.staged := rfl
@[simp] theorem State.modTic_hold (s : State) (f : TicState → TicState) : (s.modTic f).hold = s.hold := rfl
@[simp] theorem State.modTic_latch (s : State) (f : TicState → TicState) : (s.modTic f).latch = s.latch := rfl
@[simp] theorem State.modTic_evt (s : State) (f : TicState → TicState) : (s.modTic f).evt = s.evt := rfl
@[simp] theorem State.modTic_kpr (s : State) (f : TicState → TicState) : (s.modTic f).kpr = s.kpr := rfl
@[simp] theorem State.modTic_nextTick (s : State) (f : TicState → TicState) : (s.modTic f).nextTick = s.nextTick := rfl
@[simp] theorem State.modTic_tickAt (s : State) (f : TicState → TicState) : (s.modTic f).tickAt = s.tickAt := rfl
@[simp] theorem State.modTic_bnd (s : State) (f : TicState → TicState) : (s.modTic f).bnd = s.bnd := rfl
@[simp] theorem State.modTic_ref (s : State) (f : TicState → TicState) : (s.modTic f).ref = s.ref := rfl
@[simp] theorem State.modTic_dsc (s : State) (f : TicState → TicState) : (s.modTic f).dsc = s.dsc := rfl
@[simp] theorem State.modTic_syn (s : State) (f : TicState → TicState) : (s.modTic f).syn = s.syn := rfl
@[simp] theorem State.modTic_xdc (s : State) (f : TicState → TicState) : (s.modTic f).xdc = s.xdc := rfl
@[simp] theorem State.modTic_prt (s : State) (f : TicState → TicState) : (s.modTic f).prt = s.prt := rfl
@[simp] theorem State.modTic_trg (s : State) (f : TicState → TicState) : (s.modTic f).trg = s.trg := rfl
@[simp] theorem State.modTic_svc (s : State) (f : TicState → TicState) : (s.modTic f).svc = s.svc := rfl
@[simp] theorem State.modTic_ldr (s : State) (f : TicState → TicState) : (s.modTic f).ldr = s.ldr := rfl
@[simp] theorem State.modTic_key (s : State) (f : TicState → TicState) : (s.modTic f).key = s.key := rfl
@[simp] theorem State.modTic_mainOff (s : State) (f : TicState → TicState) : (s.modTic f).mainOff = s.mainOff := rfl
@[simp] theorem State.modTic_tic (s : State) (f : TicState → TicState) : (s.modTic f).tic = f s.tic := rfl
@[simp] theorem State.modTic_gns (s : State) (f : TicState → TicState) : (s.modTic f).gns = s.gns := rfl
@[simp] theorem State.modTic_dst (s : State) (f : TicState → TicState) : (s.modTic f).dst = s.dst := rfl
@[simp] theorem State.modTic_par (s : State) (f : TicState → TicState) : (s.modTic f).par = s.par := rfl
@[simp] theorem State.modTic_mem (s : State) (f : TicState → TicState) : (s.modTic f).mem = s.mem := rfl
@[simp] theorem State.modTic_inj (s : State) (f : TicState → TicState) : (s.modTic f).inj = s.inj := rfl
@[simp] theorem State.modTic_age (s : State) (f : TicState → TicState) : (s.modTic f).age = s.age := rfl
@[simp] theorem State.modTic_mgt (s : State) (f : TicState → TicState) : (s.modTic f).mgt = s.mgt := rfl
@[simp] theorem State.modTic_clr (s : State) (f : TicState → TicState) : (s.modTic f).clr = s.clr := rfl
@[simp] theorem State.modTic_boot (s : State) (f : TicState → TicState) : (s.modTic f).boot = s.boot := rfl

/-! ### modGns -/

@[simp] theorem State.modGns_pending (s : State) (f : GnsState → GnsState) : (s.modGns f).pending = s.pending := rfl
@[simp] theorem State.modGns_regs (s : State) (f : GnsState → GnsState) : (s.modGns f).regs = s.regs := rfl
@[simp] theorem State.modGns_cnt (s : State) (f : GnsState → GnsState) : (s.modGns f).cnt = s.cnt := rfl
@[simp] theorem State.modGns_dram (s : State) (f : GnsState → GnsState) : (s.modGns f).dram = s.dram := rfl
@[simp] theorem State.modGns_now (s : State) (f : GnsState → GnsState) : (s.modGns f).now = s.now := rfl
@[simp] theorem State.modGns_cyc (s : State) (f : GnsState → GnsState) : (s.modGns f).cyc = s.cyc := rfl
@[simp] theorem State.modGns_free (s : State) (f : GnsState → GnsState) : (s.modGns f).free = s.free := rfl
@[simp] theorem State.modGns_reply (s : State) (f : GnsState → GnsState) : (s.modGns f).reply = s.reply := rfl
@[simp] theorem State.modGns_staged (s : State) (f : GnsState → GnsState) : (s.modGns f).staged = s.staged := rfl
@[simp] theorem State.modGns_hold (s : State) (f : GnsState → GnsState) : (s.modGns f).hold = s.hold := rfl
@[simp] theorem State.modGns_latch (s : State) (f : GnsState → GnsState) : (s.modGns f).latch = s.latch := rfl
@[simp] theorem State.modGns_evt (s : State) (f : GnsState → GnsState) : (s.modGns f).evt = s.evt := rfl
@[simp] theorem State.modGns_kpr (s : State) (f : GnsState → GnsState) : (s.modGns f).kpr = s.kpr := rfl
@[simp] theorem State.modGns_nextTick (s : State) (f : GnsState → GnsState) : (s.modGns f).nextTick = s.nextTick := rfl
@[simp] theorem State.modGns_tickAt (s : State) (f : GnsState → GnsState) : (s.modGns f).tickAt = s.tickAt := rfl
@[simp] theorem State.modGns_bnd (s : State) (f : GnsState → GnsState) : (s.modGns f).bnd = s.bnd := rfl
@[simp] theorem State.modGns_ref (s : State) (f : GnsState → GnsState) : (s.modGns f).ref = s.ref := rfl
@[simp] theorem State.modGns_dsc (s : State) (f : GnsState → GnsState) : (s.modGns f).dsc = s.dsc := rfl
@[simp] theorem State.modGns_syn (s : State) (f : GnsState → GnsState) : (s.modGns f).syn = s.syn := rfl
@[simp] theorem State.modGns_xdc (s : State) (f : GnsState → GnsState) : (s.modGns f).xdc = s.xdc := rfl
@[simp] theorem State.modGns_prt (s : State) (f : GnsState → GnsState) : (s.modGns f).prt = s.prt := rfl
@[simp] theorem State.modGns_trg (s : State) (f : GnsState → GnsState) : (s.modGns f).trg = s.trg := rfl
@[simp] theorem State.modGns_svc (s : State) (f : GnsState → GnsState) : (s.modGns f).svc = s.svc := rfl
@[simp] theorem State.modGns_ldr (s : State) (f : GnsState → GnsState) : (s.modGns f).ldr = s.ldr := rfl
@[simp] theorem State.modGns_key (s : State) (f : GnsState → GnsState) : (s.modGns f).key = s.key := rfl
@[simp] theorem State.modGns_mainOff (s : State) (f : GnsState → GnsState) : (s.modGns f).mainOff = s.mainOff := rfl
@[simp] theorem State.modGns_tic (s : State) (f : GnsState → GnsState) : (s.modGns f).tic = s.tic := rfl
@[simp] theorem State.modGns_gns (s : State) (f : GnsState → GnsState) : (s.modGns f).gns = f s.gns := rfl
@[simp] theorem State.modGns_dst (s : State) (f : GnsState → GnsState) : (s.modGns f).dst = s.dst := rfl
@[simp] theorem State.modGns_par (s : State) (f : GnsState → GnsState) : (s.modGns f).par = s.par := rfl
@[simp] theorem State.modGns_mem (s : State) (f : GnsState → GnsState) : (s.modGns f).mem = s.mem := rfl
@[simp] theorem State.modGns_inj (s : State) (f : GnsState → GnsState) : (s.modGns f).inj = s.inj := rfl
@[simp] theorem State.modGns_age (s : State) (f : GnsState → GnsState) : (s.modGns f).age = s.age := rfl
@[simp] theorem State.modGns_mgt (s : State) (f : GnsState → GnsState) : (s.modGns f).mgt = s.mgt := rfl
@[simp] theorem State.modGns_clr (s : State) (f : GnsState → GnsState) : (s.modGns f).clr = s.clr := rfl
@[simp] theorem State.modGns_boot (s : State) (f : GnsState → GnsState) : (s.modGns f).boot = s.boot := rfl

/-! ### modDst -/

@[simp] theorem State.modDst_pending (s : State) (f : DstState → DstState) : (s.modDst f).pending = s.pending := rfl
@[simp] theorem State.modDst_regs (s : State) (f : DstState → DstState) : (s.modDst f).regs = s.regs := rfl
@[simp] theorem State.modDst_cnt (s : State) (f : DstState → DstState) : (s.modDst f).cnt = s.cnt := rfl
@[simp] theorem State.modDst_dram (s : State) (f : DstState → DstState) : (s.modDst f).dram = s.dram := rfl
@[simp] theorem State.modDst_now (s : State) (f : DstState → DstState) : (s.modDst f).now = s.now := rfl
@[simp] theorem State.modDst_cyc (s : State) (f : DstState → DstState) : (s.modDst f).cyc = s.cyc := rfl
@[simp] theorem State.modDst_free (s : State) (f : DstState → DstState) : (s.modDst f).free = s.free := rfl
@[simp] theorem State.modDst_reply (s : State) (f : DstState → DstState) : (s.modDst f).reply = s.reply := rfl
@[simp] theorem State.modDst_staged (s : State) (f : DstState → DstState) : (s.modDst f).staged = s.staged := rfl
@[simp] theorem State.modDst_hold (s : State) (f : DstState → DstState) : (s.modDst f).hold = s.hold := rfl
@[simp] theorem State.modDst_latch (s : State) (f : DstState → DstState) : (s.modDst f).latch = s.latch := rfl
@[simp] theorem State.modDst_evt (s : State) (f : DstState → DstState) : (s.modDst f).evt = s.evt := rfl
@[simp] theorem State.modDst_kpr (s : State) (f : DstState → DstState) : (s.modDst f).kpr = s.kpr := rfl
@[simp] theorem State.modDst_nextTick (s : State) (f : DstState → DstState) : (s.modDst f).nextTick = s.nextTick := rfl
@[simp] theorem State.modDst_tickAt (s : State) (f : DstState → DstState) : (s.modDst f).tickAt = s.tickAt := rfl
@[simp] theorem State.modDst_bnd (s : State) (f : DstState → DstState) : (s.modDst f).bnd = s.bnd := rfl
@[simp] theorem State.modDst_ref (s : State) (f : DstState → DstState) : (s.modDst f).ref = s.ref := rfl
@[simp] theorem State.modDst_dsc (s : State) (f : DstState → DstState) : (s.modDst f).dsc = s.dsc := rfl
@[simp] theorem State.modDst_syn (s : State) (f : DstState → DstState) : (s.modDst f).syn = s.syn := rfl
@[simp] theorem State.modDst_xdc (s : State) (f : DstState → DstState) : (s.modDst f).xdc = s.xdc := rfl
@[simp] theorem State.modDst_prt (s : State) (f : DstState → DstState) : (s.modDst f).prt = s.prt := rfl
@[simp] theorem State.modDst_trg (s : State) (f : DstState → DstState) : (s.modDst f).trg = s.trg := rfl
@[simp] theorem State.modDst_svc (s : State) (f : DstState → DstState) : (s.modDst f).svc = s.svc := rfl
@[simp] theorem State.modDst_ldr (s : State) (f : DstState → DstState) : (s.modDst f).ldr = s.ldr := rfl
@[simp] theorem State.modDst_key (s : State) (f : DstState → DstState) : (s.modDst f).key = s.key := rfl
@[simp] theorem State.modDst_mainOff (s : State) (f : DstState → DstState) : (s.modDst f).mainOff = s.mainOff := rfl
@[simp] theorem State.modDst_tic (s : State) (f : DstState → DstState) : (s.modDst f).tic = s.tic := rfl
@[simp] theorem State.modDst_gns (s : State) (f : DstState → DstState) : (s.modDst f).gns = s.gns := rfl
@[simp] theorem State.modDst_dst (s : State) (f : DstState → DstState) : (s.modDst f).dst = f s.dst := rfl
@[simp] theorem State.modDst_par (s : State) (f : DstState → DstState) : (s.modDst f).par = s.par := rfl
@[simp] theorem State.modDst_mem (s : State) (f : DstState → DstState) : (s.modDst f).mem = s.mem := rfl
@[simp] theorem State.modDst_inj (s : State) (f : DstState → DstState) : (s.modDst f).inj = s.inj := rfl
@[simp] theorem State.modDst_age (s : State) (f : DstState → DstState) : (s.modDst f).age = s.age := rfl
@[simp] theorem State.modDst_mgt (s : State) (f : DstState → DstState) : (s.modDst f).mgt = s.mgt := rfl
@[simp] theorem State.modDst_clr (s : State) (f : DstState → DstState) : (s.modDst f).clr = s.clr := rfl
@[simp] theorem State.modDst_boot (s : State) (f : DstState → DstState) : (s.modDst f).boot = s.boot := rfl

/-! ### modPar -/

@[simp] theorem State.modPar_pending (s : State) (f : ParState → ParState) : (s.modPar f).pending = s.pending := rfl
@[simp] theorem State.modPar_regs (s : State) (f : ParState → ParState) : (s.modPar f).regs = s.regs := rfl
@[simp] theorem State.modPar_cnt (s : State) (f : ParState → ParState) : (s.modPar f).cnt = s.cnt := rfl
@[simp] theorem State.modPar_dram (s : State) (f : ParState → ParState) : (s.modPar f).dram = s.dram := rfl
@[simp] theorem State.modPar_now (s : State) (f : ParState → ParState) : (s.modPar f).now = s.now := rfl
@[simp] theorem State.modPar_cyc (s : State) (f : ParState → ParState) : (s.modPar f).cyc = s.cyc := rfl
@[simp] theorem State.modPar_free (s : State) (f : ParState → ParState) : (s.modPar f).free = s.free := rfl
@[simp] theorem State.modPar_reply (s : State) (f : ParState → ParState) : (s.modPar f).reply = s.reply := rfl
@[simp] theorem State.modPar_staged (s : State) (f : ParState → ParState) : (s.modPar f).staged = s.staged := rfl
@[simp] theorem State.modPar_hold (s : State) (f : ParState → ParState) : (s.modPar f).hold = s.hold := rfl
@[simp] theorem State.modPar_latch (s : State) (f : ParState → ParState) : (s.modPar f).latch = s.latch := rfl
@[simp] theorem State.modPar_evt (s : State) (f : ParState → ParState) : (s.modPar f).evt = s.evt := rfl
@[simp] theorem State.modPar_kpr (s : State) (f : ParState → ParState) : (s.modPar f).kpr = s.kpr := rfl
@[simp] theorem State.modPar_nextTick (s : State) (f : ParState → ParState) : (s.modPar f).nextTick = s.nextTick := rfl
@[simp] theorem State.modPar_tickAt (s : State) (f : ParState → ParState) : (s.modPar f).tickAt = s.tickAt := rfl
@[simp] theorem State.modPar_bnd (s : State) (f : ParState → ParState) : (s.modPar f).bnd = s.bnd := rfl
@[simp] theorem State.modPar_ref (s : State) (f : ParState → ParState) : (s.modPar f).ref = s.ref := rfl
@[simp] theorem State.modPar_dsc (s : State) (f : ParState → ParState) : (s.modPar f).dsc = s.dsc := rfl
@[simp] theorem State.modPar_syn (s : State) (f : ParState → ParState) : (s.modPar f).syn = s.syn := rfl
@[simp] theorem State.modPar_xdc (s : State) (f : ParState → ParState) : (s.modPar f).xdc = s.xdc := rfl
@[simp] theorem State.modPar_prt (s : State) (f : ParState → ParState) : (s.modPar f).prt = s.prt := rfl
@[simp] theorem State.modPar_trg (s : State) (f : ParState → ParState) : (s.modPar f).trg = s.trg := rfl
@[simp] theorem State.modPar_svc (s : State) (f : ParState → ParState) : (s.modPar f).svc = s.svc := rfl
@[simp] theorem State.modPar_ldr (s : State) (f : ParState → ParState) : (s.modPar f).ldr = s.ldr := rfl
@[simp] theorem State.modPar_key (s : State) (f : ParState → ParState) : (s.modPar f).key = s.key := rfl
@[simp] theorem State.modPar_mainOff (s : State) (f : ParState → ParState) : (s.modPar f).mainOff = s.mainOff := rfl
@[simp] theorem State.modPar_tic (s : State) (f : ParState → ParState) : (s.modPar f).tic = s.tic := rfl
@[simp] theorem State.modPar_gns (s : State) (f : ParState → ParState) : (s.modPar f).gns = s.gns := rfl
@[simp] theorem State.modPar_dst (s : State) (f : ParState → ParState) : (s.modPar f).dst = s.dst := rfl
@[simp] theorem State.modPar_par (s : State) (f : ParState → ParState) : (s.modPar f).par = f s.par := rfl
@[simp] theorem State.modPar_mem (s : State) (f : ParState → ParState) : (s.modPar f).mem = s.mem := rfl
@[simp] theorem State.modPar_inj (s : State) (f : ParState → ParState) : (s.modPar f).inj = s.inj := rfl
@[simp] theorem State.modPar_age (s : State) (f : ParState → ParState) : (s.modPar f).age = s.age := rfl
@[simp] theorem State.modPar_mgt (s : State) (f : ParState → ParState) : (s.modPar f).mgt = s.mgt := rfl
@[simp] theorem State.modPar_clr (s : State) (f : ParState → ParState) : (s.modPar f).clr = s.clr := rfl
@[simp] theorem State.modPar_boot (s : State) (f : ParState → ParState) : (s.modPar f).boot = s.boot := rfl

/-! ### modMem -/

@[simp] theorem State.modMem_pending (s : State) (f : MemState → MemState) : (s.modMem f).pending = s.pending := rfl
@[simp] theorem State.modMem_regs (s : State) (f : MemState → MemState) : (s.modMem f).regs = s.regs := rfl
@[simp] theorem State.modMem_cnt (s : State) (f : MemState → MemState) : (s.modMem f).cnt = s.cnt := rfl
@[simp] theorem State.modMem_dram (s : State) (f : MemState → MemState) : (s.modMem f).dram = s.dram := rfl
@[simp] theorem State.modMem_now (s : State) (f : MemState → MemState) : (s.modMem f).now = s.now := rfl
@[simp] theorem State.modMem_cyc (s : State) (f : MemState → MemState) : (s.modMem f).cyc = s.cyc := rfl
@[simp] theorem State.modMem_free (s : State) (f : MemState → MemState) : (s.modMem f).free = s.free := rfl
@[simp] theorem State.modMem_reply (s : State) (f : MemState → MemState) : (s.modMem f).reply = s.reply := rfl
@[simp] theorem State.modMem_staged (s : State) (f : MemState → MemState) : (s.modMem f).staged = s.staged := rfl
@[simp] theorem State.modMem_hold (s : State) (f : MemState → MemState) : (s.modMem f).hold = s.hold := rfl
@[simp] theorem State.modMem_latch (s : State) (f : MemState → MemState) : (s.modMem f).latch = s.latch := rfl
@[simp] theorem State.modMem_evt (s : State) (f : MemState → MemState) : (s.modMem f).evt = s.evt := rfl
@[simp] theorem State.modMem_kpr (s : State) (f : MemState → MemState) : (s.modMem f).kpr = s.kpr := rfl
@[simp] theorem State.modMem_nextTick (s : State) (f : MemState → MemState) : (s.modMem f).nextTick = s.nextTick := rfl
@[simp] theorem State.modMem_tickAt (s : State) (f : MemState → MemState) : (s.modMem f).tickAt = s.tickAt := rfl
@[simp] theorem State.modMem_bnd (s : State) (f : MemState → MemState) : (s.modMem f).bnd = s.bnd := rfl
@[simp] theorem State.modMem_ref (s : State) (f : MemState → MemState) : (s.modMem f).ref = s.ref := rfl
@[simp] theorem State.modMem_dsc (s : State) (f : MemState → MemState) : (s.modMem f).dsc = s.dsc := rfl
@[simp] theorem State.modMem_syn (s : State) (f : MemState → MemState) : (s.modMem f).syn = s.syn := rfl
@[simp] theorem State.modMem_xdc (s : State) (f : MemState → MemState) : (s.modMem f).xdc = s.xdc := rfl
@[simp] theorem State.modMem_prt (s : State) (f : MemState → MemState) : (s.modMem f).prt = s.prt := rfl
@[simp] theorem State.modMem_trg (s : State) (f : MemState → MemState) : (s.modMem f).trg = s.trg := rfl
@[simp] theorem State.modMem_svc (s : State) (f : MemState → MemState) : (s.modMem f).svc = s.svc := rfl
@[simp] theorem State.modMem_ldr (s : State) (f : MemState → MemState) : (s.modMem f).ldr = s.ldr := rfl
@[simp] theorem State.modMem_key (s : State) (f : MemState → MemState) : (s.modMem f).key = s.key := rfl
@[simp] theorem State.modMem_mainOff (s : State) (f : MemState → MemState) : (s.modMem f).mainOff = s.mainOff := rfl
@[simp] theorem State.modMem_tic (s : State) (f : MemState → MemState) : (s.modMem f).tic = s.tic := rfl
@[simp] theorem State.modMem_gns (s : State) (f : MemState → MemState) : (s.modMem f).gns = s.gns := rfl
@[simp] theorem State.modMem_dst (s : State) (f : MemState → MemState) : (s.modMem f).dst = s.dst := rfl
@[simp] theorem State.modMem_par (s : State) (f : MemState → MemState) : (s.modMem f).par = s.par := rfl
@[simp] theorem State.modMem_mem (s : State) (f : MemState → MemState) : (s.modMem f).mem = f s.mem := rfl
@[simp] theorem State.modMem_inj (s : State) (f : MemState → MemState) : (s.modMem f).inj = s.inj := rfl
@[simp] theorem State.modMem_age (s : State) (f : MemState → MemState) : (s.modMem f).age = s.age := rfl
@[simp] theorem State.modMem_mgt (s : State) (f : MemState → MemState) : (s.modMem f).mgt = s.mgt := rfl
@[simp] theorem State.modMem_clr (s : State) (f : MemState → MemState) : (s.modMem f).clr = s.clr := rfl
@[simp] theorem State.modMem_boot (s : State) (f : MemState → MemState) : (s.modMem f).boot = s.boot := rfl

/-! ### modInj -/

@[simp] theorem State.modInj_pending (s : State) (f : InjState → InjState) : (s.modInj f).pending = s.pending := rfl
@[simp] theorem State.modInj_regs (s : State) (f : InjState → InjState) : (s.modInj f).regs = s.regs := rfl
@[simp] theorem State.modInj_cnt (s : State) (f : InjState → InjState) : (s.modInj f).cnt = s.cnt := rfl
@[simp] theorem State.modInj_dram (s : State) (f : InjState → InjState) : (s.modInj f).dram = s.dram := rfl
@[simp] theorem State.modInj_now (s : State) (f : InjState → InjState) : (s.modInj f).now = s.now := rfl
@[simp] theorem State.modInj_cyc (s : State) (f : InjState → InjState) : (s.modInj f).cyc = s.cyc := rfl
@[simp] theorem State.modInj_free (s : State) (f : InjState → InjState) : (s.modInj f).free = s.free := rfl
@[simp] theorem State.modInj_reply (s : State) (f : InjState → InjState) : (s.modInj f).reply = s.reply := rfl
@[simp] theorem State.modInj_staged (s : State) (f : InjState → InjState) : (s.modInj f).staged = s.staged := rfl
@[simp] theorem State.modInj_hold (s : State) (f : InjState → InjState) : (s.modInj f).hold = s.hold := rfl
@[simp] theorem State.modInj_latch (s : State) (f : InjState → InjState) : (s.modInj f).latch = s.latch := rfl
@[simp] theorem State.modInj_evt (s : State) (f : InjState → InjState) : (s.modInj f).evt = s.evt := rfl
@[simp] theorem State.modInj_kpr (s : State) (f : InjState → InjState) : (s.modInj f).kpr = s.kpr := rfl
@[simp] theorem State.modInj_nextTick (s : State) (f : InjState → InjState) : (s.modInj f).nextTick = s.nextTick := rfl
@[simp] theorem State.modInj_tickAt (s : State) (f : InjState → InjState) : (s.modInj f).tickAt = s.tickAt := rfl
@[simp] theorem State.modInj_bnd (s : State) (f : InjState → InjState) : (s.modInj f).bnd = s.bnd := rfl
@[simp] theorem State.modInj_ref (s : State) (f : InjState → InjState) : (s.modInj f).ref = s.ref := rfl
@[simp] theorem State.modInj_dsc (s : State) (f : InjState → InjState) : (s.modInj f).dsc = s.dsc := rfl
@[simp] theorem State.modInj_syn (s : State) (f : InjState → InjState) : (s.modInj f).syn = s.syn := rfl
@[simp] theorem State.modInj_xdc (s : State) (f : InjState → InjState) : (s.modInj f).xdc = s.xdc := rfl
@[simp] theorem State.modInj_prt (s : State) (f : InjState → InjState) : (s.modInj f).prt = s.prt := rfl
@[simp] theorem State.modInj_trg (s : State) (f : InjState → InjState) : (s.modInj f).trg = s.trg := rfl
@[simp] theorem State.modInj_svc (s : State) (f : InjState → InjState) : (s.modInj f).svc = s.svc := rfl
@[simp] theorem State.modInj_ldr (s : State) (f : InjState → InjState) : (s.modInj f).ldr = s.ldr := rfl
@[simp] theorem State.modInj_key (s : State) (f : InjState → InjState) : (s.modInj f).key = s.key := rfl
@[simp] theorem State.modInj_mainOff (s : State) (f : InjState → InjState) : (s.modInj f).mainOff = s.mainOff := rfl
@[simp] theorem State.modInj_tic (s : State) (f : InjState → InjState) : (s.modInj f).tic = s.tic := rfl
@[simp] theorem State.modInj_gns (s : State) (f : InjState → InjState) : (s.modInj f).gns = s.gns := rfl
@[simp] theorem State.modInj_dst (s : State) (f : InjState → InjState) : (s.modInj f).dst = s.dst := rfl
@[simp] theorem State.modInj_par (s : State) (f : InjState → InjState) : (s.modInj f).par = s.par := rfl
@[simp] theorem State.modInj_mem (s : State) (f : InjState → InjState) : (s.modInj f).mem = s.mem := rfl
@[simp] theorem State.modInj_inj (s : State) (f : InjState → InjState) : (s.modInj f).inj = f s.inj := rfl
@[simp] theorem State.modInj_age (s : State) (f : InjState → InjState) : (s.modInj f).age = s.age := rfl
@[simp] theorem State.modInj_mgt (s : State) (f : InjState → InjState) : (s.modInj f).mgt = s.mgt := rfl
@[simp] theorem State.modInj_clr (s : State) (f : InjState → InjState) : (s.modInj f).clr = s.clr := rfl
@[simp] theorem State.modInj_boot (s : State) (f : InjState → InjState) : (s.modInj f).boot = s.boot := rfl

/-! ### modAge -/

@[simp] theorem State.modAge_pending (s : State) (f : AgeState → AgeState) : (s.modAge f).pending = s.pending := rfl
@[simp] theorem State.modAge_regs (s : State) (f : AgeState → AgeState) : (s.modAge f).regs = s.regs := rfl
@[simp] theorem State.modAge_cnt (s : State) (f : AgeState → AgeState) : (s.modAge f).cnt = s.cnt := rfl
@[simp] theorem State.modAge_dram (s : State) (f : AgeState → AgeState) : (s.modAge f).dram = s.dram := rfl
@[simp] theorem State.modAge_now (s : State) (f : AgeState → AgeState) : (s.modAge f).now = s.now := rfl
@[simp] theorem State.modAge_cyc (s : State) (f : AgeState → AgeState) : (s.modAge f).cyc = s.cyc := rfl
@[simp] theorem State.modAge_free (s : State) (f : AgeState → AgeState) : (s.modAge f).free = s.free := rfl
@[simp] theorem State.modAge_reply (s : State) (f : AgeState → AgeState) : (s.modAge f).reply = s.reply := rfl
@[simp] theorem State.modAge_staged (s : State) (f : AgeState → AgeState) : (s.modAge f).staged = s.staged := rfl
@[simp] theorem State.modAge_hold (s : State) (f : AgeState → AgeState) : (s.modAge f).hold = s.hold := rfl
@[simp] theorem State.modAge_latch (s : State) (f : AgeState → AgeState) : (s.modAge f).latch = s.latch := rfl
@[simp] theorem State.modAge_evt (s : State) (f : AgeState → AgeState) : (s.modAge f).evt = s.evt := rfl
@[simp] theorem State.modAge_kpr (s : State) (f : AgeState → AgeState) : (s.modAge f).kpr = s.kpr := rfl
@[simp] theorem State.modAge_nextTick (s : State) (f : AgeState → AgeState) : (s.modAge f).nextTick = s.nextTick := rfl
@[simp] theorem State.modAge_tickAt (s : State) (f : AgeState → AgeState) : (s.modAge f).tickAt = s.tickAt := rfl
@[simp] theorem State.modAge_bnd (s : State) (f : AgeState → AgeState) : (s.modAge f).bnd = s.bnd := rfl
@[simp] theorem State.modAge_ref (s : State) (f : AgeState → AgeState) : (s.modAge f).ref = s.ref := rfl
@[simp] theorem State.modAge_dsc (s : State) (f : AgeState → AgeState) : (s.modAge f).dsc = s.dsc := rfl
@[simp] theorem State.modAge_syn (s : State) (f : AgeState → AgeState) : (s.modAge f).syn = s.syn := rfl
@[simp] theorem State.modAge_xdc (s : State) (f : AgeState → AgeState) : (s.modAge f).xdc = s.xdc := rfl
@[simp] theorem State.modAge_prt (s : State) (f : AgeState → AgeState) : (s.modAge f).prt = s.prt := rfl
@[simp] theorem State.modAge_trg (s : State) (f : AgeState → AgeState) : (s.modAge f).trg = s.trg := rfl
@[simp] theorem State.modAge_svc (s : State) (f : AgeState → AgeState) : (s.modAge f).svc = s.svc := rfl
@[simp] theorem State.modAge_ldr (s : State) (f : AgeState → AgeState) : (s.modAge f).ldr = s.ldr := rfl
@[simp] theorem State.modAge_key (s : State) (f : AgeState → AgeState) : (s.modAge f).key = s.key := rfl
@[simp] theorem State.modAge_mainOff (s : State) (f : AgeState → AgeState) : (s.modAge f).mainOff = s.mainOff := rfl
@[simp] theorem State.modAge_tic (s : State) (f : AgeState → AgeState) : (s.modAge f).tic = s.tic := rfl
@[simp] theorem State.modAge_gns (s : State) (f : AgeState → AgeState) : (s.modAge f).gns = s.gns := rfl
@[simp] theorem State.modAge_dst (s : State) (f : AgeState → AgeState) : (s.modAge f).dst = s.dst := rfl
@[simp] theorem State.modAge_par (s : State) (f : AgeState → AgeState) : (s.modAge f).par = s.par := rfl
@[simp] theorem State.modAge_mem (s : State) (f : AgeState → AgeState) : (s.modAge f).mem = s.mem := rfl
@[simp] theorem State.modAge_inj (s : State) (f : AgeState → AgeState) : (s.modAge f).inj = s.inj := rfl
@[simp] theorem State.modAge_age (s : State) (f : AgeState → AgeState) : (s.modAge f).age = f s.age := rfl
@[simp] theorem State.modAge_mgt (s : State) (f : AgeState → AgeState) : (s.modAge f).mgt = s.mgt := rfl
@[simp] theorem State.modAge_clr (s : State) (f : AgeState → AgeState) : (s.modAge f).clr = s.clr := rfl
@[simp] theorem State.modAge_boot (s : State) (f : AgeState → AgeState) : (s.modAge f).boot = s.boot := rfl

/-! ### modMgt -/

@[simp] theorem State.modMgt_pending (s : State) (f : MgtState → MgtState) : (s.modMgt f).pending = s.pending := rfl
@[simp] theorem State.modMgt_regs (s : State) (f : MgtState → MgtState) : (s.modMgt f).regs = s.regs := rfl
@[simp] theorem State.modMgt_cnt (s : State) (f : MgtState → MgtState) : (s.modMgt f).cnt = s.cnt := rfl
@[simp] theorem State.modMgt_dram (s : State) (f : MgtState → MgtState) : (s.modMgt f).dram = s.dram := rfl
@[simp] theorem State.modMgt_now (s : State) (f : MgtState → MgtState) : (s.modMgt f).now = s.now := rfl
@[simp] theorem State.modMgt_cyc (s : State) (f : MgtState → MgtState) : (s.modMgt f).cyc = s.cyc := rfl
@[simp] theorem State.modMgt_free (s : State) (f : MgtState → MgtState) : (s.modMgt f).free = s.free := rfl
@[simp] theorem State.modMgt_reply (s : State) (f : MgtState → MgtState) : (s.modMgt f).reply = s.reply := rfl
@[simp] theorem State.modMgt_staged (s : State) (f : MgtState → MgtState) : (s.modMgt f).staged = s.staged := rfl
@[simp] theorem State.modMgt_hold (s : State) (f : MgtState → MgtState) : (s.modMgt f).hold = s.hold := rfl
@[simp] theorem State.modMgt_latch (s : State) (f : MgtState → MgtState) : (s.modMgt f).latch = s.latch := rfl
@[simp] theorem State.modMgt_evt (s : State) (f : MgtState → MgtState) : (s.modMgt f).evt = s.evt := rfl
@[simp] theorem State.modMgt_kpr (s : State) (f : MgtState → MgtState) : (s.modMgt f).kpr = s.kpr := rfl
@[simp] theorem State.modMgt_nextTick (s : State) (f : MgtState → MgtState) : (s.modMgt f).nextTick = s.nextTick := rfl
@[simp] theorem State.modMgt_tickAt (s : State) (f : MgtState → MgtState) : (s.modMgt f).tickAt = s.tickAt := rfl
@[simp] theorem State.modMgt_bnd (s : State) (f : MgtState → MgtState) : (s.modMgt f).bnd = s.bnd := rfl
@[simp] theorem State.modMgt_ref (s : State) (f : MgtState → MgtState) : (s.modMgt f).ref = s.ref := rfl
@[simp] theorem State.modMgt_dsc (s : State) (f : MgtState → MgtState) : (s.modMgt f).dsc = s.dsc := rfl
@[simp] theorem State.modMgt_syn (s : State) (f : MgtState → MgtState) : (s.modMgt f).syn = s.syn := rfl
@[simp] theorem State.modMgt_xdc (s : State) (f : MgtState → MgtState) : (s.modMgt f).xdc = s.xdc := rfl
@[simp] theorem State.modMgt_prt (s : State) (f : MgtState → MgtState) : (s.modMgt f).prt = s.prt := rfl
@[simp] theorem State.modMgt_trg (s : State) (f : MgtState → MgtState) : (s.modMgt f).trg = s.trg := rfl
@[simp] theorem State.modMgt_svc (s : State) (f : MgtState → MgtState) : (s.modMgt f).svc = s.svc := rfl
@[simp] theorem State.modMgt_ldr (s : State) (f : MgtState → MgtState) : (s.modMgt f).ldr = s.ldr := rfl
@[simp] theorem State.modMgt_key (s : State) (f : MgtState → MgtState) : (s.modMgt f).key = s.key := rfl
@[simp] theorem State.modMgt_mainOff (s : State) (f : MgtState → MgtState) : (s.modMgt f).mainOff = s.mainOff := rfl
@[simp] theorem State.modMgt_tic (s : State) (f : MgtState → MgtState) : (s.modMgt f).tic = s.tic := rfl
@[simp] theorem State.modMgt_gns (s : State) (f : MgtState → MgtState) : (s.modMgt f).gns = s.gns := rfl
@[simp] theorem State.modMgt_dst (s : State) (f : MgtState → MgtState) : (s.modMgt f).dst = s.dst := rfl
@[simp] theorem State.modMgt_par (s : State) (f : MgtState → MgtState) : (s.modMgt f).par = s.par := rfl
@[simp] theorem State.modMgt_mem (s : State) (f : MgtState → MgtState) : (s.modMgt f).mem = s.mem := rfl
@[simp] theorem State.modMgt_inj (s : State) (f : MgtState → MgtState) : (s.modMgt f).inj = s.inj := rfl
@[simp] theorem State.modMgt_age (s : State) (f : MgtState → MgtState) : (s.modMgt f).age = s.age := rfl
@[simp] theorem State.modMgt_mgt (s : State) (f : MgtState → MgtState) : (s.modMgt f).mgt = f s.mgt := rfl
@[simp] theorem State.modMgt_clr (s : State) (f : MgtState → MgtState) : (s.modMgt f).clr = s.clr := rfl
@[simp] theorem State.modMgt_boot (s : State) (f : MgtState → MgtState) : (s.modMgt f).boot = s.boot := rfl

/-! ### modClr -/

@[simp] theorem State.modClr_pending (s : State) (f : ClrState → ClrState) : (s.modClr f).pending = s.pending := rfl
@[simp] theorem State.modClr_regs (s : State) (f : ClrState → ClrState) : (s.modClr f).regs = s.regs := rfl
@[simp] theorem State.modClr_cnt (s : State) (f : ClrState → ClrState) : (s.modClr f).cnt = s.cnt := rfl
@[simp] theorem State.modClr_dram (s : State) (f : ClrState → ClrState) : (s.modClr f).dram = s.dram := rfl
@[simp] theorem State.modClr_now (s : State) (f : ClrState → ClrState) : (s.modClr f).now = s.now := rfl
@[simp] theorem State.modClr_cyc (s : State) (f : ClrState → ClrState) : (s.modClr f).cyc = s.cyc := rfl
@[simp] theorem State.modClr_free (s : State) (f : ClrState → ClrState) : (s.modClr f).free = s.free := rfl
@[simp] theorem State.modClr_reply (s : State) (f : ClrState → ClrState) : (s.modClr f).reply = s.reply := rfl
@[simp] theorem State.modClr_staged (s : State) (f : ClrState → ClrState) : (s.modClr f).staged = s.staged := rfl
@[simp] theorem State.modClr_hold (s : State) (f : ClrState → ClrState) : (s.modClr f).hold = s.hold := rfl
@[simp] theorem State.modClr_latch (s : State) (f : ClrState → ClrState) : (s.modClr f).latch = s.latch := rfl
@[simp] theorem State.modClr_evt (s : State) (f : ClrState → ClrState) : (s.modClr f).evt = s.evt := rfl
@[simp] theorem State.modClr_kpr (s : State) (f : ClrState → ClrState) : (s.modClr f).kpr = s.kpr := rfl
@[simp] theorem State.modClr_nextTick (s : State) (f : ClrState → ClrState) : (s.modClr f).nextTick = s.nextTick := rfl
@[simp] theorem State.modClr_tickAt (s : State) (f : ClrState → ClrState) : (s.modClr f).tickAt = s.tickAt := rfl
@[simp] theorem State.modClr_bnd (s : State) (f : ClrState → ClrState) : (s.modClr f).bnd = s.bnd := rfl
@[simp] theorem State.modClr_ref (s : State) (f : ClrState → ClrState) : (s.modClr f).ref = s.ref := rfl
@[simp] theorem State.modClr_dsc (s : State) (f : ClrState → ClrState) : (s.modClr f).dsc = s.dsc := rfl
@[simp] theorem State.modClr_syn (s : State) (f : ClrState → ClrState) : (s.modClr f).syn = s.syn := rfl
@[simp] theorem State.modClr_xdc (s : State) (f : ClrState → ClrState) : (s.modClr f).xdc = s.xdc := rfl
@[simp] theorem State.modClr_prt (s : State) (f : ClrState → ClrState) : (s.modClr f).prt = s.prt := rfl
@[simp] theorem State.modClr_trg (s : State) (f : ClrState → ClrState) : (s.modClr f).trg = s.trg := rfl
@[simp] theorem State.modClr_svc (s : State) (f : ClrState → ClrState) : (s.modClr f).svc = s.svc := rfl
@[simp] theorem State.modClr_ldr (s : State) (f : ClrState → ClrState) : (s.modClr f).ldr = s.ldr := rfl
@[simp] theorem State.modClr_key (s : State) (f : ClrState → ClrState) : (s.modClr f).key = s.key := rfl
@[simp] theorem State.modClr_mainOff (s : State) (f : ClrState → ClrState) : (s.modClr f).mainOff = s.mainOff := rfl
@[simp] theorem State.modClr_tic (s : State) (f : ClrState → ClrState) : (s.modClr f).tic = s.tic := rfl
@[simp] theorem State.modClr_gns (s : State) (f : ClrState → ClrState) : (s.modClr f).gns = s.gns := rfl
@[simp] theorem State.modClr_dst (s : State) (f : ClrState → ClrState) : (s.modClr f).dst = s.dst := rfl
@[simp] theorem State.modClr_par (s : State) (f : ClrState → ClrState) : (s.modClr f).par = s.par := rfl
@[simp] theorem State.modClr_mem (s : State) (f : ClrState → ClrState) : (s.modClr f).mem = s.mem := rfl
@[simp] theorem State.modClr_inj (s : State) (f : ClrState → ClrState) : (s.modClr f).inj = s.inj := rfl
@[simp] theorem State.modClr_age (s : State) (f : ClrState → ClrState) : (s.modClr f).age = s.age := rfl
@[simp] theorem State.modClr_mgt (s : State) (f : ClrState → ClrState) : (s.modClr f).mgt = s.mgt := rfl
@[simp] theorem State.modClr_clr (s : State) (f : ClrState → ClrState) : (s.modClr f).clr = f s.clr := rfl
@[simp] theorem State.modClr_boot (s : State) (f : ClrState → ClrState) : (s.modClr f).boot = s.boot := rfl

/-! ### modBoot -/

@[simp] theorem State.modBoot_pending (s : State) (f : BootState → BootState) : (s.modBoot f).pending = s.pending := rfl
@[simp] theorem State.modBoot_regs (s : State) (f : BootState → BootState) : (s.modBoot f).regs = s.regs := rfl
@[simp] theorem State.modBoot_cnt (s : State) (f : BootState → BootState) : (s.modBoot f).cnt = s.cnt := rfl
@[simp] theorem State.modBoot_dram (s : State) (f : BootState → BootState) : (s.modBoot f).dram = s.dram := rfl
@[simp] theorem State.modBoot_now (s : State) (f : BootState → BootState) : (s.modBoot f).now = s.now := rfl
@[simp] theorem State.modBoot_cyc (s : State) (f : BootState → BootState) : (s.modBoot f).cyc = s.cyc := rfl
@[simp] theorem State.modBoot_free (s : State) (f : BootState → BootState) : (s.modBoot f).free = s.free := rfl
@[simp] theorem State.modBoot_reply (s : State) (f : BootState → BootState) : (s.modBoot f).reply = s.reply := rfl
@[simp] theorem State.modBoot_staged (s : State) (f : BootState → BootState) : (s.modBoot f).staged = s.staged := rfl
@[simp] theorem State.modBoot_hold (s : State) (f : BootState → BootState) : (s.modBoot f).hold = s.hold := rfl
@[simp] theorem State.modBoot_latch (s : State) (f : BootState → BootState) : (s.modBoot f).latch = s.latch := rfl
@[simp] theorem State.modBoot_evt (s : State) (f : BootState → BootState) : (s.modBoot f).evt = s.evt := rfl
@[simp] theorem State.modBoot_kpr (s : State) (f : BootState → BootState) : (s.modBoot f).kpr = s.kpr := rfl
@[simp] theorem State.modBoot_nextTick (s : State) (f : BootState → BootState) : (s.modBoot f).nextTick = s.nextTick := rfl
@[simp] theorem State.modBoot_tickAt (s : State) (f : BootState → BootState) : (s.modBoot f).tickAt = s.tickAt := rfl
@[simp] theorem State.modBoot_bnd (s : State) (f : BootState → BootState) : (s.modBoot f).bnd = s.bnd := rfl
@[simp] theorem State.modBoot_ref (s : State) (f : BootState → BootState) : (s.modBoot f).ref = s.ref := rfl
@[simp] theorem State.modBoot_dsc (s : State) (f : BootState → BootState) : (s.modBoot f).dsc = s.dsc := rfl
@[simp] theorem State.modBoot_syn (s : State) (f : BootState → BootState) : (s.modBoot f).syn = s.syn := rfl
@[simp] theorem State.modBoot_xdc (s : State) (f : BootState → BootState) : (s.modBoot f).xdc = s.xdc := rfl
@[simp] theorem State.modBoot_prt (s : State) (f : BootState → BootState) : (s.modBoot f).prt = s.prt := rfl
@[simp] theorem State.modBoot_trg (s : State) (f : BootState → BootState) : (s.modBoot f).trg = s.trg := rfl
@[simp] theorem State.modBoot_svc (s : State) (f : BootState → BootState) : (s.modBoot f).svc = s.svc := rfl
@[simp] theorem State.modBoot_ldr (s : State) (f : BootState → BootState) : (s.modBoot f).ldr = s.ldr := rfl
@[simp] theorem State.modBoot_key (s : State) (f : BootState → BootState) : (s.modBoot f).key = s.key := rfl
@[simp] theorem State.modBoot_mainOff (s : State) (f : BootState → BootState) : (s.modBoot f).mainOff = s.mainOff := rfl
@[simp] theorem State.modBoot_tic (s : State) (f : BootState → BootState) : (s.modBoot f).tic = s.tic := rfl
@[simp] theorem State.modBoot_gns (s : State) (f : BootState → BootState) : (s.modBoot f).gns = s.gns := rfl
@[simp] theorem State.modBoot_dst (s : State) (f : BootState → BootState) : (s.modBoot f).dst = s.dst := rfl
@[simp] theorem State.modBoot_par (s : State) (f : BootState → BootState) : (s.modBoot f).par = s.par := rfl
@[simp] theorem State.modBoot_mem (s : State) (f : BootState → BootState) : (s.modBoot f).mem = s.mem := rfl
@[simp] theorem State.modBoot_inj (s : State) (f : BootState → BootState) : (s.modBoot f).inj = s.inj := rfl
@[simp] theorem State.modBoot_age (s : State) (f : BootState → BootState) : (s.modBoot f).age = s.age := rfl
@[simp] theorem State.modBoot_mgt (s : State) (f : BootState → BootState) : (s.modBoot f).mgt = s.mgt := rfl
@[simp] theorem State.modBoot_clr (s : State) (f : BootState → BootState) : (s.modBoot f).clr = s.clr := rfl
@[simp] theorem State.modBoot_boot (s : State) (f : BootState → BootState) : (s.modBoot f).boot = f s.boot := rfl

end Sys2Proof.Machine
end

