-- ==== Sys2Proof/Laws/Regs.lean ====
section
/-!
SUPPORT. What the shared operations over registers, counters, DRAM, results and events do: a read after a write, what a
write leaves alone, and that each keeps the canonical form.
-/
namespace Sys2Proof.Machine

open Sys2Proof

/-! ### Words and their fields -/

theorem bitsOf_lt (w : Word) (hi lo : Nat) : bitsOf w hi lo < 2 ^ (hi + 1 - lo) := Nat.mod_lt _ (Nat.two_pow_pos _)

/-- A word is what lies below, in and above a field. -/
theorem word_split (n lo k : Nat) : n = n % 2 ^ lo + n / 2 ^ lo % 2 ^ k * 2 ^ lo + n / 2 ^ (lo + k) * 2 ^ (lo + k) := by
  have h1 := Nat.mod_add_div n (2 ^ lo)
  have h2 := Nat.mod_add_div (n / 2 ^ lo) (2 ^ k)
  rw [Nat.div_div_eq_div_mul, ← Nat.pow_add] at h2
  have h3 : n / 2 ^ lo * 2 ^ lo = (n / 2 ^ lo % 2 ^ k + 2 ^ k * (n / 2 ^ (lo + k))) * 2 ^ lo := by rw [h2]
  rw [Nat.add_mul] at h3
  have h4 : 2 ^ k * (n / 2 ^ (lo + k)) * 2 ^ lo = n / 2 ^ (lo + k) * 2 ^ (lo + k) := by rw [Nat.pow_add]; ac_rfl
  rw [h4] at h3
  rw [Nat.mul_comm] at h1
  omega

/-- The number of a word with a field replaced. -/
theorem withBits_toNat (w : Word) (hi lo v : Nat) (h : lo ≤ hi) (h32 : hi < 32) :
    (withBits w hi lo v).toNat = w.toNat % 2 ^ lo + v % 2 ^ (hi + 1 - lo) * 2 ^ lo + w.toNat / 2 ^ (hi + 1) * 2 ^ (hi + 1) := by
  have hs := word_split w.toNat lo (hi + 1 - lo)
  rw [show lo + (hi + 1 - lo) = hi + 1 by omega] at hs
  have hw := w.isLt
  have hv : v % 2 ^ (hi + 1 - lo) * 2 ^ lo ≤ 2 ^ (hi + 1) - 2 ^ lo := by
    have : v % 2 ^ (hi + 1 - lo) ≤ 2 ^ (hi + 1 - lo) - 1 := by have := Nat.mod_lt v (Nat.two_pow_pos (hi + 1 - lo)); omega
    calc _ ≤ (2 ^ (hi + 1 - lo) - 1) * 2 ^ lo := Nat.mul_le_mul_right _ this
      _ = _ := by rw [Nat.sub_mul, ← Nat.pow_add, Nat.one_mul, show hi + 1 - lo + lo = hi + 1 by omega]
  have hl : w.toNat % 2 ^ lo < 2 ^ lo := Nat.mod_lt _ (Nat.two_pow_pos _)
  have hp : 2 ^ lo ≤ 2 ^ (hi + 1) := Nat.pow_le_pow_right (by omega) (by omega)
  have hq : w.toNat / 2 ^ (hi + 1) * 2 ^ (hi + 1) + 2 ^ (hi + 1) ≤ 2 ^ 32 := by
    have : w.toNat / 2 ^ (hi + 1) < 2 ^ (32 - (hi + 1)) := by
      rw [Nat.div_lt_iff_lt_mul (Nat.two_pow_pos _), ← Nat.pow_add, show 32 - (hi + 1) + (hi + 1) = 32 by omega]; exact hw
    calc _ = (w.toNat / 2 ^ (hi + 1) + 1) * 2 ^ (hi + 1) := by rw [Nat.add_mul, Nat.one_mul]
      _ ≤ 2 ^ (32 - (hi + 1)) * 2 ^ (hi + 1) := Nat.mul_le_mul_right _ this
      _ = _ := by rw [← Nat.pow_add, show 32 - (hi + 1) + (hi + 1) = 32 by omega]
  unfold withBits bitsOf
  rw [BitVec.toNat_ofNat, Nat.mod_eq_of_lt] <;> omega

/-- A field replaced reads as the low bits of the value. -/
theorem bitsOf_withBits (w : Word) (hi lo v : Nat) (h : lo ≤ hi) (h32 : hi < 32) :
    bitsOf (withBits w hi lo v) hi lo = v % 2 ^ (hi + 1 - lo) := by
  unfold bitsOf
  rw [withBits_toNat w hi lo v h h32]
  have hp : 2 ^ (hi + 1) = 2 ^ (hi + 1 - lo) * 2 ^ lo := by rw [← Nat.pow_add, show hi + 1 - lo + lo = hi + 1 by omega]
  have e : w.toNat % 2 ^ lo + v % 2 ^ (hi + 1 - lo) * 2 ^ lo + w.toNat / 2 ^ (hi + 1) * 2 ^ (hi + 1)
      = w.toNat % 2 ^ lo + (v % 2 ^ (hi + 1 - lo) + w.toNat / 2 ^ (hi + 1) * 2 ^ (hi + 1 - lo)) * 2 ^ lo := by
    rw [Nat.add_mul, Nat.mul_assoc, ← hp]; omega
  rw [e, Nat.add_mul_div_right _ _ (Nat.two_pow_pos _), Nat.div_eq_of_lt (Nat.mod_lt _ (Nat.two_pow_pos _)), Nat.zero_add,
    Nat.add_mul_mod_self_right, Nat.mod_mod]

/-- A field below a replaced one stands. -/
theorem bitsOf_withBits_below (w : Word) (hi lo v hi' lo' : Nat) (h : lo ≤ hi) (h32 : hi < 32) (hb : hi' < lo) (hl : lo' ≤ hi') :
    bitsOf (withBits w hi lo v) hi' lo' = bitsOf w hi' lo' := by
  have key (n : Nat) : n / 2 ^ lo' % 2 ^ (hi' + 1 - lo') = n % 2 ^ lo / 2 ^ lo' % 2 ^ (hi' + 1 - lo') := by
    have e : (2 : Nat) ^ lo = 2 ^ lo' * 2 ^ (lo - lo') := by rw [← Nat.pow_add, show lo' + (lo - lo') = lo by omega]
    rw [e, Nat.mod_mul_right_div_self, Nat.mod_mod_of_dvd]
    exact Nat.pow_dvd_pow 2 (by omega)
  unfold bitsOf
  rw [key, key w.toNat, withBits_toNat w hi lo v h h32]
  congr 2
  rw [show (2 : Nat) ^ (hi + 1) = 2 ^ (hi + 1 - lo) * 2 ^ lo by rw [← Nat.pow_add, show hi + 1 - lo + lo = hi + 1 by omega],
    ← Nat.mul_assoc, Nat.add_mul_mod_self_right, Nat.add_mul_mod_self_right, Nat.mod_mod]

/-- A field above a replaced one stands. -/
theorem bitsOf_withBits_above (w : Word) (hi lo v hi' lo' : Nat) (h : lo ≤ hi) (h32 : hi < 32) (ha : hi < lo') :
    bitsOf (withBits w hi lo v) hi' lo' = bitsOf w hi' lo' := by
  have key (n : Nat) : n / 2 ^ lo' = n / 2 ^ (hi + 1) / 2 ^ (lo' - (hi + 1)) := by
    rw [Nat.div_div_eq_div_mul, ← Nat.pow_add, show hi + 1 + (lo' - (hi + 1)) = lo' by omega]
  unfold bitsOf
  rw [key, key w.toNat, withBits_toNat w hi lo v h h32]
  congr 2
  have hp : (2 : Nat) ^ (hi + 1) = 2 ^ (hi + 1 - lo) * 2 ^ lo := by rw [← Nat.pow_add, show hi + 1 - lo + lo = hi + 1 by omega]
  have hlt : w.toNat % 2 ^ lo + v % 2 ^ (hi + 1 - lo) * 2 ^ lo < 2 ^ (hi + 1) := by
    have h1 : w.toNat % 2 ^ lo < 2 ^ lo := Nat.mod_lt _ (Nat.two_pow_pos _)
    have h2 : v % 2 ^ (hi + 1 - lo) + 1 ≤ 2 ^ (hi + 1 - lo) := Nat.mod_lt v (Nat.two_pow_pos _)
    calc _ < 2 ^ lo + v % 2 ^ (hi + 1 - lo) * 2 ^ lo := by omega
      _ = (v % 2 ^ (hi + 1 - lo) + 1) * 2 ^ lo := by rw [Nat.add_mul, Nat.one_mul, Nat.add_comm]
      _ ≤ 2 ^ (hi + 1 - lo) * 2 ^ lo := Nat.mul_le_mul_right _ h2
      _ = _ := hp.symm
  rw [Nat.add_mul_div_right _ _ (Nat.two_pow_pos _), Nat.div_eq_of_lt hlt, Nat.zero_add]

/-! ### Registers -/

theorem reg_setReg_same (s : State) (a : Nat) (w : Word) (h : spWf resetWord s.regs = true) : (s.setReg a w).reg a = w :=
  spGet_spSet_same resetWord s.regs a w h

theorem reg_setReg_other (s : State) (a x : Nat) (w : Word) (hx : x ≠ a) (h : spWf resetWord s.regs = true) :
    (s.setReg a w).reg x = s.reg x := spGet_spSet_other resetWord s.regs a x w hx h

theorem setReg_wf (s : State) (a : Nat) (w : Word) (h : spWf resetWord s.regs = true) : spWf resetWord (s.setReg a w).regs = true :=
  spWf_spSet resetWord s.regs a w h

/-- A field written reads as the low bits of what was written. -/
theorem get_put_same (s : State) (f : Fld) (v : Nat) (h : f.lo ≤ f.hi) (h32 : f.hi < 32) (hw : spWf resetWord s.regs = true) :
    (s.put f v).get f = v % 2 ^ (f.hi + 1 - f.lo) := by
  unfold State.get State.put
  rw [reg_setReg_same _ _ _ hw]; exact bitsOf_withBits _ _ _ _ h h32

/-- A field of another register stands. -/
theorem get_put_addr (s : State) (f g : Fld) (v : Nat) (ha : g.addr ≠ f.addr) (hw : spWf resetWord s.regs = true) :
    (s.put f v).get g = s.get g := by
  unfold State.get State.put
  rw [reg_setReg_other _ _ _ _ ha hw]

/-- A field of the same register below or above the one written stands. -/
theorem get_put_apart (s : State) (f g : Fld) (v : Nat) (h : f.lo ≤ f.hi) (h32 : f.hi < 32) (hg : g.lo ≤ g.hi)
    (hd : g.hi < f.lo ∨ f.hi < g.lo) (hw : spWf resetWord s.regs = true) : (s.put f v).get g = s.get g := by
  unfold State.get State.put
  by_cases ha : g.addr = f.addr
  · rw [ha, reg_setReg_same _ _ _ hw]
    rcases hd with hd | hd
    · exact bitsOf_withBits_below _ _ _ _ _ _ h h32 hd hg
    · exact bitsOf_withBits_above _ _ _ _ _ _ h h32 hd
  · rw [reg_setReg_other _ _ _ _ ha hw]

theorem put_wf (s : State) (f : Fld) (v : Nat) (h : spWf resetWord s.regs = true) : spWf resetWord (s.put f v).regs = true :=
  setReg_wf s _ _ h

theorem putWide_wf (s : State) (a n v : Nat) (h : spWf resetWord s.regs = true) : spWf resetWord (s.putWide a n v).regs = true := by
  induction n with
  | zero => exact h
  | succ n ih => exact setReg_wf _ _ _ ih

/-! ### Results (R11) -/

/-- Posting changes registers only. -/
theorem post_wf (s : State) (a p : Nat) (h : spWf resetWord s.regs = true) : spWf resetWord (s.post a p).regs = true := setReg_wf s _ _ h

/-- The word of a posted result: VALID, and SEQ one higher modulo 256. -/
theorem reg_post (s : State) (a p : Nat) (h : spWf resetWord s.regs = true) : (s.post a p).reg a = rsWord (s.rsSeq a + 1) p :=
  reg_setReg_same s a _ h

/-! ### Counters and DRAM -/

theorem count_countUp_same (s : State) (a n width : Nat) (h : spWf (fun _ => 0) s.cnt = true) :
    (s.countUp a n width).count a = (s.count a + n) % 2 ^ width := spGet_spSet_same _ s.cnt a _ h

theorem count_countUp_other (s : State) (a x n width : Nat) (hx : x ≠ a) (h : spWf (fun _ => 0) s.cnt = true) :
    (s.countUp a n width).count x = s.count x := spGet_spSet_other _ s.cnt a x _ hx h

theorem cell_setCell_same (s : State) (a : Nat) (b : Byte) (h : Memory.wf s.dram = true) : (s.setCell a b).cell a = b :=
  spGet_spSet_same _ s.dram a b h

theorem cell_setCell_other (s : State) (a x : Nat) (b : Byte) (hx : x ≠ a) (h : Memory.wf s.dram = true) :
    (s.setCell a b).cell x = s.cell x := spGet_spSet_other _ s.dram a x b hx h

/-! ### The canonical form is kept -/

theorem setReg_canon {s : State} (h : s.Canon) (a : Nat) (w : Word) : (s.setReg a w).Canon :=
  ⟨spWf_spSet _ _ a w h.regs, h.cnt, h.dram, h.chk⟩

theorem put_canon {s : State} (h : s.Canon) (f : Fld) (v : Nat) : (s.put f v).Canon := setReg_canon h _ _
theorem putB_canon {s : State} (h : s.Canon) (f : Fld) (b : Bool) : (s.putB f b).Canon := put_canon h _ _
theorem putBit_canon {s : State} (h : s.Canon) (f : Fld) (i : Nat) (b : Bool) : (s.putBit f i b).Canon := put_canon h _ _
theorem putI_canon {s : State} (h : s.Canon) (f : Fld) (v : Int) : (s.putI f v).Canon := put_canon h _ _
theorem incr_canon {s : State} (h : s.Canon) (f : Fld) (n : Nat) : (s.incr f n).Canon := put_canon h _ _
theorem incrSat_canon {s : State} (h : s.Canon) (f : Fld) (n : Nat) : (s.incrSat f n).Canon := put_canon h _ _
theorem post_canon {s : State} (h : s.Canon) (a p : Nat) : (s.post a p).Canon := setReg_canon h _ _
theorem unpost_canon {s : State} (h : s.Canon) (a : Nat) : (s.unpost a).Canon := setReg_canon h _ _

theorem putWide_canon {s : State} (h : s.Canon) (a n v : Nat) : (s.putWide a n v).Canon := by
  induction n with
  | zero => exact h
  | succ n ih => exact setReg_canon ih _ _

theorem putWideI_canon {s : State} (h : s.Canon) (a n : Nat) (v : Int) : (s.putWideI a n v).Canon := putWide_canon h _ _ _

theorem countUp_canon {s : State} (h : s.Canon) (a n width : Nat) : (s.countUp a n width).Canon :=
  ⟨h.regs, spWf_spSet _ _ _ _ h.cnt, h.dram, h.chk⟩

theorem setCell_canon {s : State} (h : s.Canon) (a : Nat) (b : Byte) : (s.setCell a b).Canon :=
  ⟨h.regs, h.cnt, spWf_spSet _ _ _ _ h.dram, h.chk⟩

theorem setChk_canon {s : State} (h : s.Canon) (w : Nat) (c : Chk) : (s.setChk w c).Canon :=
  ⟨h.regs, h.cnt, h.dram, spWf_spSet _ _ _ _ h.chk⟩

/-- A fold of updates that each keep the canonical form keeps it. -/
theorem foldl_canon {α : Type} (f : State → α → State) (hf : ∀ s a, s.Canon → (f s a).Canon) (l : List α) {s : State} (h : s.Canon) :
    (l.foldl f s).Canon := by
  induction l generalizing s with
  | nil => exact h
  | cons a l ih => exact ih (hf s a h)

theorem setWord_canon {s : State} (h : s.Canon) (w d : Nat) (c : Chk) : (s.setWord w d c).Canon :=
  setChk_canon (foldl_canon _ (fun _ _ h => setCell_canon h _ _) _ h) _ _

theorem openRaw_canon {s : State} (h : s.Canon) (w : Nat) (whole : Bool) (d : Decoded) : (s.openRaw w whole d).Canon := by
  unfold State.openRaw
  split
  · exact setWord_canon h _ _ _
  · exact setWord_canon h _ _ _
  · split
    · exact setChk_canon h _ _
    · exact h

theorem openWord_canon {s : State} (h : s.Canon) (w : Nat) (whole : Bool) : (s.openWord w whole).Canon := by
  unfold State.openWord
  split
  · exact h
  · exact setChk_canon h _ _
  · exact openRaw_canon h _ _ _

theorem setByte_canon {s : State} (h : s.Canon) (a : Nat) (b : Byte) : (s.setByte a b).Canon := by
  unfold State.setByte
  dsimp only
  split
  · exact openWord_canon h _ _
  · exact setCell_canon (openWord_canon h _ _) _ _

theorem putBytes_canon (l : List Byte) : ∀ {s : State}, s.Canon → ∀ a, (s.putBytes a l).Canon := by
  induction l with
  | nil => exact fun h _ => h
  | cons b bs ih => exact fun h a => ih (setByte_canon h a b) (a + 1)

/-- Every write of DRAM keeps the canonical form. -/
theorem writeBytes_canon {s : State} (h : s.Canon) (a : Nat) (l : List Byte) : (s.writeBytes a l).Canon := by
  refine putBytes_canon l (foldl_canon _ (fun s i h => ?_) _ h) a
  split
  · exact openWord_canon h _ _
  · exact h

/-! ### Events (R34, R458) -/

/-- Raising an event appends a record, or counts a loss; the canonical form is kept. -/
theorem raise_canon {s : State} (h : s.Canon) (e i d : Nat) : (s.raise e i d).Canon := by
  unfold State.raise
  split
  · exact ⟨h.regs, h.cnt, h.dram, h.chk⟩
  · exact incr_canon (s := s.modEvt _) ⟨h.regs, h.cnt, h.dram, h.chk⟩ _ _

/-- With room in the block's queue, the record is the last and nothing else changes. -/
theorem raise_room (s : State) (e i d : Nat) (hr : s.evtWaiting (evtBlock e) < evtQueueDepth) (hi : s.injOn 0x01 (evtBlock e) = false) :
    s.raise e i d = { s with evt := { s.evt with q := s.evt.q ++ [⟨s.cyc, s.now, e, i, d % 2 ^ 32⟩] } } := by
  unfold State.raise
  rw [if_pos ⟨hr, by simp [hi]⟩]; rfl

end Sys2Proof.Machine
end

