-- ==== Sys2Proof/WellFormed.lean ====
section
/-!
DEFINITION. Well-formed commands: the operands whose size the rules fix have that size. Bounds on numbers are in the types
of the operands (Syntax.lean).
-/
namespace Sys2Proof

/-- A KEY command carries KEY_ARG0 to 7, eight words (R326). -/
def keyArgsOk (a : KeyArgs) : Bool := match a.words with
  | some l => l.length == 8
  | none => true

/-- Access sizes of R8; ToD frames of 24 bytes (R104); eight PFC quanta (R213); 64-byte records (R269); four argument words of a crypto operation (R270);
two bands' LEVEL and sample clocks, three clocks and three coordinates (R366, R371); four cookie families (R314); SPI transactions of at least one word (R452). -/
def Instr.wellFormed : Instr → Bool
  | .tickBoundary .. => true
  | .registerWrite _ _ size _ => size == 1 || size == 2 || size == 4 || size == 8
  | .kt96ValueComplete .. => true
  | .wideValueLatch .. => true
  | .eventAccept => true
  | .logSpill => true
  | .evtPop => true
  | .evtLogRdWrite .. => true
  | .vote .. => true
  | .keepersStart .. => true
  | .keeperSeed .. => true
  | .keeperRemove .. => true
  | .keeperRejoinCmd .. => true
  | .snapshotTake => true
  | .snapshotComplete => true
  | .leapArm .. => true
  | .leapCancel => true
  | .leapApply => true
  | .leapWindowOpen => true
  | .realignCommand .. => true
  | .realignApply .. => true
  | .votedSecondMarker .. => true
  | .boundRequest .. => true
  | .bndQueryGo .. => true
  | .asymWrite .. => true
  | .sampleTimeout .. => true
  | .bndTracePop => true
  | .todFrame _ frame _ => frame.length == 24
  | .todStale .. => true
  | .ppsEdgeTimeout .. => true
  | .packetExchange .. => true
  | .announceTimeout .. => true
  | .packetLos .. => true
  | .esmcPdu .. => true
  | .esmcTimeout .. => true
  | .qualificationComplete .. => true
  | .wtrComplete .. => true
  | .disputeClear .. => true
  | .switchCommit => true
  | .refForce .. => true
  | .refLockout .. => true
  | .refUnlock .. => true
  | .refClearForce => true
  | .refForceHoldover => true
  | .refClearHoldover => true
  | .refCmdInvalidOp .. => true
  | .oscWordWrite .. => true
  | .oscWordResult .. => true
  | .tempSensorRead .. => true
  | .tempReadResult .. => true
  | .trimTransfer => true
  | .dscFreqLock => true
  | .dscPhaseLock => true
  | .modelCommit .. => true
  | .witnessCommit => true
  | .witnessStale => true
  | .loopLock .. => true
  | .loopAcquireTimeout .. => true
  | .loopSettleDone .. => true
  | .loopLossOfLock .. => true
  | .loopLossOfReference .. => true
  | .loopReferenceReturn .. => true
  | .ppsCfgWrite .. => true
  | .ppsOfsWrite .. => true
  | .clkoutCtlWrite .. => true
  | .clkoutOfsWrite .. => true
  | .domainStopped .. => true
  | .domainRunning .. => true
  | .sampleStall .. => true
  | .resetHandshakeRequest .. => true
  | .resetHandshakeAck .. => true
  | .resetHandshakeOpen .. => true
  | .compatWakeRequest .. => true
  | .mergeClear => true
  | .mergeClearAll => true
  | .rxFrame .. => true
  | .pauseFrame .. => true
  | .pfcFrame _ _ quanta _ => quanta.length == 8
  | .pauseAction .. => true
  | .pfcAction .. => true
  | .pauseEnd .. => true
  | .pauseLong .. => true
  | .linkBlockLock .. => true
  | .linkHoldExpiry .. => true
  | .linkFault .. => true
  | .autonegResult .. => true
  | .portReset .. => true
  | .portCntSnap .. => true
  | .txFrameSubmit .. => true
  | .txFrameStart .. => true
  | .txFrameDone .. => true
  | .txUnderrun .. => true
  | .launchReservation .. => true
  | .pinnedArmed .. => true
  | .deadlineMissed .. => true
  | .pinnedCancel .. => true
  | .pinnedLaunch .. => true
  | .pinnedCommit .. => true
  | .trgPush .. => true
  | .trgCancelAll .. => true
  | .trgFire .. => true
  | .requestAdmit .. => true
  | .clientLookup .. => true
  | .ledgerPop .. => true
  | .notePop .. => true
  | .recFetch .. => true
  | .recFetchLarder .. => true
  | .recStage _ _ data => data.length == 64
  | .recResPop .. => true
  | .cookieOpen _ _ args => args.length == 4
  | .sivVerify _ _ args => args.length == 4
  | .hmacVerify _ _ args => args.length == 4
  | .cryptoResult .. => true
  | .cryptoResPop .. => true
  | .launchPush .. => true
  | .launchResPop .. => true
  | .sealPush .. => true
  | .sealDone .. => true
  | .sealResPop .. => true
  | .submitPush .. => true
  | .withdrawPush .. => true
  | .entryCommit .. => true
  | .entrySquash .. => true
  | .useLimitExpiry .. => true
  | .engineFault .. => true
  | .engineWatchdog .. => true
  | .engineRestarted .. => true
  | .engineReset .. => true
  | .engineOnline .. => true
  | .svcCntSnap => true
  | .svcJnlPop => true
  | .announceSend .. => true
  | .syncSend .. => true
  | .larderWriteThrough .. => true
  | .recordAgeOut .. => true
  | .grantExpire .. => true
  | .pantryRebuildDone .. => true
  | .ldrReady .. => true
  | .ldrFind => true
  | .ldrSet => true
  | .ldrCntSnap => true
  | .keyGenerate a => keyArgsOk a
  | .keyImport a => keyArgsOk a
  | .keyImportLocal a => keyArgsOk a
  | .keyErase a => keyArgsOk a
  | .keyCommit a => keyArgsOk a
  | .keyAbort a => keyArgsOk a
  | .keyDerive a => keyArgsOk a
  | .keyInvalidate a => keyArgsOk a
  | .keySetSucc a => keyArgsOk a
  | .keyFree a => keyArgsOk a
  | .cookieRoll a => keyArgsOk a
  | .tamperDisarm a => keyArgsOk a
  | .keyExpiry .. => true
  | .keyTagCheck => true
  | .keyCntSnap => true
  | .keySlotSelWrite .. => true
  | .tamperTrigger .. => true
  | .tamperCfgWrite .. => true
  | .rngHealthFail .. => true
  | .rngRecover => true
  | .drbgReseed => true
  | .ticEdge .. => true
  | .pipWrite .. => true
  | .intervalJudge .. => true
  | .freqGateEnd .. => true
  | .interpCalDone .. => true
  | .recalTimer .. => true
  | .recal .. => true
  | .recalAll => true
  | .exportFrameClose => true
  | .flowMessage => true
  | .xoffTimeout => true
  | .ringRdWrite .. => true
  | .ticFqPop => true
  | .gnssEpoch e => e.levels.length == 2 && e.fs.length == 2 && e.sol.clocks.length == 3 && e.sol.pos.length == 3
  | .gnssPpsEdge .. => true
  | .channelAssign .. => true
  | .cellDetected .. => true
  | .searchExhausted .. => true
  | .pullInLock .. => true
  | .pullInTimeout .. => true
  | .trackLoss .. => true
  | .reacquired .. => true
  | .lostTimeout .. => true
  | .loopProcessorFault .. => true
  | .gnssSleep => true
  | .gnssWake .. => true
  | .gnssCold .. => true
  | .resurvey => true
  | .dutySleep => true
  | .dutyWake .. => true
  | .bandWakeComplete .. => true
  | .bandWakeTimeout .. => true
  | .linkSyncSend .. => true
  | .triggerForwardTimeout .. => true
  | .linkSyncRx .. => true
  | .linkDelayReqSend .. => true
  | .linkDelayReqRx .. => true
  | .linkPdelayReqRx .. => true
  | .linkDelayRespRx .. => true
  | .linkTempRead .. => true
  | .linkSilence .. => true
  | .triggerForwardSend => true
  | .helloSend => true
  | .helloRx .. => true
  | .discoverTimeout .. => true
  | .vintageBoundary .. => true
  | .pairExchRx .. => true
  | .vintageDrained => true
  | .vintageRecordsRx => true
  | .vintageSealRx _ st => st.gens.length == 4
  | .vintageAckRx => true
  | .vintageAckTimeout => true
  | .recordInsertDone => true
  | .copyStale => true
  | .peerPpsEdge .. => true
  | .peerPpsLost => true
  | .pairResign .. => true
  | .resignRelease => true
  | .resignFrameRx => true
  | .pairTakeoverCmd .. => true
  | .pairResync .. => true
  | .arbHoldExpiry .. => true
  | .scrubRead .. => true
  | .dramFillDone .. => true
  | .dramRetrain .. => true
  | .retrainDone .. => true
  | .rawRead .. => true
  | .rawWrite .. => true
  | .fullStart => true
  | .headersRead .. => true
  | .copyVerify .. => true
  | .corePairFault .. => true
  | .watchdogExpiry => true
  | .watchdogKick => true
  | .twivonMessage .. => true
  | .twivonRead .. => true
  | .twivonWrite .. => true
  | .twivonClear .. => true
  | .flashErase .. => true
  | .flashEraseDone => true
  | .flashWrite .. => true
  | .flashRead .. => true
  | .rollbackBurn .. => true
  | .twivonRestart => true
  | .spiRead _ n => n != 0
  | .spiWrite _ vals => !vals.isEmpty
  | .spiStatus => true
  | .uartTxWrite .. => true
  | .uartRxByte .. => true
  | .uartRxPop => true
  | .cellarEnter .. => true
  | .drainComplete => true
  | .drainTimeout => true
  | .snapshotSaved => true
  | .wakeNAssert => true
  | .wakeTimerExpiry => true
  | .wakeComplete .. => true
  | .clrCntSnap => true
  | .resetNAssert => true
  | .pwrgoodFall => true
  | .vauxFall => true
  | .vauxRise => true
  | .vbatLow => true
  | .pathDelayMonitor .. => true
  | .eqHoursUpdate => true
  | .marginPlan => true
  | .avsStep .. => true
  | .injArm .. => true
  | .injDisarm .. => true
  | .injDisarmAll .. => true
  | .injFire .. => true
  | .injEnd .. => true
  | .packetAnnounceRx .. => true
  | .vauxOutOfRange => true
  | .vauxInRange => true
  | .vbatRestored => true
  | .uartTxByteSent => true

end Sys2Proof
end

