-- ==== Sys2Proof/Tests/Slice0.lean ====
section
/-!
SUPPORT. The tests: an ill-formed command for each check of WellFormed; values that the manual's worked examples and the
standards give; and for the statements a witness of each clause's hypotheses, on small states built from one running device.
-/
namespace Sys2Proof.Tests

set_option maxRecDepth 100000
set_option Elab.async false
set_option linter.unusedVariables false

open Sys2Proof Sys2Proof.Machine Sys2Proof.Laws Sys2Proof.Claims

/-! ### Ill-formed commands are refused by WellFormed -/

theorem test_illFormed_registerWrite_size : Instr.wellFormed (.registerWrite .mgt 0 3 0) = false := by decide +kernel
theorem test_illFormed_todFrame_length : Instr.wellFormed (.todFrame 0 [] 0) = false := by decide +kernel
theorem test_illFormed_pfcFrame_quanta : Instr.wellFormed (.pfcFrame 0 0 [1, 2] 0) = false := by decide +kernel
theorem test_illFormed_recStage_length : Instr.wellFormed (.recStage 0 0 [1]) = false := by decide +kernel
theorem test_illFormed_cookieOpen_args : Instr.wellFormed (.cookieOpen 0 0 [1, 2, 3]) = false := by decide +kernel
theorem test_illFormed_sivVerify_args : Instr.wellFormed (.sivVerify 0 0 []) = false := by decide +kernel
theorem test_illFormed_hmacVerify_args : Instr.wellFormed (.hmacVerify 0 0 [1, 2, 3, 4, 5]) = false := by decide +kernel
theorem test_illFormed_keyGenerate_words : Instr.wellFormed (.keyGenerate ⟨.twivon, some [1, 2]⟩) = false := by decide +kernel
theorem test_illFormed_keyImport_words : Instr.wellFormed (.keyImport ⟨.twivon, some [1, 2]⟩) = false := by decide +kernel
theorem test_illFormed_keyImportLocal_words : Instr.wellFormed (.keyImportLocal ⟨.twivon, some [1, 2]⟩) = false := by decide +kernel
theorem test_illFormed_keyErase_words : Instr.wellFormed (.keyErase ⟨.twivon, some [1, 2]⟩) = false := by decide +kernel
theorem test_illFormed_keyCommit_words : Instr.wellFormed (.keyCommit ⟨.twivon, some [1, 2]⟩) = false := by decide +kernel
theorem test_illFormed_keyAbort_words : Instr.wellFormed (.keyAbort ⟨.twivon, some [1, 2]⟩) = false := by decide +kernel
theorem test_illFormed_keyDerive_words : Instr.wellFormed (.keyDerive ⟨.twivon, some [1, 2]⟩) = false := by decide +kernel
theorem test_illFormed_keyInvalidate_words : Instr.wellFormed (.keyInvalidate ⟨.twivon, some [1, 2]⟩) = false := by decide +kernel
theorem test_illFormed_keySetSucc_words : Instr.wellFormed (.keySetSucc ⟨.twivon, some [1, 2]⟩) = false := by decide +kernel
theorem test_illFormed_keyFree_words : Instr.wellFormed (.keyFree ⟨.twivon, some [1, 2]⟩) = false := by decide +kernel
theorem test_illFormed_cookieRoll_words : Instr.wellFormed (.cookieRoll ⟨.twivon, some [1, 2]⟩) = false := by decide +kernel
theorem test_illFormed_tamperDisarm_words : Instr.wellFormed (.tamperDisarm ⟨.twivon, some [1, 2]⟩) = false := by decide +kernel
theorem test_illFormed_spiRead_empty : Instr.wellFormed (.spiRead 0 0) = false := by decide +kernel
theorem test_illFormed_spiWrite_empty : Instr.wellFormed (.spiWrite 0 []) = false := by decide +kernel
theorem test_illFormed_gnssEpoch_levels : ∃ e : Epoch, Instr.wellFormed (.gnssEpoch e) = false := ⟨⟨0, [1], [0, 0], [], [], ⟨[], 0, 0, 0, 0, [], [], true⟩, none⟩, by decide +kernel⟩
theorem test_illFormed_gnssEpoch_fs : ∃ e : Epoch, Instr.wellFormed (.gnssEpoch e) = false := ⟨⟨0, [1, 2], [0], [], [], ⟨[0, 0, 0], 0, 0, 0, 0, [0, 0, 0], [], true⟩, none⟩, by decide +kernel⟩
theorem test_illFormed_gnssEpoch_clocks : ∃ e : Epoch, Instr.wellFormed (.gnssEpoch e) = false := ⟨⟨0, [1, 2], [0, 0], [], [], ⟨[0, 0], 0, 0, 0, 0, [0, 0, 0], [], true⟩, none⟩, by decide +kernel⟩
theorem test_illFormed_gnssEpoch_pos : ∃ e : Epoch, Instr.wellFormed (.gnssEpoch e) = false := ⟨⟨0, [1, 2], [0, 0], [], [], ⟨[0, 0, 0], 0, 0, 0, 0, [0, 0], [], true⟩, none⟩, by decide +kernel⟩
theorem test_illFormed_vintageSealRx_gens : Instr.wellFormed (.vintageSealRx ⟨0, 0, 0, []⟩ ⟨0, 0, 0, 0, 0, 0, none, 0, none, 0, 0, [1], []⟩) = false := by decide +kernel
theorem test_wellFormed_registerWrite : Instr.wellFormed (.registerWrite .mgt 0x20 4 7) = true := by decide +kernel

/-! ### Values given outside the model -/

/-- The worked example of 00_scope.md: 2.5 ns encodes as e = 11, m = 2. -/
theorem test_eb8_scope_example : eb8Of (2500 * 16) = 8 * 11 + 2 := by decide +kernel
/-- The worked example of 03_error_bound.md: 14,570.25 ps encodes as 15,360 ps. -/
theorem test_eb8_bound_example : eb8Value (eb8Of 233124) = 15360 * 16 := by decide +kernel
/-- The check value of CRC-32 (IEEE 802.3): the nine digits. -/
theorem test_crc32_digits : crc32 [0x31, 0x32, 0x33, 0x34, 0x35, 0x36, 0x37, 0x38, 0x39] = 0xCBF43926 := by decide +kernel
/-- FIPS 180-4's first example, "abc". -/
theorem test_sha256_abc : beNat (sha256 [0x61, 0x62, 0x63]) = 0xba7816bf8f01cfea414140de5dae2223b00361a396177a9cb410ff61f20015ad := by decide +kernel
/-- No row of the opcode table has bits. -/
theorem test_decode_none : decodeTableWord 32 0 = none := rfl

/-! ### Witnesses -/

/-- A device that runs: loaded and powered, three keepers in the vote on locked loops, just after tick 65,536. -/
def wUp : State :=
  let s := { State.reset with
    mainOff := false, now := 65536 * lsbPerTick, nextTick := 65537, boot := { State.reset.boot with held := false },
    clr := { State.reset.clr with vaux := true, bothLost := false }, kpr := { State.reset.kpr with started := true, pairs := [1, 1, 1] } }
  let s := ((s.put F.MGT_BOOT_STATE 1).put F.KPR_STAT_VSTATE vVote3).put F.KPR_STAT_TSRC 0
  let s := (List.range 6).foldl (fun (s : State) l => (s.setLoop l lpLocked).setGate l false) s
  [0, 1, 2].foldl (fun (s : State) x => (s.put (F.KPR_x_STAT_MSTATE x) msIn).putB (F.KPR_x_STAT_LOCKED x) true) s

theorem canonOf (s : State) (h : (spWf resetWord s.regs && spWf (fun _ => 0) s.cnt && Memory.wf s.dram && spWf (fun _ => Chk.virgin) s.mem.chk) = true) : s.Canon := by
  simp only [Bool.and_eq_true] at h
  exact ⟨h.1.1.1, h.1.1.2, h.1.2, h.2⟩


theorem tagOf_setMain (s : State) (i : Nat) (k : KeySlot) (h : spWf blankSlot s.key.main = true) : (s.setMain i k).mainTagOk i = true := by
  have e : spGet blankSlot (spSet blankSlot s.key.main i (k.tagged 0 i)) i = k.tagged 0 i := spGet_spSet_same _ _ _ _ h
  unfold State.mainTagOk State.mainSlot State.setMain State.modKey
  simp only [e]
  simp [KeySlot.tagged, KeySlot.tagOf, KeySlot.info]

theorem useHandle_hmac (s : State) (n c h i : Nat) (e : Entry) (hs : h / 2 ^ 22 = 0) (hi : h % 4096 = i) (hc : h / 4096 % 1024 = (s.mainSlot i).incarn)
    (hv : (s.mainSlot i).state = ksValid) (hp : ((s.mainSlot i).has pbEngine && (s.mainSlot i).has pbHmac && instOk (s.mainSlot i) e) = true)
    (ht : s.mainTagOk i = true) : s.useHandle n c h pbHmac e = .ok (s.mainSlot i).material (some i) := by
  simp only [Bool.and_eq_true] at hp
  unfold State.useHandle State.useMain
  have hs4 : h / 4194304 = 0 := hs
  simp [hs4, hi, hc, hv, hp.1.1, hp.1.2, hp.2, ht]

/-- Two commands wait. -/
def wQueue : State := { wUp with pending := [.evtPop, .evtPop] }
def wStepped : State := match step wQueue with | .next t => t | _ => wUp
theorem wQueue_step : step wQueue = .next wStepped := by
  unfold wStepped
  have h : step wQueue = exec .evtPop { wQueue with pending := [.evtPop] } := rfl
  rw [h]
  exact Eq.refl (Sys2Proof.Machine.execEvtPop { wQueue with pending := [.evtPop] })
theorem witness_stepIdles : ∃ s : State, s.pending = [] :=
  ⟨wUp, by decide +kernel⟩
theorem witness_stepCanon : ∃ s t : State, s.Canon ∧ step s = .next t :=
  ⟨wQueue, wStepped, by exact ⟨canonOf _ (by decide +kernel), wQueue_step⟩⟩

theorem witness_busError : ∃ (s : State) (path : Path) (a size : Nat) (v : Word), s.served ∧ ((size ≠ 4 ∨ a % 4 ≠ 0 ∨ 0x160000 ≤ a)) :=
  ⟨wUp, .mgt, 2, 4, 0, by decide +kernel⟩
theorem witness_busError_2 : ∃ (s : State) (path : Path) (a size : Nat) (v : Word), s.served ∧ ((size ≠ 4 ∨ a % 4 ≠ 0 ∨ 0x160000 ≤ a)) :=
  ⟨wUp, .twv, 0x160000, 4, 0, by decide +kernel⟩
theorem witness_busError_3 : ∃ (s : State) (path : Path) (a size : Nat) (v : Word), s.served ∧ ((size ≠ 4 ∨ a % 4 ≠ 0 ∨ 0x160000 ≤ a)) :=
  ⟨wUp, .spi, 0, 2, 0, by decide +kernel⟩
theorem witness_registerWrite : ∃ (s : State) (path : Path) (i : Nat) (v : Word), i < 8 ∧ s.served :=
  ⟨wUp, .mgt, 7, 5, by decide +kernel⟩
theorem witness_kt96Complete : ∃ (s : State) (path : Path) (v : Word), path ≠ .spi ∧ s.served ∧ 0 < 1 :=
  ⟨(wUp.holdPut (A.DSC_RA_AT 0) 999999999), .mgt, 0, by decide +kernel⟩
theorem witness_kt96Complete_2 : ∃ (s : State) (path : Path) (v : Word), path ≠ .spi ∧ s.served :=
  ⟨(wUp.holdPut (A.DSC_RA_AT 0) 1000000000), .twv, 0, by decide +kernel⟩
theorem witness_wideLatch : ∃ (s : State) (path : Path), s.served :=
  ⟨wUp, .mgt, by decide +kernel⟩
theorem witness_eventAccept : ∃ (s : State) (r : EvRec), s.RegsOk ∧ s.evt.ring.length < ringCap ∧ s.routerRuns = true ∧ evFirst s.evt.q = some r ∧ r.event < 256 :=
  ⟨(wUp.raise 0x10), ⟨0, 65536 * lsbPerTick, 0x10, 255, 0⟩, by decide +kernel⟩
theorem witness_logSpill : ∃ (s : State) (r : RingRec) (rest : List RingRec), s.Canon ∧ s.Room Ev.EVT_LOG_FULL ∧ s.routerRuns = true ∧ s.dramBusy = false ∧ s.flag F.EVT_CFG_LOG_EN = true ∧ s.get F.EVT_CFG_SPILL ≤ s.evt.ring.length ∧ s.evt.ring = r :: rest ∧ (s.get F.EVT_LOG_WR_WR + 1) % s.logSize ≠ s.get F.EVT_LOG_RD_RD :=
  ⟨(((wUp.putB F.EVT_CFG_LOG_EN true).put F.EVT_CFG_SPILL 1).modEvt fun e => { e with ring := [⟨1, 2, 3, 4, 5, 6⟩] }), ⟨1, 2, 3, 4, 5, 6⟩, [], canonOf _ (by decide +kernel), by decide +kernel⟩
theorem witness_evtPop : ∃ (s : State) (r : RingRec) (rest : List RingRec), s.RegsOk ∧ s.evt.ring = r :: rest :=
  ⟨(wUp.modEvt fun e => { e with ring := [⟨1, 2, 3, 4, 65535, 6⟩, ⟨1, 2, 3, 4, 5, 6⟩] }), ⟨1, 2, 3, 4, 65535, 6⟩, [⟨1, 2, 3, 4, 5, 6⟩], by decide +kernel⟩
theorem witness_evtPopEmpty : ∃ s : State, s.evt.ring = [] :=
  ⟨wUp, by decide +kernel⟩
theorem witness_evtLogRd : ∃ (s : State) (v : Word), s.RegsOk ∧ s.Room Ev.EVT_LOG_FULL :=
  ⟨wUp, 0xFF000001, by decide +kernel⟩
theorem witness_wideLatchAll : ∃ (s : State) (path : Path) (low n : Nat), low % 4 = 0 ∧ wideAt low = some (low, n) :=
  ⟨wUp, .mgt, A.CLR_SEC, 2, by decide +kernel⟩
theorem witness_eventOrder : ∃ (q : List EvRec) (r : EvRec), evFirst q = some r :=
  ⟨[⟨2, 0, 3, 1, 0⟩, ⟨1, 0, 4, 1, 0⟩, ⟨1, 0, 4, 0, 0⟩], ⟨1, 0, 4, 0, 0⟩, by decide +kernel⟩
theorem witness_eventAccept_2 : ∃ (s : State) (r : EvRec), s.RegsOk ∧ s.evt.ring.length < ringCap ∧ s.routerRuns = true ∧ evFirst s.evt.q = some r ∧ r.event < 256 ∧ 0 < ((wUp.raise 0x10).modEvt fun e => { e with lostPend := [(1, 3)] }).evtLost 1 :=
  ⟨((wUp.raise 0x10).modEvt fun e => { e with lostPend := [(1, 3)] }), ⟨0, 65536 * lsbPerTick, 0x10, 255, 0⟩, by decide +kernel⟩
theorem witness_eventHeld : ∃ s : State, ringCap ≤ s.evt.ring.length :=
  ⟨(wUp.modEvt fun e => { e with ring := List.replicate 4096 ⟨1, 2, 3, 4, 5, 6⟩ }), by decide +kernel⟩
theorem witness_logSpillFull : ∃ s : State, s.logFull = true :=
  ⟨((wUp.put F.EVT_LOG_WR_WR 65535)), by decide +kernel⟩
theorem witness_evtLogRd_2 : ∃ (s : State) (v : Word), s.RegsOk ∧ s.Room Ev.EVT_LOG_FULL :=
  ⟨(wUp.put F.EVT_LOG_WR_WR 5), 6, by decide +kernel⟩

def wCold : State := ((wUp.put F.KPR_STAT_VSTATE vInit).put F.KPR_STAT_TSRC 3).modKpr fun k => { k with started := false }
theorem witness_keepersStart : ∃ (s : State) (sec : Nat), s.RegsOk ∧ s.kpr.keepers.length = 3 ∧ s.kpr.started = false ∧ s.lockedKeepers ≠ [] ∧ s.vstate = vInit :=
  ⟨wCold, 1000, by decide +kernel⟩
theorem witness_vote : ∃ (s : State) (a b c : Marker) (grid : List (Fin 20 × GridPhase)) (r : Int), s.RegsOk ∧ s.kpr.keepers.length = 3 ∧ s.kpr.started = true ∧ s.lockedKeepers ≠ [] ∧ s.kpr.skip = 0 ∧ s.refArrival (s.arrivalOf (markerOf a b c)) = some r :=
  ⟨wUp, ⟨1, some 0⟩, ⟨1, some 3⟩, ⟨1, none⟩, [], 0, by decide +kernel⟩
theorem witness_vote_2 : ∃ (s : State) (a b c : Marker) (grid : List (Fin 20 × GridPhase)) (r : Int), s.RegsOk ∧ s.kpr.keepers.length = 3 ∧ s.kpr.started = true ∧ s.lockedKeepers ≠ [] ∧ s.kpr.skip = 0 ∧ s.refArrival (s.arrivalOf (markerOf a b c)) = some r :=
  ⟨wUp, ⟨500, some 0⟩, ⟨501, some 3⟩, ⟨499, some 9000000⟩, [], 3, by decide +kernel⟩
theorem witness_voteRuns : ∃ (s : State) (m : Nat → Marker) (x : Nat), s.kpr.keepers.length = 3 ∧ x < 3 ∧ s.kLocked x = true :=
  ⟨wUp, (fun _ => ⟨7, none⟩), 1, by decide +kernel⟩
theorem witness_voteStraddles : ∃ (s : State) (m : Nat → Marker), s.kpr.started = true ∧ s.lockedKeepers ≠ [] ∧ 0 < s.kpr.skip :=
  ⟨(wUp.modKpr fun k => { k with skip := 1 }), (fun _ => ⟨1, none⟩), by decide +kernel⟩
def wOut (x : Nat) : State := wUp.put (F.KPR_x_STAT_MSTATE x) msOut
theorem witness_keeperSeed : ∃ (s : State) (x : Fin 3) (ofs : Option Int) (src : SeedSrc), s.RegsOk ∧ s.kpr.keepers.length = 3 ∧ s.mstate x = msOut ∧ s.kLocked x = true ∧ ((s.bit F.KPR_REJOIN_CFG_AUTO_REJOIN x = true ∨ (s.kp x).rejoin = true)) ∧ s.seedSource s.phaseValidSelected = some src ∧ (SeedSrc.voted ≠ .reference) :=
  ⟨(wOut 2), 2, (some (-5)), .voted, by decide +kernel⟩
def wSeedRef : State := (((wOut 2).put F.KPR_STAT_VSTATE vSplit).putB F.REF_STAT_SEL_VALID true).putB (F.REF_SLOTn_STAT_PHASE_VALID 0) true
theorem witness_keeperSeed_2 : ∃ (s : State) (x : Fin 3) (ofs : Option Int) (src : SeedSrc), s.RegsOk ∧ s.kpr.keepers.length = 3 ∧ s.mstate x = msOut ∧ s.kLocked x = true ∧ ((s.bit F.KPR_REJOIN_CFG_AUTO_REJOIN x = true ∨ (s.kp x).rejoin = true)) ∧ s.seedSource s.phaseValidSelected = some src :=
  ⟨wSeedRef, 2, (some (-5)), .reference, by decide +kernel⟩
theorem witness_keeperRemove : ∃ (s : State) (x : Fin 3) (grid : List (Fin 20 × GridPhase)), s.twoRemain x = true ∧ s.isIn x = true :=
  ⟨wUp, 1, [], by decide +kernel⟩
theorem witness_keeperLeaves : ∃ (s : State) (x : Fin 3) (cause : Nat), s.RegsOk ∧ s.Room Ev.KPR_LEAVE :=
  ⟨wUp, 2, causeCommand, by decide +kernel⟩
theorem witness_keeperRemoveRefused : ∃ (s : State) (x : Fin 3) (grid : List (Fin 20 × GridPhase)), s.twoRemain x = false ∧ s.Room Ev.KPR_CMD_REFUSED :=
  ⟨(wOut 2), 0, [], by decide +kernel⟩
theorem witness_keeperRejoin : ∃ (s : State) (x : Fin 3), s.RegsOk ∧ s.kpr.keepers.length = 3 ∧ s.mstate x = msOut :=
  ⟨(wOut 2), 2, by decide +kernel⟩
theorem witness_snapshotTake : ∃ s : State, s.RegsOk ∧ s.kpr.snap = none :=
  ⟨wUp, by decide +kernel⟩
theorem witness_snapshotComplete : ∃ (s : State) (mem vs : Nat), s.RegsOk ∧ s.kpr.snap = some (mem, vs, false) :=
  ⟨(wUp.modKpr fun k => { k with snap := some (7, 1, false) }), 7, 1, by decide +kernel⟩
theorem witness_snapshotLatched : ∃ (s : State) (mem vs : Nat), s.RegsOk ∧ s.kpr.snap = some (mem, vs, true) ∧ s.tsrc < 3 ∧ msOut = msOut :=
  ⟨((wOut 2).modKpr fun k => { k with snap := some (7, 1, true) }).put F.KPR_STAT_TSRC 0, 7, 1, by decide +kernel⟩
theorem witness_leapArm : ∃ (s : State) (m : Nat) (del : Bool), m % 86400 = 0 ∧ s.utcCount + 2 < m :=
  ⟨wUp, 172800, true, by decide +kernel⟩
theorem witness_leapArmRefused : ∃ (s : State) (m : Nat) (del both : Bool), s.Room Ev.KPR_LEAP_REFUSED ∧ ((m % 86400 ≠ 0 ∨ (m : Int) ≤ s.utcCount + 2 ∨ both = true)) :=
  ⟨wUp, 5, false, true, by decide +kernel⟩
theorem witness_leapArmRefused_2 : ∃ (s : State) (m : Nat) (del both : Bool), s.Room Ev.KPR_LEAP_REFUSED ∧ ((m % 86400 ≠ 0 ∨ (m : Int) ≤ s.utcCount + 2 ∨ both = true)) :=
  ⟨wUp, 0, false, false, by decide +kernel⟩
theorem witness_leapCancel : ∃ s : State, s.RegsOk :=
  ⟨wUp, by decide +kernel⟩
def wLeap (m : Nat) : State := ((wUp.putB F.KPR_UTC_STAT_PENDING true).modKpr fun k => { k with leapM := m })
theorem witness_leapApply : ∃ s : State, s.RegsOk ∧ s.Room Ev.KPR_LEAP_APPLIED ∧ s.flag F.KPR_UTC_STAT_PENDING = true ∧ s.hasVoted = true ∧ s.leapSecond ≤ (s.now / lsbPerSec : Nat) ∧ -32768 < s.utcOffset ∧ s.utcOffset < 32767 :=
  ⟨(wLeap 20), by decide +kernel⟩
theorem witness_leapApply_2 : ∃ s : State, s.RegsOk ∧ s.Room Ev.KPR_LEAP_APPLIED ∧ s.flag F.KPR_UTC_STAT_PENDING = true ∧ s.hasVoted = true ∧ s.leapSecond ≤ (s.now / lsbPerSec : Nat) ∧ -32768 < s.utcOffset ∧ s.utcOffset < 32767 :=
  ⟨((wLeap 20).putB F.KPR_UTC_STAT_DIR true), by decide +kernel⟩
theorem witness_leapWindow : ∃ s : State, s.RegsOk :=
  ⟨(wLeap 155119), by decide +kernel⟩
theorem witness_leapWindow_2 : ∃ s : State, s.RegsOk :=
  ⟨(wLeap 111920), by decide +kernel⟩

def wTerms (r : Nat) : BoundTerms := ⟨false, r, 0, 1000, 5, 100, 7, 9, 0⟩
def wVoted : State := wUp.modBnd fun b => { b with atVote := { b.atVote with terms := [wTerms 5, wTerms 900, wTerms 3], voters := [0, 1], disagree := false, asym := List.replicate 20 40 } }
def wPeak : State := (wVoted.modBnd fun b => { b with peaks := [(65536, 44)] }).modKpr fun k => { k with voteNow := 65537 * lsbPerTick }
theorem witness_boundInstant_2 : ∃ (s : State) (t : Nat), 65536 * lsbPerTick + 9 < wPeak.kpr.voteNow :=
  ⟨wPeak, 65536 * lsbPerTick + 9, by decide +kernel⟩
theorem witness_boundInstant_3 : ∃ (s : State) (t : Nat), 65407 * lsbPerTick < wPeak.kpr.voteNow :=
  ⟨wPeak, 65407 * lsbPerTick, by decide +kernel⟩
theorem witness_boundSum : ∃ (k : BoundTerms) (t : Nat), k.unb = false :=
  ⟨(wTerms 5), 70000000000, by decide +kernel⟩
theorem witness_boundNoVote : ∃ (s : State) (p : Fin 20) (t3 : Nat), ((s.bnd.atVote.voters = [] ∨ s.bnd.atVote.disagree = true)) ∧ s.kpr.voteNow ≤ t3 :=
  ⟨(wUp.modBnd fun b => { b with atVote := { b.atVote with voters := [] } }), 3, 65536 * lsbPerTick, by decide +kernel⟩
theorem witness_boundNoVote_2 : ∃ (s : State) (p : Fin 20) (t3 : Nat), ((s.bnd.atVote.voters = [] ∨ s.bnd.atVote.disagree = true)) ∧ s.kpr.voteNow ≤ t3 :=
  ⟨(wVoted.modBnd fun b => { b with atVote := { b.atVote with disagree := true } }), 19, 65536 * lsbPerTick, by decide +kernel⟩
theorem witness_bndQuery : ∃ (s : State) (p : Nat), s.RegsOk ∧ ((p % 32 < 20 ∨ p % 32 = 31)) :=
  ⟨wVoted, 19, by decide +kernel⟩
theorem witness_bndQuery_2 : ∃ (s : State) (p : Nat), s.RegsOk ∧ ((p % 32 < 20 ∨ p % 32 = 31)) :=
  ⟨wUp, 19, by decide +kernel⟩
theorem witness_bndQuery_3 : ∃ (s : State) (p : Nat), s.RegsOk ∧ ((p % 32 < 20 ∨ p % 32 = 31)) :=
  ⟨wUp, 31, by decide +kernel⟩
theorem witness_bndQueryIgnored : ∃ (s : State) (p : Nat), 20 ≤ p % 32 ∧ p % 32 ≤ 30 :=
  ⟨wUp, 20, by decide +kernel⟩
theorem witness_bndQueryIgnored_2 : ∃ (s : State) (p : Nat), 20 ≤ p % 32 ∧ p % 32 ≤ 30 :=
  ⟨wUp, 62, by decide +kernel⟩
theorem witness_asymWrite : ∃ (s : State) (path : Path) (k : Fin 20) (high : Bool) (v : Word), s.lastWide (A.BND_PORTk_ASYM k) 2 % 2 ^ 48 ≤ s.asymWith k high v :=
  ⟨(wUp.putWide (A.BND_PORTk_ASYM 19) 2 100), .mgt, 19, false, 100, by decide +kernel⟩
theorem witness_asymRefused : ∃ (s : State) (path : Path) (k : Fin 20) (high : Bool) (v : Word), s.Room Ev.BND_ASYM_REFUSED ∧ s.asymWith k high v < s.lastWide (A.BND_PORTk_ASYM k) 2 % 2 ^ 48 :=
  ⟨(wUp.putWide (A.BND_PORTk_ASYM 19) 2 100), .mgt, 19, false, 99, by decide +kernel⟩
theorem witness_sampleTimeout : ∃ (s : State) (x : Fin 3), s.RegsOk ∧ s.bstate x = bsTrack ∧ nth s.bnd.ts x + s.get F.BND_SAMPLE_TIMEOUT_TICKS * lsbPerTick ≤ s.now :=
  ⟨(wUp.put (bndStateFld 1) bsTrack), 1, by decide +kernel⟩
theorem witness_tracePop : ∃ (s : State) (r : List Byte) (rest : List (List Byte)), s.bnd.queue = r :: rest :=
  ⟨(wUp.modBnd fun b => { b with queue := [List.replicate 64 3, List.replicate 64 4] }), (List.replicate 64 3), [List.replicate 64 4], by decide +kernel⟩
theorem witness_eb8RoundTrip : ∃ c : Nat, c ≤ 254 :=
  ⟨254, by decide +kernel⟩
theorem witness_epochRaise : ∃ (s : State) (cause : Nat), s.RegsOk ∧ s.Room Ev.BND_RAISE ∧ cause < 16 :=
  ⟨(wUp.setReg A.BND_EPOCH 0xFFFFFFFF), 15, by decide +kernel⟩
theorem witness_epochAtVote : ∃ s : State, s.RegsOk :=
  ⟨(wUp.modBnd fun b => { b with causes := [1, 6] }), by decide +kernel⟩

def wAt (s : State) : State := { s with tickAt := some s.now }
def wBind (n ty idx : Nat) : State := ((wUp.put (F.REF_SLOTn_BIND_TYPE n) ty).put (F.REF_SLOTn_BIND_INDEX n) idx).putB (F.REF_SLOTn_CFG_ENABLE n) true
def wTod : State := (((wBind 3 1 3).putB (F.REF_SLOTn_BIND_TOD_EN 3) true).put (F.REF_SLOTn_BIND_TOD 3) 1 |>.putB (F.REF_TOD_CFG_ENABLE 1) true).modSl 3 fun c => { c with seen := true, lastEdge := wUp.now }
def wTodFrame : List Byte := let b : List Byte := [1, 24] ++ List.replicate 18 2; [0xA5, 0x5A] ++ b ++ beBytes 2 (crc16 0xFFFF#16 b)
theorem witness_todFrame : ∃ (s : State) (line : Fin 4) (l : List Byte) (e : Nat) (n : Nat), s.RegsOk ∧ n < 16 ∧ s.ref.slots.length = 16 ∧ todIsFrame l = true ∧ todFormatOk l = true ∧ s.flag (F.REF_TOD_CFG_ENABLE line) = true ∧ s.todSlots line = [n] ∧ s.todTimely n e = true :=
  ⟨wTod, 1, wTodFrame, (wUp.now + lsbPerSec / 10), 3, by decide +kernel⟩
theorem witness_todBad : ∃ (s : State) (line : Fin 4) (l : List Byte) (e : Nat), s.RegsOk ∧ todIsFrame l = true ∧ todFormatOk l = false ∧ s.flag (F.REF_TOD_CFG_ENABLE line) = true ∧ s.todSlots line = [] :=
  ⟨(wUp.putB (F.REF_TOD_CFG_ENABLE 2) true), 2, ([0xA5, 0x5A] ++ List.replicate 22 0), 5, by decide +kernel⟩
theorem witness_packetExchange : ∃ (s : State) (i : Fin 4) (e : Exchange) (n : Nat), e.step2 = e.step3 ∧ n < 16 ∧ s.ref.slots.length = 16 ∧ s.slotsOf 3 i = [n] :=
  ⟨(wBind 5 3 2), 2, ⟨1, 2, 3, 4, 0, 0, 9, 10, some 3, 4, 5, 1, 1⟩, 5, by decide +kernel⟩
theorem witness_exchangeDiscarded : ∃ (s : State) (i : Fin 4) (e : Exchange), e.step2 ≠ e.step3 :=
  ⟨(wBind 5 3 2), 2, ⟨1, 2, 3, 4, 0, 0, 9, 10, some 3, 4, 5, 1, 2⟩, by decide +kernel⟩
theorem witness_packetAnnounce : ∃ (s : State) (i : Fin 4) (cls : Fin 256) (log : Int) (u : Nat) (n : Nat), s.RegsOk ∧ n < 16 ∧ s.ref.slots.length = 16 ∧ s.slotsOf 3 i = [n] :=
  ⟨(wBind 5 3 2), 2, 6, 3, 100, 5, by decide +kernel⟩
theorem witness_esmcPdu : ∃ (s : State) (dp ssm : Fin 16) (ext : Option (Fin 256)) (u : Nat) (n : Nat), s.RegsOk ∧ n < 16 ∧ s.ref.slots.length = 16 ∧ s.slotsOf 6 dp = [n] :=
  ⟨(wBind 15 6 1), 1, 2, none, 7, 15, by decide +kernel⟩
theorem witness_esmcPdu_2 : ∃ (s : State) (dp ssm : Fin 16) (ext : Option (Fin 256)) (u : Nat) (n : Nat), s.RegsOk ∧ n < 16 ∧ s.ref.slots.length = 16 ∧ s.slotsOf 6 dp = [n] :=
  ⟨(wBind 15 6 1), 1, 15, (some 255), 7, 15, by decide +kernel⟩
def wIn (s : State) (n st : Nat) : State := wAt (s.put (F.REF_SLOTn_STAT_STATE n) st)
theorem witness_esmcTimeout : ∃ (s : State) (n : Fin 16), Judged s n ∧ s.slotType n = 6 ∧ s.esmcActive n = false :=
  ⟨(wIn (wBind 15 6 1) 15 rsWtr), 15, by decide +kernel⟩
def wActive (s : State) (n : Nat) : State := (s.put (F.REF_SLOTn_STAT_QL n) 2).modSl n fun c => { c with seen := true, lastEdge := wUp.now, active := true, changes := [⟨0, 64 * lsbPerTick, 0⟩] }
theorem witness_todStale : ∃ (s : State) (n : Fin 16), Judged s n ∧ s.slotType n = 1 ∧ s.slotCause n = 4 :=
  ⟨(wIn (wActive (((wBind 3 1 4).put (F.REF_PIN_CFG_KIND 4) 1).putB (F.REF_SLOTn_BIND_TOD_EN 3) true) 3) 3 rsQualified), 3, by decide +kernel⟩
theorem witness_ppsEdgeTimeout : ∃ (s : State) (n : Fin 16), Judged s n ∧ s.pinKind n = 1 ∧ (s.sl n).lastEdge + lsbPerSec / 10 * 11 ≤ s.now :=
  ⟨(wIn ((wBind 0 1 4).put (F.REF_PIN_CFG_KIND 4) 1) 0 rsQualifying), 0, by decide +kernel⟩
theorem witness_packetLos : ∃ (s : State) (n : Fin 16), Judged s n ∧ s.slotType n = 3 ∧ (s.sl n).lastEdge + s.get (F.REF_SLOTn_LOS_LOS n) * lsbPerTick ≤ s.now :=
  ⟨(wIn ((wBind 5 3 2).put F.REF_STAT_SEL 5 |>.putB F.REF_STAT_SEL_VALID true) 5 rsQualified), 5, by decide +kernel⟩
theorem witness_announceTimeout : ∃ (s : State) (n : Fin 16), Judged s n ∧ s.slotType n = 3 ∧ (s.sl n).lastAnn + annSpan (s.get (F.REF_SLOTn_LOS_ANN_TIMEOUT n)) (s.sl n).annLog ≤ s.now :=
  ⟨(wIn (wBind 5 3 2) 5 rsQualified), 5, by decide +kernel⟩
theorem witness_slotFalls : ∃ (s : State) (n : Fin 16), Judged s n ∧ s.slotCause n ≠ 0 :=
  ⟨(wIn (wBind 5 3 2) 5 rsQualifying), 5, by decide +kernel⟩
def wQual (n : Nat) : State := (((wBind n 2 0).put (F.REF_SLOTn_STAT_STATE n) rsQualifying).put (F.REF_SLOTn_STAT_QL n) 2).modSl n fun c => { c with active := true, meas := some (0, 1, 5), changes := [⟨0, 64 * lsbPerTick, 0⟩] }
theorem witness_qualificationComplete : ∃ (s : State) (n : Fin 16), s.RegsOk ∧ s.atTick = true ∧ s.ref.slots.length = 16 ∧ s.slotState n = rsQualifying ∧ s.slotCause n = 0 ∧ (s.sl n).qualStart + s.get (F.REF_SLOTn_TIME_QUAL_TIME n) * lsbPerSec ≤ s.now :=
  ⟨(wAt (wQual 1)), 1, by decide +kernel⟩
theorem witness_qualificationComplete_2 : ∃ (s : State) (n : Fin 16), s.RegsOk ∧ s.atTick = true ∧ s.ref.slots.length = 16 ∧ s.slotState n = rsQualifying ∧ s.slotCause n = 0 ∧ (s.sl n).qualStart + s.get (F.REF_SLOTn_TIME_QUAL_TIME n) * lsbPerSec ≤ s.now :=
  ⟨(wAt ((wQual 1).putWide (A.REF_SLOTn_OFS 1) 2 (2 ^ 40))), 1, by decide +kernel⟩
theorem witness_qualificationComplete_3 : ∃ (s : State) (n : Fin 16), s.RegsOk ∧ s.atTick = true ∧ s.ref.slots.length = 16 ∧ s.slotState n = rsQualifying ∧ s.slotCause n = 0 ∧ (s.sl n).qualStart + s.get (F.REF_SLOTn_TIME_QUAL_TIME n) * lsbPerSec ≤ s.now :=
  ⟨(wAt <| (wQual 1).modSl 1 fun c => { c with qualified := true }), 1, by decide +kernel⟩
theorem witness_wtrComplete : ∃ (s : State) (n : Fin 16), s.RegsOk ∧ s.atTick = true ∧ s.slotState n = rsWtr ∧ (s.sl n).wtrStart + s.get (F.REF_SLOTn_TIME_WTR n) * lsbPerSec ≤ s.now :=
  ⟨wAt { ((wBind 2 2 0).put (F.REF_SLOTn_STAT_STATE 2) rsWtr) with now := 400 * lsbPerSec }, 2, by decide +kernel⟩
theorem witness_disputeClear : ∃ (s : State) (n : Fin 16), s.RegsOk ∧ s.atTick = true ∧ (s.sl n).clearSince < s.now ∧ ((s.demoted n = true ∨ s.mutual n = true)) ∧ (s.sl n).clearSince + s.get (F.REF_SLOTn_TIME_WTR n) * lsbPerSec ≤ s.now :=
  ⟨wAt { ((wBind 2 2 0).putB (F.REF_SLOTn_STAT_DEMOTED 2) true) with now := 400 * lsbPerSec }, 2, by decide +kernel⟩
theorem witness_switchCommit : ∃ (s : State) (p : Switch), s.RegsOk ∧ s.commitDue = some p ∧ p.target < 16 :=
  ⟨wAt (((wQual 1).put (F.REF_SLOTn_STAT_STATE 1) rsQualified).modRef fun r => { r with pend := some ⟨none, 1, 65000, 0⟩ }), ⟨none, 1, 65000, 0⟩, by decide +kernel⟩
theorem witness_switchDue : ∃ (s : State) (p : Switch), s.ref.pend = some p ∧ s.atTick = true ∧ p.start + 96 ≤ s.curTick ∧ s.abandonCause p.target = 0 ∧ s.cancels p = false :=
  ⟨wAt (((wQual 1).put (F.REF_SLOTn_STAT_STATE 1) rsQualified).modRef fun r => { r with pend := some ⟨none, 1, 65000, 0⟩ }), ⟨none, 1, 65000, 0⟩, by decide +kernel⟩
theorem witness_refInvalid : ∃ (s : State) (op n : Fin 16), 7 ≤ op.val ∧ s.Room Ev.REF_CMD_REFUSED :=
  ⟨wUp, 7, 15, by decide +kernel⟩
theorem witness_refJudged : ∃ (s : State) (n : Fin 16), s.RegsOk :=
  ⟨((wBind 2 2 0).put (F.REF_SLOTn_STAT_STATE 2) rsQualified), 2, by decide +kernel⟩
theorem witness_refJudged_2 : ∃ (s : State) (n : Fin 16), s.RegsOk :=
  ⟨wUp, 2, by decide +kernel⟩

def wDsc (st : Nat) : State := wUp.put F.DSC_STAT_STATE st
def wTrk (n : Nat) : State := (((wDsc dsTrackPhase).put F.REF_STAT_SEL n).putB F.REF_STAT_SEL_VALID true)
def wAcq (n : Nat) : State := ((wTrk n).put F.DSC_STAT_STATE dsAcquire).modDsc fun d => { d with lockCount := 70000 }
def wWord : State := wAt ((((wDsc dsTrackFreq).put (F.DSC_OSCx_CFG_MODE 1) 2).put (F.DSC_OSCx_WORD_CFG_WIDTH 1) 15).put (F.DSC_OSCx_STEER_STEP_MAX 1) 3 |>.putI (F.DSC_OSCx_KV_KV 1) 1000 |>.modOsc 1 fun o => { o with w := 900000000 })
theorem witness_oscWordWrite : ∃ (s : State) (o : Fin 3), s.dsc.oscs.length = 3 ∧ s.oscMode o = 2 ∧ s.tracking = true ∧ s.atTick = true ∧ s.curTick % 64 = 0 ∧ (s.osc o).wordTick ≠ some s.curTick ∧ (s.osc o).wordSent = none ∧ s.bit F.DSC_STAT_WORD_FAIL o = false :=
  ⟨wWord, 1, by decide +kernel⟩
theorem witness_oscWordOnce : ∃ (s : State) (o : Fin 3), (s.osc o).wordTick = some s.curTick :=
  ⟨(wUp.modOsc 1 fun o => { o with wordTick := some 65536 }), 1, by decide +kernel⟩
theorem witness_oscWordResult : ∃ (s : State) (o : Fin 3) (w : Int), s.RegsOk ∧ s.dsc.oscs.length = 3 ∧ (s.osc o).wordSent = some w ∧ -(2 ^ 31 : Nat) ≤ w ∧ w < (2 ^ 31 : Nat) :=
  ⟨(wUp.modOsc 2 fun o => { o with wordSent := some 5, wordFails := 2 }), 2, 5, by decide +kernel⟩
theorem witness_oscWordFails : ∃ (s : State) (o : Fin 3) (w : Int), s.RegsOk ∧ s.dsc.oscs.length = 3 ∧ (s.osc o).wordSent = some w :=
  ⟨(wUp.modOsc 2 fun o => { o with wordSent := some 5, wordFails := 2 }), 2, 5, by decide +kernel⟩
theorem witness_oscWordFails_2 : ∃ (s : State) (o : Fin 3) (w : Int), s.RegsOk ∧ s.dsc.oscs.length = 3 ∧ (s.osc o).wordSent = some w :=
  ⟨(wUp.modOsc 0 fun o => { o with wordSent := some 5, wordFails := 3 }), 0, 5, by decide +kernel⟩
theorem witness_tempSensorRead : ∃ (s : State) (o : Fin 3), s.dsc.oscs.length = 3 ∧ s.flag (F.DSC_OSCx_CFG_TEMP_EN o) = true ∧ s.atTick = true ∧ s.curTick % 64 = 0 ∧ (s.osc o).tempTick ≠ some s.curTick :=
  ⟨wAt (wUp.putB (F.DSC_OSCx_CFG_TEMP_EN 2) true), 2, by decide +kernel⟩
theorem witness_tempReading : ∃ (s : State) (o : Fin 3) (v : BitVec 16), s.RegsOk ∧ s.dsc.oscs.length = 3 ∧ (s.osc o).tempRead = true ∧ s.injOn 0x40 o = false ∧ s.flag (F.DSC_OSCx_TEMP_VALID o) = false ∧ s.bit F.DSC_STAT_TEMP_FAIL o = false ∧ -64 * 256 ≤ v.toInt ∧ v.toInt ≤ 127 * 256 :=
  ⟨(wUp.modOsc 2 fun o => { o with tempRead := true, tempNaks := 2 }), 2, 0x7F00, by decide +kernel⟩
theorem witness_tempReading_2 : ∃ (s : State) (o : Fin 3) (v : BitVec 16), s.RegsOk ∧ s.dsc.oscs.length = 3 ∧ (s.osc o).tempRead = true ∧ s.injOn 0x40 o = false ∧ s.flag (F.DSC_OSCx_TEMP_VALID o) = false ∧ s.bit F.DSC_STAT_TEMP_FAIL o = false ∧ -64 * 256 ≤ v.toInt ∧ v.toInt ≤ 127 * 256 :=
  ⟨(wUp.modOsc 0 fun o => { o with tempRead := true }), 0, 0xC000, by decide +kernel⟩
theorem witness_tempNak : ∃ (s : State) (o : Fin 3), s.RegsOk ∧ s.dsc.oscs.length = 3 ∧ (s.osc o).tempRead = true ∧ s.injOn 0x40 o = false :=
  ⟨(wUp.modOsc 2 fun o => { o with tempRead := true, tempNaks := 2 }), 2, by decide +kernel⟩
theorem witness_tempNak_2 : ∃ (s : State) (o : Fin 3), s.RegsOk ∧ s.dsc.oscs.length = 3 ∧ (s.osc o).tempRead = true ∧ s.injOn 0x40 o = false :=
  ⟨(wUp.modOsc 1 fun o => { o with tempRead := true, tempNaks := 0 }), 1, by decide +kernel⟩
theorem witness_trimTransfer : ∃ s : State, s.RegsOk ∧ s.kpr.keepers.length = 3 ∧ s.dsc.moved.length = 3 ∧ s.atTick = true ∧ s.curTick % 64 = 0 ∧ s.dsc.trimTick ≠ some s.curTick ∧ s.dsc.trimN ≠ 0 :=
  ⟨wAt (wUp.modDsc fun d => { d with trimN := 3, trimSum := [9, 6, 0 - 3] }), by decide +kernel⟩
theorem witness_freqLock : ∃ (s : State) (n : Nat), s.RegsOk ∧ s.atTick = true ∧ s.followed = some n ∧ n < 16 ∧ s.dstate = dsAcquire ∧ s.lockHeld = true ∧ s.Room Ev.DSC_FLOCK :=
  ⟨(wAt (wAcq 2)), 2, by decide +kernel⟩
theorem witness_freqLock_2 : ∃ (s : State) (n : Nat), s.RegsOk ∧ s.atTick = true ∧ s.followed = some n ∧ n < 16 ∧ s.dstate = dsAcquire ∧ s.lockHeld = true ∧ s.Room Ev.DSC_FLOCK :=
  ⟨(wAt (((wAcq 2).put (F.REF_SLOTn_BIND_TYPE 2) 2).put (F.REF_SLOTn_STAT_STATE 2) rsQualified)), 2, by decide +kernel⟩
theorem witness_phaseLock : ∃ s : State, s.RegsOk ∧ s.atTick = true ∧ s.dstate = dsTrackPhase ∧ s.flag F.DSC_STAT_PULLING = true ∧ s.lockHeld = true ∧ s.Room Ev.DSC_PLOCK :=
  ⟨wAt (((wTrk 2).putB F.DSC_STAT_PULLING true).modDsc fun d => { d with lockCount := 70000 }), by decide +kernel⟩
theorem witness_modelCommit : ∃ (s : State) (o : Fin 3), s.dsc.oscs.length = 3 ∧ s.commitCause o (s.stagedModel o) = 0 ∧ s.Room Ev.DSC_MODEL_COMMIT :=
  ⟨(wDsc dsTrackPhase), 2, by decide +kernel⟩
theorem witness_modelRefused : ∃ (s : State) (o : Fin 3), s.commitCause o (s.stagedModel o) ≠ 0 ∧ s.Room Ev.DSC_MODEL_REFUSED :=
  ⟨(wDsc dsHoldover), 1, by decide +kernel⟩
theorem witness_modelNotInHoldover : ∃ (s : State) (o : Fin 3), s.onModel = true :=
  ⟨(wDsc dsFree), 0, by decide +kernel⟩
theorem witness_witnessCommit : ∃ s : State, s.RegsOk ∧ ((s.dstate = dsTrackPhase ∨ s.dstate = dsTrackFreq)) ∧ s.followDisputed = false ∧ ((∀ u, s.dsc.witTick = some u → u + 1024 ≤ s.curTick)) :=
  ⟨(wTrk 2), by decide +kernel⟩
theorem witness_witnessCommit_2 : ∃ s : State, s.RegsOk ∧ ((s.dstate = dsTrackPhase ∨ s.dstate = dsTrackFreq)) ∧ s.followDisputed = false ∧ ((∀ u, s.dsc.witTick = some u → u + 1024 ≤ s.curTick)) :=
  ⟨(wDsc dsTrackFreq), by decide +kernel⟩
theorem witness_witnessStale : ∃ s : State, s.RegsOk ∧ s.Room Ev.DSC_WIT_STALE ∧ s.flag F.DSC_WIT_STAT_STALE = false ∧ s.dsc.witAt + s.get F.DSC_WIT_CFG_STALE * 3600 * lsbPerSec ≤ s.now :=
  ⟨{ wUp with now := 100000 * lsbPerSec * 36 }, by decide +kernel⟩
theorem witness_realignCommand : ∃ (s : State) (path : Path) (v : Word) (ofs at_ u : Nat), s.RegsOk ∧ s.realignCause path = 0 :=
  ⟨wUp, .twv, 0x13#32, 16, 100, 7, by decide +kernel⟩
theorem witness_realignRefused : ∃ (s : State) (path : Path) (v : Word), s.RegsOk ∧ s.Room Ev.DSC_REALIGN_REFUSED ∧ ((path = .spi ∨ (path = .mgt ∧ s.flag F.DSC_CFG_REALIGN_FW = false))) :=
  ⟨wUp, .spi, 3#32, by decide +kernel⟩
theorem witness_realignRefused_2 : ∃ (s : State) (path : Path) (v : Word), s.RegsOk ∧ s.Room Ev.DSC_REALIGN_REFUSED ∧ ((path = .spi ∨ (path = .mgt ∧ s.flag F.DSC_CFG_REALIGN_FW = false))) :=
  ⟨(wUp.putB F.DSC_CFG_REALIGN_FW false), .mgt, 3#32, by decide +kernel⟩
theorem witness_realignKeepers : ∃ (s : State) (d : Int) (x : Nat), s.RegsOk ∧ s.kpr.keepers.length = 3 ∧ x < 3 ∧ s.kLocked x = true :=
  ⟨wUp, (-70000), 2, by decide +kernel⟩
theorem witness_realignPosted : ∃ (s : State) (r : Realign) (d : Int), s.RegsOk ∧ s.Room Ev.DSC_REALIGN :=
  ⟨wUp, ⟨false, 7, 0, 0, 0, true⟩, (-70000), by decide +kernel⟩
theorem witness_stagedTakes : ∃ (s : State) (path : Path) (i : Nat) (v : Word) (at_ t : Nat), s.RegsOk ∧ i < 8 ∧ s.staged = [⟨path, A.KEY_ARG i, 0xFFFFFFFF, v, at_⟩] :=
  ⟨{ wUp with staged := [⟨.twv, A.KEY_ARG 3, 0xFFFFFFFF, 77, 65535 * lsbPerTick⟩] }, .twv, 3, 77, (65535 * lsbPerTick), (65536 * lsbPerTick), by decide +kernel⟩
theorem witness_stagedTakes_2 : ∃ (s : State) (path : Path) (i : Nat) (v : Word) (at_ t : Nat), s.RegsOk ∧ i < 8 ∧ s.staged = [⟨path, A.KEY_ARG i, 0xFFFFFFFF, v, at_⟩] :=
  ⟨{ wUp with staged := [⟨.spi, A.KEY_ARG 3, 0xFFFFFFFF, 77, 65536 * lsbPerTick - 2 * lsbPerUs + 1⟩] }, .spi, 3, 77, (65536 * lsbPerTick - 2 * lsbPerUs + 1), (65536 * lsbPerTick), by decide +kernel⟩
theorem witness_realignApply : ∃ (s : State) (r : Realign) (grid : List (Fin 20 × GridPhase)), s.dsc.realign = some r ∧ r.ready = true ∧ s.hasVoted = true :=
  ⟨((wUp.modDsc fun d => { d with realign := some ⟨true, 0, 65536, 5, 0, true⟩ })), ⟨true, 0, 65536, 5, 0, true⟩, [], by decide +kernel⟩
theorem witness_secondMarker : ∃ (s : State) (sec wclk : Nat) (err : List Int), s.RegsOk ∧ s.hasVoted = true ∧ s.kpr.stepTo ≤ sec * lsbPerSec ∧ s.now < (sec + 1) * lsbPerSec :=
  ⟨wUp, 70, 100, [0, 0, 0], by decide +kernel⟩
theorem witness_tickBoundary : ∃ (s : State) (m : TickIn), s.hasVoted = true ∧ s.mgt.journal = [] ∧ s.mgt.wait = [] :=
  ⟨wUp, ⟨none, [], 0, [], false, false⟩, by decide +kernel⟩

def wLoop (l st : Nat) : State := { (wUp.setLoop l st).put F.KPR_STAT_TSRC 1 with syn := { wUp.syn with loaded := true } }
def wGood (x : Int) : PhaseRun := ⟨100000, 0, 0, x⟩
def wBadRun (x : Int) : PhaseRun := ⟨4, 99999999, 99999999, x⟩
theorem witness_loopLock : ∃ (s : State) (l : Fin 34) (us : Nat) (run : PhaseRun), s.RegsOk ∧ s.loopState l = lpAcquire ∧ run.most ≤ s.get (F.SYN_LOOPL_CFG_LOCK_WIN l) ∧ s.get (F.SYN_LOOPL_CFG_LOCK_N l) ≤ run.cycles ∧ s.injOn 0x50 l = false ∧ s.Room Ev.SYN_LOCK :=
  ⟨(wLoop 33 lpAcquire), 33, 4, (wGood 40000), by decide +kernel⟩
theorem witness_loopLock_2 : ∃ (s : State) (l : Fin 34) (us : Nat) (run : PhaseRun), s.RegsOk ∧ s.loopState l = lpAcquire ∧ run.most ≤ s.get (F.SYN_LOOPL_CFG_LOCK_WIN l) ∧ s.get (F.SYN_LOOPL_CFG_LOCK_N l) ≤ run.cycles ∧ s.injOn 0x50 l = false ∧ s.Room Ev.SYN_LOCK :=
  ⟨(wLoop 7 lpAcquire), 7, 70000, (wGood (0 - 40000)), by decide +kernel⟩
theorem witness_loopNoLock : ∃ (s : State) (l : Fin 34) (us : Nat) (run : PhaseRun), ((s.get (F.SYN_LOOPL_CFG_LOCK_WIN l) < run.most ∨ run.cycles < s.get (F.SYN_LOOPL_CFG_LOCK_N l))) :=
  ⟨(wLoop 7 lpAcquire), 7, 70000, (wBadRun 3), by decide +kernel⟩
theorem witness_loopAcquireTimeout : ∃ (s : State) (l : Fin 34) (us : Nat) (perr : Int), s.RegsOk ∧ s.loopState l = lpAcquire ∧ 5000 ≤ us ∧ s.Room Ev.SYN_UNLOCK :=
  ⟨(wLoop 33 lpAcquire), 33, 5000, (0 - 3), by decide +kernel⟩
theorem witness_loopSettleDone : ∃ (s : State) (l : Fin 34) (us n : Nat), s.RegsOk ∧ Quiet s ∧ s.loopState l = lpSettle ∧ s.get (F.SYN_LOOPL_SETTLE_SETTLE l) ≤ us ∧ 26 ≤ l.val :=
  ⟨(wLoop 33 lpSettle), 33, 100000, 4, by decide +kernel⟩
theorem witness_loopSettled : ∃ (s : State) (l : Fin 34) (d : Nat), s.RegsOk ∧ domainLoop d = some l.val :=
  ⟨(wLoop 19 lpSettle), 19, 29, by decide +kernel⟩
theorem witness_loopSettleFollows : ∃ (s : State) (l : Fin 34) (us n : Nat), s.loopState l = lpSettle ∧ s.get (F.SYN_LOOPL_SETTLE_SETTLE l) ≤ us :=
  ⟨(wLoop 3 lpSettle), 3, 100000, 4, by decide +kernel⟩
theorem witness_loopSettleFollows_2 : ∃ (s : State) (l : Fin 34) (us n : Nat), s.loopState l = lpSettle ∧ s.get (F.SYN_LOOPL_SETTLE_SETTLE l) ≤ us :=
  ⟨(wLoop 4 lpSettle), 4, 100000, 4, by decide +kernel⟩
theorem witness_loopSettleFollows_3 : ∃ (s : State) (l : Fin 34) (us n : Nat), s.loopState l = lpSettle ∧ s.get (F.SYN_LOOPL_SETTLE_SETTLE l) ≤ us :=
  ⟨(wLoop 5 lpSettle), 5, 100000, 4, by decide +kernel⟩
theorem witness_loopSettleFollows_4 : ∃ (s : State) (l : Fin 34) (us n : Nat), s.loopState l = lpSettle ∧ s.get (F.SYN_LOOPL_SETTLE_SETTLE l) ≤ us :=
  ⟨(wLoop 25 lpSettle), 25, 100000, 4, by decide +kernel⟩
theorem witness_loopSettleFollows_5 : ∃ (s : State) (l : Fin 34) (us n : Nat), s.loopState l = lpSettle ∧ s.get (F.SYN_LOOPL_SETTLE_SETTLE l) ≤ us :=
  ⟨(wLoop 2 lpSettle), 2, 100000, 4, by decide +kernel⟩
theorem witness_loopLossOfLock : ∃ (s : State) (l : Fin 34) (run : PhaseRun) (g : List (Fin 20 × GridPhase)), s.RegsOk ∧ ((s.loopState l = lpSettle ∨ s.loopState l = lpLocked)) ∧ 2 * s.get (F.SYN_LOOPL_CFG_LOCK_WIN l) < run.least ∧ 4 ≤ run.cycles ∧ ((l.val = 3 ∨ l.val = 4)) ∧ s.Room Ev.SYN_UNLOCK :=
  ⟨(wLoop 3 lpSettle), 3, (wBadRun 4), [], by decide +kernel⟩
theorem witness_loopLossOfLock_2 : ∃ (s : State) (l : Fin 34) (run : PhaseRun) (g : List (Fin 20 × GridPhase)), s.RegsOk ∧ ((s.loopState l = lpSettle ∨ s.loopState l = lpLocked)) ∧ 2 * s.get (F.SYN_LOOPL_CFG_LOCK_WIN l) < run.least ∧ 4 ≤ run.cycles ∧ ((l.val = 3 ∨ l.val = 4)) ∧ s.Room Ev.SYN_UNLOCK :=
  ⟨((wLoop 4 lpLocked).put (F.SYN_LOOPL_STAT_LOSSES 4) 255), 4, (wBadRun 4), [], by decide +kernel⟩
theorem witness_loopLossFollows : ∃ (s : State) (l : Fin 34) (run : PhaseRun) (g : List (Fin 20 × GridPhase)), 26 ≤ l.val ∧ s.phaseBeyond l run = true :=
  ⟨(wLoop 33 lpLocked), 33, (wBadRun 4), [], by decide +kernel⟩
theorem witness_loopLossFollows_2 : ∃ (s : State) (l : Fin 34) (run : PhaseRun) (g : List (Fin 20 × GridPhase)), l.val = 5 ∧ s.phaseBeyond l run = true :=
  ⟨(wLoop 5 lpLocked), 5, (wBadRun 4), [], by decide +kernel⟩
theorem witness_loopLossFollows_3 : ∃ (s : State) (l : Fin 34) (run : PhaseRun) (g : List (Fin 20 × GridPhase)), 6 ≤ l.val ∧ l.val < 26 ∧ s.phaseBeyond l run = true :=
  ⟨(wLoop 6 lpLocked), 6, (wBadRun 4), [], by decide +kernel⟩
theorem witness_loopLossFollows_4 : ∃ (s : State) (l : Fin 34) (run : PhaseRun) (g : List (Fin 20 × GridPhase)), l.val < 3 ∧ s.phaseBeyond l run = true :=
  ⟨(wLoop 2 lpLocked), 2, (wBadRun 4), [], by decide +kernel⟩
theorem witness_loopLossFollows_5 : ∃ (s : State) (l : Fin 34) (run : PhaseRun) (g : List (Fin 20 × GridPhase)), s.phaseBeyond l run = false :=
  ⟨(wLoop 2 lpLocked), 2, (wGood 4), [], by decide +kernel⟩
theorem witness_loopLossFollows_6 : ∃ (s : State) (l : Fin 34) (run : PhaseRun) (g : List (Fin 20 × GridPhase)), 6 ≤ l.val ∧ s.now < s.syn.maskUntil :=
  ⟨((wLoop 33 lpLocked).modSyn fun c => { c with maskUntil := wUp.now + 1 }), 33, (wBadRun 4), [], by decide +kernel⟩
theorem witness_loopLossOfReference : ∃ (s : State) (l : Fin 34) (g : List (Fin 20 × GridPhase)), s.RegsOk ∧ ((s.loopState l = lpAcquire ∨ s.loopState l = lpSettle ∨ s.loopState l = lpLocked)) ∧ 26 ≤ l.val ∧ s.Room Ev.SYN_LOR :=
  ⟨(wLoop 26 lpLocked), 26, [], by decide +kernel⟩
theorem witness_loopLossOfReference_2 : ∃ (s : State) (l : Fin 34) (g : List (Fin 20 × GridPhase)), s.RegsOk ∧ ((s.loopState l = lpAcquire ∨ s.loopState l = lpSettle ∨ s.loopState l = lpLocked)) ∧ 26 ≤ l.val ∧ s.Room Ev.SYN_LOR :=
  ⟨(wLoop 33 lpAcquire), 33, [], by decide +kernel⟩
theorem witness_loopReferenceReturn : ∃ (s : State) (l : Fin 34), s.RegsOk ∧ 6 ≤ l.val ∧ s.loopState l = lpLost ∧ s.syn.loaded = true ∧ s.tsrc < 3 ∧ s.injOn 0x51 l = false :=
  ⟨(wLoop 6 lpLost), 6, by decide +kernel⟩
def wEn (f : Fld) : State := wUp.putB f true
theorem witness_ppsCfgWrite : ∃ (s : State) (path : Path) (k : Fin 8) (v : Word), bitsOf v 31 12 = s.lastGet (F.SYN_PPSk_CFG_WIDTH k) :=
  ⟨(wUp.put (F.SYN_PPSk_CFG_WIDTH 7) 1), .spi, 7, 0x1001#32, by decide +kernel⟩
theorem witness_ppsCfgWrite_2 : ∃ (s : State) (path : Path) (k : Fin 8) (v : Word), bitsOf v 31 12 ≠ s.lastGet (F.SYN_PPSk_CFG_WIDTH k) ∧ s.lastGet (F.SYN_PPSk_CFG_ENABLE k) = 0 ∧ 1 ≤ bitsOf v 31 12 ∧ bitsOf v 31 12 ≤ 900000 :=
  ⟨wUp, .mgt, 7, 0xDBBA0001#32, by decide +kernel⟩
theorem witness_ppsCfgWrite_3 : ∃ (s : State) (path : Path) (k : Fin 8) (v : Word), bitsOf v 31 12 ≠ s.lastGet (F.SYN_PPSk_CFG_WIDTH k) ∧ s.lastGet (F.SYN_PPSk_CFG_ENABLE k) = 1 ∧ s.Room Ev.SYN_OFS_REFUSED :=
  ⟨(wEn (F.SYN_PPSk_CFG_ENABLE 7)), .mgt, 7, 0xDBBA0001#32, by decide +kernel⟩
theorem witness_ppsOfsWrite : ∃ (s : State) (path : Path) (k : Fin 8) (v : Word), s.lastGet (F.SYN_PPSk_CFG_ENABLE k) = 0 :=
  ⟨wUp, .mgt, 0, 9#32, by decide +kernel⟩
theorem witness_ppsOfsWrite_2 : ∃ (s : State) (path : Path) (k : Fin 8) (v : Word), s.lastGet (F.SYN_PPSk_CFG_ENABLE k) = 1 ∧ s.Room Ev.SYN_OFS_REFUSED :=
  ⟨(wEn (F.SYN_PPSk_CFG_ENABLE 0)), .mgt, 0, 9#32, by decide +kernel⟩
theorem witness_clkoutOfsWrite : ∃ (s : State) (path : Path) (k : Fin 8) (v : Word), s.lastGet (F.SYN_CLKOUTk_CTL_ENABLE k) = 0 :=
  ⟨wUp, .mgt, 0, 9#32, by decide +kernel⟩
theorem witness_clkoutOfsWrite_2 : ∃ (s : State) (path : Path) (k : Fin 8) (v : Word), s.lastGet (F.SYN_CLKOUTk_CTL_ENABLE k) = 1 ∧ s.Room Ev.SYN_OFS_REFUSED :=
  ⟨(wEn (F.SYN_CLKOUTk_CTL_ENABLE 0)), .mgt, 0, 9#32, by decide +kernel⟩
def wRun : State := (wUp.put ⟨A.XDC_RUN_CORE, 31, 0⟩ 0xFFFF).put ⟨A.XDC_RUN_CORE + 4, 31, 0⟩ 0xFFFFF
theorem witness_domainStopped : ∃ (s : State) (p : Fin 20), s.RegsOk ∧ s.domainRuns (16 + p.val) = true ∧ s.clockRuns 4 = true ∧ s.Room Ev.XDC_STOP :=
  ⟨wRun, 19, by decide +kernel⟩
theorem witness_domainHeld : ∃ (s : State) (p : Fin 20), s.clockRuns 4 = false :=
  ⟨(wUp.setGate 4 true), 0, by decide +kernel⟩
theorem witness_domainRunning : ∃ (s : State) (p : Fin 20) (us : Nat), s.RegsOk ∧ Quiet s ∧ s.domainRuns (16 + p.val) = false ∧ s.clockRuns 4 = true ∧ s.gateOpen (6 + p.val) = true ∧ s.Room Ev.XDC_RUN :=
  ⟨{ ((wRun.put ⟨A.XDC_RUN_CORE + 4, 31, 0⟩ 7).setGate 25 false) with xdc := { wUp.xdc with strobes := [1, 19, 200], stopped := [35, 3] } }, 19, 50, by decide +kernel⟩
theorem witness_strobePends : ∃ (s : State) (i : Nat), i < 0x1A ∧ s.crossOpen s.tsrc (strobeDst i) = true ∧ wUp.clockRuns (strobeDst 0x16) = true :=
  ⟨wUp, 0x16, by decide +kernel⟩
theorem witness_strobePends_2 : ∃ (s : State) (i : Nat), i < 0x1A ∧ s.crossOpen s.tsrc (strobeDst i) = true ∧ wUp.clockRuns (strobeDst 3) = false :=
  ⟨wUp, 3, by decide +kernel⟩
theorem witness_strobePends_3 : ∃ (s : State) (i : Nat), i < 0x1A ∧ s.crossOpen s.tsrc (strobeDst i) = true ∧ (wUp.modXdc fun x => { x with strobes := [3], merge := [(3, 255)] }).xdc.strobes.contains 3 = true :=
  ⟨(wUp.modXdc fun x => { x with strobes := [3], merge := [(3, 255)] }), 3, by decide +kernel⟩
theorem witness_sampleStall : ∃ (s : State) (a b : Fin 128), s.Room Ev.XDC_SAMPLE_STALL :=
  ⟨wUp, 3, 127, by decide +kernel⟩
theorem witness_resetRequest : ∃ (s : State) (x y : Fin 128), s.handshake x y = none :=
  ⟨wUp, 3, 127, by decide +kernel⟩
def wHs (a : Bool) (y : Nat) : State := wRun.modXdc fun x => { x with hs := [⟨48, y, a, 2, 5⟩] }
def wRxq : State := ((wHs false 3).put (F.PRT_x_RXQq_CFG_CONSUMER 0 5) 1).modPort 0 fun k => { k with rxq := [[], [], [], [], [], [⟨[1], ⟨0, 0, 0, 0, true⟩⟩, ⟨[2], ⟨0, 0, 0, 0, true⟩⟩], [], []] }
theorem witness_resetAck : ∃ (s : State) (x y : Fin 128) (h : Handshake), s.handshake x y = some h ∧ h.acked = false ∧ s.clockRuns y = true :=
  ⟨wRxq, 48, 3, ⟨48, 3, false, 2, 5⟩, by decide +kernel⟩
theorem witness_resetAck_2 : ∃ (s : State) (x y : Fin 128) (h : Handshake), s.handshake x y = some h ∧ h.acked = false ∧ s.clockRuns y = false :=
  ⟨(wHs false 7), 48, 7, ⟨48, 7, false, 2, 5⟩, by decide +kernel⟩
theorem witness_flushReceived : ∃ (s : State) (p : Fin 20), s.RegsOk ∧ s.prt.ports.length = 20 :=
  ⟨wRxq, 0, by decide +kernel⟩
theorem witness_resetOpen : ∃ (s : State) (x y : Fin 128) (h : Handshake), s.RegsOk ∧ Quiet s ∧ s.handshake x y = some h ∧ h.acked = true ∧ ((∀ g, s.handshake y x = some g → g.acked = true)) ∧ s.Room Ev.XDC_FLUSH :=
  ⟨((wHs true 3).put F.XDC_FLUSH_CNT_HANDSHAKES 65535), 48, 3, ⟨48, 3, true, 2, 5⟩, by decide +kernel⟩
theorem witness_resetWaits : ∃ (s : State) (x y : Fin 128) (g : Handshake), Quiet s ∧ s.handshake y x = some g ∧ g.acked = false :=
  ⟨(wHs false 3), 3, 48, ⟨48, 3, false, 2, 5⟩, by decide +kernel⟩
def wMerge : State := ((wUp.put (F.XDC_MERGE_NZ_NZ 1) 8).put F.XDC_MERGE_SEL_INDEX 35).modXdc fun x => { x with merge := [(35, 9), (40, 2)] }
theorem witness_mergeClear : ∃ s : State, s.RegsOk ∧ spWf (fun _ => 0) s.xdc.merge = true :=
  ⟨wMerge, by decide +kernel⟩
theorem witness_mergeClearAll : ∃ s : State, s.RegsOk :=
  ⟨wMerge, by decide +kernel⟩

/-- Port p up on an engine port's mode with a grid phase, pinning on, class 0 of source 1. -/
def wPort (p : Nat) : State := (((((((wUp.setLoop (6 + p) lpLocked).setGate (6 + p) false).setLink p lkUp).put (F.PRT_x_CFG_MODE p) 1).putB (F.TSU_x_CFG_PIN_EN p) true).put (F.PRT_x_TXCc_CFG_SOURCE p 0) 1).put (F.PRT_x_RXQq_CFG_CONSUMER p 0) 2).putB (F.PRT_x_FILT_CFG_UNMATCHED_DROP p) false |>.modPort p (fun k => { k with phase := some ⟨wUp.now, 0, 0⟩ }) |>.modXdc fun c => { c with stopped := c.stopped.filter (· != 48 + p) }
def wMeta : RxMeta := ⟨0, 0, 0, 0, 0, 0, 0, 0⟩
def wTm (t : Nat) : TxMeta := ⟨t, 0, 0⟩
def wFrm (da n : Nat) : List Byte := beBytes 6 da ++ List.replicate 6 0 ++ [0x08, 0x00] ++ List.replicate n 0
def wFcs (d : List Byte) : List Byte := d ++ leBytes 4 (crc32 d)
theorem witness_rxDropped : ∃ (s : State) (p : Fin 20) (f : List Byte) (m : RxMeta), s.Canon ∧ s.portUp p = true ∧ s.clockRuns (48 + p) = true ∧ m.fecUncorr = 0 ∧ f.length < 64 :=
  ⟨(wPort 0), 0, (List.replicate 63 0), wMeta, canonOf _ (by decide +kernel), by decide +kernel⟩
theorem witness_rxDropped_2 : ∃ (s : State) (p : Fin 20) (f : List Byte) (m : RxMeta), s.Canon ∧ s.portUp p = true ∧ s.clockRuns (48 + p) = true ∧ m.fecUncorr = 0 ∧ 64 ≤ f.length ∧ s.maxLenAt p (s.rxInstant p m) < f.length :=
  ⟨(wPort 19), 19, (List.replicate 1523 0), wMeta, canonOf _ (by decide +kernel), by decide +kernel⟩
theorem witness_rxDropped_3 : ∃ (s : State) (p : Fin 20) (f : List Byte) (m : RxMeta), s.Canon ∧ s.portUp p = true ∧ s.clockRuns (48 + p) = true ∧ m.fecUncorr = 0 ∧ 64 ≤ f.length ∧ f.length ≤ s.maxLenAt p (s.rxInstant p m) ∧ fcsGood f = false :=
  ⟨(wPort 19), 19, (List.replicate 1522 0), wMeta, canonOf _ (by decide +kernel), by decide +kernel⟩
theorem witness_rxCutOff : ∃ (s : State) (p : Fin 20) (f : List Byte) (m : RxMeta) (u : Nat), s.Canon ∧ s.portUp p = false ∧ (s.port p).leftUp = some u ∧ m.serdes < u :=
  ⟨((wUp.setLink 3 lkAcquire).modPort 3 fun k => { k with leftUp := some wUp.now }), 3, (List.replicate 64 0), { wMeta with serdes := wUp.now - 1 }, wUp.now, canonOf _ (by decide +kernel), by decide +kernel⟩
theorem witness_rxQueued : ∃ (s : State) (p : Fin 20) (f d : List Byte) (m : RxMeta) (q : Nat), s.Canon ∧ PortsOk s ∧ s.portUp p = true ∧ s.clockRuns (48 + p) = true ∧ m.fecUncorr = 0 ∧ 64 ≤ f.length ∧ f.length ≤ s.maxLenAt p (s.rxInstant p m) ∧ fcsGood f = true ∧ d = f.take (f.length - 4) ∧ s.admitted p (beAt d 0 6) = true ∧ etherType d ≠ 0x8808 ∧ s.ruleFor p d = none ∧ s.flag (F.PRT_x_FILT_CFG_UNMATCHED_DROP p) = false ∧ q = s.get (F.PRT_x_FILT_CFG_DEFAULT_Q p) ∧ q < (s.port p).rxq.length ∧ reaches (s.get (F.PRT_x_RXQq_CFG_CONSUMER p q)) p = true ∧ queueBytes (s.queue p q) + d.length ≤ s.get (F.PRT_x_RXQq_CFG_DEPTH p q) * 1024 :=
  ⟨(wPort 3), 3, (wFcs (wFrm 0x0180C2000001 46)), (wFrm 0x0180C2000001 46), wMeta, 0, canonOf _ (by decide +kernel), by decide +kernel⟩
theorem witness_pauseFrame : ∃ (s : State) (p : Fin 20) (q : Fin 65536) (last : Nat), s.Canon ∧ PortsOk s ∧ s.portUp p = true :=
  ⟨(wPort 3), 3, 65535, 70, canonOf _ (by decide +kernel), by decide +kernel⟩
theorem witness_pauseFrame_2 : ∃ (s : State) (p : Fin 20) (q : Fin 65536) (last : Nat), s.Canon ∧ PortsOk s ∧ s.portUp p = true :=
  ⟨((wPort 3).putB (F.PRT_x_CFG_PFC_EN 3) true), 3, 5, 70, canonOf _ (by decide +kernel), by decide +kernel⟩
theorem witness_pfcFrame : ∃ (s : State) (p : Fin 20) (en : Fin 256) (qs : List (Fin 65536)) (last : Nat), s.Canon ∧ PortsOk s ∧ s.portUp p = true :=
  ⟨((wPort 3).putB (F.PRT_x_CFG_PFC_EN 3) true), 3, 255, [1, 2, 0, 0, 0, 0, 0, 65535], 70, canonOf _ (by decide +kernel), by decide +kernel⟩
/-- A frame of class 0, and the port with it running, waiting and pinned. -/
def wTx (src : Nat) (stamp : Option Nat) : TxFrame := ⟨src, 0, beBytes 6 0x0180C2000001 ++ List.replicate 48 0, stamp, 54, 0, none⟩
def wPin (ph : PinPhase) : Pinned := ⟨7, 1, 0, wUp.now + 65536 * 500, wUp.now + 65536 * 600, wUp.now + 65536 * 100, wUp.now + 65536 * 900, 64, false, ph, [1]⟩
def wPausePend : State := (wPort 3).modPort 3 fun k => { k with pausePend := [(7, 500), (9, 900)], pfcPend := [([some 0, none, some 3], 500)], pfc := [some (3, 700), some (4, 800), none, none, none, none, none, some (5, 80)], pause := some (65536, 5 * 65536), phase := none }
theorem witness_pauseAction : ∃ (s : State) (p : Fin 20) (a q e : Nat) (rest : List (Nat × Nat)), s.RegsOk ∧ PortsOk s ∧ (s.port p).pausePend = (q, e) :: rest ∧ a = s.blockAt p e ∧ q ≠ 0 ∧ s.busyEnd p = none :=
  ⟨wPausePend, 3, 500, 7, 500, [(9, 900)], by decide +kernel⟩
theorem witness_pauseAction_2 : ∃ (s : State) (p : Fin 20) (a q e : Nat) (rest : List (Nat × Nat)), s.RegsOk ∧ PortsOk s ∧ (s.port p).pausePend = (q, e) :: rest ∧ a = s.blockAt p e ∧ q = 0 :=
  ⟨(wPausePend.modPort 3 fun k => { k with pausePend := [(0, 500)] }), 3, 500, 0, 500, [], by decide +kernel⟩
theorem witness_pauseAction_3 : ∃ (s : State) (p : Fin 20) (a q e : Nat) (rest : List (Nat × Nat)), s.RegsOk ∧ PortsOk s ∧ (s.port p).pausePend = (q, e) :: rest ∧ a = s.blockAt p e ∧ q ≠ 0 ∧ (s.port p).pause = none :=
  ⟨(wPausePend.modPort 3 fun k => { k with pausePend := [(65535, wUp.now)], pause := none, phase := some ⟨5, 0, 0⟩ }), 3, ((wPausePend.modPort 3 fun k => { k with phase := some ⟨5, 0, 0⟩ }).blockAt 3 wUp.now), 65535, wUp.now, [], by decide +kernel⟩
theorem witness_pauseAction_4 : ∃ (s : State) (p : Fin 20) (a q e : Nat) (rest : List (Nat × Nat)), s.RegsOk ∧ PortsOk s ∧ (s.port p).pausePend = (q, e) :: rest ∧ a = s.blockAt p e ∧ q ≠ 0 ∧ (s.busyEnd p).isSome = true :=
  ⟨(wPausePend.modPort 3 fun k => { k with pausePend := [(1, 500)], busy := some (wTx 1 none) }), 3, 500, 1, 500, [], by decide +kernel⟩
theorem witness_pauseNone : ∃ (s : State) (p : Fin 20), (s.port p).pausePend = [] ∧ (s.port p).pfcPend = [] :=
  ⟨(wPort 3), 3, by decide +kernel⟩
theorem witness_pfcAction : ∃ (s : State) (p : Fin 20) (a e : Nat) (qs : List (Option Nat)) (rest : List (List (Option Nat) × Nat)), s.RegsOk ∧ PortsOk s ∧ (s.port p).pfcPend = (qs, e) :: rest ∧ a = s.blockAt p e ∧ (s.port p).pfc.length = 8 :=
  ⟨wPausePend, 3, 500, 500, [some 0, none, some 3], [], by decide +kernel⟩
theorem witness_pauseEnd : ∃ (s : State) (p : Fin 20) (a e : Nat), s.Canon ∧ PortsOk s ∧ (s.port p).pause = some (a, e) :=
  ⟨wPausePend, 3, 65536, (5 * 65536), canonOf _ (by decide +kernel), by decide +kernel⟩
theorem witness_pfcEnd : ∃ (s : State) (p : Fin 20) (i : Fin 8) (a e : Nat), s.RegsOk ∧ PortsOk s ∧ (s.port p).pfc[i.val]? = some (some (a, e)) :=
  ⟨wPausePend, 3, 7, 5, 80, by decide +kernel⟩
def wPauseLong (b : Bool) : State := wPausePend.modPort 3 fun k => { k with pauseSince := some 0, pauseLong := b }
theorem witness_pauseLong : ∃ (s : State) (p : Fin 20) (u : Nat), PortsOk s ∧ s.Room Ev.PRT_PAUSE_LONG ∧ (s.port p).pauseSince = some u ∧ u + s.get (F.PRT_x_TIMERS_PAUSE_LONG p) * lsbPerUs ≤ s.now ∧ (s.port p).pauseLong = false :=
  ⟨(wPauseLong false), 3, 0, by decide +kernel⟩
theorem witness_pauseLong_2 : ∃ (s : State) (p : Fin 20) (u : Nat), PortsOk s ∧ s.Room Ev.PRT_PAUSE_LONG ∧ (s.port p).pauseSince = some u ∧ u + s.get (F.PRT_x_TIMERS_PAUSE_LONG p) * lsbPerUs ≤ s.now ∧ (s.port p).pauseLong = true :=
  ⟨(wPauseLong true), 3, 0, by decide +kernel⟩
theorem witness_linkBlockLock : ∃ (s : State) (p : Fin 20) (skew : List Int), s.RegsOk ∧ PortsOk s ∧ s.link p = lkAcquire ∧ s.injOn 0x70 p = false ∧ ((p.val ≠ 19 ∨ s.flag (F.PRT_x_AN_STAT_AN_DONE p) = true)) :=
  ⟨((wUp.setLink 19 lkAcquire).putB (F.PRT_x_AN_STAT_AN_DONE 19) true), 19, [], by decide +kernel⟩
theorem witness_linkBlockLock_2 : ∃ (s : State) (p : Fin 20) (skew : List Int), s.RegsOk ∧ PortsOk s ∧ s.link p = lkAcquire ∧ s.injOn 0x70 p = false ∧ ((p.val ≠ 19 ∨ s.flag (F.PRT_x_AN_STAT_AN_DONE p) = true)) :=
  ⟨((wUp.setLink 1 lkAcquire).putB (F.PRT_x_STAT_HI_BER 1) true), 1, [0, 5, 0 - 7, 32767], by decide +kernel⟩
theorem witness_linkAwaitsPartner : ∃ (s : State) (skew : List Int), s.RegsOk ∧ s.link 19 = lkAcquire ∧ s.injOn 0x70 19 = false ∧ s.flag (F.PRT_x_AN_STAT_AN_DONE 19) = false :=
  ⟨(wUp.setLink 19 lkAcquire), [], by decide +kernel⟩
theorem witness_linkHoldExpiry : ∃ (s : State) (p : Fin 20) (ms : Nat) (ph : GridPhase), s.RegsOk ∧ PortsOk s ∧ s.link p = lkVerify ∧ s.get (F.PRT_x_TIMERS_LINK_HOLD p) ≤ ms ∧ s.injOn 0x81 p = false ∧ s.Room Ev.PRT_LINK_UP :=
  ⟨((wPort 4).setLink 4 lkVerify), 4, 1000, ⟨77, 3, 0⟩, by decide +kernel⟩
theorem witness_linkHoldExpiry_2 : ∃ (s : State) (p : Fin 20) (ms : Nat) (ph : GridPhase), s.RegsOk ∧ PortsOk s ∧ s.link p = lkVerify ∧ s.get (F.PRT_x_TIMERS_LINK_HOLD p) ≤ ms :=
  ⟨((wPort 18).setLink 18 lkVerify), 18, ((wPort 18).get (F.PRT_x_TIMERS_LINK_HOLD 18)), ⟨77, 3, 0⟩, by decide +kernel⟩
theorem witness_linkHoldExpiry_3 : ∃ (s : State) (p : Fin 20) (ms : Nat) (ph : GridPhase), s.RegsOk ∧ PortsOk s ∧ s.link p = lkVerify ∧ ms < s.get (F.PRT_x_TIMERS_LINK_HOLD p) :=
  ⟨((wPort 4).setLink 4 lkVerify), 4, 0, ⟨77, 3, 0⟩, by decide +kernel⟩
def wBusy : State := (wPort 3).modPort 3 fun k => { k with busy := some (wTx 1 (some 9)), txq := [[wTx 1 none], [], [], [], [], [], [], []], pinned := [wPin .armed], pause := some (3, 9) }
theorem witness_linkFault : ∃ (s : State) (p : Fin 20) (c : Fin 4), s.Canon ∧ PortsOk s ∧ s.link p = lkUp ∧ s.Room Ev.PRT_LINK_DOWN :=
  ⟨wBusy, 3, 3, canonOf _ (by decide +kernel), by decide +kernel⟩
theorem witness_linkFault_2 : ∃ (s : State) (p : Fin 20) (c : Fin 4), s.Canon ∧ PortsOk s ∧ s.link p = lkUp ∧ s.Room Ev.PRT_LINK_DOWN :=
  ⟨wBusy, 3, 0, canonOf _ (by decide +kernel), by decide +kernel⟩
theorem witness_linkFault_3 : ∃ (s : State) (p : Fin 20) (c : Fin 4), s.Canon ∧ PortsOk s ∧ s.link p = lkUp ∧ s.Room Ev.PRT_LINK_DOWN ∧ c.val = 1 :=
  ⟨wBusy, 3, 1, canonOf _ (by decide +kernel), by decide +kernel⟩
theorem witness_linkFault_4 : ∃ (s : State) (p : Fin 20) (c : Fin 4), s.Canon ∧ PortsOk s ∧ s.link p = lkUp ∧ s.Room Ev.PRT_LINK_DOWN ∧ c.val = 2 ∧ p.val ≠ 19 :=
  ⟨wBusy, 3, 2, canonOf _ (by decide +kernel), by decide +kernel⟩
theorem witness_linkVerifyFault : ∃ (s : State) (p : Fin 20) (c : Fin 4), s.Canon ∧ PortsOk s ∧ s.link p = lkVerify :=
  ⟨(wBusy.setLink 3 lkVerify), 3, 0, canonOf _ (by decide +kernel), by decide +kernel⟩
theorem witness_autonegResult : ∃ (s : State) (w : BitVec 16), s.RegsOk ∧ s.Room Ev.PRT_AN_FAIL :=
  ⟨(wPort 19), 0, by decide +kernel⟩
theorem witness_autonegResult_2 : ∃ (s : State) (w : BitVec 16), s.RegsOk ∧ s.Room Ev.PRT_AN_FAIL :=
  ⟨(wPort 19), 0x40A0, by decide +kernel⟩
theorem witness_autonegResult_3 : ∃ (s : State) (w : BitVec 16), s.RegsOk ∧ s.Room Ev.PRT_AN_FAIL :=
  ⟨(wPort 19), 0xFFFF, by decide +kernel⟩
theorem witness_portReset : ∃ (s : State) (p : Fin 20), s.RegsOk ∧ PortsOk s ∧ s.xdc.hs = [] ∧ s.Room Ev.PRT_RESET_DONE ∧ (∀ d ∈ s.portPairs p, s.clockRuns d.2 = true) :=
  ⟨wBusy, 3, by decide +kernel⟩
theorem witness_portCntSnap : ∃ (s : State) (p : Fin 20), s.RegsOk ∧ (s.port p).pause = none :=
  ⟨(wPort 19), 19, by decide +kernel⟩
theorem witness_portCntSnap_2 : ∃ (s : State) (p : Fin 20), s.RegsOk :=
  ⟨(wPausePend.countUp (A.PRT_x_RX_FRAMES 3) 9), 3, by decide +kernel⟩
theorem witness_txRefused : ∃ (s : State) (p : Fin 20) (src c : Fin 8) (d : List Byte) (st : Option (Fin 65536)) (w : Nat), s.Canon ∧ ((src.val ≠ 2 ∨ s.flag F.BND_CFG_PTP_TLV = false)) ∧ TxNew s p src c d (st.map (·.val)) ∧ s.txCause p src c d ≠ 0 ∧ s.Room Ev.PRT_TX_REFUSED :=
  ⟨(wPort 3), 3, 1, 0, (List.replicate 20 1), none, 54, canonOf _ (by decide +kernel), by decide +kernel⟩
theorem witness_txRefused_2 : ∃ (s : State) (p : Fin 20) (src c : Fin 8) (d : List Byte) (st : Option (Fin 65536)) (w : Nat), s.Canon ∧ ((src.val ≠ 2 ∨ s.flag F.BND_CFG_PTP_TLV = false)) ∧ TxNew s p src c d (st.map (·.val)) ∧ s.txCause p src c d ≠ 0 ∧ s.Room Ev.PRT_TX_REFUSED :=
  ⟨(wPort 3), 3, 2, 0, (wTx 1 none).data, none, 54, canonOf _ (by decide +kernel), by decide +kernel⟩
theorem witness_txQueued : ∃ (s : State) (p : Fin 20) (src c : Fin 8) (d : List Byte) (st : Option (Fin 65536)) (w : Nat) (l : List TxFrame), PortsOk s ∧ ((src.val ≠ 2 ∨ s.flag F.BND_CFG_PTP_TLV = false)) ∧ TxNew s p src c d (st.map (·.val)) ∧ s.txCause p src c d = 0 ∧ s.portUp p = true ∧ (s.port p).txq[c.val]? = some l :=
  ⟨(wPort 3), 3, 1, 0, (wTx 1 none).data, (some 65535), 54, [], by decide +kernel⟩
theorem witness_txQueued_2 : ∃ (s : State) (p : Fin 20) (src c : Fin 8) (d : List Byte) (st : Option (Fin 65536)) (w : Nat) (l : List TxFrame), PortsOk s ∧ ((src.val ≠ 2 ∨ s.flag F.BND_CFG_PTP_TLV = false)) ∧ TxNew s p src c d (st.map (·.val)) ∧ s.txCause p src c d = 0 ∧ s.portUp p = false :=
  ⟨((wPort 3).setLink 3 lkGated), 3, 1, 0, (wTx 1 none).data, none, 54, [], by decide +kernel⟩
theorem witness_txGrows : ∃ (s : State) (p : Fin 20) (f : TxFrame) (src c : Fin 8) (st : Option (Fin 65536)) (w : Nat), PortsOk s ∧ ((src.val ≠ 2 ∨ s.flag F.BND_CFG_PTP_TLV = false)) ∧ (s.port p).busy = some f ∧ f.src = src.val ∧ f.cls = c.val ∧ f.stamp = st.map (·.val) ∧ f.written < f.data.length :=
  ⟨(wBusy.modPort 3 fun k => { k with busy := some { wTx 1 none with written := 10 } }), 3, { wTx 1 none with written := 10 }, 1, 0, none, 40, by decide +kernel⟩
def wFup (tlv : Bool) : List Byte := beBytes 6 0x0180C2000001 ++ List.replicate 6 0 ++ [0x88, 0xF7, 8, 2, 0, if tlv then 64 else 44] ++ List.replicate 40 0 ++ (if tlv then [0, 3, 0, 16] ++ List.replicate 16 0 else [])
def wFupPort : State := (((wPort 3).put (F.PRT_x_TXCc_CFG_SOURCE 3 0) 2).putB F.BND_CFG_PTP_TLV true).put (F.SVC_GMi_CFG_PORT 0) 3 |>.putB (F.SVC_GMi_CFG_EN 0) true |>.put (F.SVC_GMi_CFG_DOMAIN 0) 0
def wFupOut : List Byte := overlay (wFup true) 58 (wFupPort.ptpTlv (wFupPort.boundReq 3 0 none))
theorem witness_followUpTlv : ∃ (s : State) (p : Fin 20) (c : Fin 8) (d e : List Byte) (i o k b : Nat) (w : Nat) (l : List TxFrame), PortsOk s ∧ s.flag F.BND_CFG_PTP_TLV = true ∧ s.portUp p = true ∧ (s.port p).txq[c.val]? = some l ∧ s.followUp p d = some (i, o, some k) ∧ b = s.boundReq p (beAt d (o + 34) 6 * lsbPerSec + beAt d (o + 40) 4 * lsbPerNs) none ∧ e = overlay d k (s.ptpTlv b) ∧ TxNew s p 2 c e none ∧ s.txCause p 2 c e = 0 :=
  ⟨wFupPort, 3, 0, (wFup true), wFupOut, 0, 14, 58, (wFupPort.boundReq 3 0 none), 78, [], by decide +kernel⟩
theorem witness_followUpTlv_2 : ∃ (s : State) (p : Fin 20) (c : Fin 8) (d e : List Byte) (i o k b : Nat) (w : Nat) (l : List TxFrame), PortsOk s ∧ s.flag F.BND_CFG_PTP_TLV = true ∧ s.portUp p = true ∧ (s.port p).txq[c.val]? = some l ∧ s.followUp p d = some (i, o, none) :=
  ⟨wFupPort, 3, 0, (wFup false), [], 0, 14, 0, 0, 58, [], by decide +kernel⟩
theorem witness_txCauses : ∃ (s : State) (p src c : Nat) (d : List Byte), etherType d = 0x8808 :=
  ⟨(wPort 3), 3, 1, 0, (List.replicate 12 0 ++ [0x88, 0x08] ++ List.replicate 46 0), by decide +kernel⟩
theorem witness_txCauses_2 : ∃ (s : State) (p src c : Nat) (d : List Byte), etherType d ≠ 0x8808 ∧ beAt d 6 6 ≠ s.portAddr p :=
  ⟨(wPort 3), 3, 1, 0, (List.replicate 60 1), by decide +kernel⟩
theorem witness_txCauses_3 : ∃ (s : State) (p src c : Nat) (d : List Byte), etherType d ≠ 0x8808 ∧ beAt d 6 6 = s.portAddr p ∧ ((src = 0 ∨ s.get (F.PRT_x_TXCc_CFG_SOURCE p c) ≠ src)) :=
  ⟨(wPort 3), 3, 2, 0, (wTx 1 none).data, by decide +kernel⟩
theorem witness_txCauses_4 : ∃ (s : State) (p src c : Nat) (d : List Byte), s.txCause p src c d = 0 :=
  ⟨(wPort 3), 3, 1, 0, (wTx 1 none).data, by decide +kernel⟩
def wTxq (f : TxFrame) : State := (wPort 3).modPort 3 fun k => { k with txq := [[f, wTx 1 (some 4)], [], [], [], [], [], [], []] }
theorem witness_txClassRule : ∃ (s : State) (p t c : Nat), s.txClass p t = some c :=
  ⟨(wTxq (wTx 1 none)), 3, (wUp.now + 5), 0, by decide +kernel⟩
theorem witness_txFrameStart : ∃ (s : State) (p : Fin 20) (u c : Nat) (f : TxFrame) (rest : List TxFrame), s.Canon ∧ PortsOk s ∧ s.portUp p = true ∧ s.clockRuns (16 + p) = true ∧ s.flag (F.PRT_x_STAT_REMOTE_FAULT p) = false ∧ s.busyEnd p = none ∧ s.txClass p (max s.now u) = some c ∧ (s.port p).txq[c]? = some (f :: rest) ∧ f.acc = none ∧ wireLen f.data ≤ s.maxLen p :=
  ⟨(wTxq (wTx 1 none)), 3, (wUp.now + 5), 0, (wTx 1 none), [wTx 1 (some 4)], canonOf _ (by decide +kernel), by decide +kernel⟩
theorem witness_txFrameStart_2 : ∃ (s : State) (p : Fin 20) (u c : Nat) (f : TxFrame) (rest : List TxFrame), s.Canon ∧ PortsOk s ∧ s.portUp p = true ∧ s.clockRuns (16 + p) = true ∧ s.flag (F.PRT_x_STAT_REMOTE_FAULT p) = false ∧ s.busyEnd p = none ∧ s.txClass p (max s.now u) = some c ∧ (s.port p).txq[c]? = some (f :: rest) ∧ f.acc = none ∧ s.maxLen p < wireLen f.data ∧ s.Room Ev.PRT_TX_REFUSED :=
  ⟨(wTxq { wTx 1 none with data := List.replicate 1600 0, written := 1600 }), 3, (wUp.now + 5), 0, { wTx 1 none with data := List.replicate 1600 0, written := 1600 }, [wTx 1 (some 4)], canonOf _ (by decide +kernel), by decide +kernel⟩
theorem witness_txAnnounceStart : ∃ (s : State) (p : Fin 20) (c i o : Nat) (f : TxFrame) (rest : List TxFrame), PortsOk s ∧ s.portUp p = true ∧ s.clockRuns (16 + p) = true ∧ s.flag (F.PRT_x_STAT_REMOTE_FAULT p) = false ∧ s.busyEnd p = none ∧ s.txClass p s.now = some c ∧ (s.port p).txq[c]? = some (f :: rest) ∧ f.acc = some (i, o) ∧ wireLen f.data ≤ s.maxLen p ∧ s.tokens p c s.now = none :=
  ⟨(wTxq { wTx 1 none with acc := some (0, 50) }), 3, 0, 0, 50, { wTx 1 none with acc := some (0, 50) }, [wTx 1 (some 4)], by decide +kernel⟩
theorem witness_txHeld : ∃ (s : State) (p : Fin 20) (u : Nat), ((s.portUp p = false ∨ s.flag (F.PRT_x_STAT_REMOTE_FAULT p) = true)) :=
  ⟨((wTxq (wTx 1 none)).putB (F.PRT_x_STAT_REMOTE_FAULT 3) true), 3, 5, by decide +kernel⟩
theorem witness_txFrameDone : ∃ (s : State) (p : Fin 20) (m : TxMeta) (f : TxFrame), s.Canon ∧ PortsOk s ∧ (s.port p).busy = some f ∧ s.injOn 0x71 p = false ∧ f.src ≠ 4 ∧ f.src ≠ 2 :=
  ⟨wBusy, 3, (wTm (wUp.now + 5)), (wTx 1 (some 9)), canonOf _ (by decide +kernel), by decide +kernel⟩
theorem witness_txFrameFollows : ∃ (s : State) (p : Fin 20) (m : TxMeta) (f : TxFrame), s.Canon ∧ PortsOk s ∧ (s.port p).busy = some f ∧ s.injOn 0x71 p = false ∧ f.src = 4 :=
  ⟨((wBusy.modPort 3 fun k => { k with busy := some (wTx 4 none) }).modTic fun c => { c with kept := [((wTx 4 none).data, 3)] }), 3, (wTm 9), (wTx 4 none), canonOf _ (by decide +kernel), by decide +kernel⟩
theorem witness_txFrameFollows_2 : ∃ (s : State) (p : Fin 20) (m : TxMeta) (f : TxFrame), s.Canon ∧ PortsOk s ∧ (s.port p).busy = some f ∧ s.injOn 0x71 p = false ∧ f.src = 2 ∧ f.stamp.isSome = true :=
  ⟨(wBusy.modPort 3 fun k => { k with busy := some (wTx 2 (some 9)) }), 3, (wTm 9), (wTx 2 (some 9)), canonOf _ (by decide +kernel), by decide +kernel⟩
theorem witness_txUnderrun : ∃ (s : State) (p : Fin 20) (f : TxFrame), s.Canon ∧ PortsOk s ∧ (s.port p).busy = some f ∧ f.written < f.data.length ∧ s.Room Ev.PRT_UNDERRUN :=
  ⟨(wBusy.modPort 3 fun k => { k with busy := some { wTx 1 none with written := 10 } }), 3, { wTx 1 none with written := 10 }, canonOf _ (by decide +kernel), by decide +kernel⟩
theorem witness_txUnderrun_2 : ∃ (s : State) (p : Fin 20) (f : TxFrame), s.Canon ∧ PortsOk s ∧ (s.port p).busy = some f ∧ f.data.length ≤ f.written :=
  ⟨wBusy, 3, (wTx 1 (some 9)), canonOf _ (by decide +kernel), by decide +kernel⟩
theorem witness_reservationRefused_2 : ∃ (s : State) (p : Fin 20) (c : Fin 8) (e len : Nat) (rsv : Bool) (tag : Fin 65536), e < s.now + s.get (F.TSU_x_GUARD_LEAD p) * 65536 :=
  ⟨(wPort 3), 3, 0, wUp.now, 64, true, 65535, by decide +kernel⟩
theorem witness_reservationRefused_3 : ∃ (s : State) (p : Fin 20) (c : Fin 8) (e len : Nat) (rsv : Bool) (tag : Fin 65536), ((len < 64 ∨ s.maxLen p < len)) :=
  ⟨(wPort 3), 3, 0, (wUp.now + 65536 * 5000), 63, true, 65535, by decide +kernel⟩
def wGrant : Nat × Nat × Nat := match ((wPort 3).reserve 3 0 1 (wUp.now + 65536 * 500) 90 false 7).1 with | .granted a b d => (a, b, d) | _ => (0, 0, 0)
theorem witness_reservationGranted : ∃ (s : State) (p : Fin 20) (c : Fin 8) (e len : Nat) (rsv : Bool) (tag : Fin 65536) (a b d : Nat), PortsOk s ∧ (s.reserve p c (s.get (F.PRT_x_TXCc_CFG_SOURCE p c)) e len rsv tag).1 = .granted a b d ∧ s.pauseOf p c = [] :=
  ⟨(wPort 3), 3, 0, (wUp.now + 65536 * 500), 90, false, 7, wGrant.1, wGrant.2.1, wGrant.2.2, by decide +kernel⟩
def wSlot : Int × Nat × Bool := ((wPort 3).slotSearch 3 0 90 false ((wPort 3).grid 3) ⟨wUp.now, 0, 0⟩ (wUp.now + 65536 * 1000) 100 0 0).getD (0, 0, true)
theorem witness_slotFree : ∃ (s : State) (p c len : Nat) (rsv : Bool) (g : Grid) (ph : GridPhase) (last : Rat) (k : Nat) (n n' : Int) (i i' : Nat) (w : Bool), s.slotSearch p c len rsv g ph last k n i = some (n', i', w) :=
  ⟨(wPort 3), 3, 0, 90, false, ((wPort 3).grid 3), ⟨wUp.now, 0, 0⟩, (wUp.now + 65536 * 1000), 100, 0, wSlot.1, 0, wSlot.2.1, wSlot.2.2, by decide +kernel⟩
def wPinned (ph : PinPhase) : State := (wPort 3).modPort 3 fun k => { k with pinned := [wPin ph] }
def wPinD (d : List Byte) (n : Nat) : Pinned := { wPin .reserved with data := d, len := n }
theorem witness_pinnedArmed : ∃ (s : State) (p : Fin 20) (src : Fin 8) (tag : Fin 65536) (d : List Byte) (f : Pinned), s.Canon ∧ PortsOk s ∧ PinIs s p src tag f ∧ f.phase = .reserved ∧ s.now < f.deadline ∧ s.injOn 0x80 p = false ∧ f.data ≠ [] :=
  ⟨(wPinned .reserved), 3, 1, 7, [], (wPin .reserved), canonOf _ (by decide +kernel), by decide +kernel⟩
theorem witness_pinnedArmed_2 : ∃ (s : State) (p : Fin 20) (src : Fin 8) (tag : Fin 65536) (d : List Byte) (f : Pinned), s.Canon ∧ PortsOk s ∧ PinIs s p src tag f ∧ f.phase = .reserved ∧ s.now < f.deadline ∧ s.injOn 0x80 p = false ∧ f.data = [] ∧ wireLen d = f.len ∧ s.txCause p src f.cls d = 0 :=
  ⟨((wPort 3).modPort 3 fun k => { k with pinned := [wPinD [] 64] }), 3, 1, 7, (wTx 1 none).data, (wPinD [] 64), canonOf _ (by decide +kernel), by decide +kernel⟩
theorem witness_pinnedArmed_3 : ∃ (s : State) (p : Fin 20) (src : Fin 8) (tag : Fin 65536) (d : List Byte) (f : Pinned), s.Canon ∧ PortsOk s ∧ PinIs s p src tag f ∧ f.phase = .reserved ∧ s.now < f.deadline ∧ s.injOn 0x80 p = false ∧ f.data = [] ∧ wireLen d = f.len ∧ s.txCause p src f.cls d ≠ 0 ∧ s.Room Ev.PRT_TX_REFUSED :=
  ⟨((wPort 3).modPort 3 fun k => { k with pinned := [wPinD [] 64] }), 3, 1, 7, (List.replicate 20 1), (wPinD [] 64), canonOf _ (by decide +kernel), by decide +kernel⟩
theorem witness_pinnedLaunch : ∃ (s : State) (p : Fin 20) (src : Fin 8) (tag : Fin 65536) (f : Pinned), s.Canon ∧ PortsOk s ∧ PinIs s p src tag f ∧ f.phase = .armed ∧ f.len ≤ s.maxLen p :=
  ⟨(wPinned .armed), 3, 1, 7, (wPin .armed), canonOf _ (by decide +kernel), by decide +kernel⟩
theorem witness_pinnedLaunch_2 : ∃ (s : State) (p : Fin 20) (src : Fin 8) (tag : Fin 65536) (f : Pinned), s.Canon ∧ PortsOk s ∧ PinIs s p src tag f ∧ f.phase = .armed ∧ s.maxLen p < f.len :=
  ⟨((wPort 3).modPort 3 fun k => { k with pinned := [{ wPin .armed with len := 20000 }] }), 3, 1, 7, { wPin .armed with len := 20000 }, canonOf _ (by decide +kernel), by decide +kernel⟩
theorem witness_deadlineMissed : ∃ (s : State) (p : Fin 20) (src : Fin 8) (tag : Fin 65536) (f : Pinned), s.RegsOk ∧ PortsOk s ∧ PinIs s p src tag f ∧ f.phase = .reserved :=
  ⟨(wPinned .reserved), 3, 1, 7, (wPin .reserved), by decide +kernel⟩
theorem witness_pinnedCancel : ∃ (s : State) (p : Fin 20) (src : Fin 8) (tag : Fin 65536) (f : Pinned), s.RegsOk ∧ PortsOk s ∧ PinIs s p src tag f ∧ f.phase = .launching :=
  ⟨(wPinned .launching), 3, 1, 7, (wPin .launching), by decide +kernel⟩
theorem witness_pinnedCancel_2 : ∃ (s : State) (p : Fin 20) (src : Fin 8) (tag : Fin 65536) (f : Pinned), s.RegsOk ∧ PortsOk s ∧ PinIs s p src tag f ∧ f.phase = .armed ∧ f.slot ≤ s.now :=
  ⟨((wPinned .armed).advanceTo (wPin .armed).slot), 3, 1, 7, (wPin .armed), by decide +kernel⟩
theorem witness_pinnedCancel_3 : ∃ (s : State) (p : Fin 20) (src : Fin 8) (tag : Fin 65536) (f : Pinned), s.RegsOk ∧ PortsOk s ∧ PinIs s p src tag f ∧ s.now < f.slot :=
  ⟨(wPinned .armed), 3, 1, 7, (wPin .armed), by decide +kernel⟩
theorem witness_pinnedCommit : ∃ (s : State) (p : Fin 20) (src : Fin 8) (tag : Fin 65536) (m : TxMeta) (f : Pinned), s.Canon ∧ PortsOk s ∧ PinIs s p src tag f ∧ f.phase = .launching :=
  ⟨(wPinned .launching), 3, 1, 7, (wTm (wPin .launching).t3), (wPin .launching), canonOf _ (by decide +kernel), by decide +kernel⟩
theorem witness_pinnedCommit_2 : ∃ (s : State) (p : Fin 20) (src : Fin 8) (tag : Fin 65536) (m : TxMeta) (f : Pinned), s.Canon ∧ PortsOk s ∧ PinIs s p src tag f ∧ f.phase = .launching :=
  ⟨(wPinned .launching), 3, 1, 7, (wTm ((wPin .launching).t3 - 49152 * 16)), (wPin .launching), canonOf _ (by decide +kernel), by decide +kernel⟩
def wTrg (k at_ : Nat) : State := (wUp.putB (F.TRG_k_CFG_ENABLE k) true).putKt (A.TRG_k_AT k 0) at_
theorem witness_trgPush : ∃ (s : State) (k : Fin 16), s.RegsOk ∧ s.trg.outs.length = 16 ∧ s.trgCause k (timeOf (s.lastWide (A.TRG_k_AT k 0) 3)) (s.lastGet (F.TRG_k_WIDTH_WIDTH k)) (s.lastWide (A.TRG_k_PERIOD k) 2 % 2 ^ 48) (s.lastGet (F.TRG_k_COUNT_N k)) = 0 :=
  ⟨(wTrg 15 (wUp.now + 2 * lsbPerUs)), 15, by decide +kernel⟩
theorem witness_trgPush_2 : ∃ (s : State) (k : Fin 16), s.RegsOk ∧ s.trg.outs.length = 16 ∧ s.trgCause k (timeOf (s.lastWide (A.TRG_k_AT k 0) 3)) (s.lastGet (F.TRG_k_WIDTH_WIDTH k)) (s.lastWide (A.TRG_k_PERIOD k) 2 % 2 ^ 48) (s.lastGet (F.TRG_k_COUNT_N k)) ≠ 0 ∧ (s.trgOut k).entries.length ≤ 16 ∧ s.Room Ev.TRG_REFUSED :=
  ⟨(wTrg 0 0), 0, by decide +kernel⟩
theorem witness_trgCauses : ∃ (s : State) (k f w p n : Nat), s.flag (F.TRG_k_CFG_ENABLE k) = false :=
  ⟨wUp, 3, 5, 5, 5, 5, by decide +kernel⟩
theorem witness_trgCauses_2 : ∃ (s : State) (k f w p n : Nat), s.flag (F.TRG_k_CFG_ENABLE k) = true ∧ f < s.now + 2 * lsbPerUs :=
  ⟨(wTrg 3 0), 3, (wUp.now + 2 * lsbPerUs - 1), 5, 5, 5, by decide +kernel⟩
theorem witness_trgCauses_3 : ∃ (s : State) (k f w p n : Nat), s.trgCause k f w p n = 2 :=
  ⟨((wTrg 3 0).modTrgOut 3 fun o => { o with entries := [⟨wUp.now + 2 * lsbPerUs, 50, 0, 1, 0, 0⟩] }), 3, (wUp.now + 2 * lsbPerUs + 50 * lsbPerNs), 5, 5, 5, by decide +kernel⟩
theorem witness_trgCauses_4 : ∃ (s : State) (k f w p n : Nat), s.trgCause k f w p n = 0 :=
  ⟨(wTrg 3 0), 3, (wUp.now + 2 * lsbPerUs), 1000000000, 0, 1, by decide +kernel⟩
theorem witness_trgCauses_5 : ∃ (s : State) (k f w p n : Nat), s.trgCause k f w p n = 0 :=
  ⟨(wTrg 3 0), 3, (wUp.now + 2 * lsbPerUs), 2, (20 * 4096), 0, by decide +kernel⟩
def wTrgE (gated : Bool) (n : Nat) : State := (wUp.putB F.KPR_STAT_OUT_GATED gated).modTrgOut 4 fun o => { o with entries := [⟨wUp.now + 9, 50, 204800, n, 0, 0⟩], pulse := some ⟨⟨3, 4⟩, false⟩ }
theorem witness_trgCancelAll : ∃ (s : State) (k : Fin 16), s.RegsOk ∧ s.trg.outs.length = 16 :=
  ⟨(wTrgE false 2), 4, by decide +kernel⟩
theorem witness_trgFire : ∃ (s : State) (k : Fin 16) (e : TrgEntry) (rest : List TrgEntry), s.RegsOk ∧ s.trg.outs.length = 16 ∧ trgHead (s.trgOut k).entries = e :: rest ∧ s.outsOff = false :=
  ⟨(wTrgE false 2), 4, ⟨wUp.now + 9, 50, 204800, 2, 0, 0⟩, [], by decide +kernel⟩
theorem witness_trgFire_2 : ∃ (s : State) (k : Fin 16) (e : TrgEntry) (rest : List TrgEntry), s.RegsOk ∧ s.trg.outs.length = 16 ∧ trgHead (s.trgOut k).entries = e :: rest ∧ s.outsOff = false :=
  ⟨(wTrgE false 1), 4, ⟨wUp.now + 9, 50, 204800, 1, 0, 0⟩, [], by decide +kernel⟩
theorem witness_trgFire_3 : ∃ (s : State) (k : Fin 16) (e : TrgEntry) (rest : List TrgEntry), s.RegsOk ∧ s.trg.outs.length = 16 ∧ trgHead (s.trgOut k).entries = e :: rest ∧ s.outsOff = true :=
  ⟨(wTrgE true 1), 4, ⟨wUp.now + 9, 50, 204800, 1, 0, 0⟩, [], by decide +kernel⟩

/-- An NTP client request over IPv4 and UDP, 90 bytes. -/
def wNtp : List Byte := List.replicate 12 0 ++ [8, 0, 0x45, 0, 0, 76, 0, 0, 0, 0, 64, 17, 0, 0, 10, 0, 0, 1, 10, 0, 0, 2, 1, 0, 0, 123, 0, 56, 0, 0, 0x23] ++ List.replicate 47 0
def wReq (d : List Byte) (f : State → State) : State := f ((((wUp.put (F.PRT_x_RXQq_CFG_CONSUMER 3 2) 1).putB F.SVC_CFG_NTP_UNAUTH true).putB F.SVC_STAT_OPEN true).modPort 3 fun k => { k with rxq := [[], [], [⟨d, ⟨0, 0, 0, 0, true⟩⟩], [], [], [], [], []] })
theorem witness_requestAdmit : ∃ (s : State) (p : Fin 20) (f : RxFrame) (k : Nat × Nat), let s1 := (s.takeRx p 1 fun _ => true).2; s.Canon ∧ s.crossOpen (48 + p) 3 = true ∧ (s.takeRx p 1 fun _ => true).1 = some f ∧ s1.classify p f.data = k ∧ k.1 ≠ 0 ∧ checksOk f.data = true ∧ s1.flag F.SVC_STAT_OPEN = true ∧ s1.svc.ledger.length < ledgerSize :=
  ⟨(wReq wNtp id), 3, ⟨wNtp, ⟨0, 0, 0, 0, true⟩⟩, (1, 0), canonOf _ (by decide +kernel), by decide +kernel⟩
theorem witness_requestDiscarded : ∃ (s : State) (p : Fin 20) (f : RxFrame) (k : Nat × Nat), let s1 := (s.takeRx p 1 fun _ => true).2; s.Canon ∧ s.crossOpen (48 + p) 3 = true ∧ (s.takeRx p 1 fun _ => true).1 = some f ∧ s1.classify p f.data = k ∧ k.1 = 0 :=
  ⟨(wReq [1, 2] id), 3, ⟨[1, 2], ⟨0, 0, 0, 0, true⟩⟩, (0, 0), canonOf _ (by decide +kernel), by decide +kernel⟩
theorem witness_requestDiscarded_2 : ∃ (s : State) (p : Fin 20) (f : RxFrame) (k : Nat × Nat), let s1 := (s.takeRx p 1 fun _ => true).2; s.Canon ∧ s.crossOpen (48 + p) 3 = true ∧ (s.takeRx p 1 fun _ => true).1 = some f ∧ s1.classify p f.data = k ∧ k.1 = 0 :=
  ⟨(wReq (wNtp.take 80) id), 3, ⟨wNtp.take 80, ⟨0, 0, 0, 0, true⟩⟩, (0, 0), canonOf _ (by decide +kernel), by decide +kernel⟩
def wNtpBad : List Byte := wNtp.take 40 ++ [0, 7] ++ wNtp.drop 42
theorem witness_requestDiscarded_3 : ∃ (s : State) (p : Fin 20) (f : RxFrame) (k : Nat × Nat), let s1 := (s.takeRx p 1 fun _ => true).2; s.Canon ∧ s.crossOpen (48 + p) 3 = true ∧ (s.takeRx p 1 fun _ => true).1 = some f ∧ s1.classify p f.data = k ∧ k.1 ≠ 0 ∧ checksOk f.data = false :=
  ⟨(wReq wNtpBad id), 3, ⟨wNtpBad, ⟨0, 0, 0, 0, true⟩⟩, (1, 0), canonOf _ (by decide +kernel), by decide +kernel⟩
theorem witness_requestDiscarded_4 : ∃ (s : State) (p : Fin 20) (f : RxFrame) (k : Nat × Nat), let s1 := (s.takeRx p 1 fun _ => true).2; s.Canon ∧ s.crossOpen (48 + p) 3 = true ∧ (s.takeRx p 1 fun _ => true).1 = some f ∧ s1.classify p f.data = k ∧ k.1 ≠ 0 ∧ checksOk f.data = true ∧ s1.flag F.SVC_STAT_OPEN = false :=
  ⟨(wReq wNtp fun s => s.putB F.SVC_STAT_OPEN false), 3, ⟨wNtp, ⟨0, 0, 0, 0, true⟩⟩, (1, 0), canonOf _ (by decide +kernel), by decide +kernel⟩
/-- An entry, and engine 31 running with it bound to context 2. -/
def wEnt (ph : EntryPhase) : Entry := { index := 7, port := 3, kind := 1, inst := 0, desc := ⟨0, 0, 0, 0, true⟩, rx := wUp.now, frame := wNtp, addr := List.replicate 16 1, kclass := 1, resolved := true, record := 4, bucket := 2, guest := false, decision := 0, phase := ph, returned := false, squashes := 0, restart := 1, guardrails := 0, bind := some (31, 2), launch := none, tport := 3, slot := wUp.now + 65536 * 500, t3 := wUp.now + 65536 * 600, deadline := wUp.now + 65536 * 100, hint := 0, cls := 0, epoch := 0, keys := [], staged := none, failed := false, verified := false, kiss := 0, gone := false }
def wSvcOf (l : List Entry) : State := ((wUp.setEngine 31 enRun).modSvc fun v => { v with ledger := l }).modCtx 31 2 fun x => { x with bound := some 7 }
def wSvc (ph : EntryPhase) : State := wSvcOf [wEnt ph]
theorem witness_ledgerPop : ∃ (s : State) (n : Fin 32) (e : Entry) (c : Nat), EnginesOk s ∧ s.engineUp n = true ∧ s.nextReady = some e ∧ s.entry e.index = some e ∧ s.freeCtx n = some c :=
  ⟨((wUp.setEngine 31 enRun).modSvc fun v => { v with ledger := [wEnt .waiting] }), 31, (wEnt .waiting), 0, by decide +kernel⟩
theorem witness_ledgerPopEmpty : ∃ (s : State) (n : Fin 32), s.engineUp n = true ∧ s.nextReady = none :=
  ⟨(wSvc .preparing), 31, by decide +kernel⟩
def wQ : State := (wSvc .preparing).modEngine 31 fun g => { g with notes := [4, 5], recRes := [4], cryptoRes := [4], launchRes := [4], sealRes := [4, 6], crypto := [4, 9] }
theorem witness_enginePops : ∃ (s : State) (n : Fin 32) (w : Word) (r : List Word), EnginesOk s ∧ s.engineUp n = true ∧ (s.engine n).notes = w :: r :=
  ⟨wQ, 31, 4, [5], by decide +kernel⟩
theorem witness_enginePops_2 : ∃ (s : State) (n : Fin 32) (w : Word) (r : List Word), EnginesOk s ∧ s.engineUp n = true ∧ (s.engine n).recRes = w :: r :=
  ⟨wQ, 31, 4, [], by decide +kernel⟩
theorem witness_enginePops_3 : ∃ (s : State) (n : Fin 32) (w : Word) (r : List Word), EnginesOk s ∧ s.engineUp n = true ∧ (s.engine n).cryptoRes = w :: r :=
  ⟨wQ, 31, 4, [], by decide +kernel⟩
theorem witness_enginePops_4 : ∃ (s : State) (n : Fin 32) (w : Word) (r : List Word), EnginesOk s ∧ s.engineUp n = true ∧ (s.engine n).launchRes = w :: r :=
  ⟨wQ, 31, 4, [], by decide +kernel⟩
theorem witness_enginePops_5 : ∃ (s : State) (n : Fin 32) (w : Word) (r : List Word), EnginesOk s ∧ s.engineUp n = true ∧ (s.engine n).sealRes = w :: r :=
  ⟨wQ, 31, 4, [6], by decide +kernel⟩
theorem witness_enginePopsEmpty : ∃ (s : State) (n : Fin 32), EnginesOk s ∧ s.engineUp n = true ∧ (s.engine n).notes = [] ∧ (s.engine n).recRes = [] ∧ (s.engine n).cryptoRes = [] ∧ (s.engine n).launchRes = [] ∧ (s.engine n).sealRes = [] :=
  ⟨(wSvc .waiting), 31, by decide +kernel⟩
theorem witness_popsAnswerPeek : ∃ (s : State) (n : Fin 32), s.engineUp n = true :=
  ⟨wQ, 31, by decide +kernel⟩
theorem witness_recFetch : ∃ (s : State) (n : Fin 32) (c : Fin 4) (e : Entry), EnginesOk s ∧ Bound s n c e ∧ e.guest = true :=
  ⟨(wSvcOf [{ wEnt .preparing with guest := true }]), 31, 2, { wEnt .preparing with guest := true }, by decide +kernel⟩
def wLine : Line := ⟨List.replicate 16 1, 1, 1, 0, 0, 0, 0, 0, 0, 0, 0, 0, 255, 0, false, 0, 4, false, 0, 0, false⟩
def wLined : State := (wSvc .preparing).modLdr fun d => { d with lines := [(17, wLine)] }
theorem witness_recFetch_2 : ∃ (s : State) (n : Fin 32) (c : Fin 4) (e : Entry), EnginesOk s ∧ Bound s n c e ∧ e.guest = false ∧ s.lineOf e.record = some 17 ∧ (s.line 17).err = false ∧ s.injOn 0xA0 0 = false :=
  ⟨((wSvc .preparing).modLdr fun d => { d with lines := [(17, wLine)] }), 31, 2, (wEnt .preparing), by decide +kernel⟩
theorem witness_recFetchError : ∃ (s : State) (n : Fin 32) (c : Fin 4) (e : Entry) (k : Nat), s.Canon ∧ EnginesOk s ∧ Bound s n c e ∧ e.phase = .preparing ∧ e.bind = some (n.val, c.val) ∧ e.guest = false ∧ s.lineOf e.record = some k ∧ (s.line k).err = false ∧ s.injOn 0xA0 0 = false ∧ s.now ≤ s.limitOf e :=
  ⟨wLined, 31, 2, (wEnt .preparing), 17, canonOf _ (by decide +kernel), by decide +kernel⟩
theorem witness_recFetchLarder : ∃ (s : State) (n : Fin 32) (c : Fin 4) (e : Entry), EnginesOk s ∧ Bound s n c e ∧ s.dramBusy = false ∧ s.ldr.writes = [] ∧ e.guest = false ∧ e.record ∉ s.ldr.bad ∧ s.recEmpty e.record = false ∧ s.Room Ev.LDR_LARDER_ERR :=
  ⟨(((wSvc .preparing).modLdr fun d => { d with lines := [(17, wLine)] }).writeBytes ((wSvc .preparing).larderBase + 256) (List.replicate 64 1)), 31, 2, (wEnt .preparing), by decide +kernel⟩
theorem witness_recStage : ∃ (s : State) (n : Fin 32) (c : Fin 4) (e : Entry) (d : List Byte), EnginesOk s ∧ Bound s n c e ∧ d.length = 64 :=
  ⟨(wSvc .preparing), 31, 2, (wEnt .preparing), (List.replicate 64 9), by decide +kernel⟩
theorem witness_unboundIgnored : ∃ (s : State) (n : Fin 32) (c : Fin 4) (a : List Word) (w : List (Nat × List Byte)) (d : List Byte) (r : Fin 16), s.ctxEntry n c = none :=
  ⟨wUp, 31, 3, [1, 2], [], [1], 15, by decide +kernel⟩
theorem witness_cookieUnknown : ∃ (s : State) (n : Fin 32) (c : Fin 4) (e : Entry) (a : List Word), s.Canon ∧ EnginesOk s ∧ Bound s n c e ∧ argAt a 0 / 256 = 0 ∧ argAt a 3 / 4096 % 8 = 0 ∧ (∀ f < 4, s.ckOn f = false) :=
  ⟨(wSvc .preparing), 31, 2, (wEnt .preparing), [0, 0, 0, 0], canonOf _ (by decide +kernel), by decide +kernel⟩
theorem witness_verifyRefused : ∃ (s : State) (n : Fin 32) (c : Fin 4) (e : Entry) (a : List Word), EnginesOk s ∧ Bound s n c e ∧ s.useHandle n c (argAt a 0 / 256) pbSiv e = .status 2 :=
  ⟨(wSvc .preparing), 31, 2, (wEnt .preparing), [0xFFFFFF00], by decide +kernel⟩
theorem witness_verifyRefused_2 : ∃ (s : State) (n : Fin 32) (c : Fin 4) (e : Entry) (a : List Word), EnginesOk s ∧ Bound s n c e ∧ argAt a 0 / 256 / 2 ^ 22 ≠ 3 ∧ s.useHandle n c (argAt a 0 / 256) pbHmac e = .status 2 :=
  ⟨(wSvc .preparing), 31, 2, (wEnt .preparing), [0x80000000], by decide +kernel⟩
def wTran : State := (wSvc .preparing).modKey fun k => { k with transient := [(2 * 126, List.replicate 32 5)] }
theorem witness_sivVerify : ∃ (s : State) (n : Fin 32) (c : Fin 4) (e : Entry) (a : List Word) (m : List Byte) (key : Option Nat), let o := argAt a 3 % 2048; let nl := beAt e.frame (o + 4) 2; let ct := slice e.frame (o + 8 + (nl + 3) / 4 * 4) (beAt e.frame (o + 6) 2); EnginesOk s ∧ Bound s n c e ∧ s.useHandle n c (argAt a 0 / 256) pbSiv e = .ok m key :=
  ⟨wTran, 31, 2, (wEnt .preparing), [BitVec.ofNat 32 ((2 * 2 ^ 22 + 252) * 256), 0, 0, 0], (List.replicate 32 5), none, by decide +kernel⟩
theorem witness_staleHandle : ∃ (s : State) (n c h bit : Nat) (e : Entry), h / 2 ^ 22 = 0 ∧ h / 4096 % 1024 ≠ (s.mainSlot (h % 4096)).incarn :=
  ⟨wUp, 31, 2, (4096 * 5 + 3), 0, (wEnt .preparing), by decide +kernel⟩
theorem witness_staleHandle_2 : ∃ (s : State) (n c h bit : Nat) (e : Entry), h / 2 ^ 22 = 2 ∧ h % 4096 / 2 ≠ n * 4 + c :=
  ⟨wUp, 31, 2, (2 * 2 ^ 22 + 251), 0, (wEnt .preparing), by decide +kernel⟩
theorem witness_staleHandle_3 : ∃ (s : State) (n c h bit : Nat) (e : Entry), 3 ≤ h / 2 ^ 22 :=
  ⟨wUp, 31, 2, (3 * 2 ^ 22), 0, (wEnt .preparing), by decide +kernel⟩
theorem witness_hmacNoKey : ∃ (s : State) (n : Fin 32) (c : Fin 4) (e : Entry) (a : List Word), EnginesOk s ∧ Bound s n c e ∧ argAt a 0 / 256 / 2 ^ 22 = 3 ∧ s.selectKey (beAt e.frame (argAt a 2 % 2048) 1) (beAt e.frame (argAt a 2 % 2048 + 2) 4) = none :=
  ⟨(wSvc .preparing), 31, 2, (wEnt .preparing), [0xC0000000, 0, 0, 0], by decide +kernel⟩
theorem witness_cryptoResult : ∃ (s : State) (n : Fin 32) (w : Word) (r : List Word), EnginesOk s ∧ s.cclkRuns = true ∧ (s.engine n).crypto = w :: r :=
  ⟨wQ, 31, 4, [9], by decide +kernel⟩
theorem witness_launchPush : ∃ (s : State) (n : Fin 32) (c : Fin 4) (e : Entry) (a : List Word), s.Canon ∧ EnginesOk s ∧ Bound s n c e ∧ e.phase = .preparing ∧ s.unproved e = false :=
  ⟨(wSvc .preparing), 31, 2, (wEnt .preparing), [0x00400313, 0, 70, 0], canonOf _ (by decide +kernel), by decide +kernel⟩
theorem witness_launchPush_2 : ∃ (s : State) (n : Fin 32) (c : Fin 4) (e : Entry) (a : List Word), s.Canon ∧ EnginesOk s ∧ Bound s n c e ∧ e.phase = .preparing ∧ e.kind = 3 ∧ s.flag (F.SVC_GMi_CFG_AUTH_REQ e.inst) = true ∧ e.verified = false :=
  ⟨((wSvcOf [{ wEnt .preparing with kind := 3 }]).putB (F.SVC_GMi_CFG_AUTH_REQ 0) true), 31, 2, { wEnt .preparing with kind := 3 }, [0x00400313, 0, 70, 0], canonOf _ (by decide +kernel), by decide +kernel⟩
theorem witness_sealPush : ∃ (s : State) (n : Fin 32) (c : Fin 4) (e : Entry) (a : List Word) (w : List (Nat × List Byte)), EnginesOk s ∧ Bound s n c e :=
  ⟨(wSvc .preparing), 31, 2, (wEnt .preparing), [1, 2], [(10, [1, 2])], by decide +kernel⟩
theorem witness_sealPush_2 : ∃ (s : State) (n : Fin 32) (c : Fin 4) (e : Entry) (a : List Word) (w : List (Nat × List Byte)), EnginesOk s ∧ Bound s n c e ∧ (s.ctx n c).sealed = true :=
  ⟨((wSvc .pinned).modCtx 31 2 fun x => { x with sealed := true }), 31, 2, (wEnt .pinned), [1, 2], [(10, [1, 2])], by decide +kernel⟩
def wSeal (len : Word) : State := (wSvc .pinned).modEngine 31 fun g => { g with seals := [⟨2, [0, len, 0x20521038, 0]⟩] }
theorem witness_sealDone : ∃ (s : State) (n : Fin 32) (r : SealReq) (rest : List SealReq) (e : Entry) (alg len ofs b : Nat) (m : List Byte) (key : Option Nat), EnginesOk s ∧ s.cclkRuns = true ∧ (s.engine n).seals = r :: rest ∧ r.ctx < 4 ∧ s.ctxEntry n r.ctx = some e ∧ e.phase = .pinned ∧ alg = argAt r.args 0 % 4 ∧ alg ≠ 1 ∧ len = argAt r.args 1 % 4096 ∧ 60 ≤ len ∧ len ≤ 2048 ∧ ofs = argAt r.args 1 / 65536 % 2048 ∧ ((alg = 2 → ofs ≤ len)) ∧ s.insOk (insertions (argAt r.args 2) (argAt r.args 3)) e.kind len (alg != 0) = true ∧ b = s.boundReq e.tport e.t3 (if e.kind ≤ 3 then some e.rx else none) ∧ s.sealKey n r.ctx alg (argAt r.args 0 / 256) e = .ok m key ∧ alg ≤ 2 :=
  ⟨(wSeal 90), 31, ⟨2, [0, 90, 0x20521038, 0]⟩, [], (wEnt .pinned), 0, 90, 0, ((wSeal 90).boundReq 3 (wEnt .pinned).t3 (some (wEnt .pinned).rx)), [], none, by decide +kernel⟩
theorem witness_sealDone_2 : ∃ (s : State) (n : Fin 32) (r : SealReq) (rest : List SealReq) (e : Entry) (alg len ofs b : Nat) (m : List Byte) (key : Option Nat), EnginesOk s ∧ s.cclkRuns = true ∧ (s.engine n).seals = r :: rest ∧ r.ctx < 4 ∧ s.ctxEntry n r.ctx = some e ∧ e.phase = .pinned ∧ alg = argAt r.args 0 % 4 ∧ alg ≠ 1 ∧ len = argAt r.args 1 % 4096 ∧ 60 ≤ len ∧ len ≤ 2048 ∧ ofs = argAt r.args 1 / 65536 % 2048 ∧ ((alg = 2 → ofs ≤ len)) ∧ s.insOk (insertions (argAt r.args 2) (argAt r.args 3)) e.kind len (alg != 0) = true ∧ b = s.boundReq e.tport e.t3 (if e.kind ≤ 3 then some e.rx else none) ∧ s.sealKey n r.ctx alg (argAt r.args 0 / 256) e = .ok m key ∧ alg ≤ 2 :=
  ⟨(wSeal 2048), 31, ⟨2, [0, 2048, 0x20521038, 0]⟩, [], (wEnt .pinned), 0, 2048, 0, ((wSeal 2048).boundReq 3 (wEnt .pinned).t3 (some (wEnt .pinned).rx)), [], none, by decide +kernel⟩
theorem witness_sealShort : ∃ (s : State) (n : Fin 32) (r : SealReq) (rest : List SealReq) (e : Entry), EnginesOk s ∧ s.cclkRuns = true ∧ (s.engine n).seals = r :: rest ∧ s.ctxEntry n r.ctx = some e ∧ argAt r.args 1 % 4096 < 60 :=
  ⟨(wSeal 59), 31, ⟨2, [0, 59, 0x20521038, 0]⟩, [], (wEnt .pinned), by decide +kernel⟩
theorem witness_sealUninserted : ∃ (s : State) (n : Fin 32) (r : SealReq) (rest : List SealReq) (e : Entry) (f : Pinned), EnginesOk s ∧ s.cclkRuns = true ∧ (s.engine n).seals = r :: rest ∧ s.ctxEntry n r.ctx = some e ∧ e.phase = .pinned ∧ argAt r.args 0 % 4 = 0 ∧ 60 ≤ argAt r.args 1 % 4096 ∧ argAt r.args 1 % 4096 ≤ 2048 ∧ s.insOk (insertions (argAt r.args 2) (argAt r.args 3)) e.kind (argAt r.args 1 % 4096) false = false ∧ s.pinEntry e = some f ∧ f.phase = .reserved :=
  ⟨((((wSvc .pinned).modEngine 31 fun g => { g with seals := [⟨2, [0, 90, 0, 0]⟩] })).modPort 3 fun k => { k with pinned := [wPin .reserved] }), 31, ⟨2, [0, 90, 0, 0]⟩, [], (wEnt .pinned), (wPin .reserved), by decide +kernel⟩
def wSub (out : List Byte) : State := (((wSvc .pinned).modCtx 31 2 fun x => { x with sealed := true, out := out }).modPort 3 fun k => { k with pinned := [wPin .reserved] }).put (F.PRT_x_TXCc_CFG_SOURCE 3 0) 1
theorem witness_submitPush : ∃ (s : State) (n : Fin 32) (c : Fin 4) (e : Entry) (f : Pinned), s.prt.ports.length = 20 ∧ e.tport < 20 ∧ EnginesOk s ∧ Bound s n c e ∧ s.pinEntry e = some f ∧ PinIs s e.tport 1 e.index f ∧ f.phase = .reserved ∧ (s.ctx n c).out ≠ [] ∧ s.crossOpen 3 (16 + e.tport) = true ∧ s.txCause e.tport 1 f.cls (s.ctx n c).out = 0 :=
  ⟨(wSub (wTx 1 none).data), 31, 2, (wEnt .pinned), (wPin .reserved), by decide +kernel⟩
theorem witness_submitPush_2 : ∃ (s : State) (n : Fin 32) (c : Fin 4) (e : Entry) (f : Pinned), s.prt.ports.length = 20 ∧ e.tport < 20 ∧ EnginesOk s ∧ Bound s n c e ∧ s.pinEntry e = some f ∧ PinIs s e.tport 1 e.index f ∧ f.phase = .reserved ∧ (s.ctx n c).out ≠ [] ∧ s.crossOpen 3 (16 + e.tport) = true ∧ s.txCause e.tport 1 f.cls (s.ctx n c).out ≠ 0 :=
  ⟨(wSub (List.replicate 60 1)), 31, 2, (wEnt .pinned), (wPin .reserved), by decide +kernel⟩
theorem witness_withdrawPush : ∃ (s : State) (n : Fin 32) (c : Fin 4) (e : Entry) (r : Fin 16), s.Canon ∧ Bound s n c e ∧ e.phase = .preparing ∧ 1 ≤ r.val ∧ r.val ≤ 8 :=
  ⟨(wSvc .preparing), 31, 2, (wEnt .preparing), 8, canonOf _ (by decide +kernel), by decide +kernel⟩
def wRep (r : PinResult) : State := (wSvc .pinned).modPrt fun p => { p with reports := [⟨1, 3, 7, r⟩] }
def wKeyed : Entry := { wEnt .pinned with keys := [5] }
theorem witness_entryCommit : ∃ (s : State) (i : Fin 65536) (r : PinReport) (e : Entry), s.Canon ∧ s.cclkRuns = true ∧ s.reportOf i isCommitted = some r ∧ s.entry i = some e ∧ e.phase = .pinned :=
  ⟨((wSvcOf [wKeyed]).modPrt fun p => { p with reports := [⟨1, 3, 7, .committed false⟩] }), 7, ⟨1, 3, 7, .committed false⟩, wKeyed, canonOf _ (by decide +kernel), by decide +kernel⟩
theorem witness_entrySquash : ∃ (s : State) (i : Fin 65536) (r : PinReport) (e : Entry) (cause hint n c : Nat), s.Canon ∧ EnginesOk s ∧ s.cclkRuns = true ∧ s.reportOf i isSquashed = some r ∧ r.result = .squashed cause hint ∧ cause ≠ sqCancel ∧ cause ≠ sqGuardrail ∧ s.entry i = some e ∧ e.phase = .pinned ∧ e.gone = false ∧ e.bind = some (n, c) ∧ n < 32 ∧ c < 4 ∧ s.squashReason e cause hint = none :=
  ⟨(wRep (.squashed sqMissed 0)), 7, ⟨1, 3, 7, .squashed sqMissed 0⟩, (wEnt .pinned), sqMissed, 0, 31, 2, canonOf _ (by decide +kernel), by decide +kernel⟩
theorem witness_entrySquash_2 : ∃ (s : State) (i : Fin 65536) (r : PinReport) (e : Entry) (cause hint n c : Nat), s.Canon ∧ EnginesOk s ∧ s.cclkRuns = true ∧ s.reportOf i isSquashed = some r ∧ r.result = .squashed cause hint ∧ cause ≠ sqCancel ∧ cause ≠ sqGuardrail ∧ s.entry i = some e ∧ e.phase = .pinned ∧ e.gone = false ∧ e.bind = some (n, c) ∧ n < 32 ∧ c < 4 ∧ s.squashReason e cause hint = some wdStep :=
  ⟨(wRep (.squashed sqStep 0)), 7, ⟨1, 3, 7, .squashed sqStep 0⟩, (wEnt .pinned), sqStep, 0, 31, 2, canonOf _ (by decide +kernel), by decide +kernel⟩
theorem witness_useLimitExpiry : ∃ (s : State) (i : Fin 65536) (e : Entry), s.Canon ∧ s.cclkRuns = true ∧ s.entry i = some e ∧ e.phase ≠ .pinned :=
  ⟨(wSvc .waiting), 7, (wEnt .waiting), canonOf _ (by decide +kernel), by decide +kernel⟩
theorem witness_useLimitExpiry_2 : ∃ (s : State) (i : Fin 65536) (e : Entry), s.Canon ∧ s.cclkRuns = true ∧ s.entry i = some e ∧ e.phase = .pinned :=
  ⟨(wSvc .pinned), 7, (wEnt .pinned), canonOf _ (by decide +kernel), by decide +kernel⟩
theorem witness_journalled : ∃ (s : State) (e : Entry) (reason : Nat), s.svc.journal.length < journalDepth :=
  ⟨wUp, (wEnt .waiting), 8, by decide +kernel⟩
theorem witness_engineFault : ∃ (s : State) (n : Fin 32) (cause : Fin 16) (pc addr : Word), s.RegsOk ∧ EnginesOk s ∧ s.engineUp n = true ∧ s.Room Ev.SVC_ENG_FAULT :=
  ⟨(wSvc .pinned), 31, 3, 5, 6, by decide +kernel⟩
theorem witness_engineFault_2 : ∃ (s : State) (n : Fin 32) (cause : Fin 16) (pc addr : Word), s.RegsOk ∧ EnginesOk s ∧ s.engineUp n = true ∧ s.Room Ev.SVC_ENG_FAULT :=
  ⟨((wSvc .pinned).modEngine 31 fun g => { g with faults := [wUp.now, wUp.now] }), 31, 3, 5, 6, by decide +kernel⟩
theorem witness_engineWatchdog : ∃ (s : State) (n : Fin 32) (c : Fin 4), s.RegsOk ∧ s.engineUp n = true ∧ (s.ctx n c).bound.isSome = true ∧ (s.ctx n c).act + 100 * lsbPerUs ≤ s.now :=
  ⟨(wSvc .pinned), 31, 2, by decide +kernel⟩
theorem witness_engineWatchdog_2 : ∃ (s : State) (n : Fin 32) (c : Fin 4), s.RegsOk ∧ s.engineUp n = true ∧ (s.ctx n c).bound.isSome = true ∧ s.now < (s.ctx n c).act + 100 * lsbPerUs :=
  ⟨((wSvc .pinned).modCtx 31 2 fun x => { x with act := wUp.now }), 31, 2, by decide +kernel⟩
theorem witness_engineRestarted : ∃ (s : State) (n : Fin 32), s.RegsOk ∧ s.cclkRuns = true ∧ s.engState n = enLoading :=
  ⟨(wUp.setEngine 31 enLoading), 31, by decide +kernel⟩
theorem witness_engineReset : ∃ (s : State) (n : Fin 32), s.RegsOk ∧ EnginesOk s ∧ SvcCmd s ∧ s.running n = true :=
  ⟨wQ, 31, by decide +kernel⟩
theorem witness_engineResetEntry : ∃ (s : State) (n : Fin 32) (c : Fin 4) (e : Entry), s.RegsOk ∧ EnginesOk s ∧ SvcCmd s ∧ s.running n = true ∧ s.ctxEntry n c = some e ∧ ((∀ d : Fin 4, d ≠ c → (s.ctx n d).bound = none)) ∧ e.phase = .preparing :=
  ⟨wQ, 31, 2, (wEnt .preparing), by decide +kernel⟩
theorem witness_engineResetEntry_2 : ∃ (s : State) (n : Fin 32) (c : Fin 4) (e : Entry), s.RegsOk ∧ EnginesOk s ∧ SvcCmd s ∧ s.running n = true ∧ s.ctxEntry n c = some e ∧ ((∀ d : Fin 4, d ≠ c → (s.ctx n d).bound = none)) ∧ e.phase = .pinned :=
  ⟨(wSub [1]), 31, 2, (wEnt .pinned), by decide +kernel⟩
theorem witness_engineOnline : ∃ (s : State) (n : Fin 32), s.RegsOk ∧ EnginesOk s ∧ SvcCmd s ∧ s.engState n = enOffline ∧ s.Room Ev.SVC_ENG_ONLINE :=
  ⟨(wUp.setEngine 31 enOffline), 31, by decide +kernel⟩
theorem witness_svcCntSnap : ∃ s : State, s.RegsOk ∧ SvcCmd s :=
  ⟨wQ, by decide +kernel⟩
theorem witness_svcCmdWaits : ∃ (s : State) (n : Fin 32), ¬ SvcCmd s ∧ s.xdc.cmds = [] :=
  ⟨(wQ.setGate 3 true), 31, by decide +kernel⟩
theorem witness_svcJnlPop_2 : ∃ s : State, s.svc.journal = [] :=
  ⟨wUp, by decide +kernel⟩
def wGm (one : Bool) : State := (((wPort 3).putB (F.SVC_GMi_CFG_EN 7) true).put (F.SVC_GMi_CFG_PORT 7) 3).putB (F.SVC_GMi_CFG_ONE_STEP 7) one |>.put (F.PRT_x_TXCc_CFG_SOURCE 3 0) 2
def wPtp : List Byte := List.replicate 12 0 ++ [0x88, 0xF7, 0] ++ List.replicate 63 0
theorem witness_announceSend : ∃ (s : State) (i c : Fin 8) (d x : List Byte) (o : Nat) (l : List TxFrame), s.prt.ports.length = 20 ∧ s.gmPort i < 20 ∧ s.gmSends i = true ∧ (ptpOf d).map (·.1) = some o ∧ x = s.announceFields i o d ∧ TxNew s (s.gmPort i) 2 c x none ∧ s.portUp (s.gmPort i) = true ∧ s.txCause (s.gmPort i) 2 c x = 0 ∧ (s.port (s.gmPort i)).txq[c.val]? = some l ∧ d.length ≤ x.length :=
  ⟨(wGm false), 7, 0, wPtp, ((wGm false).announceFields 7 14 wPtp), 14, [], by decide +kernel⟩
theorem witness_gmSilent : ∃ (s : State) (i c : Fin 8) (d : List Byte) (ins : List (Nat × Nat)) (due e : Nat) (tag : Fin 65536), s.gmSends i = false :=
  ⟨wUp, 7, 0, wPtp, [], 5, 6, 65535, by decide +kernel⟩
theorem witness_syncTwoStep : ∃ (s : State) (i c : Fin 8) (d : List Byte) (ins : List (Nat × Nat)) (due e : Nat) (tag : Fin 65536) (l : List TxFrame), s.prt.ports.length = 20 ∧ s.gmPort i < 20 ∧ s.gmSends i = true ∧ s.flag (F.SVC_GMi_CFG_ONE_STEP i) = false ∧ TxNew s (s.gmPort i) 2 c d (some tag.val) ∧ s.portUp (s.gmPort i) = true ∧ s.txCause (s.gmPort i) 2 c d = 0 ∧ (s.port (s.gmPort i)).txq[c.val]? = some l :=
  ⟨(wGm false), 7, 0, wPtp, [], 5, 6, 65535, [], by decide +kernel⟩
theorem witness_syncSkipped : ∃ (s : State) (i c : Fin 8) (d : List Byte) (ins : List (Nat × Nat)) (due e : Nat) (tag : Fin 65536), s.Canon ∧ s.gmSends i = true ∧ s.flag (F.SVC_GMi_CFG_ONE_STEP i) = true ∧ (s.port (s.gmPort i)).phase = none :=
  ⟨{ wGm true with prt := wUp.prt }, 7, 0, wPtp, [], 5, 6, 65535, canonOf _ (by decide +kernel), by decide +kernel⟩
def wSync : Nat × Nat × Nat := match ((wGm true).reserve 3 0 2 (wUp.now + 65536 * 500) (wireLen wPtp) false 7).1 with | .granted a b d => (a, b, d) | _ => (0, 0, 0)
theorem witness_syncPinned : ∃ (s : State) (i c : Fin 8) (d : List Byte) (ins : List (Nat × Nat)) (due e slot t3 dl : Nat) (tag : Fin 65536), let g := s.reserve (s.gmPort i) c 2 e (wireLen d) false tag; let x := ins.foldl (fun x k => s.insert x k.1 k.2 t3 (s.boundReq (s.gmPort i) t3 none) i) d; s.prt.ports.length = 20 ∧ s.gmPort i < 20 ∧ s.gmSends i = true ∧ s.flag (F.SVC_GMi_CFG_ONE_STEP i) = true ∧ s.prt.reports = [] ∧ s.pauseOf (s.gmPort i) c = [] ∧ g.1 = .granted slot t3 dl ∧ slot ≤ due + s.syncGrace i ∧ s.pinOf (s.gmPort i) 2 tag = none ∧ s.syncIns ins d.length = true ∧ s.txCause (s.gmPort i) 2 c x = 0 :=
  ⟨(wGm true), 7, 0, wPtp, [(6, 48)], (wUp.now + 65536 * 500), (wUp.now + 65536 * 500), wSync.1, wSync.2.1, wSync.2.2, 7, by decide +kernel⟩
theorem witness_syncPinned_2 : ∃ (s : State) (i c : Fin 8) (d : List Byte) (ins : List (Nat × Nat)) (due e slot t3 dl : Nat) (tag : Fin 65536), let g := s.reserve (s.gmPort i) c 2 e (wireLen d) false tag; s.prt.ports.length = 20 ∧ s.gmPort i < 20 ∧ s.gmSends i = true ∧ s.flag (F.SVC_GMi_CFG_ONE_STEP i) = true ∧ s.prt.reports = [] ∧ s.pauseOf (s.gmPort i) c = [] ∧ g.1 = .granted slot t3 dl ∧ slot ≤ due + s.syncGrace i ∧ s.pinOf (s.gmPort i) 2 tag = none ∧ s.syncIns ins d.length = false :=
  ⟨(wGm true), 7, 0, wPtp, [(5, 48)], (wUp.now + 65536 * 500), (wUp.now + 65536 * 500), wSync.1, wSync.2.1, wSync.2.2, 7, by decide +kernel⟩
theorem witness_syncNames : ∃ (s : State) (ins : List (Nat × Nat)) (len : Nat), s.syncIns ins len = true :=
  ⟨(wGm true), [(6, 48)], 78, by decide +kernel⟩
def wKind3 (ph : EntryPhase) : Entry := { wEnt ph with kind := 3 }
def wTag (i : Nat) (k : KeySlot) (ph : EntryPhase) : State := (wSvcOf [wKind3 ph]).setMain i k
def wHmacKey : KeySlot := { KeySlot.blank with material := List.replicate 32 7, state := ksValid, policy := 2 ^ 1 + 2 ^ 6 + 2 ^ 24 }
theorem witness_hmacVerify : ∃ (s : State) (n : Fin 32) (c : Fin 4) (e : Entry) (a : List Word) (m : List Byte) (key : Option Nat), EnginesOk s ∧ Bound s n c e ∧ argAt a 0 / 256 / 2 ^ 22 ≠ 3 ∧ s.useHandle n c (argAt a 0 / 256) pbHmac e = .ok m key :=
  ⟨(wTag 9 wHmacKey .preparing), 31, 2, (wKind3 .preparing), [0x900, 0x00200000, 0, 0], (List.replicate 32 7), (some 9), by refine ⟨by decide +kernel, by decide +kernel, by decide +kernel, ?_⟩; exact useHandle_hmac _ _ _ _ 9 _ (by decide +kernel) (by decide +kernel) (by decide +kernel) (by decide +kernel) (by decide +kernel) (tagOf_setMain _ 9 wHmacKey (by decide +kernel))⟩
def wCkKey : KeySlot := { KeySlot.blank with material := List.replicate 32 7, state := ksValid, gen := 65535, policy := 4 }
def wCk : List Byte := cookieBytes (List.replicate 32 7) 0x1234 65535 (List.replicate 16 9) (List.replicate 32 1) (List.replicate 32 2)
def wCkE (fr : List Byte) : Entry := { wEnt .preparing with frame := fr }
def wCkB : State := ((((((wSvcOf []).putB (F.KEY_CKf_CFG_EN 3) true).put (F.KEY_CKf_CFG_BACK 3) 1).put (F.KEY_CKf_CFG_AHEAD 3) 1).put ⟨A.KEY_CKf_ID 3, 31, 0⟩ 0x1234).setMain (ckSlot 3 65535) wCkKey)
def wCkSt (s : State) (fr : List Byte) : State := { s with svc := { s.svc with ledger := [wCkE fr] } }
theorem wCk_open : openCookie (List.replicate 32 7) wCk = some (List.replicate 32 1, List.replicate 32 2) ∧ wCk.length = 104 :=
  openCookie_cookieBytes _ _ _ _ _ _ (by decide +kernel) (by decide +kernel) (by decide +kernel) (by decide +kernel) (by decide +kernel) (by decide +kernel)
theorem wCk_field : (slice ([2, 4, 0, 108] ++ wCk) 0 108).drop 4 = wCk := by
  have h : wCk.length = 104 := wCk_open.2
  simp [slice, List.take_of_length_le (Nat.le_of_eq h)]
theorem wCk_hyps (s : State) (ck : List Byte) (c2s s2c : List Byte) (hl : ck.length = 104) (hf : (slice ([2, 4, 0, 108] ++ ck) 0 108).drop 4 = ck) (h1 : EnginesOk s) (h2 : s.engineUp 31 = true)
    (h3 : (s.ctx 31 2).bound = some 7)
    (h4 : ((List.range 4).find? fun f => s.ckOn f && (s.reg (A.KEY_CKf_ID f)).toNat == beNat (ck.take 4)) = some 3) (h5 : beNat (slice ck 4 2) = 65535)
    (h6 : 65535 ∈ s.ckWindow 3) (h7 : (s.mainSlot (ckSlot 3 65535)).state = ksValid) (h8 : (s.mainSlot (ckSlot 3 65535)).gen = 65535)
    (h9 : s.mainTagOk (ckSlot 3 65535) = true) (h10 : openCookie (s.mainSlot (ckSlot 3 65535)).material ck = some (c2s, s2c)) :
    let t := wCkSt s ([2, 4, 0, 108] ++ ck)
    let x := (slice ([2, 4, 0, 108] ++ ck) 0 108).drop 4
    EnginesOk t ∧ Bound t 31 2 (wCkE ([2, 4, 0, 108] ++ ck)) ∧
    ((List.range 4).find? fun f => t.ckOn f && (t.reg (A.KEY_CKf_ID f)).toNat == beNat (x.take 4)) = some 3 ∧ beNat (slice x 4 2) = 65535 ∧ x.length = 104 ∧
    65535 ∈ t.ckWindow 3 ∧ (t.mainSlot (ckSlot 3 65535)).state = ksValid ∧ (t.mainSlot (ckSlot 3 65535)).gen = 65535 ∧
    t.mainTagOk (ckSlot 3 65535) = true ∧ openCookie (t.mainSlot (ckSlot 3 65535)).material x = some (c2s, s2c) := by
  simp only [hf]
  refine ⟨h1, ⟨h2, ?_⟩, h4, h5, hl, h6, h7, h8, h9, h10⟩
  show (s.ctx 31 2).bound.bind _ = _
  rw [h3]; rfl
theorem witness_cookieOpened : ∃ (s : State) (n : Fin 32) (c : Fin 4) (e : Entry) (a : List Word) (f gen : Nat) (c2s s2c : List Byte), let ck := (slice e.frame (argAt a 1 % 2048) (argAt a 1 / 65536 % 2048)).drop 4; EnginesOk s ∧ Bound s n c e ∧ argAt a 0 / 256 = 0 ∧ argAt a 3 / 4096 % 8 = 0 ∧ ((List.range 4).find? fun f => s.ckOn f && (s.reg (A.KEY_CKf_ID f)).toNat == beNat (ck.take 4)) = some f ∧ beNat (slice ck 4 2) = gen ∧ ck.length = 104 ∧ gen ∈ s.ckWindow f ∧ (s.mainSlot (ckSlot f gen)).state = ksValid ∧ (s.mainSlot (ckSlot f gen)).gen = gen ∧ s.mainTagOk (ckSlot f gen) = true ∧ openCookie (s.mainSlot (ckSlot f gen)).material ck = some (c2s, s2c) :=
  ⟨(wCkSt wCkB ([2, 4, 0, 108] ++ wCk)), 31, 2, (wCkE ([2, 4, 0, 108] ++ wCk)), [0, 0x006C0000, 0, 0], 3, 65535, (List.replicate 32 1), (List.replicate 32 2), by have h := wCk_hyps wCkB wCk (List.replicate 32 1) (List.replicate 32 2) wCk_open.2 wCk_field (by decide +kernel) (by decide +kernel) (by decide +kernel) (by decide +kernel) (by decide +kernel) (by decide +kernel) (by decide +kernel) (by decide +kernel) (tagOf_setMain _ _ wCkKey (by decide +kernel)) (by rw [show (wCkB.mainSlot (ckSlot 3 65535)).material = List.replicate 32 7 by decide +kernel]; exact wCk_open.1); exact ⟨h.1, h.2.1, by decide, by decide, h.2.2⟩⟩
def wLr : LaunchReq := ⟨3, 0, wUp.now + 65536 * 5000, 90⟩
def wLe : Entry := { wEnt .preparing with index := 5, bind := some (0, 2), launch := some wLr, desc := ⟨0, 0, 0, 0, true⟩ }
def wLed : State := (wPort 3).modSvc fun v => { v with ledger := [wLe] }
def wLg : Nat × Nat × Nat := match (wLed.reserve wLr.port wLr.cls 1 wLr.e wLr.len false 5).1 with | .granted a b d => (a, b, d) | _ => (0, 0, 0)
theorem witness_reservationEntry : ∃ (s : State) (i : Fin 65536) (e : Entry) (r : LaunchReq) (n k a b d x : Nat), PortsOk s ∧ s.entry i = some e ∧ e.launch = some r ∧ e.phase = .preparing ∧ e.bind = some (n, k) ∧ n < s.svc.engines.length ∧ s.cclkRuns = true ∧ s.crossOpen 3 (16 + r.port) = true ∧ s.heldBack e = false ∧ s.stepped e = false ∧ e.squashes < 4 ∧ (s.reserve r.port r.cls 1 r.e r.len false i).1 = .granted a b d ∧ a ≤ s.limitOf e :=
  ⟨wLed, 5, wLe, wLr, 0, 2, wLg.1, wLg.2.1, wLg.2.2, 0, by decide +kernel⟩
theorem witness_reservationEntry_2 : ∃ (s : State) (i : Fin 65536) (e : Entry) (r : LaunchReq) (n k a b d x : Nat), PortsOk s ∧ s.entry i = some e ∧ e.launch = some r ∧ e.phase = .preparing ∧ e.bind = some (n, k) ∧ n < s.svc.engines.length ∧ s.cclkRuns = true ∧ s.crossOpen 3 (16 + r.port) = true ∧ s.heldBack e = false ∧ s.stepped e = false ∧ e.squashes < 4 ∧ (s.reserve r.port r.cls 1 r.e r.len false i).1 = .refused x ∧ x ≠ 3 :=
  ⟨(wLed.modPort 3 fun k => { k with phase := none }), 5, wLe, wLr, 0, 2, 0, 0, 0, 1, by decide +kernel⟩
theorem witness_reservationWaits : ∃ (s : State) (i : Fin 65536) (e : Entry) (r : LaunchReq), s.entry i = some e ∧ e.launch = some r ∧ ((s.heldBack e = true ∨ s.cclkRuns = false)) :=
  ⟨(wLed.setGate 3 true), 5, wLe, wLr, by decide +kernel⟩

def wLdr (f : LdrState → LdrState) : State := wUp.modLdr f
theorem witness_larderWriteThrough : ∃ (s : State) (w : OutWrite) (rest : List OutWrite), s.Canon ∧ s.cclkRuns = true ∧ s.dramBusy = false ∧ s.ldr.writes = w :: rest ∧ w.index ∉ s.ldr.bad ∧ s.Room Ev.LDR_LARDER_ERR :=
  ⟨(wLdr fun d => { d with writes := [⟨8388607, 1, 0, 0, 0, true, none⟩] }), ⟨8388607, 1, 0, 0, 0, true, none⟩, [], canonOf _ (by decide +kernel), by decide +kernel⟩
theorem witness_larderBusy : ∃ (s : State) (err : Bool), ((s.dramBusy = true ∨ s.cclkRuns = false)) :=
  ⟨(wUp.putB F.MEM_STAT_RETRAINING true), true, by decide +kernel⟩
theorem witness_larderBusy_2 : ∃ (s : State) (err : Bool), ((s.dramBusy = true ∨ s.cclkRuns = false)) :=
  ⟨(wUp.setGate 3 true), true, by decide +kernel⟩
theorem witness_larderWriteThrough_2 : ∃ (s : State) (w : OutWrite) (rest : List OutWrite), s.Canon ∧ s.cclkRuns = true ∧ s.dramBusy = false ∧ s.ldr.writes = w :: rest ∧ w.index ∉ s.ldr.bad :=
  ⟨((wLdr fun d => { d with lines := [(17, wLine)], writes := [⟨4, 1, 1, 2, 3, true, none⟩] })), ⟨4, 1, 1, 2, 3, true, none⟩, [], canonOf _ (by decide +kernel), by decide +kernel⟩
def wKey : List Byte := List.replicate 16 1
def wWay (k : Nat) : Nat := 16 * (wUp.hash wKey k).set
def wHitLine (k : Nat) : Line := { wLine with kclass := k }
def wHitEnt : Entry := { wEnt .waiting with resolved := false, addr := wKey, kclass := 1 }
def wHit : State := (wLdr fun d => { d with lines := [(wWay 1, wHitLine 1)] }).modSvc fun v => { v with ledger := [wHitEnt] }
theorem ways_find (h : Hash) (f : Nat → Bool) (hf : f (16 * h.set) = true) : h.ways.find? f = some (16 * h.set) :=
  List.find?_cons_of_pos (a := 16 * h.set + 0) (l := (List.range' 1 15).map (16 * h.set + ·)) hf
theorem any_one (n : Nat) (l : Line) (f : Nat × Line → Bool) (hf : f (n, l) = true) : [(n, l)].any f = true := by simp [hf]
theorem hash_eq (s t : State) (a : List Byte) (k : Nat) (h : s.ldr.hashKey = t.ldr.hashKey) (h2 : s.larderLog2 = t.larderLog2) : s.hash a k = t.hash a k := by simp [State.hash, h, h2]
theorem pantry_empty (s : State) (h : Hash) (a : List Byte) (k : Nat) (e : s.ldr.lines = []) : s.pantryHit h a k = none := by simp [State.pantryHit, e]
theorem witness_clientHit : ∃ (s : State) (e : Entry) (n : Nat), s.Canon ∧ s.cclkRuns = true ∧ s.nextLookup = some e ∧ s.ldr.writes = [] ∧ s.ldr.bad = [] ∧ (∀ p ∈ s.ldr.lines, p.2.err = false) ∧ s.pantryHit (s.hash e.addr e.kclass) e.addr e.kclass = some n ∧ s.entry e.index = some e :=
  ⟨wHit, wHitEnt, (wWay 1), by refine ⟨canonOf _ (by decide +kernel), by decide +kernel, rfl, rfl, rfl, by intro p hp; rw [List.mem_singleton.1 hp]; rfl, ?_, rfl⟩; rw [hash_eq wHit wUp _ _ rfl (by decide +kernel)]; exact ways_find _ _ (any_one _ _ _ (by rw [show ((wWay 1, wHitLine 1).fst == 16 * (wUp.hash wHitEnt.addr wHitEnt.kclass).set) = true from beq_self_eq_true (wWay 1)]; decide +kernel))⟩
theorem witness_clientNone : ∃ (s : State) (l : List Nat), ((s.nextLookup = none ∨ s.cclkRuns = false)) :=
  ⟨wUp, [], by decide +kernel⟩
theorem witness_clientNone_2 : ∃ (s : State) (l : List Nat), s.dramBusy = true ∧ s.nextLookup = some wHitEnt ∧ s.pantryHit (s.hash wHitEnt.addr wHitEnt.kclass) wHitEnt.addr wHitEnt.kclass = none :=
  ⟨({ wHit with ldr := wUp.ldr }.putB F.MEM_STAT_RETRAINING true), [], by exact ⟨by decide +kernel, by decide +kernel, pantry_empty _ _ _ _ rfl⟩⟩
theorem witness_rateDecision : ∃ (s : State) (l : Line) (kind : Nat), l.flags % 2 = 1 :=
  ⟨wUp, wLine, 1, by decide +kernel⟩
theorem witness_rateDecision_2 : ∃ (s : State) (l : Line) (kind : Nat), l.flags % 2 = 0 ∧ s.flag (F.LDR_RCLASSc_UNLIMITED (l.ctrl % 8)) = true ∧ l.held < 255 :=
  ⟨(wUp.putB (F.LDR_RCLASSc_UNLIMITED 7) true), { wLine with flags := 0, ctrl := 7, held := 254 }, 1, by decide +kernel⟩
theorem witness_rateDecision_3 : ∃ (s : State) (l : Line) (kind : Nat), l.flags % 2 = 0 ∧ s.flag (F.LDR_RCLASSc_UNLIMITED (l.ctrl % 8)) = false :=
  ⟨((wUp.put (F.LDR_RCLASSc_BURST 7) 2).putB (F.LDR_RCLASSc_OVER 7) true), { wLine with flags := 0, ctrl := 7, held := 1, tokens := 511 }, 1, by decide +kernel⟩
theorem witness_rateDecision_4 : ∃ (s : State) (l : Line) (kind : Nat), l.flags % 2 = 0 ∧ s.flag (F.LDR_RCLASSc_UNLIMITED (l.ctrl % 8)) = false :=
  ⟨((wUp.put (F.LDR_RCLASSc_BURST 7) 2).putB (F.LDR_RCLASSc_OVER 7) true), { wLine with flags := 0, ctrl := 7, held := 1, tokens := 512, lastTick := 65536 }, 1, by decide +kernel⟩
def wRec (i : Nat) : State := ((wUp.put F.LDR_LIVE_LIVE 1).putRecord i (List.replicate 16 1 ++ [1] ++ List.replicate 47 0))
theorem witness_recordAgeOut : ∃ (s : State) (i : Fin 8388608), s.Canon ∧ s.cclkRuns = true ∧ s.dramBusy = false ∧ s.ldr.writes = [] ∧ s.lineOf i = none ∧ s.recEmpty i = false ∧ s.liveGrant (s.record i).flags (s.record i).grantEnd = false ∧ s.ageTicks ≤ since s.tick32 (s.record i).lastTick 32 :=
  ⟨((wRec 8388607).put F.LDR_AGE_AGE_OUT 1), 8388607, canonOf _ (by decide +kernel), by decide +kernel⟩
theorem witness_recordAgeOut_2 : ∃ (s : State) (i : Fin 8388608), s.Canon ∧ s.cclkRuns = true ∧ s.dramBusy = false ∧ s.ldr.writes = [] ∧ s.lineOf i = none ∧ s.recEmpty i = false ∧ s.liveGrant (s.record i).flags (s.record i).grantEnd = false ∧ since s.tick32 (s.record i).lastTick 32 < s.ageTicks :=
  ⟨((wRec 0).put F.LDR_AGE_AGE_OUT 100000), 0, canonOf _ (by decide +kernel), by decide +kernel⟩
theorem witness_grantExpire : ∃ (s : State) (i : Fin 8388608), s.cclkRuns = true ∧ i.val ∈ s.ldr.grants ∧ ((match s.resident i with | some l => l.grantEnd | none => (s.record i).grantEnd) : Nat) ≤ s.sec32 :=
  ⟨((wRec 0).modLdr fun d => { d with grants := [0] }), 0, by decide +kernel⟩
theorem witness_pantryRebuildDone : ∃ (s : State) (n : Fin 262144), s.Canon ∧ s.cclkRuns = true ∧ (s.line n).err = true ∧ (s.line n).tailValid = true ∧ s.dramBusy = false ∧ s.ldr.writes = [] :=
  ⟨(wLdr fun d => { d with lines := [(262143, { wLine with err := true, tailValid := true })] }), 262143, canonOf _ (by decide +kernel), by decide +kernel⟩
theorem witness_pantryRebuildDone_2 : ∃ (s : State) (n : Fin 262144), s.Canon ∧ s.cclkRuns = true ∧ (s.line n).err = true ∧ (s.line n).tailValid = true ∧ s.dramBusy = false ∧ s.ldr.writes = [] :=
  ⟨((wLdr fun d => { d with lines := [(262143, { wLine with err := true, tailValid := true })] }).modSvc fun v => { v with ledger := [{ wEnt .waiting with record := 4 }] }), 262143, canonOf _ (by decide +kernel), by decide +kernel⟩
theorem witness_ldrReady : ∃ (s : State) (ms : Fin 65536), s.RegsOk ∧ s.Room Ev.LDR_READY ∧ s.flag F.LDR_STAT_READY = false :=
  ⟨wUp, 65535, by decide +kernel⟩
theorem witness_ldrReady_2 : ∃ (s : State) (ms : Fin 65536), s.RegsOk ∧ s.Room Ev.LDR_READY ∧ s.flag F.LDR_STAT_READY = true :=
  ⟨(wUp.putB F.LDR_STAT_READY true), 65535, by decide +kernel⟩
theorem witness_ldrFind : ∃ s : State, s.RegsOk ∧ SvcCmd s ∧ s.dramBusy = false ∧ s.ldr.writes = [] ∧ s.peekClient s.queryKey = none :=
  ⟨wUp, by decide +kernel⟩
def wAsk : State := ((((wUp.put ⟨A.LDR_Q_ADDR 0, 31, 0⟩ 0x01010101).put ⟨A.LDR_Q_ADDR 1, 31, 0⟩ 0x01010101).put ⟨A.LDR_Q_ADDR 2, 31, 0⟩ 0x01010101).put ⟨A.LDR_Q_ADDR 3, 31, 0⟩ 0x01010101).modLdr fun d => { d with lines := [(wWay 0, wHitLine 0)] }
theorem wAsk_peek : wAsk.peekClient wAsk.queryKey = some 4 := by
  have hk : wAsk.queryKey = (wKey, 0) := by decide +kernel
  have hw : (wAsk.hash wKey 0).ways.find? (fun n => wAsk.ldr.lines.any (fun p => p.1 == n && p.2.addr == wKey && p.2.kclass == 0)) = some (wWay 0) :=
    by rw [hash_eq wAsk wUp _ _ rfl (by decide +kernel)]; exact ways_find _ _ (any_one _ _ _ (by rw [show (wWay 0 == 16 * (wUp.hash wKey 0).set) = true from beq_self_eq_true _]; decide +kernel))
  have hl : (wAsk.line (wWay 0)).index = 4 := by simp [State.line, wAsk, State.modLdr, wHitLine, wLine]
  rw [hk]
  unfold State.peekClient
  simp only [hw, hl]
theorem witness_ldrFind_2 : ∃ s : State, s.RegsOk ∧ SvcCmd s ∧ s.dramBusy = false ∧ s.ldr.writes = [] ∧ s.peekClient s.queryKey = some 4 :=
  ⟨wAsk, by exact ⟨by decide +kernel, by decide +kernel, by decide +kernel, rfl, wAsk_peek⟩⟩
theorem witness_ldrSet : ∃ s : State, s.RegsOk ∧ SvcCmd s ∧ s.dramBusy = false ∧ s.ldr.writes = [] ∧ s.peekClient s.queryKey = none :=
  ⟨wUp, by decide +kernel⟩
theorem witness_ldrSet_2 : ∃ s : State, s.RegsOk ∧ SvcCmd s ∧ s.dramBusy = false ∧ s.ldr.writes = [] ∧ s.peekClient s.queryKey = some 4 :=
  ⟨wAsk, by exact ⟨by decide +kernel, by decide +kernel, by decide +kernel, rfl, wAsk_peek⟩⟩
theorem witness_ldrCntSnap : ∃ s : State, s.RegsOk ∧ SvcCmd s :=
  ⟨wQ, by decide +kernel⟩
theorem witness_ldrWaits : ∃ s : State, s.xdc.cmds = [] ∧ ((s.dramBusy = true ∨ ¬ SvcCmd s)) :=
  ⟨(wQ.putB F.MEM_STAT_RETRAINING true), by decide +kernel⟩
theorem witness_ldrWaits_2 : ∃ s : State, s.xdc.cmds = [] ∧ ¬ SvcCmd s :=
  ⟨(wQ.setGate 3 true), by decide +kernel⟩

def wArg (src : KeySrc) (l : List Word) : KeyArgs := ⟨src, some l⟩
def wLive (n : Nat) : State := wUp.modKey fun k => { k with commit := commitWord 0 (2 ^ n) }
def wK (st pol : Nat) : KeySlot := { KeySlot.blank with material := List.replicate 32 7, state := st, policy := pol }
theorem witness_keyGenerate : ∃ (s : State) (a : KeyArgs), s.RegsOk ∧ SvcCmd s ∧ KeysOk s ∧ keySrcOk a = true ∧ s.stageCause a = 0 ∧ s.rngOk = true :=
  ⟨(wUp.putB F.KEY_STAT_RNG_OK true), (wArg .twivon [7, 0, 1, 2, 0, 0x4F, 9]), by decide +kernel⟩
theorem tagOf_setCellar (s : State) (i : Nat) (k : KeySlot) (h : spWf blankSlot s.key.cellar = true) : (s.setCellar i k).cellarTagOk i = true := by
  have e : spGet blankSlot (spSet blankSlot s.key.cellar i (k.tagged 1 i)) i = k.tagged 1 i := spGet_spSet_same _ _ _ _ h
  unfold State.cellarTagOk State.cellarSlot State.setCellar State.modKey
  simp only [e]
  simp [KeySlot.tagged, KeySlot.tagOf, KeySlot.info]
theorem wrapKey_ok (s : State) (h i : Nat) (hs : h / 2 ^ 22 = 1) (hn : h % 4096 < 8) (hl : s.keyLive (h % 4096) = true) (hi : s.liveIdx (h % 4096) = i)
    (hp : (s.cellarSlot i).has pbWrap = true) (ht : s.cellarTagOk i = true) : s.wrapKey h = .ok (s.cellarSlot i) := by
  unfold State.wrapKey
  have hs4 : h / 4194304 = 1 := hs
  simp [hs4, hn, hl, hi, hp, ht]
def wWrap : State := (wLive 3).setCellar 6 (wK ksValid 0x10)
theorem witness_keyImport : ∃ (s : State) (a : KeyArgs) (k : KeySlot), s.RegsOk ∧ SvcCmd s ∧ KeysOk s ∧ keySrcOk a = true ∧ s.stageCause a = 0 ∧ s.wrapKey (s.keyArg a 1 % 2 ^ 24) = .ok k ∧ s.Room Ev.KEY_CMD_REFUSED :=
  ⟨wWrap, (wArg .mgt [0, 0x00400003, 1, 2, 0, 0, 9]), (wWrap.cellarSlot 6), by exact ⟨by decide +kernel, by decide +kernel, by decide +kernel, rfl, by decide +kernel, wrapKey_ok _ _ 6 (by decide +kernel) (by decide +kernel) (by decide +kernel) (by decide +kernel) (by decide +kernel) (tagOf_setCellar _ _ (wK ksValid 0x10) (by decide +kernel)), by decide +kernel⟩⟩
theorem witness_keyImportLocal : ∃ (s : State) (a : KeyArgs), s.RegsOk ∧ SvcCmd s ∧ KeysOk s ∧ a.src = .spi ∧ s.flag F.KEY_CFG_LOCAL_PROVISION = true ∧ s.anyLive = false ∧ s.stageCause a = 0 :=
  ⟨(wUp.putB F.KEY_CFG_LOCAL_PROVISION true), (wArg .spi [7, 0, 1, 2, 0, 0, 9]), by decide +kernel⟩
theorem witness_keyErase : ∃ (s : State) (a : KeyArgs), s.RegsOk ∧ SvcCmd s ∧ KeysOk s ∧ keySrcOk a = true ∧ s.keyArg a 0 < 8 ∧ s.keyLive (s.keyArg a 0) = true ∧ s.keyStaged (s.keyArg a 0) = false :=
  ⟨(wLive 7), (wArg .mgt [7]), by decide +kernel⟩
def wStaged : State := (wUp.setCellar 15 (wK ksStaged 0)).setCellar 1 (wK ksStagedErase 0)
theorem witness_keyCommit : ∃ (s : State) (a : KeyArgs), s.RegsOk ∧ SvcCmd s ∧ keySrcOk a = true ∧ s.maskCause (s.keyArg a 0) = 0 :=
  ⟨wStaged, (wArg .mgt [0x81]), by decide +kernel⟩
theorem witness_keyAbort : ∃ (s : State) (a : KeyArgs), s.RegsOk ∧ SvcCmd s ∧ KeysOk s ∧ keySrcOk a = true ∧ s.maskCause (s.keyArg a 0) = 0 :=
  ⟨wStaged, (wArg .mgt [0x81]), by decide +kernel⟩
theorem parentOf_main (s : State) (h i : Nat) (hs : h / 2 ^ 22 = 0) (hi : h % 4096 = i) (hc : h / 4096 % 1024 = (s.mainSlot i).incarn)
    (hv : (s.mainSlot i).state = ksValid) (ht : s.mainTagOk i = true) : s.parentOf h = .ok (s.mainSlot i, i, false) := by
  unfold State.parentOf
  have hs4 : h / 4194304 = 0 := hs
  simp [hs4, hi, hc, hv, ht]
def wPar : State := wUp.setMain 5 (wK ksValid 0x4B)
theorem witness_keyDerive : ∃ (s : State) (a : KeyArgs) (p : KeySlot) (pf : Nat) (pend : Bool), let i := s.keyArg a 4 / 65536 % 4096; s.RegsOk ∧ SvcCmd s ∧ KeysOk s ∧ a.src ≠ .spi ∧ i < 4064 ∧ (s.mainSlot i).state = ksEmpty ∧ policyOk (s.keyArg a 5) = true ∧ s.keyArg a 5 / 4 % 2 = 0 ∧ s.keyArg a 5 / 16 % 2 = 0 ∧ s.parentOf (s.keyArg a 0 % 2 ^ 24) = .ok (p, pf, pend) ∧ p.has pbDerive = true ∧ p.depth < 3 ∧ s.keyArg a 1 / 2 ^ 24 % 2 = 0 :=
  ⟨wPar, (wArg .mgt [5, 0, 1, 2, 0x0FDF0003, 0x4B, 9, 0]), (wPar.mainSlot 5), 5, false, by refine ⟨by decide +kernel, by decide +kernel, by decide +kernel, by decide, by decide +kernel, by decide +kernel, by decide +kernel, by decide +kernel, by decide +kernel, parentOf_main _ _ 5 (by decide +kernel) (by decide +kernel) (by decide +kernel) (by decide +kernel) (tagOf_setMain _ _ (wK ksValid 0x4B) (by decide +kernel)), by decide +kernel, by decide +kernel, by decide +kernel⟩⟩
def wSlots : State := ((wUp.setMain 5 (wK ksValid 0x4B)).setMain 4095 (wK ksInvalid 0x4B)).setMain 6 { wK ksValid 0x4B with notAfter := 10 }
theorem witness_keyInvalidate : ∃ (s : State) (a : KeyArgs) (i : Nat), s.RegsOk ∧ SvcCmd s ∧ keySrcOk a = true ∧ s.namedMain (s.keyArg a 0 % 2 ^ 24) = some i ∧ (s.mainSlot i).state = ksValid :=
  ⟨wSlots, (wArg .mgt [5]), 5, by decide +kernel⟩
theorem witness_keySetSucc : ∃ (s : State) (a : KeyArgs) (i : Nat), s.RegsOk ∧ SvcCmd s ∧ KeysOk s ∧ keySrcOk a = true ∧ s.namedMain (s.keyArg a 0 % 2 ^ 24) = some i ∧ (s.mainSlot i).state ≠ ksEmpty ∧ s.keyArg a 1 / 2 ^ 24 % 2 = 0 :=
  ⟨wSlots, (wArg .mgt [0xFFF, 0]), 4095, by decide +kernel⟩
theorem witness_keySetSucc_2 : ∃ (s : State) (a : KeyArgs) (i : Nat), s.RegsOk ∧ SvcCmd s ∧ KeysOk s ∧ keySrcOk a = true ∧ s.namedMain (s.keyArg a 0 % 2 ^ 24) = some i ∧ (s.mainSlot i).state ≠ ksEmpty ∧ s.keyArg a 1 / 2 ^ 24 % 2 = 1 ∧ s.succFit (s.keyArg a 1 % 2 ^ 24) (s.mainSlot i).policy = true :=
  ⟨wSlots, (wArg .mgt [0xFFF, 0x01000005]), 4095, by decide +kernel⟩
theorem witness_keyFree : ∃ (s : State) (a : KeyArgs) (i : Nat), s.RegsOk ∧ SvcCmd s ∧ KeysOk s ∧ keySrcOk a = true ∧ s.namedMain (s.keyArg a 0 % 2 ^ 24) = some i ∧ (s.mainSlot i).state = ksInvalid :=
  ⟨wSlots, (wArg .twivon [0xFFF]), 4095, by decide +kernel⟩
theorem witness_cookieRoll : ∃ (s : State) (a : KeyArgs), s.RegsOk ∧ SvcCmd s ∧ keySrcOk a = true ∧ s.keyArg a 0 < 4 ∧ s.ckOn (s.keyArg a 0) = true :=
  ⟨(wUp.putB (F.KEY_CKf_CFG_EN 3) true), (wArg .mgt [3]), by decide +kernel⟩
theorem witness_tamperDisarm : ∃ (s : State) (a : KeyArgs), s.RegsOk ∧ SvcCmd s ∧ a.src = .twivon ∧ s.keyArg a 0 < 2048 ∧ s.keyArg a 0 / 16 % 16 = 0 :=
  ⟨(wUp.put F.KEY_TAMPER_CFG_ARM_IN 15), (wArg .twivon [0x705]), by decide +kernel⟩
theorem witness_keySources : ∃ (s : State) (a : KeyArgs), s.RegsOk ∧ SvcCmd s ∧ s.Room Ev.KEY_CMD_REFUSED ∧ a.src = .spi :=
  ⟨wUp, (wArg .spi [1]), by decide +kernel⟩
theorem witness_stageCauses : ∃ (s : State) (a : KeyArgs), 8 ≤ s.keyArg a 0 :=
  ⟨wUp, (wArg .mgt [8]), by decide +kernel⟩
theorem witness_stageCauses_2 : ∃ (s : State) (a : KeyArgs), s.keyArg a 0 < 8 ∧ policyOk (s.keyArg a 5) = false :=
  ⟨wUp, (wArg .mgt [7, 0, 0, 0, 0, 0x80]), by decide +kernel⟩
theorem witness_stageCauses_3 : ∃ (s : State) (a : KeyArgs), s.keyArg a 0 < 8 ∧ policyOk (s.keyArg a 5) = true :=
  ⟨wStaged, (wArg .mgt [7, 0, 0, 0, 0, 0]), by decide +kernel⟩
theorem witness_stageCauses_4 : ∃ (s : State) (a : KeyArgs), s.keyArg a 0 < 8 ∧ policyOk (s.keyArg a 5) = true :=
  ⟨wStaged, (wArg .mgt [6, 0, 0, 0, 0, 0x0000007F]), by decide +kernel⟩
def wExp : State := { (wSlots.setMain 4000 { wK ksValid 0 with parent := 6, depth := 2 }) with tickAt := some wSlots.now }
theorem witness_keyExpiry : ∃ (s : State) (i : Fin 4096), KeysOk s ∧ s.atTick = true ∧ s.cclkRuns = true ∧ s.expired i = true ∧ (s.mainSlot i).state = ksValid ∧ s.Room Ev.KEY_INVALIDATE ∧ s.svc.ledger = [] :=
  ⟨wExp, 6, by decide +kernel⟩
theorem witness_keyExpiry_2 : ∃ (s : State) (i : Fin 4096), KeysOk s ∧ (s.atTick = false ∨ s.expired i = false) :=
  ⟨wExp, 5, by decide +kernel⟩
theorem witness_keyExpiry_3 : ∃ (s : State) (i : Fin 4096), KeysOk s ∧ (s.atTick = false ∨ s.expired i = false) :=
  ⟨wSlots, 6, by decide +kernel⟩
def wBadTag : KeySlot := { wK ksValid 0 with tag := [1, 2, 3, 4, 5] }
def wBad : State := wUp.modKey fun k => { k with main := [(9, wBadTag)] }
theorem witness_keyTagCheck : ∃ s : State, s.cclkRuns = true ∧ ((s.key.checked = 0 ∨ s.key.checked + 1023 ≤ s.curTick)) ∧ (∀ p ∈ s.key.main, s.mainTagOk p.1 = true) ∧ (∀ p ∈ s.key.cellar, s.cellarTagOk p.1 = true) :=
  ⟨wUp, by exact ⟨by decide +kernel, by decide +kernel, fun p hp => absurd hp (by show p ∉ []; simp), fun p hp => absurd hp (by show p ∉ []; simp)⟩⟩
theorem witness_keyTagCheck_2 : ∃ s : State, s.cclkRuns = true ∧ s.key.checked = 0 ∧ s.Room Ev.KEY_TAG_FAIL ∧ s.key.main = [(9, wBadTag)] ∧ s.key.cellar = [] ∧ wBadTag.state = ksValid ∧ wBadTag.tag ≠ wBadTag.tagOf 0 9 :=
  ⟨wBad, by refine ⟨by decide +kernel, by decide +kernel, by decide +kernel, rfl, rfl, rfl, fun h => ?_⟩; have l := congrArg List.length h; rw [KeySlot.tagOf, List.length_take] at l; have : wBadTag.tag.length = 5 := rfl; omega⟩
theorem witness_keyTagCheck_3 : ∃ s : State, 0 < s.key.checked ∧ s.curTick < s.key.checked + 1023 :=
  ⟨(wUp.modKey fun k => { k with checked := wUp.curTick + 1 }), by decide +kernel⟩
theorem witness_keyCntSnap : ∃ s : State, s.RegsOk ∧ SvcCmd s :=
  ⟨wQ, by decide +kernel⟩
theorem witness_keyCmdWaits : ∃ (s : State) (src : KeySrc), ¬ SvcCmd s ∧ s.xdc.cmds = [] :=
  ⟨(wQ.setGate 3 true), .twivon, by decide +kernel⟩
def wUse : State := wUp.modKey fun k => { k with uses := [(4095, 77)] }
theorem witness_keySlotSelWrite : ∃ (s : State) (path : Path) (v : Word), s.RegsOk ∧ v.toNat % 2 ^ 24 < 2 ^ 22 :=
  ⟨wUse, .spi, 0x3FFFFF#32, by decide +kernel⟩
theorem witness_keySlotSelWrite_2 : ∃ (s : State) (path : Path) (v : Word), s.RegsOk ∧ 2 ^ 23 ≤ v.toNat % 2 ^ 24 :=
  ⟨wUse, .spi, 0x800000#32, by decide +kernel⟩
theorem witness_rngHealthFail : ∃ (s : State) (rep : Bool), s.RegsOk ∧ s.Room Ev.KEY_RNG_FAIL :=
  ⟨wUp, true, by decide +kernel⟩
theorem witness_rngRecover : ∃ s : State, s.RegsOk ∧ s.injOn 0xB1 0 = false :=
  ⟨wUp, by decide +kernel⟩
def wReqs (n : Nat) : State := wUp.modKey fun k => { k with requests := n }
theorem witness_drbgReseed : ∃ s : State, 2 ^ 20 ≤ s.key.requests :=
  ⟨(wReqs 1048576), by decide +kernel⟩
theorem witness_drbgReseed_2 : ∃ s : State, s.key.requests < 2 ^ 20 :=
  ⟨(wReqs 1048575), by decide +kernel⟩

def wCh (n mode : Nat) (f : TicChan → TicChan) : State := ((wUp.put (F.TIC_CHn_CFG_MODE n) mode).put (F.TIC_CHn_CFG_EDGE n) 3).modCh n f
def wU : Nat := wUp.now
theorem noLast {s : State} {n u : Nat} (h : (s.ch n).lastT = none) : ∀ v, (s.ch n).lastT = some v → v ≤ u → 16 * lsbPerNs ≤ (u - v) * 10 := by
  intro v hv; rw [h] at hv; cases hv
theorem farLast {s : State} {n u w : Nat} (h : (s.ch n).lastT = some w) (hw : 16 * lsbPerNs ≤ (u - w) * 10) :
    ∀ v, (s.ch n).lastT = some v → v ≤ u → 16 * lsbPerNs ≤ (u - v) * 10 := by
  intro v hv _; rw [h] at hv; cases hv; exact hw
theorem witness_ticEdge : ∃ (s : State) (n : Fin 32) (falling : Bool) (u : Nat), s.RegsOk ∧ ChansOk s ∧ Stamped s n falling u ∧ s.ticMode n = tmMonitor :=
  ⟨(wCh 31 3 id), 31, true, wU, by exact ⟨by decide +kernel, by decide +kernel, ⟨by decide +kernel, noLast (by decide +kernel), by decide +kernel, by decide +kernel⟩, by decide +kernel⟩⟩
theorem witness_ticEdge_2 : ∃ (s : State) (n : Fin 32) (falling : Bool) (u : Nat), s.RegsOk ∧ ChansOk s ∧ Stamped s n falling u ∧ s.ticMode n = tmMonitor :=
  ⟨(wCh 31 3 fun c => { c with lastT := some (wU - 104858) }), 31, false, wU, by exact ⟨by decide +kernel, by decide +kernel, ⟨by decide +kernel, farLast (w := wU - 104858) (by decide +kernel) (by decide +kernel), by decide +kernel, by decide +kernel⟩, by decide +kernel⟩⟩
theorem witness_ticEdgeNone : ∃ (s : State) (n : Fin 32) (falling : Bool) (u : Nat), ((s.ticMode n = tmOff ∨ s.ticSelects n falling = false)) :=
  ⟨wUp, 0, true, wU, by decide +kernel⟩
theorem witness_ticEdgeDivided : ∃ (s : State) (n : Fin 32) (falling : Bool) (u : Nat), ChansOk s ∧ s.ticMode n ≠ tmOff ∧ s.ticSelects n falling = true ∧ (s.ch n).div + 1 < s.get (F.TIC_CHn_DIV_DIV n) :=
  ⟨((wCh 0 1 id).put (F.TIC_CHn_DIV_DIV 0) 65536), 0, true, wU, by decide +kernel⟩
theorem witness_ticEdgeDead : ∃ (s : State) (n : Fin 32) (falling : Bool) (u v : Nat), s.RegsOk ∧ ChansOk s ∧ s.Room Ev.TIC_LOSS ∧ Kept s n falling ∧ (s.ch n).lastT = some v ∧ v ≤ u ∧ (u - v) * 10 < 16 * lsbPerNs :=
  ⟨(wCh 31 3 fun c => { c with lastT := some (wU - 104857) }), 31, false, wU, (wU - 104857), by decide +kernel⟩
def wBurst : State := wCh 31 3 fun c => { c with departs := List.replicate 64 (wU + 1) }
theorem witness_ticEdgeLost : ∃ (s : State) (n : Fin 32) (falling : Bool) (u : Nat), s.RegsOk ∧ ChansOk s ∧ s.ticMode n ≠ tmOff ∧ s.ticSelects n falling = true ∧ s.get (F.TIC_CHn_DIV_DIV n) ≤ (s.ch n).div + 1 ∧ s.ticBase n = true ∧ (s.ch n).lastT = none ∧ 64 ≤ ((s.ch n).departs.filter (u < ·)).length :=
  ⟨wBurst, 31, true, wU, by decide +kernel⟩
def wNoBase : State := (wCh 31 3 id).putB (F.TIC_CHn_CFG_BASE 31) true
theorem witness_ticEdgeLost_2 : ∃ (s : State) (n : Fin 32) (falling : Bool) (u : Nat), s.RegsOk ∧ ChansOk s ∧ s.ticMode n ≠ tmOff ∧ s.ticSelects n falling = true ∧ s.get (F.TIC_CHn_DIV_DIV n) ≤ (s.ch n).div + 1 ∧ s.ticBase n = false :=
  ⟨wNoBase, 31, true, wU, by decide +kernel⟩
theorem witness_ticEdgeStream : ∃ (s : State) (n : Fin 32) (falling : Bool) (u : Nat), let q := s.get (F.TIC_CHn_CFG_Q n); let v := s.ticStampOf n u / 2 ^ q * 2 ^ q; s.RegsOk ∧ ChansOk s ∧ Stamped s n falling u ∧ s.ticMode n = tmStream ∧ s.injOn 0xC1 n = false ∧ pipBytes (s.ch n).q + 6 ≤ ticQueueBytes ∧ (s.ch n).lossCount = 0 ∧ (s.ch n).mark = some (v / stampsPerSec) :=
  ⟨(wCh 0 1 fun c => { c with mark := some 68, prev := some 5 }), 0, true, wU, by exact ⟨by decide +kernel, by decide +kernel, ⟨by decide +kernel, noLast (by decide +kernel), by decide +kernel, by decide +kernel⟩, by decide +kernel⟩⟩
def wPip (d : Nat) : State := wCh 3 1 fun c => { c with q := [⟨d, [1, 2]⟩, ⟨d, [3, 4]⟩] }
theorem witness_pipWriteRing : ∃ (s : State) (n : Fin 32) (p : Pip) (rest : List Pip), s.Canon ∧ ChansOk s ∧ s.dramBusy = false ∧ (s.ch n).q = p :: rest ∧ p.dest = 1 ∧ s.ticRingFits n p.data.length = true :=
  ⟨(wPip 1), 3, ⟨1, [1, 2]⟩, [⟨1, [3, 4]⟩], canonOf _ (by decide +kernel), by decide +kernel⟩
theorem witness_pipWriteRing_2 : ∃ (s : State) (n : Fin 32) (p : Pip) (rest : List Pip), s.Canon ∧ ChansOk s ∧ s.dramBusy = false ∧ (s.ch n).q = p :: rest ∧ p.dest = 1 ∧ s.ticRingFits n p.data.length = false ∧ s.Room Ev.TIC_RING_FULL :=
  ⟨(((wPip 1).put (F.TIC_CHn_RING_SIZE_LOG2 3) 12).put (F.TIC_CHn_RING_WR_WR 3) 4094), 3, ⟨1, [1, 2]⟩, [⟨1, [3, 4]⟩], canonOf _ (by decide +kernel), by decide +kernel⟩
theorem witness_pipWaits : ∃ (s : State) (n : Fin 32), s.dramBusy = true ∧ ((∃ p, (s.ch n).q.head? = some p ∧ p.dest = 1)) :=
  ⟨((wPip 1).putB F.MEM_STAT_RETRAINING true), 3, by decide +kernel⟩
theorem witness_pipWaits_2 : ∃ (s : State) (n : Fin 32), s.flag F.TIC_CFG_EXP_EN = false ∧ ((∃ p, (s.ch n).q.head? = some p ∧ p.dest = 2)) :=
  ⟨(wPip 2), 3, by decide +kernel⟩
theorem witness_pipWaits_3 : ∃ (s : State) (n : Fin 32), (s.ch n).q = [] :=
  ⟨wUp, 31, by decide +kernel⟩
theorem witness_pipWriteExport : ∃ (s : State) (n : Fin 32) (p : Pip) (rest : List Pip), ChansOk s ∧ (s.ch n).q = p :: rest ∧ p.dest = 2 ∧ s.flag F.TIC_CFG_EXP_EN = true ∧ s.expLen n p.data ≤ s.maxLen s.expPort ∧ ((s.tic.segs ≠ [] ∨ s.tic.xoffAt = none)) :=
  ⟨((wPip 2).putB F.TIC_CFG_EXP_EN true), 3, ⟨2, [1, 2]⟩, [⟨2, [3, 4]⟩], by decide +kernel⟩
def wStop : State := ((wCh 3 2 fun c => { c with stops := [(500000, true, 0)] }).put (F.TIC_CHn_CFG_START_CH 3) 4).modCh 4 fun c => { c with hist := [(499990, 0)] }
theorem witness_intervalJudge : ∃ (s : State) (n : Fin 32) (stop serial : Nat) (falling : Bool) (rest : List (Nat × Bool × Nat)), s.RegsOk ∧ ChansOk s ∧ (s.ch n).stops = (stop, falling, serial) :: rest :=
  ⟨wStop, 3, 500000, 0, true, [], by decide +kernel⟩
theorem witness_intervalWindow : ∃ (s : State) (n stop serial : Nat), (s.judgeStop n stop serial).1 % 2 = 0 :=
  ⟨wStop, 3, 500000, 0, by decide +kernel⟩
def wGate : State := (((wCh 0 1 fun c => { c with gates := [⟨67, 3, 0, 8192, false⟩] }).put (F.TIC_CHn_GATE_GATE 0) 954).put (F.TIC_CHn_FNOM_FNOM 0) 1000000000)
theorem witness_freqGateEnd : ∃ (s : State) (n : Fin 32), let no := s.curTick / s.get (F.TIC_CHn_GATE_GATE n); s.RegsOk ∧ ChansOk s ∧ s.ticMode n ≠ tmOff ∧ s.tic.fq.length < 256 ∧ no ≠ 0 ∧ (s.ch n).gateNext ≤ no - 1 :=
  ⟨wGate, 0, by decide +kernel⟩
theorem witness_recalTimer : ∃ (s : State) (n : Fin 32), ChansOk s ∧ (s.ch n).retryAt = none ∧ (s.ch n).calAt + s.calInterval ≤ s.now :=
  ⟨{ wUp with now := 100000 * lsbPerSec }, 31, by decide +kernel⟩
theorem witness_recalEarly : ∃ (s : State) (n : Fin 32), (s.ch n).retryAt = none ∧ s.now < (s.ch n).calAt + s.calInterval :=
  ⟨{ wUp with now := 1 }, 31, by decide +kernel⟩
theorem witness_recal : ∃ (s : State) (n : Fin 32), ChansOk s :=
  ⟨wUp, 31, by decide +kernel⟩
theorem witness_recalAll : ∃ s : State, ChansOk s :=
  ⟨wUp, by decide +kernel⟩
def wCal : State := wCh 31 3 fun c => { c with calBusy := true }
theorem witness_interpCalDone : ∃ (s : State) (n : Fin 32) (move : Nat), s.RegsOk ∧ ChansOk s ∧ (s.ch n).calBusy = true ∧ s.injOn 0xC2 n = false :=
  ⟨wCal, 31, 70000, by decide +kernel⟩
theorem witness_interpCalDone_2 : ∃ (s : State) (n : Fin 32) (move : Nat), s.RegsOk ∧ ChansOk s ∧ (s.ch n).calBusy = true ∧ s.injOn 0xC2 n = false ∧ s.Room Ev.TIC_CAL_FAIL :=
  ⟨wCal, 31, 3, by decide +kernel⟩
theorem witness_exportFrameClose : ∃ s : State, s.prt.done = [] ∧ s.tic.segs ≠ [] :=
  ⟨(wUp.modTic fun c => { c with segs := [(3, [1, 2])], segPips := 1 }), by decide +kernel⟩
def wFlow (on : Byte) : List Byte := List.replicate 12 0 ++ [0x88, 0xB5, 1, 2, 0, 0, on, 0]
def wFlowS (on : Byte) : State := ((((wReq (wFlow on) id).put (F.PRT_x_RXQq_CFG_CONSUMER 3 2) 7).putB F.TIC_CFG_EXP_EN true).put F.TIC_CFG_EXP_PORT 3).put F.TIC_CFG_EXP_ETYPE 0x88B5
theorem witness_flowMessage : ∃ (s : State) (f : RxFrame), let s1 := (s.takeRx s.expPort 7 fun _ => true).2; let l := f.data.drop ((tagsOf f.data).etOfs + 2); s.RegsOk ∧ (s.takeRx s.expPort 7 fun _ => true).1 = some f ∧ s1.flag F.TIC_CFG_EXP_EN = true ∧ etherType f.data = s1.get F.TIC_CFG_EXP_ETYPE ∧ leNat (l.take 1) = 1 ∧ leNat ((l.drop 1).take 1) = 2 ∧ leNat ((l.drop 2).take 2) = s1.get F.TIC_EXP_ID_STREAM_ID :=
  ⟨(wFlowS 1), ⟨wFlow 1, ⟨0, 0, 0, 0, true⟩⟩, by decide +kernel⟩
theorem witness_flowMessage_2 : ∃ (s : State) (f : RxFrame), let s1 := (s.takeRx s.expPort 7 fun _ => true).2; let l := f.data.drop ((tagsOf f.data).etOfs + 2); s.RegsOk ∧ (s.takeRx s.expPort 7 fun _ => true).1 = some f ∧ s1.flag F.TIC_CFG_EXP_EN = true ∧ etherType f.data = s1.get F.TIC_CFG_EXP_ETYPE ∧ leNat (l.take 1) = 1 ∧ leNat ((l.drop 1).take 1) = 2 ∧ leNat ((l.drop 2).take 2) = s1.get F.TIC_EXP_ID_STREAM_ID :=
  ⟨(wFlowS 0), ⟨wFlow 0, ⟨0, 0, 0, 0, true⟩⟩, by decide +kernel⟩
def wXoff : State := wUp.modTic fun c => { c with xoffAt := some (wUp.now - lsbPerSec / 10) }
theorem witness_xoffTimeout : ∃ (s : State) (u : Nat), s.RegsOk ∧ s.tic.xoffAt = some u ∧ s.Room Ev.TIC_EXP_TIMEOUT ∧ u + lsbPerSec / 10 ≤ s.now :=
  ⟨wXoff, (wUp.now - lsbPerSec / 10), by decide +kernel⟩
theorem witness_xoffTimeout_2 : ∃ (s : State) (u : Nat), s.RegsOk ∧ s.tic.xoffAt = some u ∧ s.Room Ev.TIC_EXP_TIMEOUT ∧ s.now < u + lsbPerSec / 10 :=
  ⟨{ wXoff with now := wUp.now - 1 }, (wUp.now - lsbPerSec / 10), by decide +kernel⟩
theorem witness_ringRdWrite : ∃ (s : State) (n : Fin 32) (v : Word), s.RegsOk :=
  ⟨wUp, 31, 0xFFFFFFFF#32, by decide +kernel⟩
theorem witness_ticFqPop_2 : ∃ s : State, s.tic.fq = [] :=
  ⟨wUp, by decide +kernel⟩

/-- Both bands enabled, awake, their clocks running, all systems on. -/
def wGnsOf (b0 b1 : Nat) : State := (((((wRun.put ⟨A.GNS_FE_L1_CFG, 26, 0⟩ 20000000).put ⟨A.GNS_FE_L1_CFG + 8, 26, 0⟩ 100000000).put F.GNS_CFG_SYS_EN 15).put F.GNS_STAT_FE_FAIL 0).modXdc (fun c => { c with stopped := [] })).modGns fun g => { g with band := [b0, b1] }
def wGns (c st : Nat) : State := ((wGnsOf gbAwake gbAwake).setGch c st).modGch c fun g => { g with lostAt := wUp.now - 10 * lsbPerSec, pullAt := wUp.now - 2 * lsbPerSec }
theorem witness_channelAssign : ∃ (s : State) (c : Fin 240) (sig : Fin 16) (sv : Fin 64) (hot : Bool), s.RegsOk ∧ s.gns.chans.length = 240 ∧ s.mclkLost = false ∧ s.gcState c = gcIdle ∧ s.sigOk sig sv = true ∧ sigBand sig = bandOf c ∧ s.bandRuns (bandOf c) = true :=
  ⟨(wGns 0 gcIdle), 239, 8, 10, true, by decide +kernel⟩
theorem witness_channelAssign_2 : ∃ (s : State) (c : Fin 240) (sig : Fin 16) (sv : Fin 64) (hot : Bool), s.RegsOk ∧ s.gns.chans.length = 240 ∧ s.mclkLost = false ∧ s.gcState c = gcIdle ∧ s.sigOk sig sv = true ∧ sigBand sig = bandOf c ∧ s.bandRuns (bandOf c) = true :=
  ⟨(wGns 0 gcIdle), 0, 1, 32, false, by decide +kernel⟩
theorem witness_channelMoves : ∃ (s : State) (c : Fin 240), s.RegsOk ∧ s.gns.chans.length = 240 ∧ s.mclkLost = false ∧ s.gcState c = gcSearch :=
  ⟨(wGns 239 gcSearch), 239, by decide +kernel⟩
theorem witness_channelMoves_2 : ∃ (s : State) (c : Fin 240), s.RegsOk ∧ s.gns.chans.length = 240 ∧ s.mclkLost = false ∧ s.gcState c = gcPullIn ∧ (s.gch c).pullAt + lsbPerSec / 5 ≤ s.now ∧ (s.gch c).pullAt + 2 * lsbPerSec ≤ s.now :=
  ⟨(wGns 0 gcPullIn), 0, by decide +kernel⟩
theorem witness_channelMoves_3 : ∃ (s : State) (c : Fin 240), s.RegsOk ∧ s.gns.chans.length = 240 ∧ s.mclkLost = false ∧ s.gcState c = gcTrack :=
  ⟨(wGns 7 gcTrack), 7, by decide +kernel⟩
theorem witness_channelMoves_4 : ∃ (s : State) (c : Fin 240), s.RegsOk ∧ s.gns.chans.length = 240 ∧ s.mclkLost = false ∧ s.gcState c = gcLost ∧ s.now ≤ (s.gch c).lostAt + 10 * lsbPerSec ∧ s.bandRuns (bandOf c) = true ∧ (s.gch c).lostAt + 10 * lsbPerSec ≤ s.now :=
  ⟨(wGns 120 gcLost), 120, by decide +kernel⟩
theorem witness_channelStays : ∃ (s : State) (c : Fin 240) (m : Bool), (s.gcState c ≠ gcSearch ∨ s.mclkLost = true) ∧ (s.gcState c ≠ gcPullIn ∨ s.mclkLost = true) ∧ (s.gcState c ≠ gcTrack ∨ s.mclkLost = true) ∧ (s.gcState c ≠ gcLost ∨ s.mclkLost = true) :=
  ⟨(wGns 7 gcIdle), 7, true, by decide +kernel⟩
theorem witness_channelStays_2 : ∃ (s : State) (c : Fin 240) (m : Bool), s.now < (s.gch c).pullAt + lsbPerSec / 5 ∧ ((s.get (F.GNS_CHc_STAT_SIG c) = 3 ∨ s.get (F.GNS_CHc_STAT_SIG c) = 5)) ∧ s.now < (s.gch c).pullAt + 2 * lsbPerSec ∧ s.now < (s.gch c).lostAt + 10 * lsbPerSec :=
  ⟨((((wGns 7 gcPullIn).modGch 7 fun g => { g with pullAt := wUp.now - lsbPerSec / 5 + 1, lostAt := wUp.now - 10 * lsbPerSec + 1 }).put (F.GNS_CHc_STAT_SIG 7) 5)), 7, true, by decide +kernel⟩
theorem witness_loopProcessorFault : ∃ (s : State) (k : Fin 4) (cause : Fin 16), s.RegsOk ∧ s.Room Ev.GNS_LP_FAULT ∧ s.mclkLost = false :=
  ⟨(wGns 239 gcTrack), 3, 15, by decide +kernel⟩
theorem witness_loopProcessorFault_2 : ∃ (s : State) (k : Fin 4) (cause : Fin 16), s.RegsOk ∧ s.Room Ev.GNS_LP_FAULT ∧ s.mclkLost = true :=
  ⟨((wGns 239 gcTrack).setGate 4 true), 3, 15, by decide +kernel⟩
theorem witness_gnssSleep : ∃ s : State, s.RegsOk ∧ s.gns.band = [gbAwake, gbAwake] ∧ s.gns.sleptAt.length = 2 ∧ s.bandEnabled 0 = true ∧ s.bandEnabled 1 = false ∧ s.evtWaiting (evtBlock Ev.GNS_SLEEP) + 1 < evtQueueDepth ∧ s.injOn 0x01 (evtBlock Ev.GNS_SLEEP) = false :=
  ⟨((wGns 7 gcTrack).put ⟨A.GNS_FE_L1_CFG + 8, 26, 0⟩ 0), by decide +kernel⟩
theorem witness_gnssWake : ∃ s : State, s.RegsOk ∧ s.gns.band = [gbAsleep, gbAwake] ∧ s.gns.wakeAt.length = 2 ∧ s.bandEnabled 0 = true ∧ s.feFail 1 = false ∧ s.Room Ev.GNS_FE_CFG_FAIL :=
  ⟨(wGnsOf gbAsleep gbAwake), by decide +kernel⟩
theorem witness_gnssCold : ∃ s : State, s.RegsOk ∧ s.gns.band.length = 2 :=
  ⟨(wGns 7 gcTrack), by decide +kernel⟩
def wDuty : State := { (((wGns 7 gcTrack).put F.GNS_SLEEP_CFG_OFF 60).putB F.GNS_STAT_SOL_VALID true).put ⟨A.GNS_FE_L1_CFG + 8, 26, 0⟩ 0 with now := 70000 * lsbPerSec }
theorem witness_dutySleep : ∃ s : State, s.RegsOk ∧ s.gns.band = [gbAwake, gbAwake] ∧ s.gns.sleptAt.length = 2 ∧ s.bandEnabled 0 = true ∧ s.bandEnabled 1 = false ∧ s.evtWaiting (evtBlock Ev.GNS_SLEEP) + 1 < evtQueueDepth ∧ s.injOn 0x01 (evtBlock Ev.GNS_SLEEP) = false ∧ s.get F.GNS_SLEEP_CFG_OFF ≠ 0 ∧ s.flag F.GNS_STAT_SOL_VALID = true ∧ s.gnssInUse = false ∧ s.gns.validAt + s.get F.GNS_SLEEP_CFG_ON * lsbPerSec ≤ s.now :=
  ⟨wDuty, by decide +kernel⟩
theorem witness_dutySleep_2 : ∃ s : State, ((s.gnssInUse = true ∨ s.now < s.gns.validAt + s.get F.GNS_SLEEP_CFG_ON * lsbPerSec)) :=
  ⟨{ wDuty.put F.GNS_SLEEP_CFG_ON 600 with now := wDuty.gns.validAt + 1 }, by decide +kernel⟩
theorem witness_dutySleep_3 : ∃ s : State, s.get F.GNS_SLEEP_CFG_OFF = 0 :=
  ⟨((wGns 7 gcTrack).put F.GNS_SLEEP_CFG_OFF 0), by decide +kernel⟩
theorem witness_dutyWake : ∃ s : State, s.RegsOk ∧ s.gns.band = [gbAsleep, gbAwake] ∧ s.bandEnabled 0 = true ∧ s.get F.GNS_SLEEP_CFG_OFF ≠ 0 ∧ nth s.gns.sleptAt 0 + s.get F.GNS_SLEEP_CFG_OFF * lsbPerSec ≤ s.now :=
  ⟨{ (wGnsOf gbAsleep gbAwake).put F.GNS_SLEEP_CFG_OFF 60 with now := 70000 * lsbPerSec }, by decide +kernel⟩
theorem witness_bandWakeComplete : ∃ (s : State) (b : Fin 2), s.RegsOk ∧ s.gns.band.length = 2 ∧ s.bandState b = gbWaking ∧ s.clockRuns (6 + b.val) = true ∧ s.feFail b = false ∧ s.Room Ev.GNS_WAKE :=
  ⟨(wGnsOf gbAwake gbWaking), 1, by decide +kernel⟩
theorem witness_bandWakeTimeout : ∃ (s : State) (b : Fin 2), s.RegsOk ∧ s.gns.band.length = 2 ∧ s.bandState b = gbWaking ∧ s.feFail b = false ∧ s.clockRuns (6 + b.val) = false ∧ nth s.gns.wakeAt b + lsbPerSec / 10 ≤ s.now ∧ s.Room Ev.GNS_FE_CFG_FAIL :=
  ⟨((wGnsOf gbWaking gbAwake).modXdc fun c => { c with stopped := [6] }), 0, by decide +kernel⟩
def wEp (t : Nat) : Epoch := ⟨t, [3, 4], [5], [⟨7, true, true, true, true, 45, 99, 0, 0⟩], [], ⟨[0, 0, 0], 0, 0, 0, 0, [], [], true⟩, none⟩
theorem witness_gnssEpoch : ∃ (s : State) (e : Epoch), s.epochDue e.at_ = true ∧ s.mclkLost = false :=
  ⟨(wGns 7 gcTrack), (wEp (70 * lsbPerSec)), by decide +kernel⟩
theorem witness_gnssEpoch_2 : ∃ (s : State) (e : Epoch), s.epochDue e.at_ = true ∧ s.mclkLost = false :=
  ⟨((wGns 7 gcTrack).put F.GNS_EPOCH_CFG_EPOCH 100), (wEp (70 * lsbPerSec + lsbPerSec / 10)), by decide +kernel⟩
theorem witness_gnssEpochPosted : ∃ (s : State) (e : Epoch), s.RegsOk ∧ s.epochDue e.at_ = true ∧ s.mclkLost = false ∧ e.at_ % lsbPerSec ≠ 0 ∧ s.solState = gsNofix :=
  ⟨((wGns 7 gcTrack).put F.GNS_EPOCH_CFG_EPOCH 100), (wEp (70 * lsbPerSec + lsbPerSec / 10)), by decide +kernel⟩
def wSol : GnssSol := ⟨[20 * 4096000000000, 7, 40 * 4096000000000], 0, 0, 0, 0, [], [], true⟩
theorem witness_gnssClocks : ∃ (v : GnssSol) (a b c : Int) (sats : List (Nat × Nat)), v.clocks = [a, b, c] ∧ ((∃ y ∈ ([(2, 5), (3, 1)] : List (Nat × Nat)), y.1 = 0 ∨ y.1 = 3)) ∧ (∃ y ∈ ([(2, 5), (3, 1)] : List (Nat × Nat)), y.1 = 2) :=
  ⟨wSol, (20 * 4096000000000), 7, (40 * 4096000000000), [(2, 5), (3, 1)], by decide +kernel⟩
theorem witness_gnssClocks_2 : ∃ (v : GnssSol) (a b c : Int) (sats : List (Nat × Nat)), v.clocks = [a, b, c] ∧ (∃ y ∈ ([(0, 5), (1, 1)] : List (Nat × Nat)), y.1 = 1) :=
  ⟨wSol, (20 * 4096000000000), 7, (40 * 4096000000000), [(0, 5), (1, 1)], by decide +kernel⟩
theorem witness_gnssEpochNotDue : ∃ (s : State) (e : Epoch), ((s.epochDue e.at_ = false ∨ s.mclkLost = true)) :=
  ⟨(wGns 7 gcTrack), (wEp (60 * lsbPerSec)), by decide +kernel⟩
def wPps : State := ((wGns 7 gcTrack).putB F.GNS_STAT_SOL_VALID true).putB F.GNS_CFG_PPS_EN true
theorem witness_gnssPps : ∃ (s : State) (sec : Nat) (edge0 : Rat), s.RegsOk ∧ s.gnssPpsOn = true ∧ s.now + lsbPerSec / 2 ≤ sec * lsbPerSec :=
  ⟨wPps, 70, 0, by decide +kernel⟩
theorem witness_gnssPps_2 : ∃ (s : State) (sec : Nat) (edge0 : Rat), s.RegsOk ∧ s.gnssPpsOn = true ∧ s.now + lsbPerSec / 2 ≤ sec * lsbPerSec :=
  ⟨(wPps.putWide A.GNS_SOL_OFS 2 (2 ^ 48 - 77)), 70, (3 / 7), by decide +kernel⟩
theorem witness_gnssPpsOff : ∃ (s : State) (sec : Nat) (edge0 : Rat), s.RegsOk ∧ s.gnssPpsOn = false ∧ s.now + lsbPerSec / 2 ≤ sec * lsbPerSec :=
  ⟨(wGns 7 gcTrack), 70, 0, by decide +kernel⟩
theorem witness_gnssPpsOff_2 : ∃ (s : State) (sec : Nat) (edge0 : Rat), s.RegsOk ∧ sec * lsbPerSec < s.now + lsbPerSec / 2 :=
  ⟨wPps, 69, 0, by decide +kernel⟩
theorem witness_resurvey : ∃ s : State, s.RegsOk ∧ s.gnsFixed = false ∧ s.solState = gsTiming :=
  ⟨(((wGns 7 gcTrack).put F.GNS_STAT_SOL_STATE gsTiming)), by decide +kernel⟩
theorem witness_resurvey_2 : ∃ s : State, s.RegsOk ∧ s.gnsFixed = true :=
  ⟨((wGns 7 gcTrack).putB F.GNS_CFG_MODE true), by decide +kernel⟩

/-- Link 1 on port 3 with a role, in MEASURE, its class and queue bound, and frames in the queue. -/
def wDst (role : Nat) (l : List (List Byte)) : State := (((((wPort 3).put (F.PRT_x_TXCc_CFG_SOURCE 3 0) 6).put (F.PRT_x_RXQq_CFG_CONSUMER 3 0) 5).put (F.DST_LINKd_CFG_ROLE 1) role).setDl 1 dlMeasure).modPort 3 fun k => { k with rxq := l.map (fun d => ⟨d, ⟨0, 0, 16, 0, true⟩⟩) :: List.replicate 7 [] }
theorem some_pair {α : Type} (o : Option (Nat × α)) (h : o.isSome = true) (d : Nat × α) : o = some ((o.getD d).1, (o.getD d).2) := by
  cases o <;> simp_all
def wMkSync (s : State) (t1 : Nat) : Option (List Byte) := s.dstFrame 1 0 (t1 % lsbPerNs) (s.dl 1).linkSeq (ptpTime t1) (s.linkTlv (s.syncData 1 t1 5))
def wDue : Nat := 69 * lsbPerSec
def wSyncPin : Nat × State := ((wDst 1 []).dstPin 1 wDue ((wDst 1 []).dstLen 1 10 54) 7 wMkSync).getD (0, wUp)
theorem wSyncPin_eq : (wDst 1 []).dstPin 1 wDue ((wDst 1 []).dstLen 1 10 54) 7 wMkSync = some (wSyncPin.1, wSyncPin.2) :=
  some_pair _ (by decide +kernel) _
theorem witness_dstPinned : ∃ (s s1 : State) (d : Fin 16) (e len tag t3 : Nat) (mk : State → Nat → Option (List Byte)), s.prt.ports.length = 20 ∧ s.pinOf (dpPort d) 6 tag = none ∧ s.pauseOf (dpPort d) (s.dstClass d) = [] ∧ s.dstPin d e len tag mk = some (t3, s1) :=
  ⟨(wDst 1 []), wSyncPin.2, 1, wDue, ((wDst 1 []).dstLen 1 10 54), 7, wSyncPin.1, wMkSync, by exact ⟨by decide +kernel, by decide +kernel, by decide +kernel, wSyncPin_eq⟩⟩
theorem witness_linkSyncSend : ∃ (s s1 : State) (d : Fin 16) (due t1 : Nat) (tag : Fin 65536) (rp : Int), LinksOk s ∧ s.dlDown d = true ∧ s.portUp (dpPort d) = true ∧ due % s.syncInterval d = 0 ∧ (s.dl d).sent ≠ some due ∧ s.dstPin d due (s.dstLen d 10 54) tag (fun s t1 => s.dstFrame d 0 (t1 % lsbPerNs) (s.dl d).linkSeq (ptpTime t1) (s.linkTlv (s.syncData d t1 rp))) = some (t1, s1) :=
  ⟨(wDst 1 []), wSyncPin.2, 1, wDue, wSyncPin.1, 7, 5, by exact ⟨by decide +kernel, by decide +kernel, by decide +kernel, by decide +kernel, by decide +kernel, wSyncPin_eq⟩⟩
theorem witness_linkSyncNotDue : ∃ (s : State) (d : Fin 16) (due : Nat) (tag : Fin 65536) (rp : Int), ((s.dlDown d = false ∨ s.portUp (dpPort d) = false ∨ due % s.syncInterval d ≠ 0 ∨ (s.dl d).sent = some due)) :=
  ⟨((wDst 1 []).modDl 1 fun l => { l with sent := some wDue }), 1, wDue, 7, 5, by decide +kernel⟩
theorem witness_linkSyncNotDue_2 : ∃ (s : State) (d : Fin 16) (due : Nat) (tag : Fin 65536) (rp : Int), ((s.dlDown d = false ∨ s.portUp (dpPort d) = false ∨ due % s.syncInterval d ≠ 0 ∨ (s.dl d).sent = some due)) :=
  ⟨(wDst 1 []), 1, (wDue + 1), 7, 5, by decide +kernel⟩
theorem witness_linkSyncNotDue_3 : ∃ (s : State) (d : Fin 16) (due : Nat) (tag : Fin 65536) (rp : Int), ((s.dlDown d = false ∨ s.portUp (dpPort d) = false ∨ due % s.syncInterval d ≠ 0 ∨ (s.dl d).sent = some due)) :=
  ⟨wUp, 1, wDue, 7, 5, by decide +kernel⟩
def wSyncF : List Byte := (wMkSync (wDst 1 []) wDue).getD []
def wTak (role : Nat) (f : List Byte) (body : Nat) (ty : Nat) : List Byte × LinkMsg × RxDesc × State := match (wDst role [f]).dstTake 1 body [ty] with | .msg x m d s => (x, m, d, s) | _ => ([], ⟨0, 0, 0, []⟩, ⟨0, 0, 0, 0, true⟩, wUp)
def Taken.isMsg : Taken → Bool | .msg .. => true | _ => false
theorem taken_msg (role : Nat) (f : List Byte) (body ty : Nat) (h : Taken.isMsg ((wDst role [f]).dstTake 1 body [ty]) = true) :
    (wDst role [f]).dstTake 1 body [ty] = .msg (wTak role f body ty).1 (wTak role f body ty).2.1 (wTak role f body ty).2.2.1 (wTak role f body ty).2.2.2 := by
  unfold wTak
  generalize (wDst role [f]).dstTake 1 body [ty] = x at h
  cases x <;> first | rfl | cases h
def wTs : List Byte × LinkMsg × RxDesc × State := wTak 2 wSyncF 10 0
theorem witness_linkSyncRx : ∃ (s s1 : State) (d : Fin 16) (fwd : Int) (x : List Byte) (m : LinkMsg) (desc : RxDesc) (t2 : Nat), LinksOk s ∧ s.dlUp d = true ∧ s.dlState d ≠ dlIdle ∧ s.dstTake d 10 [0] = .msg x m desc s1 ∧ s1.descTime desc = some t2 ∧ 44 ≤ m.tlv.length :=
  ⟨(wDst 2 [wSyncF]), wTs.2.2.2, 1, 77, wTs.1, wTs.2.1, wTs.2.2.1, ((wTs.2.2.2.descTime wTs.2.2.1).getD 0), by exact ⟨by decide +kernel, by decide +kernel, by decide +kernel, taken_msg _ _ _ _ (by decide +kernel), by decide +kernel, by decide +kernel⟩⟩
def wInfo : SyncInfo := ⟨7, 500000, 700000, 0, 0, 3, 2, 1, true, false, 0, 0⟩
def wUpl (f : List (List Byte)) : State := (wDst 2 f).modDl 1 fun l => { l with sync := some wInfo, req := some (7, 900000, 0) }
def wMkReq (s : State) (t3 : Nat) : Option (List Byte) := s.dstFrame 1 1 (t3 % lsbPerNs) 7 (ptpTime t3 ++ []) (s.linkTlv (s.reqData 1 5))
def wUplD : State := (wDst 2 []).modDl 1 fun l => { l with sync := some { wInfo with t2 := wDue - 100 } }
def wReqPin : Nat × State := (wUplD.dstPin 1 wDue (wUplD.dstLen 1 10 18) 7 wMkReq).getD (0, wUp)
theorem witness_linkDelayReqSend : ∃ (s s1 : State) (d : Fin 16) (e t3 : Nat) (tag : Fin 65536) (fp : Int) (i : SyncInfo), let peer := s.flag (F.DST_LINKd_CFG_DELAY_MODE d); LinksOk s ∧ (s.dl d).sync = some i ∧ s.dlUp d = true ∧ s.dlState d ≠ dlIdle ∧ s.dstPin d e (s.dstLen d (if peer then 20 else 10) 18) tag (fun s t3 => s.dstFrame d (if peer then 2 else 1) (t3 % lsbPerNs) i.seq (ptpTime t3 ++ (if peer then List.replicate 10 0 else [])) (s.linkTlv (s.reqData d fp))) = some (t3, s1) ∧ (s.dl d).asked = false ∧ wReqPin.1 ≤ wDue - 100 + s.syncInterval d / 4 :=
  ⟨wUplD, wReqPin.2, 1, wDue, wReqPin.1, 7, 5, { wInfo with t2 := wDue - 100 }, by refine ⟨by decide +kernel, by decide +kernel, by decide +kernel, by decide +kernel, some_pair _ (by decide +kernel) _, by decide +kernel, by decide +kernel⟩⟩
def wUplA : State := wUplD.modDl 1 fun l => { l with asked := true }
def wReqPin2 : Nat × State := (wUplA.dstPin 1 wDue (wUplA.dstLen 1 10 18) 7 wMkReq).getD (0, wUp)
theorem witness_linkDelayReqSend_2 : ∃ (s s1 : State) (d : Fin 16) (e t3 : Nat) (tag : Fin 65536) (fp : Int) (i : SyncInfo), let peer := s.flag (F.DST_LINKd_CFG_DELAY_MODE d); LinksOk s ∧ (s.dl d).sync = some i ∧ s.dlUp d = true ∧ s.dlState d ≠ dlIdle ∧ s.dstPin d e (s.dstLen d (if peer then 20 else 10) 18) tag (fun s t3 => s.dstFrame d (if peer then 2 else 1) (t3 % lsbPerNs) i.seq (ptpTime t3 ++ (if peer then List.replicate 10 0 else [])) (s.linkTlv (s.reqData d fp))) = some (t3, s1) ∧ (((s.dl d).asked = true ∨ wDue - 100 + s.syncInterval d / 4 < wReqPin2.1)) :=
  ⟨wUplA, wReqPin2.2, 1, wDue, wReqPin2.1, 7, 5, { wInfo with t2 := wDue - 100 }, by refine ⟨by decide +kernel, by decide +kernel, by decide +kernel, by decide +kernel, some_pair _ (by decide +kernel) _, by decide +kernel⟩⟩
def wReqF : List Byte := (wMkReq (wDst 2 []) wDue).getD []
def wTr : List Byte × LinkMsg × RxDesc × State := wTak 1 wReqF 10 1
def wRs : State := wTr.2.2.2.reqTlv 1 wTr.2.1.tlv
def wT4 : Nat := (wRs.descTime wTr.2.2.1).getD 0
theorem witness_linkDelayReqRx : ∃ (s s1 : State) (d : Fin 16) (x f : List Byte) (m : LinkMsg) (desc : RxDesc) (t4 : Nat) (l : List TxFrame), let s2 := s1.reqTlv d m.tlv; let c := s2.dstClass d; s.dlDown d = true ∧ s.dstTake d 10 [1] = .msg x m desc s1 ∧ s2.flag (F.DST_LINKd_CFG_DELAY_MODE d) = false ∧ s2.descTime desc = some t4 ∧ s2.dstFrame d 9 ((m.corr + 2 ^ 64 - t4 % lsbPerNs) % 2 ^ 64) m.seq (ptpTime t4 ++ slice x (m.o + 20) 10) [] = some f ∧ PortsOk s2 ∧ s2.portUp (dpPort d) = true ∧ s2.txCause (dpPort d) 6 c f = 0 ∧ TxNew s2 (dpPort d) 6 c f none ∧ (s2.port (dpPort d)).txq[c]? = some l :=
  ⟨(wDst 1 [wReqF]), wTr.2.2.2, 1, wTr.1, ((wRs.dstFrame 1 9 ((wTr.2.1.corr + 2 ^ 64 - wT4 % lsbPerNs) % 2 ^ 64) wTr.2.1.seq (ptpTime wT4 ++ slice wTr.1 (wTr.2.1.o + 20) 10) []).getD []), wTr.2.1, wTr.2.2.1, wT4, [], by refine ⟨by decide +kernel, taken_msg _ _ _ _ (by decide +kernel), by decide +kernel, by decide +kernel, by decide +kernel, by decide +kernel, by decide +kernel, by decide +kernel, by decide +kernel, by decide +kernel⟩⟩
def wPreqF : List Byte := ((wDst 2 []).dstFrame 1 2 0 7 (ptpTime wDue ++ List.replicate 10 0) ((wDst 2 []).linkTlv ((wDst 2 []).reqData 1 5))).getD []
def wDst1 : State := (wDst 1 [wPreqF]).putB (F.DST_LINKd_CFG_DELAY_MODE 1) true
def wTk (s : State) (body ty : Nat) : List Byte × LinkMsg × RxDesc × State := match s.dstTake 1 body [ty] with | .msg x m d s => (x, m, d, s) | _ => ([], ⟨0, 0, 0, []⟩, ⟨0, 0, 0, 0, true⟩, wUp)
theorem tk_msg (s : State) (body ty : Nat) (h : Taken.isMsg (s.dstTake 1 body [ty]) = true) :
    s.dstTake 1 body [ty] = .msg (wTk s body ty).1 (wTk s body ty).2.1 (wTk s body ty).2.2.1 (wTk s body ty).2.2.2 := by
  unfold wTk
  generalize s.dstTake 1 body [ty] = x at h
  cases x <;> first | rfl | cases h
def wTp : List Byte × LinkMsg × RxDesc × State := wTk wDst1 20 2
def wRp : State := wTp.2.2.2.reqTlv 1 wTp.2.1.tlv
def wT4p : Nat := (wRp.descTime wTp.2.2.1).getD 0
def wMkPr (s : State) (t5 : Nat) : Option (List Byte) := s.dstFrame 1 3 ((wTp.2.1.corr + t5 - wT4p) % 2 ^ 64) wTp.2.1.seq (List.replicate 10 0 ++ slice wTp.1 (wTp.2.1.o + 20) 10) []
def wPrPin : Nat × State := (wRp.dstPin 1 wDue (wRp.dstLen 1 20 0) 7 wMkPr).getD (0, wUp)
theorem witness_linkPdelayReqRx : ∃ (s s1 s3 : State) (d : Fin 16) (e t4 t5 : Nat) (tag : Fin 65536) (x : List Byte) (m : LinkMsg) (desc : RxDesc), let s2 := s1.reqTlv d m.tlv; let mk := fun (s : State) (t5 : Nat) => s.dstFrame d 3 ((m.corr + t5 - t4) % 2 ^ 64) m.seq (List.replicate 10 0 ++ slice x (m.o + 20) 10) []; s.dlDown d = true ∧ s.dstTake d 20 [2] = .msg x m desc s1 ∧ s2.flag (F.DST_LINKd_CFG_DELAY_MODE d) = true ∧ desc.step = s.get F.TSU_STAT_STEP ∧ s2.descTime desc = some t4 ∧ s2.prt.ports.length = 20 ∧ s2.pinOf (dpPort d) 6 tag = none ∧ s2.pauseOf (dpPort d) (s2.dstClass d) = [] ∧ s2.dstPin d e (s2.dstLen d 20 0) tag mk = some (t5, s3) :=
  ⟨wDst1, wTp.2.2.2, wPrPin.2, 1, wDue, wT4p, wPrPin.1, 7, wTp.1, wTp.2.1, wTp.2.2.1, by refine ⟨by decide +kernel, tk_msg _ _ _ (by decide +kernel), by decide +kernel, by decide +kernel, by decide +kernel, by decide +kernel, by decide +kernel, by decide +kernel, some_pair _ (by decide +kernel) _⟩⟩
def wDst1s : State := wDst1.put F.TSU_STAT_STEP 1
theorem witness_linkPdelayStale : ∃ (s s1 : State) (d : Fin 16) (e : Nat) (tag : Fin 65536) (x : List Byte) (m : LinkMsg) (desc : RxDesc), s.dlDown d = true ∧ s.dstTake d 20 [2] = .msg x m desc s1 ∧ desc.step ≠ s.get F.TSU_STAT_STEP :=
  ⟨wDst1s, (wTk wDst1s 20 2).2.2.2, 1, wDue, 7, (wTk wDst1s 20 2).1, (wTk wDst1s 20 2).2.1, (wTk wDst1s 20 2).2.2.1, by refine ⟨by decide +kernel, tk_msg _ _ _ (by decide +kernel), by decide +kernel⟩⟩
theorem witness_peerLocked : ∃ (s : State) (d : Fin 16) (l : List Byte), s.RegsOk ∧ LinksOk s ∧ 8 ≤ l.length ∧ (s.dl d).trg = [] :=
  ⟨(wDst 1 []), 1, [0, 1, 0, 0, 0, 0, 0, 9], by decide +kernel⟩
theorem witness_peerLocked_2 : ∃ (s : State) (d : Fin 16) (l : List Byte), s.RegsOk ∧ LinksOk s ∧ 8 ≤ l.length ∧ (s.dl d).trg = [] ∧ (s.dlPeer d = (beAt l 1 1 % 2 == 1)) :=
  ⟨(wDst 1 []), 1, [0, 0, 0, 0, 0, 0, 0, 9], by decide +kernel⟩
def wRespF : List Byte := ((wDst 1 []).dstFrame 1 9 0 7 (ptpTime wDue ++ List.replicate 10 0) []).getD []
def wRespT : List Byte × LinkMsg × RxDesc × State := match (wUpl [wRespF]).dstTake 1 20 [9] with | .msg x m d s => (x, m, d, s) | _ => ([], ⟨0, 0, 0, []⟩, ⟨0, 0, 0, 0, true⟩, wUp)
def wR (s : State) (ty : Nat) := wTk s 20 ty
theorem witness_linkDelayRespRx : ∃ (s s1 : State) (d : Fin 16) (x : List Byte) (m : LinkMsg) (desc : RxDesc) (i : SyncInfo) (seq t3 step : Nat), let peer := s.flag (F.DST_LINKd_CFG_DELAY_MODE d); s.dlUp d = true ∧ s.dlState d ≠ dlIdle ∧ s1.injOn 0xE0 (dpPort d) = false ∧ s1.RegsOk ∧ LinksOk s1 ∧ s.dstTake d 20 [if peer then 3 else 9] = .msg x m desc s1 ∧ (s1.dl d).sync = some i ∧ (s1.dl d).req = some (seq, t3, step) ∧ (wTk (wUpl [wRespF]) 20 9).2.1.seq = 7 ∧ wInfo.seq = 7 ∧ wInfo.step = 0 ∧ (wTk (wUpl [wRespF]) 20 9).2.2.2.get F.TSU_STAT_STEP = 0 ∧ s.flag (F.DST_LINKd_CFG_DELAY_MODE d) = false :=
  ⟨(wUpl [wRespF]), (wTk (wUpl [wRespF]) 20 9).2.2.2, 1, (wTk (wUpl [wRespF]) 20 9).1, (wTk (wUpl [wRespF]) 20 9).2.1, (wTk (wUpl [wRespF]) 20 9).2.2.1, wInfo, 7, 900000, 0, by decide +kernel⟩
def wUplS : State := (wUpl [wRespF]).modDl 1 fun l => { l with req := some (7, 900000, 1) }
theorem witness_linkDelayRespRx_2 : ∃ (s s1 : State) (d : Fin 16) (x : List Byte) (m : LinkMsg) (desc : RxDesc) (i : SyncInfo) (seq t3 step : Nat), let peer := s.flag (F.DST_LINKd_CFG_DELAY_MODE d); s.dlUp d = true ∧ s.dlState d ≠ dlIdle ∧ s1.injOn 0xE0 (dpPort d) = false ∧ s1.RegsOk ∧ LinksOk s1 ∧ s.dstTake d 20 [if peer then 3 else 9] = .msg x m desc s1 ∧ (s1.dl d).sync = some i ∧ (s1.dl d).req = some (seq, t3, step) ∧ (((wTk wUplS 20 9).2.1.seq ≠ 7 ∨ wInfo.step ≠ 1 ∨ (wTk wUplS 20 9).2.2.2.get F.TSU_STAT_STEP ≠ 1)) :=
  ⟨wUplS, (wTk wUplS 20 9).2.2.2, 1, (wTk wUplS 20 9).1, (wTk wUplS 20 9).2.1, (wTk wUplS 20 9).2.2.1, wInfo, 7, 900000, 1, by decide +kernel⟩
def wPrespF : List Byte := ((wDst 1 []).dstFrame 1 3 0 7 (List.replicate 20 0) []).getD []
def wUplP : State := (wUpl [wPrespF]).putB (F.DST_LINKd_CFG_DELAY_MODE 1) true
def wPT := wTk wUplP 20 3
theorem witness_linkDelayRespRx_3 : ∃ (s s1 : State) (d : Fin 16) (x : List Byte) (m : LinkMsg) (desc : RxDesc) (i : SyncInfo) (seq t3 step : Nat), let peer := s.flag (F.DST_LINKd_CFG_DELAY_MODE d); s.dlUp d = true ∧ s.dlState d ≠ dlIdle ∧ s1.injOn 0xE0 (dpPort d) = false ∧ s1.RegsOk ∧ LinksOk s1 ∧ s.dstTake d 20 [if peer then 3 else 9] = .msg x m desc s1 ∧ (s1.dl d).sync = some i ∧ (s1.dl d).req = some (seq, t3, step) ∧ wPT.2.1.seq = 7 ∧ wInfo.seq = 7 ∧ wInfo.step = 0 ∧ wPT.2.2.2.get F.TSU_STAT_STEP = 0 ∧ s.flag (F.DST_LINKd_CFG_DELAY_MODE d) = true ∧ wPT.2.2.1.step = 0 ∧ wPT.2.2.2.descTime wPT.2.2.1 = some ((wPT.2.2.2.descTime wPT.2.2.1).getD 0) :=
  ⟨wUplP, wPT.2.2.2, 1, wPT.1, wPT.2.1, wPT.2.2.1, wInfo, 7, 900000, 0, by decide +kernel⟩
theorem witness_exchangePosted : ∃ (s : State) (d : Fin 16) (i : SyncInfo) (a b : Int), s.RegsOk ∧ LinksOk s :=
  ⟨(wUpl []), 1, wInfo, 5000, 6000, by decide +kernel⟩
def wAnch (st a : Nat) (x : Int) : State := (((wDst 2 []).setDl 1 st).modDl 1 fun l => { l with anchor := some (x, 0, 0), agree := a }).put (F.DST_LINKd_TRACK_N_ANCHOR 1) 4
def wGoodI : SyncInfo := ⟨7, 500000, 700000, 0, 0, 3, 2, 1, true, false, 0, 0⟩
theorem witness_exchangeJudged : ∃ (s : State) (d : Fin 16) (i : SyncInfo) (a b : Int) (an : Int × Int × Int), s.RegsOk ∧ LinksOk s ∧ (s.dl d).anchor = some an ∧ s.dlState d = dlMeasure ∧ (((s.cableModel d a b).2.2.2 - s.thetaAt d an i.fwd i.rphase).natAbs * 1000 : Nat) ≤ s.get (F.DST_LINKd_TRACK_TRACK_LIMIT d) * 4096 ∧ s.get (F.DST_LINKd_TRACK_N_ANCHOR d) ≤ (s.dl d).agree + 1 ∧ i.phaseValid = true ∧ i.eb8 ≠ 0xFF ∧ i.depth ≤ 3 ∧ s.Room Ev.DST_LOCK :=
  ⟨(wAnch dlMeasure 3 (-500)), 1, wGoodI, 5000, 6000, (-500, 0, 0), by decide +kernel⟩
theorem witness_exchangeJudged_2 : ∃ (s : State) (d : Fin 16) (i : SyncInfo) (a b : Int) (an : Int × Int × Int), s.RegsOk ∧ LinksOk s ∧ (s.dl d).anchor = some an ∧ s.dlState d = dlMeasure ∧ s.get (F.DST_LINKd_TRACK_TRACK_LIMIT d) * 4096 < (((s.cableModel d a b).2.2.2 - s.thetaAt d an i.fwd i.rphase).natAbs * 1000 : Nat) ∧ 0 < s.get (F.DST_LINKd_TRACK_N_ANCHOR d) :=
  ⟨(wAnch dlMeasure 3 50000000), 1, wGoodI, 5000, 6000, (50000000, 0, 0), by decide +kernel⟩
theorem witness_exchangeJudged_3 : ∃ (s : State) (d : Fin 16) (i : SyncInfo) (a b : Int) (an : Int × Int × Int), s.RegsOk ∧ LinksOk s ∧ (s.dl d).anchor = some an ∧ s.dlState d = dlLocked ∧ s.get (F.DST_LINKd_TRACK_TRACK_LIMIT d) * 4096 < (((s.cableModel d a b).2.2.2 - s.thetaAt d an i.fwd i.rphase).natAbs * 1000 : Nat) ∧ (s.dl d).moved = false ∧ s.Room Ev.DST_UNLOCK :=
  ⟨(wAnch dlLocked 3 50000000), 1, wGoodI, 5000, 6000, (50000000, 0, 0), by decide +kernel⟩
theorem witness_exchangeJudged_4 : ∃ (s : State) (d : Fin 16) (i : SyncInfo) (a b : Int) (an : Int × Int × Int), s.RegsOk ∧ LinksOk s ∧ (s.dl d).anchor = some an ∧ s.dlState d = dlLocked ∧ (((((s.cableModel d a b).2.2.2 - s.thetaAt d an i.fwd i.rphase).natAbs * 1000 : Nat) ≤ s.get (F.DST_LINKd_TRACK_TRACK_LIMIT d) * 4096 ∨ (s.dl d).moved = true)) :=
  ⟨(wAnch dlLocked 3 (-500)), 1, wGoodI, 5000, 6000, (-500, 0, 0), by decide +kernel⟩
def wTemp (n : Nat) : State := { ((wDst 2 []).putB (F.DST_LINKd_TCAL_TEMP_EN 1) true).modDl 1 (fun l => { l with naks := n }) with tickAt := some wUp.now }
theorem witness_linkTempRead : ∃ (s : State) (d : Fin 16) (v : BitVec 16), s.RegsOk ∧ LinksOk s ∧ s.dlUp d = true ∧ s.flag (F.DST_LINKd_TCAL_TEMP_EN d) = true ∧ s.atTick = true ∧ s.curTick % 64 = 0 ∧ (s.dl d).tempTick ≠ some s.curTick :=
  ⟨(wTemp 0), 1, 0x1234, by decide +kernel⟩
theorem witness_linkTempRead_2 : ∃ (s : State) (d : Fin 16) (v : BitVec 16), s.RegsOk ∧ LinksOk s ∧ s.dlUp d = true ∧ s.flag (F.DST_LINKd_TCAL_TEMP_EN d) = true ∧ s.atTick = true ∧ s.curTick % 64 = 0 ∧ (s.dl d).tempTick ≠ some s.curTick :=
  ⟨(wTemp 2), 1, 0x1234, by decide +kernel⟩
theorem witness_linkTempRead_3 : ∃ (s : State) (d : Fin 16) (v : BitVec 16), s.RegsOk ∧ LinksOk s ∧ s.dlUp d = true ∧ s.flag (F.DST_LINKd_TCAL_TEMP_EN d) = true ∧ (s.atTick = false ∨ s.curTick % 64 ≠ 0 ∨ (s.dl d).tempTick = some s.curTick) :=
  ⟨((wTemp 2).modDl 1 fun l => { l with tempTick := some 65536 }), 1, 0x1234, by decide +kernel⟩
def wSil (t : Nat) : State := ((wDst 2 []).setDl 1 dlLocked).modDl 1 fun l => { l with lastExch := wUp.now - t }
theorem witness_linkSilence : ∃ (s : State) (d : Fin 16), s.RegsOk ∧ LinksOk s ∧ s.dlUp d = true ∧ s.dlState d = dlLocked ∧ s.Room Ev.DST_UNLOCK ∧ (s.dl d).lastExch + 16 * s.syncInterval d ≤ s.now :=
  ⟨(wSil (20 * lsbPerSec)), 1, by decide +kernel⟩
theorem witness_linkSilence_2 : ∃ (s : State) (d : Fin 16), s.RegsOk ∧ LinksOk s ∧ s.dlUp d = true ∧ s.dlState d = dlLocked ∧ s.Room Ev.DST_UNLOCK ∧ s.now < (s.dl d).lastExch + 16 * s.syncInterval d :=
  ⟨(wSil 0), 1, by decide +kernel⟩
def wSend (p : Nat) : State := (((((wDst 1 []).putB (F.DST_LINKd_STAT_PEER_LOCKED 1) true).putKt (A.DST_TFWD_AT 0) (80 * lsbPerSec)).put F.DST_TFWD_WIDTH_WIDTH 100).put F.DST_TFWD_COUNT_N 1).put F.DST_TFWD_CTL_PORTS p
theorem witness_triggerSend : ∃ s : State, s.RegsOk ∧ LinksOk s ∧ s.lastGet F.DST_TFWD_CTL_PORTS ≠ 0 ∧ s.tfwdCause ⟨timeOf (s.lastWide (A.DST_TFWD_AT 0) 3), s.lastGet F.DST_TFWD_WIDTH_WIDTH, s.lastWide A.DST_TFWD_PERIOD 2 % 2 ^ 48, s.lastGet F.DST_TFWD_COUNT_N, s.lastGet F.DST_TFWD_CTL_OUT, s.lastGet F.DST_TFWD_CTL_FWD == 1, true⟩ (s.lastGet F.DST_TFWD_CTL_PORTS) = 0 :=
  ⟨(wSend 2), by decide +kernel⟩
theorem witness_triggerSend_2 : ∃ s : State, s.RegsOk ∧ LinksOk s ∧ s.tfwdCause ⟨timeOf (s.lastWide (A.DST_TFWD_AT 0) 3), s.lastGet F.DST_TFWD_WIDTH_WIDTH, s.lastWide A.DST_TFWD_PERIOD 2 % 2 ^ 48, s.lastGet F.DST_TFWD_COUNT_N, s.lastGet F.DST_TFWD_CTL_OUT, s.lastGet F.DST_TFWD_CTL_FWD == 1, true⟩ (s.lastGet F.DST_TFWD_CTL_PORTS) ≠ 0 :=
  ⟨(wSend 0x8000), by decide +kernel⟩
def wCar (n : Nat) : State := (wDst 1 []).modDl 1 fun l => { l with trg := [⟨70, 100, 0, 1, 3, false, true⟩], trgSeq := 255, carried := n }
theorem witness_triggerTimeout : ∃ (s : State) (d : Fin 16) (e : TrigFwd) (rest : List TrigFwd), LinksOk s ∧ (s.dl d).trg = e :: rest ∧ s.Room Ev.DST_TRG_RESULT ∧ s.injOn 0xE1 (dpPort d) = false ∧ 8 ≤ (s.dl d).carried :=
  ⟨(wCar 8), 1, ⟨70, 100, 0, 1, 3, false, true⟩, [], by decide +kernel⟩
theorem witness_triggerTimeout_2 : ∃ (s : State) (d : Fin 16) (e : TrigFwd) (rest : List TrigFwd), LinksOk s ∧ (s.dl d).trg = e :: rest ∧ s.Room Ev.DST_TRG_RESULT ∧ s.injOn 0xE1 (dpPort d) = false ∧ (s.dl d).carried < 8 :=
  ⟨(wCar 7), 1, ⟨70, 100, 0, 1, 3, false, true⟩, [], by decide +kernel⟩

/-- PP up on port 18 with its classes and queue, a pair in a role, and frames from the peer. -/
def wPair (role : Nat) (l : List (List Byte)) : State := ((((((wPort 18).put (F.PRT_x_TXCc_CFG_SOURCE 18 0) 5).put (F.PRT_x_RXQq_CFG_CONSUMER 18 0) 6).putB F.PAR_CFG_PAIR_EN true).put F.PAR_STAT_ROLE role).put F.PAR_ETYPE_ETYPE 0x88B5).modPort 18 fun k => { k with rxq := l.map (fun d => ⟨d, ⟨0, 0, 16, 0, true⟩⟩) :: List.replicate 7 [] }
def wPf (ty gen seq : Nat) (p : List Byte) : List Byte := List.replicate 12 0 ++ [0x88, 0xB5, 1] ++ leBytes 1 ty ++ leBytes 4 gen ++ leBytes 2 seq ++ p
def wPm (s : State) (ty : Nat) : PairMsg := (s.pairTake ty).1.getD ⟨0, 0, 0, []⟩
theorem pair_took (s : State) (ty : Nat) (h : (s.pairTake ty).1.isSome = true) : s.pairTake ty = (some (wPm s ty), (s.pairTake ty).2) := by
  unfold wPm
  generalize s.pairTake ty = x at h
  obtain ⟨a, b⟩ := x
  cases a <;> simp_all
theorem witness_helloSend : ∃ s : State, PortsOk s ∧ s.pairEn = true ∧ s.ppUp = true ∧ ((∀ u, s.par.helloAt = some u → u + lsbPerSec / 100 ≤ s.now)) :=
  ⟨((wPair 1 []).modPar fun p => { p with helloAt := some (wUp.now - lsbPerSec / 100) }), by refine ⟨by decide +kernel, by decide +kernel, by decide +kernel, fun u h => ?_⟩; have e : (wUp.now - lsbPerSec / 100) = u := Option.some.inj h; subst e; decide +kernel⟩
theorem witness_helloSend_2 : ∃ s : State, PortsOk s ∧ (s.pairEn = false ∨ s.ppUp = false ∨ ∃ u, s.par.helloAt = some u ∧ s.now < u + lsbPerSec / 100) :=
  ⟨((wPair 1 []).modPar fun p => { p with helloAt := some (wUp.now - lsbPerSec / 100 + 1) }), by decide +kernel⟩
theorem witness_helloSend_3 : ∃ s : State, PortsOk s ∧ (s.pairEn = false ∨ s.ppUp = false ∨ ∃ u, s.par.helloAt = some u ∧ s.now < u + lsbPerSec / 100) :=
  ⟨wUp, by decide +kernel⟩
def wHi (role : Nat) : State := (wPair role [wPf 1 0 0 []]).putWide A.PAR_SERIAL 2 700
def wHl (serial since : Nat) (pref role : Fin 4) : PairHello := ⟨serial, pref, role, since, 0⟩
theorem witness_helloDiscover : ∃ (s s1 : State) (h : PairHello) (m : PairMsg), s.RegsOk ∧ s.pairEn = true ∧ s.pairTake tyHello = (some m, s1) ∧ s.role = prDiscover ∧ h.role.val = 1 :=
  ⟨(wHi 0), ((wHi 0).pairTake tyHello).2, (wHl 800 4 0 1), (wPm (wHi 0) tyHello), by exact ⟨by decide +kernel, by decide +kernel, pair_took _ _ (by decide +kernel), by decide +kernel, by decide +kernel⟩⟩
theorem witness_helloDiscover_2 : ∃ (s s1 : State) (h : PairHello) (m : PairMsg), s.RegsOk ∧ s.pairEn = true ∧ s.pairTake tyHello = (some m, s1) ∧ s.role = prDiscover ∧ h.role.val = 0 ∧ s.get F.PAR_CFG_PREF = h.pref :=
  ⟨(wHi 0), ((wHi 0).pairTake tyHello).2, (wHl 800 4 0 0), (wPm (wHi 0) tyHello), by exact ⟨by decide +kernel, by decide +kernel, pair_took _ _ (by decide +kernel), by decide +kernel, by decide +kernel, by decide +kernel⟩⟩
theorem witness_helloDiscover_4 : ∃ (s s1 : State) (h : PairHello) (m : PairMsg), s.RegsOk ∧ s.pairEn = true ∧ s.pairTake tyHello = (some m, s1) ∧ s.role = prDiscover ∧ h.role.val = 0 ∧ s.get F.PAR_CFG_PREF ≠ h.pref :=
  ⟨(wHi 0), ((wHi 0).pairTake tyHello).2, (wHl 800 4 1 0), (wPm (wHi 0) tyHello), by exact ⟨by decide +kernel, by decide +kernel, pair_took _ _ (by decide +kernel), by decide +kernel, by decide +kernel, by decide +kernel⟩⟩
theorem witness_helloDiscover_5 : ∃ (s s1 : State) (h : PairHello) (m : PairMsg), s.RegsOk ∧ s.pairEn = true ∧ s.pairTake tyHello = (some m, s1) ∧ s.role = prDiscover ∧ 2 ≤ h.role.val :=
  ⟨(wHi 0), ((wHi 0).pairTake tyHello).2, (wHl 800 4 1 2), (wPm (wHi 0) tyHello), by exact ⟨by decide +kernel, by decide +kernel, pair_took _ _ (by decide +kernel), by decide +kernel, by decide +kernel⟩⟩
theorem witness_helloCopy : ∃ (s s1 : State) (h : PairHello) (m : PairMsg), s.RegsOk ∧ s.pairEn = true ∧ s.pairTake tyHello = (some m, s1) ∧ s.role = prActive ∧ h.role.val = 2 ∧ s.par.peerRole ≠ prStandby :=
  ⟨(wHi 1), ((wHi 1).pairTake tyHello).2, (wHl 800 4 0 2), (wPm (wHi 1) tyHello), by exact ⟨by decide +kernel, by decide +kernel, pair_took _ _ (by decide +kernel), by decide +kernel, by decide +kernel, by decide +kernel⟩⟩
def wDua : State := (wHi 1).modPar fun p => { p with since := 50 }
theorem witness_helloDual : ∃ (s s1 : State) (h : PairHello) (m : PairMsg), s.RegsOk ∧ s.pairEn = true ∧ s.pairTake tyHello = (some m, s1) ∧ s.role = prActive ∧ h.role.val = 1 ∧ s.Room Ev.PAR_DUAL_ACTIVE ∧ (h.since < s.par.since ∨ h.since = s.par.since ∧ h.serial < s.wide A.PAR_SERIAL 2) :=
  ⟨wDua, (wDua.pairTake tyHello).2, (wHl 600 50 0 1), (wPm wDua tyHello), by exact ⟨by decide +kernel, by decide +kernel, pair_took _ _ (by decide +kernel), by decide +kernel, by decide +kernel, by decide +kernel, by decide +kernel⟩⟩
theorem witness_helloDual_2 : ∃ (s s1 : State) (h : PairHello) (m : PairMsg), s.RegsOk ∧ s.pairEn = true ∧ s.pairTake tyHello = (some m, s1) ∧ s.role = prActive ∧ h.role.val = 1 ∧ s.Room Ev.PAR_DUAL_ACTIVE ∧ (s.par.since < h.since ∨ h.since = s.par.since ∧ s.wide A.PAR_SERIAL 2 ≤ h.serial) :=
  ⟨wDua, (wDua.pairTake tyHello).2, (wHl 700 50 0 1), (wPm wDua tyHello), by exact ⟨by decide +kernel, by decide +kernel, pair_took _ _ (by decide +kernel), by decide +kernel, by decide +kernel, by decide +kernel, by decide +kernel⟩⟩
def wDis (arb pps act : Bool) : State := ((((wPair 0 []).setLink 18 lkAcquire).putB F.PAR_CFG_ARB_EN arb).putB F.PAR_STAT_PEER_PPS pps).putB F.PAR_STAT_PEER_ACTIVE act
theorem witness_discoverTimeout : ∃ (s : State) (arb : Bool), s.RegsOk ∧ s.pairEn = true ∧ s.role = prDiscover ∧ s.ppUp = false ∧ s.flag F.PAR_CFG_ARB_EN = true :=
  ⟨(wDis true true true), true, by decide +kernel⟩
theorem witness_discoverTimeout_2 : ∃ (s : State) (arb : Bool), s.RegsOk ∧ s.pairEn = true ∧ s.role = prDiscover ∧ s.ppUp = false ∧ s.flag F.PAR_CFG_ARB_EN = false ∧ s.flag F.PAR_STAT_PEER_PPS = false :=
  ⟨(wDis false false true), true, by decide +kernel⟩
theorem witness_discoverTimeout_3 : ∃ (s : State) (arb : Bool), s.RegsOk ∧ s.pairEn = true ∧ s.role = prDiscover ∧ s.ppUp = false ∧ s.flag F.PAR_CFG_ARB_EN = false ∧ s.flag F.PAR_STAT_PEER_PPS = true ∧ s.flag F.PAR_STAT_PEER_ACTIVE = true :=
  ⟨(wDis false true true), true, by decide +kernel⟩
theorem witness_discoverTimeout_4 : ∃ (s : State) (arb : Bool), s.RegsOk ∧ s.pairEn = true ∧ s.role = prDiscover ∧ s.ppUp = false ∧ s.flag F.PAR_CFG_ARB_EN = false ∧ s.flag F.PAR_STAT_PEER_PPS = true ∧ s.flag F.PAR_STAT_PEER_ACTIVE = false :=
  ⟨(wDis false true false), true, by decide +kernel⟩
theorem witness_discoverTimeout_5 : ∃ (s : State) (arb : Bool), s.RegsOk ∧ (s.pairEn = false ∨ s.role ≠ prDiscover ∨ s.ppUp = true) :=
  ⟨(wPair 0 []), true, by decide +kernel⟩
def wBd (r : Nat) (p : ParState → ParState) : State := { (wPair r []).modPar p with tickAt := some wUp.now }
def wVs : VintState := ⟨wUp.now, 5000, 0, 3, 7, 37, none, 0, none, 0, 0xFFFFFFFF, [0, 0, 0, 0], []⟩
def wVn (log : List Nat) (full : Bool) : Vintage := ⟨9, [], log, full, wVs, 65536⟩
theorem witness_vintageOpens : ∃ (s : State) (e : Nat) (tag : Fin 65536), s.RegsOk ∧ s.pairEn = true ∧ s.atTick = true ∧ s.curTick % 64 = 0 ∧ s.par.lastTick ≠ s.curTick + 1 ∧ s.role = prActive ∧ s.ppUp = true ∧ s.par.openV = none :=
  ⟨(wBd 1 id), (wUp.now + 65536000), 5, by decide +kernel⟩
theorem witness_vintageOpens_2 : ∃ (s : State) (e : Nat) (tag : Fin 65536), s.RegsOk ∧ s.pairEn = true ∧ s.atTick = true ∧ s.curTick % 64 = 0 ∧ s.par.lastTick ≠ s.curTick + 1 ∧ s.role = prActive ∧ s.ppUp = true ∧ s.par.openV = some (wVn [4] false) :=
  ⟨(wBd 1 fun p => { p with openV := some (wVn [4] false) }), (wUp.now + 65536000), 5, by decide +kernel⟩
def wBds : State := (wBd 2 id).setLink 18 lkAcquire
theorem witness_vintageMissed : ∃ (s : State) (e : Nat) (tag : Fin 65536), s.RegsOk ∧ s.pairEn = true ∧ s.atTick = true ∧ s.curTick % 64 = 0 ∧ s.par.lastTick ≠ s.curTick + 1 ∧ s.role = prStandby :=
  ⟨wBds, (wUp.now + 65536000), 5, by decide +kernel⟩
theorem witness_vintageMissed_2 : ∃ (s : State) (e : Nat) (tag : Fin 65536), s.RegsOk ∧ (s.atTick = false ∨ s.curTick % 64 ≠ 0 ∨ s.par.lastTick = s.curTick + 1) :=
  ⟨(wBd 2 fun p => { p with lastTick := 65537 }), 1, 5, by decide +kernel⟩
theorem witness_vintageMissed_3 : ∃ (s : State) (e : Nat) (tag : Fin 65536), s.RegsOk ∧ (s.atTick = false ∨ s.curTick % 64 ≠ 0 ∨ s.par.lastTick = s.curTick + 1) :=
  ⟨(wPair 2 []), 1, 5, by decide +kernel⟩
def wSt (ty gen seq : Nat) (p : List Byte) : State := ((wPair 2 [wPf ty gen seq p]).put F.PAR_STAT_COPY cpCurrent).put F.PAR_STAT_MISSED 3
theorem witness_pairExchRx : ∃ (s s1 : State) (m : PairMsg) (t1 t2 t3 t4 : Int) (b : Nat), s.pairTake tyExch = (some m, s1) ∧ s.isStandby = true :=
  ⟨(wSt 2 4 0 []), ((wSt 2 4 0 []).pairTake tyExch).2, (wPm (wSt 2 4 0 []) tyExch), 1000, 5000, 6000, 9000, 64, by exact ⟨pair_took _ _ (by decide +kernel), by decide +kernel⟩⟩
def wEx : State := wPair 1 [wPf 2 4 0 []]
theorem witness_pairExchRx_2 : ∃ (s s1 : State) (m : PairMsg) (t1 t2 t3 t4 : Int) (b : Nat), s.pairTake tyExch = (some m, s1) ∧ s.isActive = true ∧ PortsOk (wEx.pairTake tyExch).2 :=
  ⟨wEx, (wEx.pairTake tyExch).2, (wPm wEx tyExch), 1000, 5000, 6000, 9000, 64, by exact ⟨pair_took _ _ (by decide +kernel), by decide +kernel, by decide +kernel⟩⟩
theorem witness_pairThetaIs : ∃ (s : State) (t1 t2 t3 t4 : Int), s.getI F.PAR_FIX_AS_FIX = s.getI F.PAR_FIX_SA_FIX :=
  ⟨wUp, 1000, 5000, 6000, 9016, by decide +kernel⟩
theorem witness_vintageDrained : ∃ s : State, s.RegsOk ∧ s.par.openV = some (wVn [4] false) ∧ s.isActive = true ∧ s.ppUp = true :=
  ⟨((wPair 1 []).modPar fun p => { p with openV := some (wVn [4] false) }), by decide +kernel⟩
theorem witness_vintageDrained_2 : ∃ s : State, s.RegsOk ∧ (s.par.openV = none ∨ s.isActive = false ∨ s.ppUp = false) :=
  ⟨(wPair 1 []), by decide +kernel⟩
def wAck (g : Nat) : State := (wPair 1 [wPf 7 g 0 []]).modPar fun p => { p with sealedV := some (wVn [4] false) }
theorem witness_vintageAckRx : ∃ (s s1 : State) (m : PairMsg) (v : Vintage), s.RegsOk ∧ s.pairTake tyAck = (some m, s1) ∧ s.par.sealedV = some v ∧ v.gen = m.gen :=
  ⟨(wAck 9), ((wAck 9).pairTake tyAck).2, (wPm (wAck 9) tyAck), (wVn [4] false), by exact ⟨by decide +kernel, pair_took _ _ (by decide +kernel), by decide +kernel, by decide +kernel⟩⟩
theorem witness_vintageAckRx_2 : ∃ (s s1 : State) (m : PairMsg) (v : Vintage), s.RegsOk ∧ s.pairTake tyAck = (some m, s1) ∧ s.par.sealedV = some v ∧ v.gen ≠ m.gen :=
  ⟨(wAck 8), ((wAck 8).pairTake tyAck).2, (wPm (wAck 8) tyAck), (wVn [4] false), by exact ⟨by decide +kernel, pair_took _ _ (by decide +kernel), by decide +kernel, by decide +kernel⟩⟩
def wSealed (at_ : Nat) : State := { (wAck 9).modPar fun p => { p with sealedV := some { wVn [4] false with sealedAt := at_ } } with nextTick := 65553 }
theorem witness_vintageAckTimeout : ∃ (s : State) (v : Vintage), s.RegsOk ∧ s.par.sealedV = some v ∧ s.Room Ev.PAR_VINTAGE_FAIL ∧ v.sealedAt + 8 ≤ s.curTick ∧ v.full = false :=
  ⟨(wSealed 65544), { wVn [4] false with sealedAt := 65544 }, by decide +kernel⟩
theorem witness_vintageAckTimeout_2 : ∃ (s : State) (v : Vintage), s.RegsOk ∧ s.par.sealedV = some v ∧ s.Room Ev.PAR_VINTAGE_FAIL ∧ s.curTick < v.sealedAt + 8 :=
  ⟨(wSealed 65545), { wVn [4] false with sealedAt := 65545 }, by decide +kernel⟩
theorem witness_vintageRecordsRx : ∃ (s s1 : State) (m : PairMsg), s.RegsOk ∧ s.isStandby = true ∧ s.pairTake tyRecords = (some m, s1) :=
  ⟨(wSt 5 4 1 []), ((wSt 5 4 1 []).pairTake tyRecords).2, (wPm (wSt 5 4 1 []) tyRecords), by exact ⟨by decide +kernel, by decide +kernel, pair_took _ _ (by decide +kernel)⟩⟩
def wSl : State := (wSt 6 4 2 []).modPar fun p => { p with rxGen := 4, rxFrames := [(1, [2, 3]), (0, [1])] }
theorem witness_vintageSealRx : ∃ (s s1 : State) (m : PairMsg) (x : PairSeal) (v : VintState), let r := (s1.takeOthers 64).rxGenIs m.gen; let frames := orderFrames r.par.rxFrames; s.RegsOk ∧ s.isStandby = true ∧ s.pairTake tySeal = (some m, s1) ∧ frames.length = x.frames ∧ frames.flatten.length = x.bytes ∧ crc32 frames.flatten = x.crc ∧ r.pairMacOk frames.flatten x.mac = true :=
  ⟨wSl, (wSl.pairTake tySeal).2, (wPm wSl tySeal), ⟨2, 3, crc32 [1, 2, 3], []⟩, wVs, by exact ⟨by decide +kernel, by decide +kernel, pair_took _ _ (by decide +kernel), by decide +kernel, by decide +kernel, by decide +kernel, by decide +kernel⟩⟩
theorem witness_vintageSealRx_2 : ∃ (s s1 : State) (m : PairMsg) (x : PairSeal) (v : VintState), let r := (s1.takeOthers 64).rxGenIs m.gen; let frames := orderFrames r.par.rxFrames; s.RegsOk ∧ s.isStandby = true ∧ s.pairTake tySeal = (some m, s1) ∧ (frames.length ≠ x.frames ∨ frames.flatten.length ≠ x.bytes ∨ crc32 frames.flatten ≠ x.crc ∨ r.pairMacOk frames.flatten x.mac = false) ∧ s.Room Ev.PAR_VINTAGE_FAIL :=
  ⟨wSl, (wSl.pairTake tySeal).2, (wPm wSl tySeal), ⟨2, 3, crc32 [3, 2, 1], []⟩, wVs, by exact ⟨by decide +kernel, by decide +kernel, pair_took _ _ (by decide +kernel), by decide +kernel, by decide +kernel⟩⟩
theorem witness_recordInsertDone : ∃ s : State, s.RegsOk :=
  ⟨(wPair 2 []), by decide +kernel⟩
theorem witness_copyStale : ∃ s : State, s.RegsOk ∧ s.isStandby = true ∧ s.copy = cpCurrent ∧ 16 ≤ s.get F.PAR_STAT_MISSED ∧ s.Room Ev.PAR_STALE :=
  ⟨((wSt 6 4 2 []).put F.PAR_STAT_MISSED 16), by decide +kernel⟩
theorem witness_copyStale_2 : ∃ s : State, s.RegsOk ∧ (s.copy ≠ cpCurrent ∨ s.get F.PAR_STAT_MISSED < 16) :=
  ⟨((wSt 6 4 2 []).put F.PAR_STAT_MISSED 15), by decide +kernel⟩
def wEdge (u : Nat) : State := ((wPair 2 []).modPar fun p => { p with edge := some u }).putB F.PAR_STAT_PEER_PPS true
theorem witness_peerPpsEdge : ∃ (s : State) (u us : Nat), s.RegsOk ∧ s.pairEn = true ∧ s.par.edge = some 77 ∧ 77 ≤ u ∧ u - 77 ≤ lsbPerSec + lsbPerUs * 1000 ∧ lsbPerSec ≤ u - 77 + lsbPerUs * 1000 :=
  ⟨(wEdge 77), (77 + lsbPerSec + lsbPerUs * 1000), 180000, by decide +kernel⟩
theorem witness_peerPpsEdge_2 : ∃ (s : State) (u us : Nat), s.RegsOk ∧ s.pairEn = true ∧ s.par.edge = none :=
  ⟨(wPair 2 []), 77, 221000, by decide +kernel⟩
theorem witness_peerPpsLost : ∃ (s : State) (u : Nat), s.RegsOk ∧ s.pairEn = true ∧ s.par.edge = some u ∧ s.flag F.PAR_STAT_PEER_PPS = true ∧ s.Room Ev.PAR_PEER_PPS ∧ u + s.get F.PAR_TIMERS_PPS_TIMEOUT * 1000 * lsbPerUs ≤ s.now :=
  ⟨(wEdge 77), 77, by decide +kernel⟩
theorem witness_peerPpsLost_2 : ∃ (s : State) (u : Nat), s.RegsOk ∧ s.pairEn = true ∧ s.par.edge = some u ∧ s.flag F.PAR_STAT_PEER_PPS = true ∧ s.Room Ev.PAR_PEER_PPS ∧ s.now < u + s.get F.PAR_TIMERS_PPS_TIMEOUT * 1000 * lsbPerUs :=
  ⟨(wEdge (wUp.now + 1)), (wUp.now + 1), by decide +kernel⟩
theorem witness_pairResign : ∃ (s : State) (path : Path), s.RegsOk ∧ s.isActive = true ∧ path ≠ .spi ∧ s.Room Ev.PAR_RESIGN :=
  ⟨(wPair 1 []), .mgt, by decide +kernel⟩
def wRel (u : Nat) : State := (wPair 2 []).modPar fun p => { p with resignOut := some u }
theorem witness_resignRelease : ∃ (s : State) (u : Nat), s.par.resignOut = some u ∧ u + lsbPerSec ≤ s.now :=
  ⟨(wRel (wUp.now - lsbPerSec)), (wUp.now - lsbPerSec), by decide +kernel⟩
theorem witness_resignRelease_2 : ∃ (s : State) (u : Nat), s.par.resignOut = some u ∧ s.now < u + lsbPerSec :=
  ⟨(wRel (wUp.now - lsbPerSec + 1)), (wUp.now - lsbPerSec + 1), by decide +kernel⟩
theorem witness_resignFrameRx : ∃ (s s1 : State) (m : PairMsg), s.isStandby = true ∧ s.pairTake tyResign = (some m, s1) ∧ s1.pairMacOk (resignBody m.gen m.seq (m.payload.take (m.payload.length - 16))) (m.payload.drop (m.payload.length - 16)) = true :=
  ⟨(wSt 8 4 0 []), ((wSt 8 4 0 []).pairTake tyResign).2, (wPm (wSt 8 4 0 []) tyResign), by exact ⟨by decide +kernel, pair_took _ _ (by decide +kernel), by decide +kernel⟩⟩
def wRf : State := (wSt 8 4 0 []).putB F.PAR_CFG_AUTH_EN true
theorem witness_resignFrameRx_2 : ∃ (s s1 : State) (m : PairMsg), s.isStandby = true ∧ s.pairTake tyResign = (some m, s1) ∧ s1.pairMacOk (resignBody m.gen m.seq (m.payload.take (m.payload.length - 16))) (m.payload.drop (m.payload.length - 16)) = false :=
  ⟨wRf, (wRf.pairTake tyResign).2, (wPm wRf tyResign), by exact ⟨by decide +kernel, pair_took _ _ (by decide +kernel), by decide +kernel⟩⟩
theorem witness_pairTakeoverCmd : ∃ (s : State) (path : Path), path ≠ .spi ∧ s.isStandby = true :=
  ⟨(wPair 2 []), .mgt, by decide +kernel⟩
theorem witness_pairTakeoverCmd_2 : ∃ (s : State) (path : Path), path ≠ .spi ∧ s.isStandby = false :=
  ⟨(wPair 1 []), .mgt, by decide +kernel⟩
theorem witness_pairResync : ∃ (s : State) (path : Path), s.isActive = true ∧ path ≠ .spi :=
  ⟨(wPair 1 []), .mgt, by decide +kernel⟩
def wArb (role : Nat) : State := (wPair role []).putB F.PAR_CFG_ARB_EN true
theorem witness_arbHoldExpiry : ∃ (s : State) (level : Bool), s.RegsOk ∧ s.pairEn = true ∧ s.flag F.PAR_CFG_ARB_EN = true ∧ level = true ∧ s.role = prStandby :=
  ⟨(wArb 2), true, by decide +kernel⟩
theorem witness_arbHoldExpiry_2 : ∃ (s : State) (level : Bool), s.RegsOk ∧ s.pairEn = true ∧ s.flag F.PAR_CFG_ARB_EN = true ∧ level = false ∧ s.role = prActive :=
  ⟨(wArb 1), false, by decide +kernel⟩
def wDown (by_ : Nat) : State := ((wPair 1 []).setLink 18 lkAcquire).modPar fun p => { p with tookBy := by_ }
theorem witness_dualSeen : ∃ (s : State) (u us : Nat), s.RegsOk ∧ s.isActive = true ∧ s.ppUp = false ∧ s.flag F.PAR_STAT_PEER_ACTIVE = false ∧ 180000 ≤ us ∧ us ≤ 220000 ∧ s.Room Ev.PAR_DUAL_ACTIVE ∧ s.par.edge = none ∧ s.par.tookBy = 4 :=
  ⟨(wDown 4), 99, 200000, by decide +kernel⟩
theorem witness_dualSeen_2 : ∃ (s : State) (u us : Nat), s.RegsOk ∧ s.isActive = true ∧ s.ppUp = false ∧ s.flag F.PAR_STAT_PEER_ACTIVE = false ∧ 180000 ≤ us ∧ us ≤ 220000 ∧ s.Room Ev.PAR_DUAL_ACTIVE ∧ s.par.edge = none ∧ s.par.tookBy ≠ 4 :=
  ⟨(wDown 1), 99, 180000, by decide +kernel⟩
def wTk14 (r arb : Bool) (p : ParState → ParState) : State := (((wPair 2 []).modPar p).putB F.PAR_STAT_RESIGN_IN r).putB F.PAR_CFG_ARB_EN arb
theorem witness_takeoverOrder : ∃ s : State, s.flag F.PAR_STAT_RESIGN_IN = true :=
  ⟨(wTk14 true true id), by decide +kernel⟩
theorem witness_takeoverOrder_2 : ∃ s : State, s.flag F.PAR_STAT_RESIGN_IN = false ∧ s.par.takeFrame = true :=
  ⟨(wTk14 false true fun p => { p with takeFrame := true }), by decide +kernel⟩
theorem witness_takeoverOrder_3 : ∃ s : State, s.flag F.PAR_STAT_RESIGN_IN = false ∧ s.par.takeFrame = false ∧ s.flag F.PAR_CFG_ARB_EN = true :=
  ⟨(wTk14 false true fun p => { p with takeArb := true }), by decide +kernel⟩
theorem witness_takeoverOrder_4 : ∃ s : State, s.flag F.PAR_STAT_RESIGN_IN = false ∧ s.par.takeFrame = false ∧ s.flag F.PAR_CFG_ARB_EN = false :=
  ⟨(wTk14 false false fun p => { p with takeCmd := true }), by decide +kernel⟩
theorem witness_takeoverLeaves : ∃ (s : State) (c : Nat), s.RegsOk ∧ c < 8 ∧ s.role = prStandby :=
  ⟨(wSt 6 4 2 []), 5, by decide +kernel⟩
def wCz (w : Nat) : State := ((((wPair 1 []).putB F.PAR_STAT_PEER_PPS true).put F.PAR_CFG_RESIGN_MASK 0x30).put F.KPR_STAT_VSTATE vSolo).modPar fun p => { p with width := w, tampered := true }
theorem witness_resignOnCause : ∃ (s : State) (i : Nat), s.RegsOk ∧ s.Room Ev.PAR_RESIGN ∧ s.isActive = true ∧ s.flag F.PAR_STAT_PEER_PPS = true ∧ s.par.width = 1 ∧ i ∈ s.resignCauses ∧ s.bit F.PAR_CFG_RESIGN_MASK i = true ∧ ((∀ j ∈ s.resignCauses, j < i → s.bit F.PAR_CFG_RESIGN_MASK j = false)) :=
  ⟨(wCz 1), 4, by decide +kernel⟩
theorem witness_resignOnCause_2 : ∃ (s : State) (i : Nat), s.RegsOk ∧ s.Room Ev.PAR_RESIGN ∧ (s.isActive = false ∨ s.flag F.PAR_STAT_PEER_PPS = false ∨ s.par.width ≠ 1) :=
  ⟨(wCz 2), 4, by decide +kernel⟩
theorem witness_recordsRoundTrip : ∃ (l : List (List Byte)) (n : Nat), l.length ≤ n ∧ (∀ b ∈ l, b.length = 64) :=
  ⟨[List.replicate 64 1, List.replicate 64 0], 2, by decide +kernel⟩
theorem witness_standbyEntry : ∃ s : State, s.RegsOk ∧ s.role ≠ prStandby :=
  ⟨(wPair 1 []), by decide +kernel⟩

/-- 2^20 bytes of DRAM in two ranks; the word at 32 coded, the word at 64 stored raw. -/
def wMem : State := (wUp.modMem fun m => { m with size := 2 ^ 20, ranks := 2, trained := [wUp.now, 0] }).setWord 2 0x1234567890 .coded |>.setWord 4 99 (.raw 7)
def wCel : State := let s := wUp.putB F.XDC_CFG_WAKE_COMPAT true; { s with mainOff := true, clr := { s.clr with phase := cpCellar } }
theorem witness_compatWakeRequest : ∃ (s : State) (src dst : Fin 128), s.RegsOk ∧ s.flag F.XDC_CFG_WAKE_COMPAT = false :=
  ⟨wUp, 9, 1, by decide +kernel⟩
theorem witness_compatWakeRequest_2 : ∃ (s : State) (src dst : Fin 128), s.RegsOk ∧ s.flag F.XDC_CFG_WAKE_COMPAT = true ∧ s.clr.phase = cpCellar ∧ s.clr.vaux = true ∧ s.mainOff = true ∧ src.val = 9 ∧ dst.val < 9 :=
  ⟨wCel, 9, 8, by decide +kernel⟩
def wSleep : State := ((wUp.putB F.XDC_CFG_WAKE_COMPAT true).setReg (A.GNS_FE_L1_CFG + 8) 50000000).modGns fun g => { g with band := [gbAwake, gbAsleep] }
theorem witness_compatWakeRequest_3 : ∃ (s : State) (src dst : Fin 128), s.RegsOk ∧ s.flag F.XDC_CFG_WAKE_COMPAT = true ∧ s.clr.phase = cpAwake ∧ dst.val = 6 + 1 ∧ s.gns.band.length = 2 ∧ s.bandState 1 = gbAsleep ∧ s.bandEnabled 1 = true ∧ s.Room Ev.XDC_WAKE :=
  ⟨wSleep, 9, 7, by decide +kernel⟩
def wBusyM : State := wMem.putB F.MEM_STAT_RETRAINING true
theorem witness_dramReadFine : ∃ (s : State) (loc rank : Nat) (u : MemUser) (k : Fin 16), s.RegsOk ∧ Reads s loc rank ∧ s.chkOf (loc / 16) = .coded :=
  ⟨wMem, 47, 1, .scrubber, 0, by decide +kernel⟩
theorem witness_dramReadFine_2 : ∃ (s : State) (loc rank : Nat) (u : MemUser) (k : Fin 16), s.RegsOk ∧ Reads s loc rank ∧ s.chkOf (loc / 16) = .virgin :=
  ⟨wMem, 48, 1, .scrubber, 0, by decide +kernel⟩
theorem witness_dramReadFine_3 : ∃ (s : State) (loc rank : Nat) (u : MemUser) (k : Fin 16), s.RegsOk ∧ loc < s.mem.size ∧ s.dramBusy = true :=
  ⟨wBusyM, 48, 1, .scrubber, 0, by decide +kernel⟩
theorem witness_dramReadCorrects : ∃ (s : State) (loc rank p e : Nat) (u : MemUser) (k : Fin 16), s.Canon ∧ Reads s loc rank ∧ p < 36 ∧ 0 < e ∧ e < 16 ∧ s.chkOf (loc / 16) = .coded :=
  ⟨wMem, 32, 1, 35, 15, .scrubber, 0, canonOf _ (by decide +kernel), by decide +kernel⟩
theorem witness_sramReads : ∃ (s : State) (loc p q : Nat) (k : Fin 16), s.RegsOk ∧ loc < 2 ^ 32 ∧ s.mem.sram.find? (fun e => e.1 == loc) = none ∧ p < 72 ∧ q < 72 ∧ p ≠ q :=
  ⟨wMem, 77, 3, 71, 0, by decide +kernel⟩
def wStk (n : Nat) : State := ((wMem.modMem fun m => { m with trackD := [⟨32, 65536, 7⟩] }).put F.MEM_SPARE_SPARES 5).put F.MEM_SPARE_USED n
theorem witness_stickyPage : ∃ (s : State) (loc rank p e : Nat) (k : Fin 16) (f : Nat), s.Canon ∧ Reads s loc rank ∧ p < 36 ∧ 0 < e ∧ e < 16 ∧ s.chkOf (loc / 16) = .coded ∧ s.mem.trackD = [⟨loc / 16 * 16, f, 7⟩] ∧ s.curTick < f + 2 ^ 20 ∧ s.mem.lost = [] ∧ s.mem.dev = [] ∧ s.mem.unrepaired = [] ∧ s.get F.MEM_SPARE_USED < s.get F.MEM_SPARE_SPARES ∧ s.get F.MEM_SPARE_USED + 1 < wid F.MEM_SPARE_USED :=
  ⟨(wStk 4), 40, 1, 35, 15, 0, 65536, canonOf _ (by decide +kernel), by decide +kernel⟩
theorem witness_stickyPage_2 : ∃ (s : State) (loc rank p e : Nat) (k : Fin 16) (f : Nat), s.Canon ∧ Reads s loc rank ∧ p < 36 ∧ 0 < e ∧ e < 16 ∧ s.chkOf (loc / 16) = .coded ∧ s.mem.trackD = [⟨loc / 16 * 16, f, 7⟩] ∧ s.curTick < f + 2 ^ 20 ∧ s.mem.lost = [] ∧ s.mem.dev = [] ∧ s.mem.unrepaired = [] ∧ s.get F.MEM_SPARE_SPARES ≤ s.get F.MEM_SPARE_USED :=
  ⟨(wStk 5), 40, 1, 35, 15, 0, 65536, canonOf _ (by decide +kernel), by decide +kernel⟩
theorem witness_dramReadUncorrectable : ∃ (s : State) (loc rank p q d e : Nat) (k : Fin 16), s.Canon ∧ Reads s loc rank ∧ p < 36 ∧ q < 36 ∧ p ≠ q ∧ 0 < d ∧ d < 16 ∧ 0 < e ∧ e < 16 ∧ s.chkOf (loc / 16) = .coded :=
  ⟨wMem, 32, 1, 0, 35, 1, 15, 0, canonOf _ (by decide +kernel), by decide +kernel⟩
theorem witness_lostPip : ∃ (s : State) (loc p q : Nat) (c : Fin 32) (n : Nat) (x : Pip) (k : Fin 16), s.RegsOk ∧ loc < 2 ^ 32 ∧ s.mem.sram.find? (fun e => e.1 == loc) = none ∧ p < 72 ∧ q < 72 ∧ p ≠ q ∧ s.tic.chans.length = 32 ∧ (s.ch c).q[n]? = some x :=
  ⟨(wMem.modCh 3 fun c => { c with q := [⟨1, [1, 2]⟩, ⟨1, [3, 4]⟩] }), 77, 3, 71, 3, 1, ⟨1, [3, 4]⟩, 0, by decide +kernel⟩
def wRg : State := wMem.modEvt fun e => { e with ring := [⟨5, 68, Ev.MEM_CORRECT, 0, 9, 0⟩] }
theorem witness_lostEvent : ∃ (s : State) (loc p q n : Nat) (r : RingRec) (k : Fin 16), s.RegsOk ∧ loc < 2 ^ 32 ∧ s.mem.sram.find? (fun e => e.1 == loc) = none ∧ p < 72 ∧ q < 72 ∧ p ≠ q ∧ s.evt.ring[n]? = some r :=
  ⟨wRg, 77, 3, 71, 0, ⟨5, 68, Ev.MEM_CORRECT, 0, 9, 0⟩, 0, by decide +kernel⟩
theorem witness_lostEntry : ∃ (s : State) (loc p q : Nat) (i : Fin 65536) (e : Entry), s.Canon ∧ loc < 2 ^ 32 ∧ s.mem.sram.find? (fun e => e.1 == loc) = none ∧ p < 72 ∧ q < 72 ∧ p ≠ q ∧ s.entry i = some e ∧ s.pinEntry e = none ∧ s.reportOf i isCommitted = none ∧ e.phase ≠ .pinned :=
  ⟨(wSvc .waiting), 77, 3, 71, 7, (wEnt .waiting), canonOf _ (by decide +kernel), by decide +kernel⟩
theorem witness_dramFillDone : ∃ (s : State) (ms : Fin 65536), s.RegsOk ∧ s.flag F.MEM_STAT_DRAM_FILLED = false ∧ s.flag F.MEM_STAT_LARDER_FILLED = true ∧ s.dramBusy = false ∧ s.Room Ev.MEM_FILL_DONE :=
  ⟨(wMem.putB F.MEM_STAT_LARDER_FILLED true), 900, by decide +kernel⟩
theorem witness_dramFillDone_2 : ∃ (s : State) (ms : Fin 65536), s.RegsOk ∧ (s.flag F.MEM_STAT_DRAM_FILLED = true ∨ s.flag F.MEM_STAT_LARDER_FILLED = false ∨ s.dramBusy = true) :=
  ⟨(wMem.putB F.MEM_STAT_DRAM_FILLED true), 900, by decide +kernel⟩
theorem witness_dramRetrain : ∃ (s : State) (r : Fin 2) (moved : Bool), s.RegsOk ∧ s.flag F.MEM_STAT_RETRAINING = false ∧ s.clockRuns 5 = true ∧ s.syn.sref = false ∧ r.val < s.mem.ranks ∧ s.retrainDue r moved = true :=
  ⟨wMem, 1, true, by decide +kernel⟩
theorem witness_dramRetrain_2 : ∃ (s : State) (r : Fin 2) (moved : Bool), s.RegsOk ∧ (s.flag F.MEM_STAT_RETRAINING = true ∨ s.clockRuns 5 = false ∨ s.syn.sref = true ∨ s.mem.ranks ≤ r.val ∨ s.retrainDue r moved = false) :=
  ⟨(wMem.put F.MEM_CFG_RETRAIN 10), 0, false, by decide +kernel⟩
def wTr15 : State := ((wMem.modMem fun m => { m with dramQ := [(60, [1, 2, 3, 4, 5])], chk := [] }).putB F.MEM_STAT_RETRAINING true).put F.MEM_STAT_RANK 1
theorem witness_retrainDone : ∃ (s : State) (us : Fin 256), s.Canon ∧ s.flag F.MEM_STAT_RETRAINING = true ∧ us.val ≤ 40 ∧ s.Room Ev.MEM_RETRAIN ∧ s.get F.MEM_STAT_RANK < s.mem.trained.length ∧ s.clockRuns 5 = true ∧ s.syn.sref = false ∧ s.mem.dramQ = [(60, [1, 2, 3, 4, 5])] ∧ s.mem.chk = [] :=
  ⟨wTr15, 40, canonOf _ (by decide +kernel), by decide +kernel⟩
theorem witness_retrainDone_2 : ∃ (s : State) (us : Fin 256), s.Canon ∧ (s.flag F.MEM_STAT_RETRAINING = false ∨ 40 < us.val) :=
  ⟨wTr15, 41, canonOf _ (by decide +kernel), by decide +kernel⟩
def wRaw (en : Bool) : State := (((wMem.putB F.MEM_CFG_RAW_EN en).put F.MEM_RAW_SEL_TARGET 1).putWide A.MEM_RAW_ADDR 2 64).putWide (A.MEM_RAW_DATA 0) 4 0x55 |>.put F.MEM_RAW_CHECK_CHECK 3
theorem witness_rawRefused : ∃ (s : State) (path : Path), s.RegsOk ∧ s.rawAllowed path = false :=
  ⟨(wRaw false), .mgt, by decide +kernel⟩
theorem witness_rawRefused_2 : ∃ (s : State) (path : Path), s.RegsOk ∧ s.rawAllowed path = false :=
  ⟨(wRaw true), .spi, by decide +kernel⟩
theorem witness_rawWrite : ∃ (s : State) (path : Path), s.Canon ∧ s.rawAllowed path = true ∧ s.lastGet F.MEM_RAW_SEL_TARGET = 1 ∧ s.dramBusy = false ∧ s.rawAddr < s.mem.size :=
  ⟨(wRaw true), .mgt, canonOf _ (by decide +kernel), by decide +kernel⟩
def wRaw2 : State := (wRaw true).put F.MEM_RAW_SEL_TARGET 2
theorem witness_rawWrite_2 : ∃ (s : State) (path : Path), s.Canon ∧ s.rawAllowed path = true ∧ s.lastGet F.MEM_RAW_SEL_TARGET = 2 :=
  ⟨wRaw2, .twv, canonOf _ (by decide +kernel), by decide +kernel⟩
theorem witness_rawRead : ∃ (s : State) (path : Path), s.Canon ∧ s.rawAllowed path = true ∧ s.lastGet F.MEM_RAW_SEL_TARGET = 1 ∧ s.dramBusy = false ∧ s.rawAddr < s.mem.size ∧ s.chkOf (s.rawAddr / 16) = .raw 7 :=
  ⟨(wRaw true), .mgt, canonOf _ (by decide +kernel), by decide +kernel⟩
theorem witness_rawRead_2 : ∃ (s : State) (path : Path), s.Canon ∧ s.rawAllowed path = true ∧ s.lastGet F.MEM_RAW_SEL_TARGET = 2 ∧ s.mem.sram.find? (fun e => e.1 == s.rawAddr % 2 ^ 32) = some (s.rawAddr % 2 ^ 32, 5, 300) :=
  ⟨(wRaw2.modMem fun m => { m with sram := [(64, 5, 300)] }), .mgt, canonOf _ (by decide +kernel), by decide +kernel⟩
theorem witness_rawWaits : ∃ (s : State) (path : Path), s.rawAllowed path = true ∧ s.lastGet F.MEM_RAW_SEL_TARGET = 1 ∧ s.dramBusy = true ∧ s.xdc.cmds = [] :=
  ⟨((wRaw true).putB F.MEM_STAT_RETRAINING true), .mgt, by decide +kernel⟩
theorem witness_rawWaits_2 : ∃ (s : State) (path : Path), s.rawAllowed path = true ∧ s.lastGet F.MEM_RAW_SEL_TARGET = 1 ∧ s.dramBusy = false ∧ s.mem.size ≤ s.rawAddr :=
  ⟨((wRaw true).putWide A.MEM_RAW_ADDR 2 (2 ^ 20)), .mgt, by decide +kernel⟩
theorem witness_dramAbsent : ∃ (s : State) (loc rank : Nat) (l : List (Nat × Nat)) (v : Bool) (u : MemUser) (k : Fin 16), s.mem.size ≤ loc :=
  ⟨wMem, (2 ^ 20), 0, [], false, .scrubber, 0, by decide +kernel⟩

/-- A device in reset, supplied. -/
def wHeld : State := { wUp with mainOff := true, boot := { wUp.boot with held := true } }
theorem witness_fullStart : ∃ s : State, s.RegsOk ∧ s.boot.held = true ∧ s.cellarPowered = true :=
  ⟨wHeld, by decide +kernel⟩
theorem witness_fullStart_2 : ∃ s : State, s.RegsOk ∧ (s.boot.held = false ∨ s.cellarPowered = false) :=
  ⟨wUp, by decide +kernel⟩
theorem witness_startDrops : ∃ (s : State) (k : Nat), s.Canon ∧ s.clr.bothLost = false ∧ k < 5 :=
  ⟨({ wUp with cnt := spSet (fun _ => 0) [] (A.CLR_ACCk 2) 9 }), 2, canonOf _ (by decide +kernel), by decide +kernel⟩
def wBoot (l : List Nat) : State := (wUp.put F.MGT_BOOT_STATE bootLoading).modBoot fun b => { b with candidates := l }
theorem witness_headersRead : ∃ (s : State) (a b : Bool), s.RegsOk ∧ s.booting = true ∧ s.boot.candidates = [] :=
  ⟨(wBoot []), false, false, by decide +kernel⟩
theorem witness_headerCauses : ∃ (s : State) (h : List Byte), crc32 (h.take 4092) ≠ leAt h 4092 4 :=
  ⟨wUp, [1], by decide +kernel⟩
theorem witness_headerCauses_2 : ∃ (s : State) (h : List Byte), crc32 (h.take 4092) = leAt h 4092 4 ∧ leAt h 0 4 ≠ 0x7720A771 :=
  ⟨wUp, [], by decide +kernel⟩
theorem witness_copyVerify : ∃ (s : State) (c : Nat) (rest : List Nat) (ms : Nat) (v : Option (Fin 256)) (nak : List (Option (Fin 64))), s.RegsOk ∧ s.booting = true ∧ s.boot.candidates = c :: rest ∧ c < 2 :=
  ⟨(wBoot [1]), 1, [], 200, none, [], by decide +kernel⟩
theorem witness_copyVerify_2 : ∃ (s : State) (c : Nat) (rest : List Nat) (ms : Nat) (v : Option (Fin 256)) (nak : List (Option (Fin 64))), s.RegsOk ∧ s.booting = true ∧ s.boot.candidates = c :: rest ∧ c < 2 :=
  ⟨(wBoot [0, 1]), 0, [1], 200, none, [], by decide +kernel⟩
theorem witness_copyLoads : ∃ (s : State) (c : Nat) (rest : List Nat) (ms : Nat) (v : Option (Fin 256)) (nak : List (Option (Fin 64))), s.RegsOk ∧ s.booting = true ∧ s.boot.candidates = c :: rest ∧ c < 2 :=
  ⟨((wBoot [0, 1]).modBoot fun b => { b with flash := [(24, 0x40), (25, 0x10), (26, 0), (27, 0)] }), 0, [1], 200, none, [], by decide +kernel⟩
def wMgt (f : MgtState → MgtState) : State := wUp.modMgt f
theorem witness_corePairFault : ∃ (s : State) (m : Bool), s.RegsOk ∧ s.Room Ev.MGT_CORE_FAULT :=
  ⟨wUp, true, by decide +kernel⟩
theorem witness_watchdogExpiry : ∃ s : State, s.RegsOk ∧ s.watchdogDue = true ∧ s.Room Ev.MGT_CORE_FAULT :=
  ⟨(wMgt fun m => { m with kick := some 3 }), by decide +kernel⟩
theorem witness_watchdogExpiry_2 : ∃ s : State, s.RegsOk ∧ s.watchdogDue = false :=
  ⟨wUp, by decide +kernel⟩
theorem witness_watchdogKick : ∃ s : State, s.coresRun = true ∧ s.mgt.coreFault = none :=
  ⟨(wMgt fun m => { m with kick := some 3 }), by decide +kernel⟩
theorem witness_watchdogKick_2 : ∃ s : State, s.coresRun = true ∧ s.mgt.coreFault = some 7 ∧ s.Room Ev.MGT_CORE_RECOVERED :=
  ⟨(wMgt fun m => { m with coreFault := some 7 }), by decide +kernel⟩
/-- MCLK lost after it ran. -/
def wNoM : State := wUp.setGate 4 true
theorem witness_watchdogKick_3 : ∃ s : State, s.coresRun = false :=
  ⟨wNoM, by decide +kernel⟩
theorem witness_twivonRoundTrip : ∃ (key da payload : List Byte) (et typ k status seq op port : Nat), da.length = 12 ∧ et < 65536 ∧ et ≠ 0x88A8 ∧ et ≠ 0x8100 ∧ k < 256 ∧ seq < 2 ^ 64 ∧ op < 65536 ∧ payload.length < 65536 :=
  ⟨[1, 2], (List.replicate 12 7), [4, 5, 6], 0x88B5, 1, 255, 9, (2 ^ 64 - 1), 65535, 19, by decide +kernel⟩
theorem ownKey_main (s : State) (b h i : Nat) (hs : h / 2 ^ 22 = 0) (hi : h % 4096 = i) (hc : h / 4096 % 1024 = (s.mainSlot i).incarn)
  (hv : (s.mainSlot i).state = ksValid) (hp : (s.mainSlot i).has b = true) (ht : s.mainTagOk i = true) : s.ownKey b h = some (s.mainSlot i).material := by
  subst hi
  unfold State.ownKey
  have hs4 : h / 4194304 = 0 := hs
  simp [hs4, hc, hv, hp, ht]
theorem takeRx_key (s : State) (p q : Nat) (f : RxFrame → Bool) : (s.takeRx p q f).2.key = s.key := by
  unfold State.takeRx
  split
  · rfl
  · split
    · rfl
    · simp only []
      split <;> rfl
theorem rx_took (s : State) (p q : Nat) (f : RxFrame → Bool) (x : RxFrame) (h : (s.takeRx p q f).1 = some x) :
  s.takeRx p q f = (some x, (s.takeRx p q f).2) := by
  generalize s.takeRx p q f = y at h
  obtain ⟨a, b⟩ := y
  simp_all
/-- What twvGood asks beside a usable key. -/
def twvRest (key d m tag : List Byte) : Bool :=
  let o := (tagsOf d).etOfs + 2
  let at_ (i n : Nat) := leNat (slice (d.drop o) i n)
  decide (at_ 14 2 ≤ 1024) && decide (m.length = 16 + at_ 14 2) && decide (tag.length = 32) && hmac key m == tag && at_ 0 1 == 1 && at_ 1 1 == twCommand
theorem twvGood_key (s : State) (d : List Byte) (c : TwvCmd) (m tag key : List Byte) (h : s.twvKey c.key = some key) :
  s.twvGood d c m tag = twvRest key d m tag := by unfold State.twvGood; rw [h]; rfl
theorem twvGood_short (s : State) (d : List Byte) (c : TwvCmd) (m tag : List Byte) (h : decide (tag.length = 32) = false) : s.twvGood d c m tag = false := by
  unfold State.twvGood
  simp only [h]
  cases s.twvKey c.key <;> simp
def wTwKey : KeySlot := { KeySlot.blank with material := List.replicate 32 7, state := ksValid, policy := 2 ^ pbTwivon }
def wTwF (m : List Byte) : List Byte := List.replicate 12 3 ++ [0x77, 0x20] ++ m
/-- A management port with a message in its queue, entry 0 set up, and an enabled key in slot 0. -/
def wTwB (m : List Byte) : State := (((wPort 19).modPort 19 fun k => { k with rxq := [⟨wTwF m, ⟨0, 0, 16, 0, true⟩⟩] :: List.replicate 7 [] }).put F.MGT_TWV_CFG_ETYPE 0x7720).putB (F.KEY_TWVk_CFG_EN 0) true |>.put (F.KEY_TWVk_CFG_HANDLE 0) 0 |>.put (F.MGT_TWVk_OPS_OPS 0) 1
def wTwv (m : List Byte) (f : State → State) : State := (f (wTwB m)).setMain 0 wTwKey
def wTwM : List Byte := [1, 1, 0, 0] ++ leBytes 8 5 ++ [1, 0, 8, 0, 0, 0, 0, 0, 1, 0, 0, 0] ++ beBytes 32 0x0add2632b0e82b246e1fa8710121840073b2cd21b7fbc6f22de7b1e74de988aa
def wTwR (m : List Byte) (f : State → State) : Option RxFrame × State := (wTwv m f).takeRx 19 2 ((wTwv m f).isTwivon 19)
theorem wTwv_key (m : List Byte) (f : State → State) (hm : (f (wTwB m)).key.main = []) (hs : (wTwR m f).2.get (F.KEY_TWVk_CFG_HANDLE 0) = 0)
  (he : (wTwR m f).2.flag (F.KEY_TWVk_CFG_EN 0) = true) : (wTwR m f).2.twvKey 0 = some (List.replicate 32 7) := by
  have hk : (wTwR m f).2.key = (wTwv m f).key := takeRx_key _ _ _ _
  have h0 : (wTwR m f).2.mainSlot 0 = wTwKey.tagged 0 0 := by
    unfold State.mainSlot; rw [hk]; show spGet _ (spSet _ (f (wTwB m)).key.main 0 (wTwKey.tagged 0 0)) 0 = _
    rw [hm]; exact spGet_spSet_same blankSlot [] 0 (wTwKey.tagged 0 0) rfl
  have ht : (wTwR m f).2.mainTagOk 0 = true := by
    unfold State.mainTagOk; rw [h0]; simp [KeySlot.tagged, KeySlot.tagOf, KeySlot.info]
  unfold State.twvKey
  rw [hs, he, ownKey_main _ _ 0 0 rfl rfl (by rw [h0]; rfl) (by rw [h0]; rfl) (by rw [h0]; rfl) ht, h0]
  rfl
def wTwX (m : List Byte) : RxFrame := ⟨wTwF m, ⟨0, 0, 16, 0, true⟩⟩
theorem wTwv_good (f : State → State) (hm : (f (wTwB wTwM)).key.main = []) (hs : (wTwR wTwM f).2.get (F.KEY_TWVk_CFG_HANDLE 0) = 0)
  (he : (wTwR wTwM f).2.flag (F.KEY_TWVk_CFG_EN 0) = true) :
  (wTwR wTwM f).2.twvGood (wTwF wTwM) (twvParse 19 (wTwF wTwM)).1 (twvParse 19 (wTwF wTwM)).2.1 (twvParse 19 (wTwF wTwM)).2.2 = true := by
  have h0 : (twvParse 19 (wTwF wTwM)).1.key = 0 := by decide +kernel
  have hk : (wTwR wTwM f).2.twvKey (twvParse 19 (wTwF wTwM)).1.key = some (List.replicate 32 7) := by
    rw [h0]; exact wTwv_key _ f hm hs he
  exact (twvGood_key _ _ _ _ _ _ hk).trans (by decide +kernel)
def wTwNo (s : State) : State := s.put (F.MGT_TWVk_OPS_OPS 0) 0
def wTwHigh (s : State) : State := s.putWide (A.KEY_TWVk_HIGH 0) 2 5
def wTwSaid (s : State) : State := (wTwHigh s).modMgt fun m => { m with sent := [⟨0, 5, some [9]⟩] }
def wTwFull (s : State) : State := s.modMgt fun m => { m with journal := List.replicate 64 ⟨0, 4, 12, [], 19, [], []⟩, erasing := some 0 }
theorem witness_twivonAccepted : ∃ (s s1 : State) (p : Fin 20) (f : RxFrame), let c := (twvParse p f.data).1; s.Canon ∧ s.served = true ∧ s.takeRx p 2 (s.isTwivon p) = (some f, s1) ∧ s.mgt.journal = [] ∧ s1.twvGood f.data c (twvParse p f.data).2.1 (twvParse p f.data).2.2 = true ∧ s.wide (A.KEY_TWVk_HIGH c.key) 2 < c.seq ∧ c.seq < 2 ^ 64 ∧ twvAuto c.op = false ∧ s.twvPermits c = true ∧ c.key < 8 :=
  ⟨(wTwv wTwM id), (wTwR wTwM id).2, 19, (wTwX wTwM), by exact ⟨canonOf _ (by decide +kernel), by decide +kernel, rx_took _ _ _ _ _ (by decide +kernel), by decide +kernel, wTwv_good _ rfl (by decide +kernel) (by decide +kernel), by decide +kernel, by decide +kernel, by decide +kernel, by decide +kernel, by decide +kernel⟩⟩
theorem witness_twivonDropped : ∃ (s s1 : State) (p : Fin 20) (f : RxFrame), s.Canon ∧ s.served = true ∧ s.takeRx p 2 (s.isTwivon p) = (some f, s1) ∧ s.mgt.journal = [] ∧ s1.twvGood f.data (twvParse p f.data).1 (twvParse p f.data).2.1 (twvParse p f.data).2.2 = false :=
  ⟨(wTwv [] id), (wTwR [] id).2, 19, (wTwX []), by exact ⟨canonOf _ (by decide +kernel), by decide +kernel, rx_took _ _ _ _ _ (by decide +kernel), by decide +kernel, twvGood_short _ _ _ _ _ (by decide +kernel)⟩⟩
theorem witness_twivonRefused : ∃ (s s1 : State) (p : Fin 20) (f : RxFrame), let c := (twvParse p f.data).1; s.Canon ∧ s.served = true ∧ s.takeRx p 2 (s.isTwivon p) = (some f, s1) ∧ s.mgt.journal = [] ∧ s.mgt.wait = [] ∧ s.mgt.erasing = none ∧ s.clr.enter = none ∧ s.Room Ev.MGT_TWV_REFUSED ∧ s1.twvGood f.data c (twvParse p f.data).2.1 (twvParse p f.data).2.2 = true ∧ s.wide (A.KEY_TWVk_HIGH c.key) 2 < c.seq ∧ c.seq < 2 ^ 64 ∧ s.twvPermits c = false ∧ c.key < 8 :=
  ⟨(wTwv wTwM wTwNo), (wTwR wTwM wTwNo).2, 19, (wTwX wTwM), by exact ⟨canonOf _ (by decide +kernel), by decide +kernel, rx_took _ _ _ _ _ (by decide +kernel), by decide +kernel, by decide +kernel, by decide +kernel, by decide +kernel, by decide +kernel, wTwv_good _ rfl (by decide +kernel) (by decide +kernel), by decide +kernel, by decide +kernel, by decide +kernel, by decide +kernel⟩⟩
theorem witness_twivonBusy : ∃ (s s1 : State) (p : Fin 20) (f : RxFrame), let c := (twvParse p f.data).1; s.Canon ∧ s.served = true ∧ s.takeRx p 2 (s.isTwivon p) = (some f, s1) ∧ s.mgt.journal.length = 64 ∧ s.twvReady = none ∧ s.mgt.busyTick ≠ s.nextTick ∧ s1.twvGood f.data c (twvParse p f.data).2.1 (twvParse p f.data).2.2 = true ∧ s.wide (A.KEY_TWVk_HIGH c.key) 2 < c.seq :=
  ⟨(wTwv wTwM wTwFull), (wTwR wTwM wTwFull).2, 19, (wTwX wTwM), by exact ⟨canonOf _ (by decide +kernel), by decide +kernel, rx_took _ _ _ _ _ (by decide +kernel), by decide +kernel, by decide +kernel, by decide +kernel, wTwv_good _ rfl (by decide +kernel) (by decide +kernel), by decide +kernel⟩⟩
theorem witness_twivonReplay : ∃ (s s1 : State) (p : Fin 20) (f : RxFrame), let c := (twvParse p f.data).1; s.Canon ∧ s.served = true ∧ s.takeRx p 2 (s.isTwivon p) = (some f, s1) ∧ s.mgt.journal = [] ∧ s1.twvGood f.data c (twvParse p f.data).2.1 (twvParse p f.data).2.2 = true ∧ c.seq ≤ s.wide (A.KEY_TWVk_HIGH c.key) 2 :=
  ⟨(wTwv wTwM wTwHigh), (wTwR wTwM wTwHigh).2, 19, (wTwX wTwM), by exact ⟨canonOf _ (by decide +kernel), by decide +kernel, rx_took _ _ _ _ _ (by decide +kernel), by decide +kernel, wTwv_good _ rfl (by decide +kernel) (by decide +kernel), by decide +kernel⟩⟩
theorem witness_twivonReplay_2 : ∃ (s s1 : State) (p : Fin 20) (f : RxFrame), let c := (twvParse p f.data).1; s.Canon ∧ s.served = true ∧ s.takeRx p 2 (s.isTwivon p) = (some f, s1) ∧ s.mgt.journal = [] ∧ s1.twvGood f.data c (twvParse p f.data).2.1 (twvParse p f.data).2.2 = true ∧ c.seq ≤ s.wide (A.KEY_TWVk_HIGH c.key) 2 :=
  ⟨(wTwv wTwM wTwSaid), (wTwR wTwM wTwSaid).2, 19, (wTwX wTwM), by exact ⟨canonOf _ (by decide +kernel), by decide +kernel, rx_took _ _ _ _ _ (by decide +kernel), by decide +kernel, wTwv_good _ rfl (by decide +kernel) (by decide +kernel), by decide +kernel⟩⟩
def wCmd (op : Nat) (p : List Byte) : TwvCmd := ⟨0, 5, op, p, 19, [], []⟩
def wJ (op : Nat) (p : List Byte) : State := (wMgt fun m => { m with journal := [wCmd op p], sent := [⟨0, 5, none⟩] })
def wW (l : List Nat) : List Byte := l.flatMap (leBytes 4)
theorem witness_twivonReplied : ∃ (s : State) (c : TwvCmd) (st : Nat) (p : List Byte), s.Canon :=
  ⟨(wJ 1 []), (wCmd 1 []), 3, [1], canonOf _ (by decide +kernel)⟩
theorem witness_twivonRead : ∃ (s : State) (k : Fin 8) (c : TwvCmd), Heads s c k 1 ∧ c.payload.length = 8 ∧ 1 ≤ c.word 1 ∧ c.word 1 ≤ 64 ∧ (∀ a ∈ wordAddrs (c.word 0) (c.word 1), busBad a 4 = false) :=
  ⟨(wJ 1 (wW [0, 2])), 0, (wCmd 1 (wW [0, 2])), by decide +kernel⟩
theorem witness_twivonRead_2 : ∃ (s : State) (k : Fin 8) (c : TwvCmd), Heads s c k 1 ∧ c.payload.length = 8 ∧ 1 ≤ c.word 1 ∧ c.word 1 ≤ 64 ∧ (∃ a ∈ wordAddrs (c.word 0) (c.word 1), busBad a 4 = true) :=
  ⟨(wJ 1 (wW [2, 1])), 0, (wCmd 1 (wW [2, 1])), by decide +kernel⟩
theorem witness_twivonWrite : ∃ (s : State) (k : Fin 8) (c : TwvCmd), Heads s c k 2 ∧ 1 ≤ c.word 1 ∧ c.word 1 ≤ 64 ∧ c.payload.length = 8 + 4 * c.word 1 ∧ (∀ a ∈ wordAddrs (c.word 0) (c.word 1), busBad a 4 = false) ∧ (∃ a ∈ wordAddrs (c.word 0) (c.word 1), s.mayWrite .twv a 0 = false) :=
  ⟨(wJ 2 (wW [A.KEY_CMD, 1, 1])), 0, (wCmd 2 (wW [A.KEY_CMD, 1, 1])), by decide +kernel⟩
theorem witness_twivonWrite_2 : ∃ (s : State) (k : Fin 8) (c : TwvCmd), Heads s c k 2 ∧ 1 ≤ c.word 1 ∧ c.word 1 ≤ 64 ∧ c.payload.length = 8 + 4 * c.word 1 ∧ (∀ a ∈ wordAddrs (c.word 0) (c.word 1), busBad a 4 = false) ∧ c.word 1 = 1 ∧ s.mayWrite .twv (c.word 0) 0 = true ∧ c.word 0 = A.KPR_VOTE_CFG :=
  ⟨(wJ 2 (wW [A.KPR_VOTE_CFG, 1, 7])), 0, (wCmd 2 (wW [A.KPR_VOTE_CFG, 1, 7])), by decide +kernel⟩
theorem witness_twivonWrite_3 : ∃ (s : State) (k : Fin 8) (c : TwvCmd), Heads s c k 2 ∧ 1 ≤ c.word 1 ∧ c.word 1 ≤ 64 ∧ c.payload.length = 8 + 4 * c.word 1 ∧ (∀ a ∈ wordAddrs (c.word 0) (c.word 1), busBad a 4 = false) ∧ (∀ a ∈ wordAddrs (c.word 0) (c.word 1), s.mayWrite .twv a 0 = true ∧ a ≠ A.CLR_CMD) :=
  ⟨(wJ 2 (wW [A.KPR_VOTE_CFG, 1, 7])), 0, (wCmd 2 (wW [A.KPR_VOTE_CFG, 1, 7])), by decide +kernel⟩
theorem witness_twivonClear : ∃ (s : State) (k : Fin 8) (c : TwvCmd), Heads s c k 9 ∧ c.payload.length = 4 ∧ c.word 0 < 3 :=
  ⟨(wJ 9 (wW [2])), 0, (wCmd 9 (wW [2])), by decide +kernel⟩
theorem witness_twivonClear_2 : ∃ (s : State) (k : Fin 8) (c : TwvCmd), Heads s c k 9 ∧ c.payload.length = 4 ∧ 3 ≤ c.word 0 :=
  ⟨(wJ 9 (wW [3])), 0, (wCmd 9 (wW [3])), by decide +kernel⟩
theorem witness_flashErase : ∃ (s : State) (k : Fin 8) (c : TwvCmd), Heads s c k 12 ∧ c.payload.length = 4 ∧ c.word 0 < 2 ∧ c.word 0 ≠ s.copyInUse ∧ s.mgt.erasing = none :=
  ⟨(wJ 12 (wW [1])), 0, (wCmd 12 (wW [1])), by decide +kernel⟩
theorem witness_flashErase_2 : ∃ (s : State) (k : Fin 8) (c : TwvCmd), Heads s c k 12 ∧ c.payload.length = 4 ∧ c.word 0 < 2 ∧ c.word 0 ≠ s.copyInUse ∧ s.mgt.erasing.isSome = true ∧ s.twvPermits c = true :=
  ⟨(((wJ 12 (wW [1])).put (F.MGT_TWVk_OPS_OPS 0) 0xFFFF).modMgt fun m => { m with erasing := some 5 }), 0, (wCmd 12 (wW [1])), by decide +kernel⟩
theorem witness_flashErase_3 : ∃ (s : State) (k : Fin 8) (c : TwvCmd), Heads s c k 12 ∧ c.payload.length = 4 ∧ (2 ≤ c.word 0 ∨ c.word 0 = s.copyInUse) :=
  ⟨(wJ 12 (wW [0])), 0, (wCmd 12 (wW [0])), by decide +kernel⟩
theorem witness_flashEraseDone : ∃ (s : State) (k : Nat) (c : TwvCmd), s.RegsOk ∧ s.served = true ∧ s.mgt.journal = [c] ∧ s.mgt.erasing = some k ∧ c.key = k ∧ s.Room Ev.MGT_FLASH_DONE :=
  ⟨((wJ 12 (wW [1])).modMgt fun m => { m with erasing := some 0 }), 0, (wCmd 12 (wW [1])), by decide +kernel⟩
theorem witness_flashWrite : ∃ (s : State) (k : Fin 8) (c : TwvCmd), Heads s c k 13 ∧ spWf (fun _ => 0xFF) s.boot.flash = true ∧ s.mgt.erasing = none ∧ 8 ≤ c.payload.length ∧ c.payload.length ≤ 1008 ∧ c.word 0 < 2 ∧ c.word 0 ≠ s.copyInUse ∧ c.word 1 + (c.payload.length - 8) ≤ copySize :=
  ⟨(wJ 13 (wW [1, 0x1000 - 2, 9])), 0, (wCmd 13 (wW [1, 0x1000 - 2, 9])), by decide +kernel⟩
theorem witness_flashWrite_2 : ∃ (s : State) (k : Fin 8) (c : TwvCmd), Heads s c k 13 ∧ spWf (fun _ => 0xFF) s.boot.flash = true ∧ s.mgt.erasing = none ∧ 8 ≤ c.payload.length ∧ c.payload.length ≤ 1008 ∧ (c.word 0 = s.copyInUse ∨ 2 ≤ c.word 0 ∨ copySize < c.word 1 + (c.payload.length - 8)) :=
  ⟨(wJ 13 (wW [0, 5])), 0, (wCmd 13 (wW [0, 5])), by decide +kernel⟩
theorem witness_flashRead : ∃ (s : State) (k : Fin 8) (c : TwvCmd), Heads s c k 14 ∧ s.mgt.erasing = none ∧ c.payload.length = 12 ∧ c.word 2 ≤ 1000 ∧ c.word 0 < 2 ∧ c.word 1 + c.word 2 ≤ copySize :=
  ⟨(wJ 14 (wW [1, 0xFFFFF0, 16])), 0, (wCmd 14 (wW [1, 0xFFFFF0, 16])), by decide +kernel⟩
theorem witness_rollbackBurn : ∃ (s : State) (k : Fin 8) (c : TwvCmd), s.RegsOk ∧ Heads s c k 15 ∧ c.payload = [] ∧ s.Room Ev.MGT_FLASH_DONE :=
  ⟨((wJ 15 []).put F.MGT_ROLLBACK_IMAGE 9), 0, (wCmd 15 []), by decide +kernel⟩
theorem witness_spiRead : ∃ (s : State) (a : Fin (2 ^ 24)), s.RegsOk ∧ s.spiUp = true ∧ busBad a 4 = false ∧ consoleReg a = false ∧ ((s.loaded = true ∨ loaderReg a = true)) :=
  ⟨wUp, 4, by decide +kernel⟩
theorem witness_spiRead_2 : ∃ (s : State) (a : Fin (2 ^ 24)), s.RegsOk ∧ s.spiUp = true ∧ ((busBad a 4 = true ∨ consoleReg a = true ∨ (s.loaded = false ∧ loaderReg a = false))) :=
  ⟨wUp, 2, by decide +kernel⟩
theorem witness_spiRead_3 : ∃ (s : State) (a : Fin (2 ^ 24)), s.RegsOk ∧ s.spiUp = true ∧ busBad a 4 = false ∧ consoleReg a = false ∧ ((s.loaded = true ∨ loaderReg a = true)) :=
  ⟨(wBoot []), 4, by decide +kernel⟩
theorem witness_spiRead_4 : ∃ (s : State) (a : Fin (2 ^ 24)), s.RegsOk ∧ s.spiUp = true ∧ ((busBad a 4 = true ∨ consoleReg a = true ∨ (s.loaded = false ∧ loaderReg a = false))) :=
  ⟨(wBoot []), ⟨A.KPR_VOTE_CFG, by decide⟩, by decide +kernel⟩
theorem witness_spiWrite : ∃ (s : State) (a : Fin (2 ^ 24)) (v : Word), s.RegsOk ∧ s.spiUp = true ∧ s.loaded = true ∧ busBad a 4 = false ∧ s.mayWrite .spi a v = true :=
  ⟨(wUp.putB F.MGT_SPI_CFG_WRITE true), ⟨A.KPR_VOTE_CFG, by decide⟩, 7, by decide +kernel⟩
theorem witness_spiWrite_2 : ∃ (s : State) (a : Fin (2 ^ 24)) (v : Word), s.RegsOk ∧ s.spiUp = true ∧ s.loaded = true ∧ busBad a 4 = false ∧ s.mayWrite .spi a v = false ∧ a.val ≠ A.DSC_REALIGN_CMD ∧ s.mgt.spiTick ≠ s.nextTick ∧ s.Room Ev.MGT_SPI_REFUSED :=
  ⟨wUp, ⟨A.KPR_VOTE_CFG, by decide⟩, 7, by decide +kernel⟩
theorem witness_spiWrite_3 : ∃ (s : State) (a : Fin (2 ^ 24)) (v : Word), s.RegsOk ∧ s.spiUp = true ∧ s.loaded = true ∧ busBad a 4 = false ∧ a.val = A.DSC_REALIGN_CMD ∧ vbit v 8 = true ∧ s.Room Ev.DSC_REALIGN_REFUSED :=
  ⟨wUp, ⟨A.DSC_REALIGN_CMD, by decide⟩, 0x100, by decide +kernel⟩
theorem witness_spiRights : ∃ (s : State) (a : Nat) (v : Word), s.flag F.MGT_SPI_CFG_WRITE = false :=
  ⟨wUp, A.KEY_CMD, 0x13, by decide +kernel⟩
theorem witness_spiStatus : ∃ s : State, s.spiUp = true ∧ s.get F.MGT_BOOT_STATE = bootFailed ∧ s.flag F.MGT_SPI_STAT_ERR = true :=
  ⟨((wUp.put F.MGT_BOOT_STATE bootFailed).putB F.MGT_SPI_STAT_ERR true), by decide +kernel⟩
theorem witness_spiStatus_2 : ∃ s : State, s.spiUp = true ∧ s.get F.MGT_BOOT_STATE = bootLoaded ∧ s.flag F.MGT_SPI_STAT_ERR = false :=
  ⟨wUp, by decide +kernel⟩
theorem witness_spiStatus_3 : ∃ s : State, s.spiUp = true ∧ s.get F.MGT_BOOT_STATE = bootLoading ∧ s.flag F.MGT_SPI_STAT_ERR = false :=
  ⟨(wBoot []), by decide +kernel⟩
theorem witness_uartTxWrite : ∃ (s : State) (b : Byte), s.RegsOk ∧ s.loaded = true ∧ s.coresRun = true ∧ s.mgt.uartTx.length < 64 :=
  ⟨(wMgt fun m => { m with uartTx := List.replicate 63 1 }), 5, by decide +kernel⟩
theorem witness_uartTxWrite_2 : ∃ (s : State) (b : Byte), s.RegsOk ∧ s.loaded = true ∧ s.coresRun = true ∧ 64 ≤ s.mgt.uartTx.length :=
  ⟨(wMgt fun m => { m with uartTx := List.replicate 64 1 }), 5, by decide +kernel⟩
theorem witness_uartTxWrite_3 : ∃ (s : State) (b : Byte), s.RegsOk ∧ (s.loaded = false ∨ s.coresRun = false) :=
  ⟨wNoM, 5, by decide +kernel⟩
theorem witness_uartRxByte : ∃ (s : State) (b : Byte) (e : Bool), s.RegsOk ∧ s.loaded = true ∧ s.mgt.uartRx.length < 64 :=
  ⟨(wMgt fun m => { m with uartRx := List.replicate 63 (1, true) }), 5, false, by decide +kernel⟩
theorem witness_uartRxByte_2 : ∃ (s : State) (b : Byte) (e : Bool), s.RegsOk ∧ s.loaded = true ∧ 64 ≤ s.mgt.uartRx.length :=
  ⟨(wMgt fun m => { m with uartRx := List.replicate 64 (1, true) }), 5, false, by decide +kernel⟩
theorem witness_uartRxByte_3 : ∃ (s : State) (b : Byte) (e : Bool), s.RegsOk ∧ s.loaded = false :=
  ⟨(wBoot []), 5, false, by decide +kernel⟩
theorem witness_uartRxPop : ∃ s : State, s.RegsOk ∧ s.coresRun = true ∧ s.mgt.uartRx = [] :=
  ⟨wUp, by decide +kernel⟩
theorem witness_uartRxPop_2 : ∃ s : State, s.RegsOk ∧ s.coresRun = true ∧ s.mgt.uartRx = (255, true) :: [] :=
  ⟨(wMgt fun m => { m with uartRx := [(255, true)] }), by decide +kernel⟩
theorem witness_uartRxPop_3 : ∃ s : State, s.RegsOk ∧ s.coresRun = false :=
  ⟨wNoM, by decide +kernel⟩
theorem witness_uartTxByteSent : ∃ s : State, s.RegsOk :=
  ⟨wUp, by decide +kernel⟩
theorem witness_commandRights : ∃ (s : State) (a : Nat) (v : Word), commandPath a = true ∧ injReg a = true ∧ a ≠ A.KEY_CMD :=
  ⟨wUp, A.INJ_CMD, 1, by decide +kernel⟩
theorem witness_writeRefused : ∃ (s : State) (path : Path) (a : Nat) (v : Word), s.served = true ∧ busBad a 4 = false ∧ s.mayWrite path a v = false ∧ (path ≠ .spi ∨ a ≠ A.DSC_REALIGN_CMD) :=
  ⟨wUp, .spi, A.KPR_VOTE_CFG, 7, by decide +kernel⟩
theorem witness_writeRefused_2 : ∃ (s : State) (path : Path) (a : Nat) (v : Word), s.served = true ∧ busBad a 4 = false ∧ s.mayWrite path a v = false ∧ path = .spi ∧ a = A.DSC_REALIGN_CMD ∧ vbit v 8 = true ∧ s.Room Ev.DSC_REALIGN_REFUSED :=
  ⟨wUp, .spi, A.DSC_REALIGN_CMD, 0x100, by decide +kernel⟩

def wClr (ph : Nat) : State := wUp.modClr fun c => { c with phase := ph }
def wPairUp (role : Nat) : State := (wUp.putB F.PAR_CFG_PAIR_EN true).put F.PAR_STAT_ROLE role
theorem witness_cellarEnter : ∃ (s : State) (p : Path), s.RegsOk ∧ s.clr.phase = cpAwake ∧ s.loaded = true ∧ ((p ≠ .spi ∨ s.flag F.MGT_SPI_CFG_WRITE = true)) ∧ (s.isActive && s.pairEn) = true :=
  ⟨(wPairUp 1), .mgt, by decide +kernel⟩
theorem witness_cellarEnter_2 : ∃ (s : State) (p : Path), s.RegsOk ∧ s.clr.phase = cpAwake ∧ s.loaded = true ∧ ((p ≠ .spi ∨ s.flag F.MGT_SPI_CFG_WRITE = true)) ∧ (s.isActive && s.pairEn) = false ∧ s.dsc.realign.isSome = true :=
  ⟨({ wPairUp 2 with dsc := { wUp.dsc with realign := some ⟨true, 0, 65536, 5, 0, true⟩ } }), .mgt, by decide +kernel⟩
theorem witness_cellarEnter_3 : ∃ (s : State) (p : Path), s.RegsOk ∧ s.clr.phase = cpAwake ∧ s.loaded = true ∧ ((p ≠ .spi ∨ s.flag F.MGT_SPI_CFG_WRITE = true)) ∧ (s.isActive && s.pairEn) = false ∧ s.dsc.realign = none ∧ s.inj.points = [] ∧ s.Room Ev.CLR_CELLAR_ENTER :=
  ⟨(wPairUp 2), .mgt, by decide +kernel⟩
theorem witness_cellarEnter_4 : ∃ (s : State) (p : Path), s.RegsOk ∧ s.clr.phase = cpAwake ∧ s.loaded = true ∧ ((p ≠ .spi ∨ s.flag F.MGT_SPI_CFG_WRITE = true)) :=
  ⟨(wUp.putB F.MGT_SPI_CFG_WRITE true), .spi, by decide +kernel⟩
theorem witness_cellarEnterIgnored : ∃ s : State, s.flag F.MGT_SPI_CFG_WRITE = false ∧ (s.clr.phase ≠ cpAwake ∨ s.loaded = false) :=
  ⟨(wClr cpDrain), by decide +kernel⟩
theorem witness_drainComplete : ∃ s : State, s.RegsOk ∧ s.clr.phase = cpDrain ∧ s.drained = true :=
  ⟨(wClr cpDrain), by decide +kernel⟩
def wEnC : TwvCmd := ⟨0, 5, 2, [], 19, [], []⟩
def wEnD : State := ((wClr cpDrain).modClr fun c => { c with enter := some wEnC }).modMgt fun m => { m with journal := [wEnC] }
theorem witness_drainComplete_2 : ∃ s : State, s.RegsOk ∧ s.clr.phase = cpDrain ∧ s.drained = true ∧ s.clr.enter = some wEnC :=
  ⟨wEnD, by decide +kernel⟩
theorem witness_drainComplete_3 : ∃ s : State, s.RegsOk ∧ (s.clr.phase ≠ cpDrain ∨ s.drained = false) :=
  ⟨wUp, by decide +kernel⟩
theorem witness_drainTimeout : ∃ s : State, s.RegsOk ∧ s.clr.phase = cpDrain ∧ s.hasVoted = true ∧ s.clr.enter = none ∧ s.Room Ev.CLR_CELLAR_ABORT :=
  ⟨(wClr cpDrain), by decide +kernel⟩
theorem witness_drainTimeout_2 : ∃ s : State, s.RegsOk ∧ s.clr.phase = cpDrain ∧ s.clr.enter = some wEnC :=
  ⟨wEnD, by decide +kernel⟩
theorem witness_drainTimeout_3 : ∃ s : State, s.RegsOk ∧ s.clr.phase ≠ cpDrain :=
  ⟨wUp, by decide +kernel⟩
theorem witness_snapshotSaved : ∃ s : State, s.RegsOk ∧ s.clr.phase = cpSave ∧ s.dramBusy = false :=
  ⟨(wClr cpSave), by decide +kernel⟩
theorem witness_snapshotSaved_2 : ∃ s : State, s.RegsOk ∧ (s.clr.phase ≠ cpSave ∨ s.dramBusy = true) :=
  ⟨wUp, by decide +kernel⟩
theorem witness_wakeNAssert : ∃ s : State, s.RegsOk ∧ s.clr.vaux = true ∧ s.clr.phase = cpCellar :=
  ⟨(wClr cpCellar), by decide +kernel⟩
theorem witness_wakeNAssert_2 : ∃ s : State, s.RegsOk ∧ s.clr.vaux = true ∧ (s.clr.phase = cpDrain ∨ s.clr.phase = cpSave) ∧ s.clr.enter = none :=
  ⟨(wClr cpSave), by decide +kernel⟩
theorem witness_wakeNAssert_3 : ∃ s : State, s.RegsOk ∧ (s.clr.vaux = false ∨ s.clr.phase = cpAwake ∨ s.clr.phase = cpWaking) :=
  ⟨wUp, by decide +kernel⟩
theorem witness_wakeTimerExpiry : ∃ s : State, s.Canon ∧ s.flag F.CLR_CFG_TIMER = true ∧ s.get F.CLR_WAKE_AT_SEC ≠ 0 ∧ s.clr.vaux = true ∧ s.clr.phase = cpCellar :=
  ⟨(((wClr cpCellar).putB F.CLR_CFG_TIMER true).put F.CLR_WAKE_AT_SEC 900), canonOf _ (by decide +kernel), by decide +kernel⟩
theorem witness_wakeTimerExpiry_2 : ∃ s : State, s.Canon ∧ (s.flag F.CLR_CFG_TIMER = false ∨ s.get F.CLR_WAKE_AT_SEC = 0) :=
  ⟨(wClr cpCellar), canonOf _ (by decide +kernel), by decide +kernel⟩
def wWak : State := (wClr cpWaking).modClr fun c => { c with snap := some wUp.snapshot, snapOk := true }
theorem witness_wakeComplete : ∃ (s : State) (ms : Nat) (i r : Bool) (nak : List (Option (Fin 64))), s.Canon ∧ s.clr.phase = cpWaking ∧ s.clr.snap = some wUp.snapshot ∧ s.clr.snapOk = true ∧ s.clr.snapFail = false :=
  ⟨wWak, 5, true, true, [], canonOf _ (by decide +kernel), by decide +kernel⟩
theorem witness_wakeComplete_2 : ∃ (s : State) (ms : Nat) (i r : Bool) (nak : List (Option (Fin 64))), s.Canon ∧ s.clr.phase = cpWaking ∧ (s.clr.snapOk && !s.clr.snapFail && i && r) = false ∧ s.cellarPowered = true :=
  ⟨wWak, 5, false, true, [], canonOf _ (by decide +kernel), by decide +kernel⟩
theorem witness_wakeCompleteIdle : ∃ (s : State) (ms : Nat) (a b : Bool) (nak : List (Option (Fin 64))), s.clr.phase ≠ cpWaking :=
  ⟨wUp, 5, true, true, [], by decide +kernel⟩
theorem witness_clrCntSnap : ∃ s : State, s.RegsOk :=
  ⟨wUp, by decide +kernel⟩
theorem witness_pwrgoodFall : ∃ s : State, s.clr.phase ≠ cpCellar :=
  ⟨wUp, by decide +kernel⟩
theorem witness_pwrgoodFall_2 : ∃ s : State, s.clr.phase = cpCellar :=
  ⟨(wClr cpCellar), by decide +kernel⟩
theorem witness_twivonRestart : ∃ s : State, s.mgt.restartAt = some 9 :=
  ⟨(wUp.modMgt fun m => { m with restartAt := some 9 }), by decide +kernel⟩
theorem witness_twivonRestart_2 : ∃ s : State, s.mgt.restartAt = none :=
  ⟨wUp, by decide +kernel⟩
def wDry : State := wUp.modClr fun c => { c with vaux := false }
theorem witness_vauxFall : ∃ s : State, s.RegsOk ∧ s.clr.vaux = false :=
  ⟨wDry, by decide +kernel⟩
theorem witness_vauxFall_2 : ∃ s : State, s.RegsOk ∧ s.clr.vaux = true ∧ s.flag F.CLR_STAT_VBAT_OK = true :=
  ⟨(wUp.putB F.CLR_STAT_VBAT_OK true), by decide +kernel⟩
theorem witness_vauxFall_3 : ∃ s : State, s.RegsOk ∧ s.clr.vaux = true ∧ s.flag F.CLR_STAT_VBAT_OK = false :=
  ⟨(wUp.putB F.CLR_STAT_VBAT_OK false), by decide +kernel⟩
theorem witness_vauxRange : ∃ s : State, s.RegsOk ∧ s.mainOff = false ∧ s.Room Ev.CLR_SUPPLY ∧ s.flag F.CLR_STAT_VAUX_OK = true :=
  ⟨(wUp.putB F.CLR_STAT_VAUX_OK true), by decide +kernel⟩
theorem witness_vauxRange_2 : ∃ s : State, s.RegsOk ∧ s.mainOff = false ∧ s.Room Ev.CLR_SUPPLY ∧ s.flag F.CLR_STAT_VAUX_OK = false :=
  ⟨(wUp.putB F.CLR_STAT_VAUX_OK false), by decide +kernel⟩
theorem witness_supplyWaits : ∃ s : State, s.RegsOk ∧ s.mainOff = true ∧ s.flag F.CLR_STAT_VAUX_OK = true :=
  ⟨({ wUp.putB F.CLR_STAT_VAUX_OK true with mainOff := true }), by decide +kernel⟩
theorem witness_vbatLow : ∃ s : State, s.RegsOk ∧ s.mainOff = false ∧ s.Room Ev.CLR_SUPPLY ∧ s.flag F.CLR_STAT_VBAT_OK = true ∧ s.clr.vaux = false :=
  ⟨(wDry.putB F.CLR_STAT_VBAT_OK true), by decide +kernel⟩
theorem witness_vbatLow_2 : ∃ s : State, s.RegsOk ∧ s.mainOff = false ∧ s.Room Ev.CLR_SUPPLY ∧ s.flag F.CLR_STAT_VBAT_OK = true ∧ s.clr.vaux = true :=
  ⟨(wUp.putB F.CLR_STAT_VBAT_OK true), by decide +kernel⟩
theorem witness_vbatLow_3 : ∃ s : State, s.RegsOk ∧ s.mainOff = false ∧ s.Room Ev.CLR_SUPPLY ∧ s.flag F.CLR_STAT_VBAT_OK = false :=
  ⟨(wUp.putB F.CLR_STAT_VBAT_OK false), by decide +kernel⟩
theorem witness_vbatRestored : ∃ s : State, s.RegsOk :=
  ⟨wUp, by decide +kernel⟩
theorem witness_tamperTrigger : ∃ (s : State) (src : Fin 2048), s.RegsOk ∧ natAnd src s.armed ≠ 0 ∧ s.mainOff = false ∧ s.clr.phase = cpAwake :=
  ⟨(wUp.put F.KEY_TAMPER_CFG_ARM_IN 15), 3, by decide +kernel⟩
theorem witness_tamperWakes : ∃ (s : State) (src : Fin 2048), s.RegsOk ∧ natAnd src s.armed ≠ 0 ∧ s.flag F.CLR_CFG_TAMPER = true ∧ s.clr.vaux = true ∧ s.clr.phase = cpCellar :=
  ⟨(((wClr cpCellar).putB F.CLR_CFG_TAMPER true).put F.KEY_TAMPER_CFG_ARM_IN 15), 3, by decide +kernel⟩
theorem witness_tamperTrigger_2 : ∃ (s : State) (src : Fin 2048), s.RegsOk ∧ natAnd src s.armed = 0 :=
  ⟨wUp, 0, by decide +kernel⟩

/-- At a tick boundary. -/
def wTick18 : State := { wUp with tickAt := some wUp.now }
theorem witness_pathDelayMonitor : ∃ (s : State) (v : Fin 65536), s.RegsOk ∧ s.atTick = true ∧ s.curTick % 64 = 0 ∧ s.curTick ≠ s.age.pdmTick :=
  ⟨wTick18, 700, by decide +kernel⟩
def wOff : State := { wUp with nextTick := 65538 }
theorem witness_pathDelayMonitor_2 : ∃ (s : State) (v : Fin 65536), s.RegsOk ∧ (s.atTick = false ∨ s.curTick % 64 ≠ 0 ∨ s.curTick = s.age.pdmTick) :=
  ⟨wOff, 700, by decide +kernel⟩
def wTj (s : State) : State := s.modAge fun a => { a with tjMax := some 12800, target := 150 }
theorem witness_eqHoursUpdate : ∃ (s : State) (m : Int), s.RegsOk ∧ s.age.tjMax = some m ∧ s.Room Ev.AGE_LIFE ∧ s.atTick = true ∧ s.curTick % 4096 = 0 ∧ s.curTick ≠ s.age.eqTick :=
  ⟨(wTj wTick18), 12800, by decide +kernel⟩
theorem witness_eqHoursUpdate_2 : ∃ (s : State) (m : Int), s.RegsOk ∧ s.age.tjMax = some m ∧ s.Room Ev.AGE_LIFE ∧ (s.atTick = false ∨ s.curTick % 4096 ≠ 0 ∨ s.curTick = s.age.eqTick) :=
  ⟨(wTj wOff), 12800, by decide +kernel⟩
theorem witness_marginPlan : ∃ s : State, s.RegsOk ∧ s.atTick = true ∧ s.curTick % 65536 = 0 ∧ s.curTick ≠ s.age.planTick :=
  ⟨wTick18, by decide +kernel⟩
theorem witness_marginPlan_2 : ∃ s : State, s.RegsOk ∧ (s.atTick = false ∨ s.curTick % 65536 ≠ 0 ∨ s.curTick = s.age.planTick) :=
  ⟨wOff, by decide +kernel⟩
theorem witness_avsStep : ∃ (s : State) (ack : Bool), s.RegsOk ∧ s.flag F.AGE_CFG_AVS_MODE = false ∧ s.age.target ≤ 200 ∧ s.atTick = true ∧ s.curTick % 64 = 0 ∧ s.curTick ≠ s.age.avsTick ∧ s.get F.AGE_AVS_VID < s.age.target :=
  ⟨((wTj wTick18).put F.AGE_AVS_VID 148), true, by decide +kernel⟩
theorem witness_avsStep_2 : ∃ (s : State) (ack : Bool), s.RegsOk ∧ s.flag F.AGE_CFG_AVS_MODE = false ∧ s.age.target ≤ 200 ∧ s.atTick = true ∧ s.curTick % 64 = 0 ∧ s.curTick ≠ s.age.avsTick ∧ s.age.target ≤ s.get F.AGE_AVS_VID :=
  ⟨((wTj wTick18).put F.AGE_AVS_VID 160), true, by decide +kernel⟩
theorem witness_avsStep_3 : ∃ (s : State) (ack : Bool), s.RegsOk ∧ s.flag F.AGE_CFG_AVS_MODE = false ∧ s.age.target ≤ 200 ∧ (s.atTick = false ∨ s.curTick % 64 ≠ 0 ∨ s.curTick = s.age.avsTick) :=
  ⟨(wTj wOff), true, by decide +kernel⟩
def wPmb : State := (((wTj wTick18).put F.AGE_AVS_VID 148).putB F.AGE_CFG_AVS_MODE true).modAge fun a => { a with linear := some 3 }
theorem witness_avsPmbus : ∃ (s : State) (n : Nat), s.RegsOk ∧ s.flag F.AGE_CFG_AVS_MODE = true ∧ s.age.linear = some n ∧ s.age.target ≤ 200 ∧ s.atTick = true ∧ s.curTick % 64 = 0 ∧ s.curTick ≠ s.age.avsTick ∧ s.get F.AGE_AVS_VID < s.age.target ∧ s.Room Ev.AGE_AVS :=
  ⟨wPmb, 3, by decide +kernel⟩
def wInj (l : List InjPoint) : State := (wUp.put F.INJ_CFG_CLASS_EN 0xFFFF).modInj fun i => { i with points := l }
theorem witness_injArm : ∃ (s : State) (cmd a0 a1 : Word) (k : Fin 79228162514264337593543950336), let pt := cmd.toNat % 256; let inst := cmd.toNat / 256 % 256; s.RegsOk ∧ s.injCause pt inst a0.toNat a1.toNat ≠ 0 :=
  ⟨wUp, 0x31, 0, 0, 0, by decide +kernel⟩
theorem witness_injArm_2 : ∃ (s : State) (cmd a0 a1 : Word) (k : Fin 79228162514264337593543950336), let pt := cmd.toNat % 256; let inst := cmd.toNat / 256 % 256; s.RegsOk ∧ s.injCause pt inst a0.toNat a1.toNat = 0 :=
  ⟨(wInj []), 0x0131, 0, 4, ⟨kt96Of (wUp.now + 5) + 65536 * 1000000000, by decide +kernel⟩, by decide +kernel⟩
theorem witness_injArm_3 : ∃ (s : State) (cmd a0 a1 : Word) (k : Fin 79228162514264337593543950336), let pt := cmd.toNat % 256; let inst := cmd.toNat / 256 % 256; s.RegsOk ∧ s.injCause pt inst a0.toNat a1.toNat = 0 :=
  ⟨(wInj []), 0x0131, 0, 4, 0, by decide +kernel⟩
def wPt (f : Bool) (n : Nat) : InjPoint := ⟨0x31, 1, 0, 4, wUp.now + 77, f, n, 5⟩
theorem witness_injCauses : ∃ (s : State) (pt inst a0 a1 : Nat), pt < 256 ∧ s.bit F.INJ_CFG_CLASS_EN (pt / 16) = false :=
  ⟨wUp, 0x31, 1, 0, 4, by decide +kernel⟩
theorem witness_injCauses_2 : ∃ (s : State) (pt inst a0 a1 : Nat), pt < 256 ∧ s.bit F.INJ_CFG_CLASS_EN (pt / 16) = true ∧ s.flag F.INJ_CFG_DOUBLE_EN = false ∧ (∃ q ∈ s.inj.points, q.point / 16 = pt / 16) :=
  ⟨(wInj [wPt false 4]), 0x31, 2, 0, 4, by decide +kernel⟩
theorem witness_injCauses_3 : ∃ (s : State) (pt inst a0 a1 : Nat), pt < 256 ∧ s.injCause pt inst a0 a1 = 0 :=
  ⟨(wInj []), 0x31, 2, 0, 4, by decide +kernel⟩
theorem witness_injDisarm : ∃ (s : State) (pt inst : Byte), s.RegsOk ∧ s.inj.points.Nodup :=
  ⟨(wInj [wPt false 4]), 0x31, 1, by decide +kernel⟩
theorem witness_injDisarmAll : ∃ (s : State) (pt inst : Byte), s.RegsOk :=
  ⟨(wInj [wPt true 4]), 0, 0, by decide +kernel⟩
theorem witness_injFire : ∃ (s : State) (pt inst : Byte), s.RegsOk ∧ s.injPoint pt.toNat inst.toNat false = some (wPt false 4) ∧ pt.toNat ∈ heldPoints :=
  ⟨(wInj [wPt false 4]), 0x31, 1, by decide +kernel⟩
theorem witness_injFire_2 : ∃ (s : State) (pt inst : Byte), s.RegsOk ∧ s.injPoint pt.toNat inst.toNat false = none :=
  ⟨(wInj [wPt true 4]), 0x31, 1, by decide +kernel⟩
theorem witness_injEnd : ∃ (s : State) (pt inst : Byte), s.RegsOk ∧ s.injPoint pt.toNat inst.toNat true = some (wPt true 0) ∧ injLife pt.toNat = some .counted ∧ pt.toNat ∈ heldPoints :=
  ⟨(wInj [wPt true 0]), 0x31, 1, by decide +kernel⟩
theorem witness_injEnd_2 : ∃ (s : State) (pt inst : Byte), s.RegsOk ∧ s.injPoint pt.toNat inst.toNat true = some (wPt true 4) ∧ injLife pt.toNat = some .counted ∧ pt.toNat ∈ heldPoints :=
  ⟨(wInj [wPt true 4]), 0x31, 1, by decide +kernel⟩
theorem witness_injEnd_3 : ∃ (s : State) (pt inst : Byte), s.RegsOk ∧ s.injPoint pt.toNat inst.toNat true = none :=
  ⟨(wInj [wPt false 4]), 0x31, 1, by decide +kernel⟩
def wPtL : InjPoint := ⟨0x30, 1, 0, 4, wUp.now, true, 4, 5⟩
theorem witness_injEnd_4 : ∃ (s : State) (pt inst : Byte), s.RegsOk ∧ s.injPoint pt.toNat inst.toNat true = some wPtL ∧ injLife pt.toNat = some (.lasts 68719476736) ∧ pt.toNat ∈ heldPoints :=
  ⟨(wInj [wPtL]), 0x30, 1, by decide +kernel⟩

end Sys2Proof.Tests
end

section
/-!
PROOFS. The EB8 codes of R19 and their encoder (R20): the code of a bound is the least code whose value is not below it, which
follows from the encoder's closed form and from the values growing with the codes.
-/
namespace Sys2Proof.Machine

open Sys2Proof

/-! ### Values of codes (R19) -/

/-- The mantissa may reach 8 here: that code is the first of the next exponent, and the formula carries over. -/
theorem eb8Value_code {e m : Nat} (hm : m ≤ 8) : eb8Value (8 * e + m) = (8 + m) * 2 ^ (e + 1) := by
  rcases Nat.lt_or_eq_of_le hm with h | rfl
  · rw [eb8Value, show (8 * e + m) % 8 = m by omega, show (8 * e + m) / 8 = e by omega, Nat.pow_succ, Nat.mul_assoc]
  · rw [eb8Value, show (8 * e + 8) % 8 = 0 by omega, show (8 * e + 8) / 8 = e + 1 by omega]
    omega

theorem eb8Value_lt_succ (c : Nat) : eb8Value c < eb8Value (c + 1) := by
  obtain ⟨e, m, hm, rfl⟩ : ∃ e m, m < 8 ∧ c = 8 * e + m := ⟨c / 8, c % 8, by omega, by omega⟩
  rw [Nat.add_assoc, eb8Value_code (Nat.le_of_lt hm), eb8Value_code hm]
  exact Nat.mul_lt_mul_of_pos_right (by omega) (Nat.two_pow_pos _)

theorem eb8Value_lt {c d : Nat} (h : c < d) : eb8Value c < eb8Value d := by
  induction d with
  | zero => omega
  | succ d ih =>
    rcases Nat.lt_succ_iff_lt_or_eq.1 h with hlt | rfl
    · exact Nat.lt_trans (ih hlt) (eb8Value_lt_succ d)
    · exact eb8Value_lt_succ c

theorem eb8Value_le {c d : Nat} (h : c ≤ d) : eb8Value c ≤ eb8Value d := by
  rcases Nat.lt_or_eq_of_le h with hlt | rfl
  · exact Nat.le_of_lt (eb8Value_lt hlt)
  · exact Nat.le_refl _

theorem eb8Value_max : eb8Value 0xFE = 3758096384 * 16 := by decide
theorem eb8Value_min : eb8Value 0x00 = 16 := by decide

/-! ### The encoder (R20) -/

theorem eb8Of_above {u : Nat} (h : 3758096384 * 16 < u) : eb8Of u = 0xFF := by
  rw [eb8Of, if_neg (show ¬ u ≤ 16 by omega), if_pos (show u > 14 * 2 ^ 32 by omega), ite_self]

theorem eb8Of_small {u : Nat} (h : u ≤ 16) : eb8Of u = 0 := by
  rw [eb8Of, if_neg (show ¬ u ≥ bndUnbounded by simp only [bndUnbounded]; omega), if_pos h]

theorem eb8Of_unbounded : eb8Of bndUnbounded = 0xFF := if_pos (Nat.le_refl _)

/-- Between 8 and 16 steps `d`, the steps that cover `u` are 8 to 16 in number and exceed it by less than one. -/
theorem divUp_between {u d : Nat} (hlo : 8 * d ≤ u) (hhi : u < 16 * d) :
    ∃ m ≤ 8, (u + d - 1) / d = 8 + m ∧ u ≤ (8 + m) * d ∧ (8 + m) * d < u + d := by
  have hd : 0 < d := by omega
  have hq8 : 8 ≤ (u + d - 1) / d := (Nat.le_div_iff_mul_le hd).2 (by omega)
  have hq16 : (u + d - 1) / d < 17 := (Nat.div_lt_iff_lt_mul hd).2 (by omega)
  have hdiv := Nat.div_add_mod' (u + d - 1) d
  have hmod := Nat.mod_lt (u + d - 1) hd
  obtain ⟨m, hm⟩ := Nat.exists_eq_add_of_le hq8
  rw [hm] at hdiv
  exact ⟨m, by omega, hm, by omega, by omega⟩

/-- In range the encoder rounds the bound up to a whole number of its binade's steps: `8 + m` steps of `2 ^ (e + 1)`. -/
theorem eb8Of_inRange {u : Nat} (hlo : 16 < u) (hhi : u ≤ 3758096384 * 16) :
    ∃ e m, m ≤ 8 ∧ eb8Of u = 8 * e + m ∧ 8 * 2 ^ (e + 1) ≤ u ∧ u ≤ (8 + m) * 2 ^ (e + 1) ∧ (8 + m) * 2 ^ (e + 1) < u + 2 ^ (e + 1) := by
  have hlog : 4 ≤ u.log2 := (Nat.le_log2 (by omega)).2 (by omega)
  obtain ⟨e, he⟩ := Nat.exists_eq_add_of_le' hlog
  have hbelow : 8 * 2 ^ (e + 1) ≤ u := calc
    8 * 2 ^ (e + 1) = 2 ^ (3 + (e + 1)) := (Nat.pow_add 2 3 (e + 1)).symm
    _ = 2 ^ u.log2 := by rw [he, show 3 + (e + 1) = e + 4 by omega]
    _ ≤ u := Nat.log2_self_le (by omega)
  have habove : u < 16 * 2 ^ (e + 1) := calc
    u < 2 ^ (u.log2 + 1) := Nat.lt_log2_self
    _ = 2 ^ (4 + (e + 1)) := by rw [he, show 4 + (e + 1) = e + 4 + 1 by omega]
    _ = 16 * 2 ^ (e + 1) := Nat.pow_add 2 4 (e + 1)
  have hcode : eb8Of u = 8 * e + ((u + 2 ^ (e + 1) - 1) / 2 ^ (e + 1) - 8) := by
    rw [eb8Of, if_neg (show ¬ u ≥ bndUnbounded by simp only [bndUnbounded]; omega), if_neg (show ¬ u ≤ 16 by omega),
      if_neg (show ¬ u > 14 * 2 ^ 32 by omega), he, Nat.add_sub_cancel]
    dsimp only
    split <;> omega
  obtain ⟨m, hm, hq, hround⟩ := divUp_between hbelow habove
  exact ⟨e, m, hm, by rw [hcode, hq, Nat.add_sub_cancel_left], hbelow, hround⟩

theorem le_eb8Value_eb8Of {u : Nat} (hu : u ≤ 3758096384 * 16) : u ≤ eb8Value (eb8Of u) := by
  rcases Nat.lt_or_ge 16 u with hlo | hsmall
  · obtain ⟨e, m, hm, hcode, -, hle, -⟩ := eb8Of_inRange hlo hu
    rwa [hcode, eb8Value_code hm]
  · rwa [eb8Of_small hsmall, eb8Value_min]

theorem eb8Value_lt_of_lt_eb8Of {u c : Nat} (hu : u ≤ 3758096384 * 16) (hc : c < eb8Of u) : eb8Value c < u := by
  rcases Nat.lt_or_ge 16 u with hlo | hsmall
  · obtain ⟨e, m, hm, hcode, hbelow, -, hlt⟩ := eb8Of_inRange hlo hu
    rw [hcode] at hc
    cases m with
    | zero => calc
        eb8Value c < eb8Value (8 * e + 0) := eb8Value_lt hc
        _ = 8 * 2 ^ (e + 1) := eb8Value_code hm
        _ ≤ u := hbelow
    | succ m => calc
        eb8Value c ≤ eb8Value (8 * e + m) := eb8Value_le (by omega)
        _ = (8 + m) * 2 ^ (e + 1) := eb8Value_code (by omega)
        _ < u := by rw [← Nat.add_assoc, Nat.succ_mul] at hlt; omega
  · rw [eb8Of_small hsmall] at hc
    omega

theorem eb8Of_le_max {u : Nat} (hu : u ≤ 3758096384 * 16) : eb8Of u ≤ 0xFE := by
  refine Nat.le_of_not_lt fun hc => ?_
  have hlt := eb8Value_lt_of_lt_eb8Of hu hc
  rw [eb8Value_max] at hlt
  omega

/-- R20: rounding up costs less than one step of the binade, an eighth of its lower end. -/
theorem eb8Value_eb8Of_lt {u : Nat} (hlo : 16 ≤ u) (hu : u ≤ 3758096384 * 16) : 8 * eb8Value (eb8Of u) < 9 * u := by
  rcases Nat.lt_or_eq_of_le hlo with hlt | rfl
  · obtain ⟨e, m, hm, hcode, hbelow, -, hstep⟩ := eb8Of_inRange hlt hu
    rw [hcode, eb8Value_code hm]
    omega
  · rw [eb8Of_small (Nat.le_refl 16), eb8Value_min]
    omega

theorem eb8Of_eb8Value {c : Nat} (hc : c ≤ 254) : eb8Of (eb8Value c) = c := by
  have hu : eb8Value c ≤ 3758096384 * 16 := eb8Value_max ▸ eb8Value_le hc
  apply Nat.le_antisymm
  · exact Nat.le_of_not_lt fun hlt => Nat.lt_irrefl _ (eb8Value_lt_of_lt_eb8Of hu hlt)
  · exact Nat.le_of_not_lt fun hlt => Nat.not_lt.2 (le_eb8Value_eb8Of hu) (eb8Value_lt hlt)

theorem eb8Codes_holds : Claims.eb8Codes :=
  ⟨fun e m _ hm => by rw [eb8Value_code (Nat.le_of_lt hm), Nat.pow_succ]; ac_rfl, eb8Value_max, eb8Value_min, eb8Of_unbounded⟩

theorem eb8Encoder_holds : Claims.eb8Encoder := fun _ =>
  ⟨fun hu => ⟨le_eb8Value_eb8Of hu, eb8Of_le_max hu, fun _ hc => eb8Value_lt_of_lt_eb8Of hu hc⟩,
    eb8Value_eb8Of_lt, fun h => eb8Of_small (Nat.le_of_lt h), eb8Of_above, eb8Of_unbounded⟩

/-- Settles O10, from the encoder's closed form in a binade and the strict growth of the codes' values. -/
theorem eb8EncodesNeverDown : Obligations.Eb8EncodesNeverDown :=
  ⟨eb8Codes_holds, eb8Encoder_holds, fun _ => eb8Of_eb8Value⟩

end Sys2Proof.Machine
end

section
/-!
PROOFS. The wide reads of R13: which wide value a register belongs to, what the latch holds after a read of a lowest word,
and that reads of the higher words answer it.
-/
namespace Sys2Proof.Machine

open Sys2Proof

/-! ### The wide value of a register -/

/-- The addresses at which a register stands, over all its indexes. -/
def RegDef.places (r : RegDef) : List Nat :=
  match r.dims with
  | [] => [r.base]
  | [(c, st)] => (List.range c).map fun i => r.base + i * st
  | (c, st) :: (c2, st2) :: _ => (List.range c).flatMap fun i => (List.range c2).map fun j => r.base + i * st + j * st2

theorem RegDef.mem_places_of_index {r : RegDef} {a : Nat} (h : (r.index a).isSome) : a ∈ r.places := by
  rcases r with ⟨base, dims, fields⟩
  by_cases hb : a < base
  · simp [RegDef.index, hb] at h
  match dims with
  | [] => simpa [RegDef.index, RegDef.places, hb] using h
  | [(c, st)] =>
    obtain ⟨hm, hc⟩ : (a - base) % st = 0 ∧ (a - base) / st < c := by simpa [RegDef.index, hb] using h
    have hd := Nat.div_add_mod' (a - base) st
    simp only [RegDef.places, List.mem_map, List.mem_range]
    exact ⟨_, hc, by omega⟩
  | (c, st) :: (c2, st2) :: _ =>
    obtain ⟨hc, hm, hc2⟩ : (a - base) / st < c ∧ (a - base) % st % st2 = 0 ∧ (a - base) % st / st2 < c2 := by
      simpa [RegDef.index, hb] using h
    have hd := Nat.div_add_mod' (a - base) st
    have hd2 := Nat.div_add_mod' ((a - base) % st) st2
    simp only [RegDef.places, List.mem_flatMap, List.mem_map, List.mem_range]
    exact ⟨_, hc, _, hc2, by omega⟩

/-- An answer of the table is a place of one of its registers, with the address asked for among its words. -/
theorem index_of_wideIn {a low n : Nat} : ∀ {l : List (RegDef × Nat)}, wideIn a l = some (low, n) →
    ∃ r, (r, n) ∈ l ∧ (r.index low).isSome ∧ ∃ i < n, a = low + 4 * i
  | (r, m) :: l, h => by
    unfold wideIn at h
    split at h
    · next i hi =>
      obtain ⟨rfl, rfl⟩ : a - 4 * i = low ∧ m = n := by simpa using h
      obtain ⟨hle, hindex⟩ : 4 * i ≤ a ∧ (r.index (a - 4 * i)).isSome := by simpa using List.find?_some hi
      have hlt : i < m := List.mem_range.1 (List.mem_of_find?_eq_some hi)
      exact ⟨r, by simp, hindex, i, hlt, by omega⟩
    · obtain ⟨r', hmem, hr'⟩ := index_of_wideIn h
      exact ⟨r', List.mem_cons_of_mem _ hmem, hr'⟩

/-- Every word of a value in the table has an answer. -/
theorem wideIn_isSome {r : RegDef} {low n i : Nat} (hlow : (r.index low).isSome) (hi : i < n) :
    ∀ {l : List (RegDef × Nat)}, (r, n) ∈ l → (wideIn (low + 4 * i) l).isSome
  | (r', m) :: l, hmem => by
    unfold wideIn
    split
    · rfl
    · next hnone =>
      rcases List.mem_cons.1 hmem with heq | htail
      · obtain ⟨rfl, rfl⟩ : r = r' ∧ n = m := by simpa using heq
        have hno := List.find?_eq_none.1 hnone i (List.mem_range.2 hi)
        simp [hlow] at hno
      · exact wideIn_isSome hlow hi htail

/-- Every wide value: its lowest register and its number of words. -/
def wideValues : List (Nat × Nat) := wideRegs.flatMap fun p => p.1.places.map fun a => (a, p.2)

/-- A wide value put in its place by address. -/
def insertByAddress (p : Nat × Nat) : List (Nat × Nat) → List (Nat × Nat)
  | [] => [p]
  | q :: l => if p.1 ≤ q.1 then p :: q :: l else q :: insertByAddress p l

theorem mem_insertByAddress {p x : Nat × Nat} {l : List (Nat × Nat)} : x ∈ insertByAddress p l ↔ x = p ∨ x ∈ l := by
  induction l with
  | nil => simp only [insertByAddress, List.mem_cons]
  | cons q l ih =>
    unfold insertByAddress
    split
    · simp only [List.mem_cons]
    · simp only [List.mem_cons, ih, or_left_comm]

theorem mem_foldr_insertByAddress {x : Nat × Nat} {l : List (Nat × Nat)} : x ∈ l.foldr insertByAddress [] ↔ x ∈ l := by
  induction l with
  | nil => exact Iff.rfl
  | cons p l ih => rw [List.foldr_cons, mem_insertByAddress, ih, List.mem_cons]

/-- The values begin at address `a` or above, and each ends before the next begins. -/
def disjointFrom (a : Nat) : List (Nat × Nat) → Bool
  | [] => true
  | p :: l => decide (a ≤ p.1) && disjointFrom (p.1 + 4 * p.2) l

theorem disjointFrom_cons {a : Nat} {p : Nat × Nat} {l : List (Nat × Nat)} :
    disjointFrom a (p :: l) = true ↔ a ≤ p.1 ∧ disjointFrom (p.1 + 4 * p.2) l = true := by
  rw [disjointFrom, Bool.and_eq_true, decide_eq_true_iff]

theorem le_of_disjointFrom {p : Nat × Nat} : ∀ {l : List (Nat × Nat)} {a : Nat}, disjointFrom a l = true → p ∈ l → a ≤ p.1
  | q :: l, a, h, hp => by
    obtain ⟨hq, hl⟩ := disjointFrom_cons.1 h
    rcases List.mem_cons.1 hp with rfl | htail
    · exact hq
    · have := le_of_disjointFrom hl htail
      omega

theorem apart_of_disjointFrom {p q : Nat × Nat} : ∀ {l : List (Nat × Nat)} {a : Nat}, disjointFrom a l = true → p ∈ l → q ∈ l →
    p = q ∨ p.1 + 4 * p.2 ≤ q.1 ∨ q.1 + 4 * q.2 ≤ p.1
  | r :: l, a, h, hp, hq => by
    obtain ⟨-, hl⟩ := disjointFrom_cons.1 h
    rcases List.mem_cons.1 hp with hpr | hpl <;> rcases List.mem_cons.1 hq with hqr | hql
    · exact .inl (hpr.trans hqr.symm)
    · exact .inr (.inl (hpr ▸ le_of_disjointFrom hl hql))
    · exact .inr (.inr (hqr ▸ le_of_disjointFrom hl hpl))
    · exact apart_of_disjointFrom hl hpl hql

/-- In the order of their addresses each wide value of the register tables ends before the next begins. -/
theorem wideValues_disjoint : disjointFrom 0 (wideValues.foldr insertByAddress []) = true := by decide +kernel

/-- No two wide values share a word. -/
theorem wideValues_apart {p q : Nat × Nat} (hp : p ∈ wideValues) (hq : q ∈ wideValues) :
    p = q ∨ p.1 + 4 * p.2 ≤ q.1 ∨ q.1 + 4 * q.2 ≤ p.1 :=
  apart_of_disjointFrom wideValues_disjoint (mem_foldr_insertByAddress.2 hp) (mem_foldr_insertByAddress.2 hq)

theorem mem_wideValues_of_index {r : RegDef} {low n : Nat} (hr : (r, n) ∈ wideRegs) (hlow : (r.index low).isSome) :
    (low, n) ∈ wideValues := by
  simp only [wideValues, List.mem_flatMap, List.mem_map]
  exact ⟨(r, n), hr, low, RegDef.mem_places_of_index hlow, rfl⟩

/-- A word of a wide value belongs to that value and to no other. -/
theorem wideAt_word {low n i : Nat} (h : wideAt low = some (low, n)) (hi : i < n) : wideAt (low + 4 * i) = some (low, n) := by
  obtain ⟨r, hr, hlow, -⟩ := index_of_wideIn h
  obtain ⟨p, hp⟩ := Option.isSome_iff_exists.1 (wideIn_isSome hlow hi hr)
  obtain ⟨r', hr', hlow', j, hj, hword⟩ := index_of_wideIn (low := p.1) (n := p.2) hp
  have hapart : p = (low, n) ∨ p.1 + 4 * p.2 ≤ low ∨ low + 4 * n ≤ p.1 :=
    wideValues_apart (mem_wideValues_of_index hr' hlow') (mem_wideValues_of_index hr hlow)
  have heq : p = (low, n) := hapart.resolve_right (by omega)
  rw [wideAt, hp, heq]

/-! ### Plain reads -/

/-- The registers whose reads are not plain: the console's (R454) and the destructive ones (R12). -/
def queueRegs : List Nat :=
  [A.MGT_UART_TX, A.MGT_UART_RX_PEEK, A.MGT_UART_STAT, A.MGT_UART_RX_POP, A.EVT_POP, A.BND_TRACE_POP, A.SVC_JNL_POP, A.TIC_FQ_POP]

theorem wideAt_queueRegs : ∀ a ∈ queueRegs, wideAt a = none := by decide +kernel

theorem consoleReg_of_not_mem {a : Nat} (h : a ∉ queueRegs) : consoleReg a = false := by
  simp only [queueRegs, List.mem_cons, not_or] at h
  simp [consoleReg, h]

theorem popRead_of_not_mem (s : State) {a : Nat} (h : a ∉ queueRegs) : s.popRead a = none := by
  simp only [queueRegs, List.mem_cons, not_or] at h
  simp [State.popRead, h]

/-- A read of a register of a wide value: the lowest word latches the others, a higher word answers the latch. -/
theorem readReg_of_wideAt (s : State) (path : Path) {a low n : Nat} (h : wideAt a = some (low, n)) :
    s.readReg path a = if a = low then (s.liveWord a, s.latchWide low n)
      else (((s.latch.find? fun e => e.1 == a).map (·.2)).getD (s.liveWord a), s) := by
  have hplain : a ∉ queueRegs := fun hmem => by simp [wideAt_queueRegs a hmem] at h
  simp [State.readReg, consoleReg_of_not_mem hplain, popRead_of_not_mem s hplain, h]

/-! ### The latch -/

/-- A read of a lowest word drops what the latch held for the higher words and puts in the words as they are then. -/
theorem mem_latchWide {s : State} {low n : Nat} {e : Nat × Word} : e ∈ (s.latchWide low n).latch ↔
    (e ∈ s.latch ∧ ∀ j, j + 1 < n → e.1 ≠ low + 4 * (j + 1)) ∨ ∃ j, j + 1 < n ∧ e = (low + 4 * (j + 1), s.liveWord (low + 4 * (j + 1))) := by
  simp only [State.latchWide, List.mem_append, List.mem_filter, List.mem_map, List.mem_range, Nat.lt_sub_iff_add_lt]
  refine or_congr (and_congr_right fun _ => ?_) (exists_congr fun j => and_congr_right fun _ => eq_comm)
  simp [Nat.lt_sub_iff_add_lt, eq_comm (a := e.1)]

/-- After a read of its lowest word the latch holds each higher word as it was at the read, whatever it held before. -/
theorem find?_latchWide (s : State) (low : Nat) {n i : Nat} (hpos : 0 < i) (hi : i < n) :
    (s.latchWide low n).latch.find? (fun e => e.1 == low + 4 * i) = some (low + 4 * i, s.liveWord (low + 4 * i)) := by
  obtain ⟨j, rfl⟩ := Nat.exists_eq_add_of_le' hpos
  cases hfind : (s.latchWide low n).latch.find? (fun e => e.1 == low + 4 * (j + 1)) with
  | none =>
    have hno := List.find?_eq_none.1 hfind _ (mem_latchWide.2 (.inr ⟨j, hi, rfl⟩))
    simp at hno
  | some e =>
    have hkey : e.1 = low + 4 * (j + 1) := by simpa using List.find?_some hfind
    rcases mem_latchWide.1 (List.mem_of_find?_eq_some hfind) with ⟨-, hold⟩ | ⟨k, -, rfl⟩
    · exact absurd hkey (hold j hi)
    · have hkey : low + 4 * (k + 1) = low + 4 * (j + 1) := hkey
      obtain rfl : k = j := by omega
      rfl

theorem wideLatchAll_holds : Claims.wideLatchAll := by
  intro s path low n _ hwide
  have hlowest : s.readReg path low = (s.liveWord low, s.latchWide low n) := by rw [readReg_of_wideAt s path hwide, if_pos rfl]
  refine ⟨by rw [hlowest], fun u i hpos hi hlatch => ?_⟩
  rw [readReg_of_wideAt u path (wideAt_word hwide hi), if_neg (by omega), hlatch, hlowest, find?_latchWide s low hpos hi]
  rfl

/-- Settles O5: no two wide values share a word, so a higher word's read answers what the lowest word's read latched for it. -/
theorem wideReadsLatchOneInstant : Obligations.WideReadsLatchOneInstant := wideLatchAll_holds

end Sys2Proof.Machine
end

section
/-!
PROOFS. What stands of the pair of units beside the pair's own rules. Writes elsewhere leave the registers of its block (R420).
What sends a frame touches registers, ports, counters and events; what takes one in touches registers, ports and the pair's state.
-/
namespace Sys2Proof.Machine

open Sys2Proof

/-! ### Fields and registers apart from those written -/

theorem get_put_of_apart {s : State} {f g : Fld} (v : Nat) (hs : s.RegsOk)
    (h : g.addr ≠ f.addr ∨ f.lo ≤ f.hi ∧ f.hi < 32 ∧ g.lo ≤ g.hi ∧ (g.hi < f.lo ∨ f.hi < g.lo)) : (s.put f v).get g = s.get g := by
  rcases h with haddr | ⟨hf, h32, hg, hbits⟩
  · exact get_put_addr s f g v haddr hs
  · exact get_put_apart s f g v hf h32 hg hbits hs

theorem get_of_reg_eq {s t : State} {f : Fld} (h : t.reg f.addr = s.reg f.addr) : t.get f = s.get f := by
  unfold State.get; rw [h]

theorem reg_putWide_of_ne {s : State} {b : Nat} (a n v : Nat) (hs : s.RegsOk) (h : ∀ i < n, b ≠ a + 4 * i) :
    (s.putWide a n v).reg b = s.reg b := by
  induction n with
  | zero => rfl
  | succ n ih => exact (reg_setReg_other _ _ _ _ (h n n.lt_succ_self) (putWide_wf s a n v hs)).trans (ih fun i hi => h i (by omega))

theorem putWide_par (s : State) (a n v : Nat) : (s.putWide a n v).par = s.par := by
  induction n with
  | zero => rfl
  | succ n ih => exact ih

theorem get_modEvt (s : State) (g : EvtState → EvtState) (f : Fld) : (s.modEvt g).get f = s.get f := rfl

theorem get_modPar (s : State) (g : ParState → ParState) (f : Fld) : (s.modPar g).get f = s.get f := rfl

/-! ### Writes below the pair's block -/

/-- From canonical registers the registers stay canonical, and those from the pair's block up stand. -/
def State.PairRegsKept (s t : State) : Prop := s.RegsOk → t.RegsOk ∧ ∀ a, A.PAR_STAT ≤ a → t.reg a = s.reg a

theorem State.PairRegsKept.trans {s t u : State} (h : s.PairRegsKept t) (k : t.PairRegsKept u) : s.PairRegsKept u := fun hs =>
  have ⟨ht, hreg⟩ := h hs
  have ⟨hu, kreg⟩ := k ht
  ⟨hu, fun a ha => (kreg a ha).trans (hreg a ha)⟩

theorem State.PairRegsKept.get_eq {s t : State} (h : s.PairRegsKept t) (hs : s.RegsOk) {f : Fld} (hf : A.PAR_STAT ≤ f.addr) :
    t.get f = s.get f := get_of_reg_eq ((h hs).2 _ hf)

theorem pairRegsKept_of_regs_eq {s t : State} (h : t.regs = s.regs) : s.PairRegsKept t := fun hs =>
  ⟨by rwa [State.RegsOk, h], fun a _ => by rw [State.reg, h]; rfl⟩

theorem pairRegsKept_put (s : State) {f : Fld} (v : Nat) (hf : f.addr < A.PAR_STAT) : s.PairRegsKept (s.put f v) := fun hs =>
  ⟨put_wf s f v hs, fun _ ha => reg_setReg_other _ _ _ _ (by omega) hs⟩

/-! ### What sends -/

/-- Nothing but registers below the pair's block, ports, counters and events moves. -/
structure State.PortsOnly (s t : State) : Prop where
  regs : s.PairRegsKept t
  frame : t = { s with regs := t.regs, prt := t.prt, cnt := t.cnt, evt := t.evt }

theorem State.PortsOnly.refl (s : State) : s.PortsOnly s := ⟨pairRegsKept_of_regs_eq rfl, rfl⟩

theorem State.PortsOnly.trans {s t u : State} (h : s.PortsOnly t) (k : t.PortsOnly u) : s.PortsOnly u :=
  ⟨h.regs.trans k.regs, k.frame.trans (by rw [h.frame])⟩

theorem State.PortsOnly.par_eq {s t : State} (h : s.PortsOnly t) : t.par = s.par := by rw [h.frame]

theorem portsOnly_put (s : State) {f : Fld} (v : Nat) (hf : f.addr < A.PAR_STAT) : s.PortsOnly (s.put f v) :=
  ⟨pairRegsKept_put s v hf, rfl⟩

theorem portsOnly_modPrt (s : State) (f : PrtState → PrtState) : s.PortsOnly (s.modPrt f) := ⟨pairRegsKept_of_regs_eq rfl, rfl⟩

theorem portsOnly_modPort (s : State) (p : Nat) (f : PortState → PortState) : s.PortsOnly (s.modPort p f) := portsOnly_modPrt s _

theorem portsOnly_modEvt (s : State) (f : EvtState → EvtState) : s.PortsOnly (s.modEvt f) := ⟨pairRegsKept_of_regs_eq rfl, rfl⟩

theorem portsOnly_countUp (s : State) (a n width : Nat) : s.PortsOnly (s.countUp a n width) := ⟨pairRegsKept_of_regs_eq rfl, rfl⟩

/-- An event counts its loss in the router's block, which lies below the pair's. -/
theorem portsOnly_raise (s : State) {e : Nat} (inst detail : Nat) (he : e < 256) : s.PortsOnly (s.raise e inst detail) := by
  have hlost : (F.EVT_LOSTb_COUNT (evtBlock e)).addr < A.PAR_STAT := by simp [F.EVT_LOSTb_COUNT, A.EVT_LOSTb, A.PAR_STAT, evtBlock]; omega
  unfold State.raise
  split
  · exact portsOnly_modEvt s _
  · exact (portsOnly_modEvt s _).trans (portsOnly_put _ _ hlost)

theorem portsOnly_foldl {α : Type} (f : State → α → State) (l : List α) (hf : ∀ s : State, ∀ a ∈ l, s.PortsOnly (f s a)) (s : State) :
    s.PortsOnly (l.foldl f s) := by
  induction l generalizing s with
  | nil => exact .refl s
  | cons a l ih => exact (hf s a List.mem_cons_self).trans (ih (fun s b hb => hf s b (List.mem_cons_of_mem _ hb)) _)

theorem squashCounter_lt (cause : Nat) : (squashCounter ppPort cause).addr < A.PAR_STAT := by
  unfold squashCounter
  repeat' split
  all_goals decide

theorem portsOnly_pinSquash (s : State) (f : Pinned) (cause hint : Nat) : s.PortsOnly (s.pinSquash ppPort f cause hint) := by
  have hcounted : s.PortsOnly ((s.pinDrop ppPort f).incr (squashCounter ppPort cause)) :=
    (portsOnly_modPort s _ _).trans (portsOnly_put _ _ (squashCounter_lt cause))
  unfold State.pinSquash
  refine .trans ?_ (portsOnly_modPrt _ _)
  split
  · exact hcounted
  · exact hcounted.trans (portsOnly_countUp _ _ _ _)

theorem portsOnly_pinPaused (s : State) (f : Pinned) : s.PortsOnly (s.pinPaused ppPort f) := by
  unfold State.pinPaused
  dsimp only
  split
  · exact portsOnly_pinSquash s f _ _
  · exact .refl s

theorem portsOnly_charge (s : State) (p c len t : Nat) : s.PortsOnly (s.charge p c len t) := by
  unfold State.charge
  split
  · exact .refl s
  · exact portsOnly_modPort s _ _

theorem portsOnly_reserve (s : State) (c src e len : Nat) (rsv : Bool) (tag : Nat) :
    s.PortsOnly (s.reserve ppPort c src e len rsv tag).2 := by
  unfold State.reserve
  split
  · exact .refl s
  · extract_lets lead
    split
    · exact .refl s
    split
    · exact .refl s
    split
    · exact .refl s
    split
    · exact .refl s
    · extract_lets a slot t3 stop charged f
      have hcharged : s.PortsOnly charged := by
        unfold charged
        split
        · exact .refl s
        · exact portsOnly_charge s _ _ _ _
      exact (hcharged.trans (portsOnly_modPort _ _ _)).trans (portsOnly_pinPaused _ _)

theorem portsOnly_txRefuse (s : State) (p c cause : Nat) : s.PortsOnly (s.txRefuse p c cause) :=
  (portsOnly_countUp s _ _ _).trans (portsOnly_raise _ _ _ (by decide))

theorem portsOnly_pinFill (s : State) (src tag : Nat) (d : List Byte) : s.PortsOnly (s.pinFill ppPort src tag d) := by
  unfold State.pinFill
  split
  · dsimp only
    split
    · exact portsOnly_modPort s _ _
    · exact (portsOnly_txRefuse s _ _ _).trans (portsOnly_pinSquash _ _ _ _)
  · exact .refl s

theorem portsOnly_exchSend (s : State) (e tag : Nat) : s.PortsOnly (s.exchSend e tag) := by
  unfold State.exchSend
  dsimp only
  split
  · exact ((portsOnly_modPrt s _).trans (portsOnly_reserve _ _ _ _ _ _ _)).trans (portsOnly_pinFill _ _ _ _)
  · exact .refl s

theorem portsOnly_txQueue (s : State) (p src c : Nat) (d : List Byte) (stamp : Option Nat) (written : Nat) (acc : Option (Nat × Nat)) :
    s.PortsOnly (s.txQueue p src c d stamp written acc) := by
  unfold State.txQueue
  dsimp only
  split
  · exact portsOnly_modPort s _ _
  split
  · exact portsOnly_modPort s _ _
  split
  · exact (portsOnly_txRefuse s _ _ _).trans (portsOnly_modPrt _ _)
  split
  · exact portsOnly_modPort s _ _
  · exact portsOnly_modPrt s _

theorem portsOnly_pairSend (s : State) (ty gen seq : Nat) (payload : List Byte) : s.PortsOnly (s.pairSend ty gen seq payload) :=
  portsOnly_txQueue s _ _ _ _ _ _ _

theorem portsOnly_setQl (s : State) {n : Nat} (q : Nat) (hn : n < 16) : s.PortsOnly (s.setQl n q) := by
  have hstat : (F.REF_SLOTn_STAT_QL n).addr < A.PAR_STAT := by simp [F.REF_SLOTn_STAT_QL, A.REF_SLOTn_STAT, A.PAR_STAT]; omega
  unfold State.setQl
  dsimp only
  split
  · exact .refl s
  · exact (portsOnly_put s _ hstat).trans (portsOnly_raise _ _ _ (by decide))

/-! ### What takes in -/

/-- Nothing but registers below the pair's block, ports and the pair's own state moves. -/
structure State.Received (s t : State) : Prop where
  regs : s.PairRegsKept t
  frame : t = { s with regs := t.regs, prt := t.prt, par := t.par }

theorem State.Received.refl (s : State) : s.Received s := ⟨pairRegsKept_of_regs_eq rfl, rfl⟩

theorem State.Received.trans {s t u : State} (h : s.Received t) (k : t.Received u) : s.Received u :=
  ⟨h.regs.trans k.regs, k.frame.trans (by rw [h.frame])⟩

theorem State.Received.room {s t : State} (h : s.Received t) {e : Nat} (hroom : s.Room e) : t.Room e := by
  rw [h.frame]; exact hroom

theorem received_modPort (s : State) (p : Nat) (f : PortState → PortState) : s.Received (s.modPort p f) := ⟨pairRegsKept_of_regs_eq rfl, rfl⟩

theorem received_modPar (s : State) (f : ParState → ParState) : s.Received (s.modPar f) := ⟨pairRegsKept_of_regs_eq rfl, rfl⟩

theorem received_showFill (s : State) {q : Nat} (hq : q < 8) : s.Received (s.showFill ppPort q) :=
  ⟨pairRegsKept_put s _ (by simp [F.PRT_x_RXQq_CFG_FILL, A.PRT_x_RXQq_CFG, A.PAR_STAT, ppPort]; omega), rfl⟩

theorem received_takeRx (s : State) (consumer : Nat) (c : RxFrame → Bool) : s.Received (s.takeRx ppPort consumer c).2 := by
  unfold State.takeRx
  split
  · exact .refl s
  next q hq =>
    have hq8 : q < 8 := List.mem_range.1 (List.mem_of_find?_eq_some hq)
    have htaken (f : PortState → PortState) : s.Received ((s.modPort ppPort f).showFill ppPort q) :=
      (received_modPort s _ _).trans (received_showFill _ hq8)
    split
    · exact .refl s
    · dsimp only
      split
      · exact (htaken _).trans (received_modPort _ _ _)
      · exact htaken _

theorem received_pairTake (s : State) (ty : Nat) : s.Received (s.pairTake ty).2 := by
  have h := received_takeRx s 6 (s.isPair ty)
  unfold State.pairTake
  split <;> rename_i heq <;> rwa [heq] at h

theorem received_rxGenIs (s : State) (gen : Nat) : s.Received (s.rxGenIs gen) := by
  unfold State.rxGenIs
  split
  · exact .refl s
  · exact received_modPar s _

theorem received_takeOthers (n : Nat) (s : State) : s.Received (s.takeOthers n) := by
  induction n generalizing s with
  | zero => exact .refl s
  | succ n ih =>
    have h := received_takeRx s 6 fun f => s.isPair tyOpen f || s.isPair tyState f
    unfold State.takeOthers
    split <;> rename_i heq <;> rw [heq] at h
    · exact ((h.trans (received_rxGenIs _ _)).trans (received_modPar _ _)).trans (ih _)
    · exact h

end Sys2Proof.Machine
end

section
/-!
PROOFS. The standby's copy (R406, R409, R412): the boundaries it counts, the SEAL that commits a vintage or discards it, STALE after 16
boundaries without a commit, and EMPTY at the entry to STANDBY.
-/
namespace Sys2Proof.Machine

open Sys2Proof

/-! ### A boundary on the standby -/

/-- The boundary is noted, and where PP is UP its EXCH frame is pinned (R404). -/
def State.boundaryNoted (s : State) (e tag : Nat) : State :=
  let s0 := s.modPar fun p => { p with lastTick := s.curTick + 1 }
  if s.ppUp then s0.exchSend e tag else s0

theorem vintageBoundary_standby {s : State} (e tag : Nat) (hen : s.pairEn = true) (htick : s.atTick = true) (h64 : s.curTick % 64 = 0)
    (hlast : s.par.lastTick ≠ s.curTick + 1) (hrole : s.role = prStandby) :
    s.vintageBoundary e tag = (s.boundaryNoted e tag).incrSat F.PAR_STAT_MISSED := by
  simp [State.vintageBoundary, State.boundaryNoted, hen, htick, h64, hlast, hrole]

theorem vintageBoundary_idle {s : State} (e tag : Nat)
    (h : s.atTick = false ∨ s.curTick % 64 ≠ 0 ∨ s.par.lastTick = s.curTick + 1) : s.vintageBoundary e tag = s := by
  unfold State.vintageBoundary
  refine if_pos ?_
  rcases h with h | h | h <;> simp [h]

theorem portsOnly_boundaryNoted (s : State) (e tag : Nat) :
    (s.modPar fun p => { p with lastTick := s.curTick + 1 }).PortsOnly (s.boundaryNoted e tag) := by
  unfold State.boundaryNoted
  dsimp only
  split
  · exact portsOnly_exchSend _ _ _
  · exact .refl _

theorem get_incrSat_missed {s : State} (hs : s.RegsOk) :
    (s.incrSat F.PAR_STAT_MISSED).get F.PAR_STAT_MISSED = min (s.get F.PAR_STAT_MISSED + 1) (Claims.wid F.PAR_STAT_MISSED - 1) := by
  refine (get_put_same s _ _ (by decide) (by decide) hs).trans (Nat.mod_eq_of_lt ?_)
  exact Nat.lt_of_le_of_lt (Nat.min_le_right _ _) (by decide)

theorem exec_vintageBoundary (s : State) (e : Nat) (tag : Fin 65536) :
    exec (.vintageBoundary e tag) s = .next (s.vintageBoundary e tag) := rfl

theorem vintageMissed_holds : Claims.vintageMissed := by
  intro s e tag hs
  simp only [State.Does, exec_vintageBoundary]
  refine ⟨fun hen htick h64 hlast hrole => ⟨_, congrArg _ (vintageBoundary_standby e tag hen htick h64 hlast hrole), ?_⟩,
    fun h => congrArg _ (vintageBoundary_idle e tag h)⟩
  have hkept := portsOnly_boundaryNoted s e tag
  refine ⟨?_, hkept.par_eq, ?_⟩
  · rw [get_incrSat_missed (hkept.regs hs).1, hkept.regs.get_eq hs (by decide)]
    rfl
  · unfold State.incrSat State.put State.setReg
    rw [hkept.frame]
    rfl

/-! ### STALE -/

theorem exec_copyStale (s : State) : exec .copyStale s = .next (if s.isStandby && s.copy == cpCurrent && decide (16 ≤ s.get F.PAR_STAT_MISSED)
    then (s.put F.PAR_STAT_COPY cpStale).raise Ev.PAR_STALE noInst (s.get F.PAR_GEN_COMMIT_GEN) else s) := rfl

/-- The event carries the generation last committed whole: it has the 32 bits of DETAIL. -/
theorem raise_stale {s : State} (hroom : s.Room Ev.PAR_STALE) :
    (s.put F.PAR_STAT_COPY cpStale).raise Ev.PAR_STALE noInst (s.get F.PAR_GEN_COMMIT_GEN) =
      { s.put F.PAR_STAT_COPY cpStale with
        evt := { s.evt with q := s.evt.q ++ [⟨s.cyc, s.now, Ev.PAR_STALE, noInst, s.get F.PAR_GEN_COMMIT_GEN⟩] } } := by
  have hgen : s.get F.PAR_GEN_COMMIT_GEN % 2 ^ 32 = s.get F.PAR_GEN_COMMIT_GEN := Nat.mod_eq_of_lt (bitsOf_lt _ 31 0)
  rw [raise_room (s.put F.PAR_STAT_COPY cpStale) _ _ _ hroom.1 hroom.2, hgen]
  rfl

theorem copyStale_holds : Claims.copyStale := by
  intro s hs
  simp only [State.Does, exec_copyStale]
  constructor
  · intro hstandby hcopy h16 hroom
    refine ⟨_, congrArg _ ((if_pos (by simp [hstandby, hcopy, h16])).trans (raise_stale hroom)), ?_, rfl, fun a ha => ?_, rfl⟩
    · exact get_put_same s _ _ (by decide) (by decide) hs
    · exact reg_setReg_other s _ _ _ (List.ne_of_not_mem_cons ha) hs
  · intro h
    refine congrArg _ (if_neg ?_)
    rcases h with h | h
    · simp [h]
    · simp [Nat.not_le.2 h]

/-! ### The entry to STANDBY -/

theorem setRole_standby {s : State} (h : s.role ≠ prStandby) :
    s.setRole prStandby = ((((s.put F.PAR_STAT_ROLE prStandby).raise Ev.PAR_ROLE noInst (s.role + 16 * prStandby)).put
      F.PAR_STAT_COPY cpEmpty).put F.PAR_STAT_MISSED 0) := by
  unfold State.setRole
  rw [if_neg h]
  rfl

theorem standbyEntry_holds : Claims.standbyEntry := by
  intro s hs hrole
  rw [setRole_standby hrole]
  have hput := put_wf s F.PAR_STAT_ROLE prStandby hs
  have hraise := (portsOnly_raise (s.put F.PAR_STAT_ROLE prStandby) (e := Ev.PAR_ROLE) noInst (s.role + 16 * prStandby) (by decide)).regs
  have hraised := (hraise hput).1
  have hcopied := put_wf _ F.PAR_STAT_COPY cpEmpty hraised
  refine ⟨?_, ?_, ?_⟩
  · rw [State.role, get_put_of_apart _ hcopied (by decide), get_put_of_apart _ hraised (by decide), hraise.get_eq hput (by decide),
      get_put_same _ _ _ (by decide) (by decide) hs]
    rfl
  · rw [State.copy, get_put_of_apart _ hcopied (by decide), get_put_same _ _ _ (by decide) (by decide) hraised]
    rfl
  · exact get_put_same _ _ _ (by decide) (by decide) hcopied

/-! ### The outcome of a vintage -/

theorem vintPost_wf {s : State} (result closing : Nat) (hs : s.RegsOk) : (s.vintPost result closing).RegsOk :=
  putWide_wf _ _ _ _ (post_wf s _ _ hs)

theorem vintPost_par (s : State) (result closing : Nat) : (s.vintPost result closing).par = s.par := putWide_par _ _ _ _

/-- Posting an outcome writes PAR_VINT_RES and PAR_VINT_T only, and PAR_OFS follows them. -/
theorem get_vintPost {s : State} (result closing : Nat) (hs : s.RegsOk) {f : Fld}
    (hf : f.addr < A.PAR_VINT_RES ∨ A.PAR_OFS ≤ f.addr) : (s.vintPost result closing).get f = s.get f := by
  simp only [A.PAR_VINT_RES, A.PAR_OFS] at hf
  have hres : f.addr ≠ A.PAR_VINT_RES := by simp only [A.PAR_VINT_RES]; omega
  have hclosing : ∀ i < 3, f.addr ≠ A.PAR_VINT_T 0 + 4 * i := fun i _ => by simp only [A.PAR_VINT_T]; omega
  exact get_of_reg_eq ((reg_putWide_of_ne _ _ _ (post_wf s _ _ hs) hclosing).trans (reg_setReg_other _ _ _ _ hres hs))

theorem bitsOf_rsWord (seq : Nat) {result : Nat} (h : result < 4) : bitsOf (rsWord seq (2 * result)) 2 1 = result := by
  simp only [bitsOf, rsWord, BitVec.toNat_ofNat]
  omega

theorem result_vintPost {s : State} {result : Nat} (closing : Nat) (hs : s.RegsOk) (h : result < 4) :
    (s.vintPost result closing).get F.PAR_VINT_RES_RESULT = result := by
  have hword : (s.vintPost result closing).reg A.PAR_VINT_RES = rsWord (s.rsSeq A.PAR_VINT_RES + 1) (2 * result) :=
    (reg_putWide_of_ne _ _ _ (post_wf s _ _ hs) (by decide)).trans (reg_post s _ _ hs)
  exact (congrArg (bitsOf · 2 1) hword).trans (bitsOf_rsWord _ h)

/-! ### A vintage that fails -/

/-- What a failed vintage leaves before its event. -/
def State.vintDiscarded (s : State) (closing result : Nat) : State :=
  ((s.modPar fun p => { p with rxFrames := [], stage := [] }).incr F.PAR_DISCARDED_COUNT).vintPost result closing

theorem vintFail_room {s : State} (gen closing result : Nat) {cause : Nat} (hcause : cause < 256) (hroom : s.Room Ev.PAR_VINTAGE_FAIL) :
    s.vintFail gen closing cause result = (s.vintDiscarded closing result).modEvt fun e =>
      { e with q := e.q ++ [⟨s.cyc, s.now, Ev.PAR_VINTAGE_FAIL, noInst, cause + 256 * (gen % 2 ^ 24)⟩] } := by
  have hdetail : (cause + 256 * (gen % 2 ^ 24)) % 2 ^ 32 = cause + 256 * (gen % 2 ^ 24) := by omega
  refine (raise_room (s.vintDiscarded closing result) _ _ _ hroom.1 hroom.2).trans ?_
  rw [hdetail]
  rfl

/-- The fields that a failed vintage leaves, and those it writes. -/
theorem get_vintDiscarded {s : State} (closing : Nat) {result : Nat} (hs : s.RegsOk) (hresult : result < 4) :
    let t := s.vintDiscarded closing result
    t.get F.PAR_GEN_COMMIT_GEN = s.get F.PAR_GEN_COMMIT_GEN ∧ t.copy = s.copy ∧
    t.get F.PAR_DISCARDED_COUNT = (s.get F.PAR_DISCARDED_COUNT + 1) % Claims.wid F.PAR_DISCARDED_COUNT ∧
    t.get F.PAR_VINT_RES_RESULT = result := by
  intro t
  have hcounted : ((s.modPar fun p => { p with rxFrames := [], stage := [] }).incr F.PAR_DISCARDED_COUNT).RegsOk := put_wf _ _ _ hs
  refine ⟨?_, ?_, ?_, result_vintPost closing hcounted hresult⟩
  · exact (get_vintPost _ _ hcounted (by decide)).trans (get_put_of_apart (s := s.modPar _) _ hs (by decide))
  · exact (get_vintPost _ _ hcounted (by decide)).trans (get_put_of_apart (s := s.modPar _) _ hs (by decide))
  · exact (get_vintPost _ _ hcounted (by decide)).trans (get_put_same (s.modPar _) _ _ (by decide) (by decide) hs)

/-! ### A vintage that commits -/

theorem currentDone_regs (s : State) : s.currentDone.regs = s.regs := by
  unfold State.currentDone; split <;> rfl

theorem currentDone_insert (s : State) : s.currentDone.par.insert = s.par.insert := by
  unfold State.currentDone; split <;> rfl

theorem currentDone_stage (s : State) : s.currentDone.par.stage = s.par.stage := by
  unfold State.currentDone; split <;> rfl

theorem leapArm_kept (s : State) (direct : Option (Nat × Bool)) (withCancel : Bool) :
    s.PairRegsKept (s.leapArm direct withCancel) ∧ (s.leapArm direct withCancel).par = s.par := by
  unfold State.leapArm
  split
  · have h := portsOnly_raise s (e := Ev.KPR_LEAP_REFUSED) noInst (s.leapCause direct withCancel) (by decide)
    exact ⟨h.regs, h.par_eq⟩
  · exact ⟨pairRegsKept_of_regs_eq rfl, rfl⟩

/-- The sections of a vintage (R405) reach the keepers, the peer slots and the keys, never the pair's block. -/
theorem applySections_kept (s : State) (v : VintState) : s.PairRegsKept (s.applySections v) ∧ (s.applySections v).par = s.par := by
  unfold State.applySections
  extract_lets s1 s2 rolls
  have hleap : s.PairRegsKept s1 ∧ s1.par = s.par := by
    unfold s1
    split
    · split
      · exact ⟨pairRegsKept_of_regs_eq rfl, rfl⟩
      · exact leapArm_kept s _ _
    · exact ⟨pairRegsKept_of_regs_eq rfl, rfl⟩
  have hql : s1.PortsOnly s2 :=
    portsOnly_foldl _ _ (fun s _ hn => portsOnly_setQl s _ (List.mem_range.1 (List.mem_filter.1 hn).1)) s1
  exact ⟨(hleap.1.trans hql.regs).trans (pairRegsKept_of_regs_eq rfl), hql.par_eq.trans hleap.2⟩

/-- A vintage that commits, as far as its ACK and its sections (R405, R409). -/
def State.vintTaken (s : State) (gen : Nat) (v : VintState) : State :=
  ((s.currentDone.pairSend tyAck gen 0 (Config.pairPayload tyAck [])).countUp (A.CLR_ACCk kindVintage)).applySections v

theorem vintTaken_wf {s : State} (gen : Nat) (v : VintState) (hs : s.RegsOk) : (s.vintTaken gen v).RegsOk := by
  have hcurrent := pairRegsKept_of_regs_eq (currentDone_regs s)
  have hsent := portsOnly_pairSend s.currentDone tyAck gen 0 (Config.pairPayload tyAck [])
  have hcounted := hsent.trans (portsOnly_countUp _ (A.CLR_ACCk kindVintage) 1 64)
  exact ((hcurrent.trans hcounted.regs).trans (applySections_kept _ v).1 hs).1

theorem vintTaken_par (s : State) (gen : Nat) (v : VintState) : (s.vintTaken gen v).par = s.currentDone.par :=
  (applySections_kept _ v).2.trans (portsOnly_pairSend s.currentDone _ _ _ _).par_eq

/-- The registers that a commit writes beside its outcome. -/
def State.markCurrent (s : State) (gen : Nat) : State :=
  (((s.put F.PAR_GEN_COMMIT_GEN gen).put F.PAR_STAT_COPY cpCurrent).put F.PAR_STAT_MISSED 0).putB F.PAR_STAT_APPLYING true

theorem markCurrent_wf {s : State} (gen : Nat) (hs : s.RegsOk) : (s.markCurrent gen).RegsOk :=
  put_wf _ _ _ (put_wf _ _ _ (put_wf _ _ _ (put_wf _ _ _ hs)))

theorem get_markCurrent {s : State} (gen : Nat) (hs : s.RegsOk) :
    (s.markCurrent gen).get F.PAR_GEN_COMMIT_GEN = gen % 2 ^ 32 ∧ (s.markCurrent gen).copy = cpCurrent ∧
    (s.markCurrent gen).get F.PAR_STAT_MISSED = 0 ∧ (s.markCurrent gen).flag F.PAR_STAT_APPLYING = true := by
  have hgen := put_wf s F.PAR_GEN_COMMIT_GEN gen hs
  have hcopy := put_wf _ F.PAR_STAT_COPY cpCurrent hgen
  have hmissed := put_wf _ F.PAR_STAT_MISSED 0 hcopy
  unfold State.markCurrent State.putB
  refine ⟨?_, ?_, ?_, ?_⟩
  · rw [get_put_of_apart _ hmissed (by decide), get_put_of_apart _ hcopy (by decide), get_put_of_apart _ hgen (by decide)]
    exact get_put_same s _ _ (by decide) (by decide) hs
  · rw [State.copy, get_put_of_apart _ hmissed (by decide), get_put_of_apart _ hcopy (by decide)]
    exact get_put_same _ _ _ (by decide) (by decide) hgen
  · rw [get_put_of_apart _ hmissed (by decide)]
    exact get_put_same _ _ _ (by decide) (by decide) hcopy
  · rw [State.flag, get_put_same _ _ _ (by decide) (by decide) hmissed]
    rfl

/-- The offset from the peer is shown in PAR_OFS, where the exchange of the boundary gave one (R404). -/
def State.showOffset (s : State) (theta : Option Int) : State :=
  match theta with
  | some t => s.putWideI A.PAR_OFS 2 (satI 48 t)
  | none => s

theorem get_showOffset_of_lt {s : State} (theta : Option Int) (hs : s.RegsOk) {f : Fld} (hf : f.addr < A.PAR_OFS) :
    (s.showOffset theta).get f = s.get f := by
  unfold State.showOffset
  split
  · exact get_of_reg_eq (reg_putWide_of_ne _ _ _ hs fun i _ => by omega)
  · rfl

theorem showOffset_par (s : State) (theta : Option Int) : (s.showOffset theta).par = s.par := by
  unfold State.showOffset; split <;> rfl

/-- The offset measured at the vintage's boundary. -/
def State.thetaOf (s : State) (v : VintState) : Option Int := (s.par.thetas.find? fun p => p.1 == v.closing).map (·.2)

/-- The registers and the rest of what a commit leaves, before the pair's own state takes the vintage in. -/
def State.vintShown (s : State) (gen : Nat) (v : VintState) : State :=
  (((s.vintTaken gen v).markCurrent gen).vintPost 1 v.closing).showOffset (s.thetaOf v)

theorem vintCommit_eq (s : State) (gen : Nat) (v : VintState) :
    s.vintCommit gen v = (s.vintShown gen v).modPar fun p => { p with
      current := some (v, (s.thetaOf v).getD 0), insert := p.insert ++ p.stage.map (·.2), rxFrames := [], stage := [],
      thetas := p.thetas.filter (fun x => decide (v.closing < x.1)),
      sample := match s.thetaOf v with | some t => some (t, v.closing, v.core, v.upSeq, v.ql) | none => p.sample } := rfl

theorem vintShown_par (s : State) (gen : Nat) (v : VintState) : (s.vintShown gen v).par = s.currentDone.par :=
  (showOffset_par _ _).trans ((vintPost_par _ 1 v.closing).trans (vintTaken_par s gen v))

theorem vintCommit_par (s : State) (gen : Nat) (v : VintState) :
    (s.vintCommit gen v).par.insert = s.par.insert ++ s.par.stage.map (·.2) ∧ (s.vintCommit gen v).par.stage = [] ∧
    (s.vintCommit gen v).par.rxFrames = [] := by
  rw [vintCommit_eq, State.modPar_par, vintShown_par, currentDone_insert, currentDone_stage]
  exact ⟨rfl, rfl, rfl⟩

theorem get_vintCommit {s : State} (gen : Nat) (v : VintState) (hs : s.RegsOk) {f : Fld} (hf : f.addr < A.PAR_OFS) :
    (s.vintCommit gen v).get f = (((s.vintTaken gen v).markCurrent gen).vintPost 1 v.closing).get f := by
  rw [vintCommit_eq, get_modPar]
  exact get_showOffset_of_lt (s.thetaOf v) (vintPost_wf _ _ (markCurrent_wf gen (vintTaken_wf gen v hs))) hf

/-! ### SEAL -/

/-- The vintage a SEAL is checked against: OPEN and STATE frames that wait have joined what was received. -/
def State.sealed (s : State) (m : PairMsg) : State := (s.takeOthers 64).rxGenIs m.gen

theorem received_sealed {s s1 : State} {m : PairMsg} {ty : Nat} (htake : s.pairTake ty = (some m, s1)) : s.Received (s1.sealed m) := by
  have h := received_pairTake s ty
  rw [htake] at h
  exact (h.trans (received_takeOthers 64 s1)).trans (received_rxGenIs _ _)

theorem exec_vintageSealRx {s s1 : State} {m : PairMsg} (x : PairSeal) (v : VintState) (hstandby : s.isStandby = true)
    (htake : s.pairTake tySeal = (some m, s1)) : exec (.vintageSealRx x v) s = .next (s1.sealRx m x v) := by
  show execVintageSealRx x v s = _
  simp [execVintageSealRx, hstandby, htake]

/-- The checks of R406 on what was received. -/
def State.sealOk (r : State) (x : PairSeal) : Prop :=
  let frames := orderFrames r.par.rxFrames
  frames.length = x.frames ∧ frames.flatten.length = x.bytes ∧ crc32 frames.flatten = x.crc ∧ r.pairMacOk frames.flatten x.mac = true

theorem sealRx_of_ok {s : State} {m : PairMsg} {x : PairSeal} (v : VintState) (h : (s.sealed m).sealOk x) :
    s.sealRx m x v = (s.sealed m).vintCommit m.gen v := if_pos h

theorem sealRx_of_not_ok {s : State} {m : PairMsg} {x : PairSeal} (v : VintState) (h : ¬ (s.sealed m).sealOk x) :
    s.sealRx m x v = (s.sealed m).vintFail m.gen v.closing 1 2 := if_neg h

theorem not_sealOk {r : State} {x : PairSeal} (h : (orderFrames r.par.rxFrames).length ≠ x.frames ∨
    (orderFrames r.par.rxFrames).flatten.length ≠ x.bytes ∨ crc32 (orderFrames r.par.rxFrames).flatten ≠ x.crc ∨
    r.pairMacOk (orderFrames r.par.rxFrames).flatten x.mac = false) : ¬ r.sealOk x := by
  rintro ⟨hframes, hbytes, hcrc, hmac⟩
  simp [hframes, hbytes, hcrc, hmac] at h

/-- What a SEAL whose checks hold leaves (R409). -/
theorem vintCommit_leaves {r : State} (gen : Nat) (v : VintState) (hr : r.RegsOk) :
    let t := r.vintCommit gen v
    t.get F.PAR_GEN_COMMIT_GEN = gen % 2 ^ 32 ∧ t.copy = cpCurrent ∧ t.get F.PAR_STAT_MISSED = 0 ∧ t.flag F.PAR_STAT_APPLYING = true ∧
    t.get F.PAR_VINT_RES_RESULT = 1 ∧ t.par.insert = r.par.insert ++ r.par.stage.map (·.2) ∧ t.par.stage = [] ∧ t.par.rxFrames = [] := by
  intro t
  have hmarked := markCurrent_wf gen (vintTaken_wf gen v hr)
  have hget {f : Fld} (hf : f.addr < A.PAR_VINT_RES) : t.get f = ((r.vintTaken gen v).markCurrent gen).get f :=
    (get_vintCommit gen v hr (Nat.lt_trans hf (by decide))).trans (get_vintPost 1 v.closing hmarked (.inl hf))
  obtain ⟨hgen, hcopy, hmissed, happlying⟩ := get_markCurrent gen (vintTaken_wf gen v hr)
  refine ⟨(hget (by decide)).trans hgen, (hget (by decide)).trans hcopy, (hget (by decide)).trans hmissed, ?_, ?_, vintCommit_par r gen v⟩
  · rw [State.flag, hget (by decide)]
    exact happlying
  · exact (get_vintCommit gen v hr (by decide)).trans (result_vintPost _ hmarked (by decide))

/-- What a SEAL with a check that fails leaves of the state it came upon (R409). -/
theorem vintFail_leaves {s r : State} (gen : Nat) (v : VintState) (hrec : s.Received r) (hs : s.RegsOk) (hroom : s.Room Ev.PAR_VINTAGE_FAIL) :
    let t := r.vintFail gen v.closing 1 2
    t.get F.PAR_GEN_COMMIT_GEN = s.get F.PAR_GEN_COMMIT_GEN ∧ t.copy = s.copy ∧ t.par.insert = r.par.insert ∧ t.par.stage = [] ∧
    t.par.rxFrames = [] ∧ t.get F.PAR_DISCARDED_COUNT = (s.get F.PAR_DISCARDED_COUNT + 1) % Claims.wid F.PAR_DISCARDED_COUNT ∧
    t.get F.PAR_VINT_RES_RESULT = 2 ∧ Claims.Told s t Ev.PAR_VINTAGE_FAIL noInst (1 + 256 * (gen % 2 ^ 24)) := by
  intro t
  have ht : t = _ := vintFail_room gen v.closing 2 (show 1 < 256 by decide) (hrec.room hroom)
  have hget (f : Fld) : t.get f = (r.vintDiscarded v.closing 2).get f := by rw [ht, get_modEvt]
  have hstands {f : Fld} (hf : A.PAR_STAT ≤ f.addr) : r.get f = s.get f := hrec.regs.get_eq hs hf
  obtain ⟨hgen, hcopy, hcount, hresult⟩ := get_vintDiscarded v.closing (hrec.regs hs).1 (show 2 < 4 by decide)
  rw [State.copy, State.copy] at hcopy
  rw [← hget, hstands (by decide)] at hgen hcopy hcount
  rw [← hget] at hresult
  refine ⟨hgen, hcopy, by rw [ht]; rfl, by rw [ht]; rfl, by rw [ht]; rfl, hcount, hresult, ?_⟩
  rw [Claims.Told, ht, hrec.frame]
  exact List.mem_append_right _ List.mem_cons_self

theorem vintageSealRx_holds : Claims.vintageSealRx := by
  intro s s1 m x v hs hstandby htake r frames
  have hrec : s.Received r := received_sealed htake
  have hexec := exec_vintageSealRx x v hstandby htake
  constructor
  · intro hframes hbytes hcrc hmac
    rw [sealRx_of_ok v ⟨hframes, hbytes, hcrc, hmac⟩] at hexec
    exact ⟨_, hexec, vintCommit_leaves m.gen v (hrec.regs hs).1⟩
  · intro hbad hroom
    rw [sealRx_of_not_ok v (not_sealOk hbad)] at hexec
    exact ⟨_, hexec, vintFail_leaves m.gen v hrec hs hroom⟩

/-- Settles O48: the four claims, of a boundary, of STALE, of a SEAL and of the entry to STANDBY. -/
theorem standbyCopyGrowsStale : Obligations.StandbyCopyGrowsStale :=
  ⟨vintageMissed_holds, copyStale_holds, vintageSealRx_holds, standbyEntry_holds⟩

end Sys2Proof.Machine
end
